-- ==== Sys2Proof/Word.lean ====
section
/-! DEFINITION. The word types of the ZPS1024 model and their plainest arithmetic.
Bits are kept as bit vectors only where the manual treats a value as bits; counts, indices and instants are `Nat`,
signed measures are `Int`. -/

namespace Sys2Proof

/-- One byte of a slot, a data buffer, a frame or an on-die memory. -/
abbrev Byte := BitVec 8

/-- A 32-bit register or command word (00 R6, Signals, registers and fields). -/
abbrev Word := BitVec 32

/-- Sparse data by key, in one canonical form: keys strictly rising, no entry equal to the default. -/
abbrev Tab (α : Type) := List (Nat × α)

/-- One tick is 1/64 ns (R4): ticks in one nanosecond. -/
abbrev ticksPerNs : Nat := 64

/-- `n` microseconds in ticks (R4). -/
abbrev us (n : Nat) : Nat := n * 64000

/-- `n` milliseconds in ticks (R4). -/
abbrev ms (n : Nat) : Nat := n * 64000000

/-- `n` seconds in ticks (R4). -/
abbrev sec (n : Nat) : Nat := n * 64000000000

/-- One ENG_CK cycle, which is one coarse bin (R20, R92). -/
abbrev engCk : Nat := 80

/-- One FAB_CK cycle (R20). -/
abbrev fabCk : Nat := 160

/-- The refill tick and control cycle, 100 µs (R160, R290). -/
abbrev refillTicks : Nat := 6400000

/-- The grid mark, 250 µs (R32). -/
abbrev gridTicks : Nat := 16000000

end Sys2Proof
end

