-- ==== Sys2Proof/Syntax.lean ====
section
/-! DEFINITION. The commands of the ZPS1024 block: one constructor of `Instr` for each row of the opcode table,
with the operands that reach the device from outside it.
Every command carries `dt`, the ticks that pass between the command before it and itself (log entry 1): time is an
operand, so no row is a bare clock tick. -/

namespace Sys2Proof

/-- The two host ports, of equal rights (R12, R323). -/
inductive HostPort where
  | A | B
  deriving DecidableEq, Repr

/-- Who a command comes from (R31, R307): a host port of this device, or a forwarded pair (entry device, entry port),
which counts as a port of its own. -/
structure Entry where
  port : HostPort
  pair : Option (BitVec 16)
  deriving DecidableEq, Repr

/-- One command as a mailbox hands it over: the entry, the mailbox, the 64-byte slot of R334, and the data buffer the
device reads (`none`: the read met a completion timeout, R355). -/
structure Req where
  entry : Entry
  mb    : Fin 4
  slot  : BitVec 512
  din   : Option (List Byte)
  deriving DecidableEq, Repr

/-- An IPv4 address and UDP port (R338). -/
structure Endpoint where
  ip  : Word
  udp : BitVec 16
  deriving DecidableEq, Repr

/-- The two rings of a PCI Express port (R341). -/
inductive RingKind where
  | point | event
  deriving DecidableEq, Repr

/-- What ends a host session (R326). -/
inductive SessionEnd where
  | flr | hotReset | d3hot | linkDown
  deriving DecidableEq, Repr

/-- A Sync message as it arrives (R329): master, sequence number, two-step flag, and the origin time in ns that a
one-step Sync carries. -/
structure PtpSync where
  master  : BitVec 80
  seq     : BitVec 16
  twoStep : Bool
  origin  : Nat
  deriving DecidableEq, Repr

/-- The fields of an Announce message that best master selection compares (R329). -/
structure PtpAnnounce where
  sender       : BitVec 80
  domain       : Byte
  priority1    : Byte
  clockClass   : Byte
  accuracy     : Byte
  variance     : BitVec 16
  priority2    : Byte
  identity     : BitVec 64
  stepsRemoved : BitVec 16
  logInterval  : Int
  deriving DecidableEq, Repr

/-- What one channel's front end shows at the decision instant (R57, R65, R69): by slot, whether RD_HI and RD_LO fired at least once
in the slot's listening window, AMB, the ticks from the check pulse to its L-path rise, and whether the H path rose. -/
structure ChanObs where
  ch  : Fin 1024
  hi  : BitVec 32
  lo  : BitVec 32
  amb : Byte
  chkL : Option Nat
  chkH : Bool
  deriving DecidableEq, Repr

/-- The two timing paths of a channel TDC (R81). -/
inductive TdcPath where
  | L | H
  deriving DecidableEq, Repr

/-- The two edges a path times (R81). -/
inductive TdcEdge where
  | rise | fall
  deriving DecidableEq, Repr

/-- What the error code of a memory shows when a load reads a word (R109, R212). -/
inductive EccHit where
  | clean | corrected | bad
  deriving DecidableEq, Repr

/-- What the error code shows at the words that a qualified event adds to (R92, R98, R101, R109). -/
structure AddEcc where
  /-- The word of the matched plane, or of the fine window. -/
  hist : EccHit := .clean
  /-- The sub-band sum of the fine window. -/
  sum  : EccHit := .clean
  /-- Bits 63:0 of the window descriptor. -/
  low  : EccHit := .clean
  /-- Bits 127:64 of the window descriptor. -/
  high : EccHit := .clean
  /-- The word of the channel record that holds QUAL_COARSE. -/
  qual : EccHit := .clean
  deriving DecidableEq, Repr

/-- What the error code shows at the words that a rising edge can reach (R109). -/
structure RiseEcc where
  /-- The word of the raw plane that the edge adds to. -/
  raw : EccHit
  /-- The word of the channel record that counts it: EVENTS, or LOST. -/
  count : EccHit
  /-- The words that its event adds to where it qualifies. -/
  add : AddEcc
  deriving DecidableEq, Repr

/-- What a scrub of the schedule store meets (R242, R487). -/
structure StoreScrub where
  /-- The parts with an uncorrectable word. -/
  bad   : List Nat
  /-- Errors that the code corrected. -/
  fixed : Nat
  deriving DecidableEq, Repr

/-- The five slots of a bundle (R214). -/
inductive SlotKind where
  | L | A | M | X | C
  deriving DecidableEq, Repr

/-- The operand fields of an L slot (R216). -/
structure LSlot where
  pred : BitVec 3
  pneg : Bool
  ag   : BitVec 2
  xreg : BitVec 5
  post : Bool
  offs : BitVec 14
  deriving DecidableEq, Repr

/-- The operand fields of an A slot (R217). -/
structure ASlot where
  pred : BitVec 3
  pneg : Bool
  dst  : BitVec 5
  sa   : BitVec 5
  immf : Bool
  sb   : BitVec 5
  sh   : BitVec 4
  deriving DecidableEq, Repr

/-- The operand fields of an M slot (R218). -/
structure MSlot where
  pred : BitVec 3
  pneg : Bool
  q    : BitVec 3
  s    : BitVec 5
  acc  : BitVec 2
  dst  : BitVec 5
  sh   : BitVec 6
  deriving DecidableEq, Repr

/-- The operand fields of an X slot (R219). -/
structure XSlot where
  ag  : BitVec 2
  src : BitVec 5
  imm : BitVec 11
  deriving DecidableEq, Repr

/-- One SSI frame as it is clocked in (R185): the level before the first clock, the level 500 ns after the last, and
the bits received, first bit most significant. -/
structure SsiFrame where
  highBefore : Bool
  lowAfter   : Bool
  bits       : BitVec 29
  deriving DecidableEq, Repr

/-- The two axes of the scanner (R194). -/
inductive Axis where
  | A | B
  deriving DecidableEq, Repr

/-- What a loop engine meets (R174, R193): it misses the end of its period or meets an uncorrectable error in its memory; or the error is
in a cell of the repetitive memory of an axis. -/
inductive LoopUpset where
  | engine (le : Fin 16)
  | cell (ax : Axis) (i : Fin 2048)
  deriving DecidableEq, Repr

/-- Logical data lanes that lose block lock in one block period; `preamble`: lanes that slept and have not regained it by the end of the
wake preamble (R271, R273, R276). -/
structure LockLoss where
  /-- The lanes, one bit each. -/
  lanes    : BitVec 3
  /-- They slept. -/
  preamble : Bool
  deriving DecidableEq, Repr

/-- What the start-up self-test found, item by item (R394); the configuration CRC is the model's own computation. -/
structure SelfTest where
  comparator : Bool
  secded     : Bool
  oscillator : Bool
  gateLow    : Bool
  safeFbOff  : Bool
  faultN     : Bool
  deriving DecidableEq, Repr

/-- A PMBus bus error (R435). -/
inductive PmbErr where
  | noAck | pec | heldLow
  deriving DecidableEq, Repr

/-- One regulator's answer on PMBus (R435): its address 0x40 + n, the bus error met, STATUS_WORD, VOUT_MODE, and the raw words of
READ_VIN, READ_VOUT, READ_IOUT and READ_TEMPERATURE_1. -/
structure PmbReading where
  addr   : Fin 12
  err    : Option PmbErr
  status : BitVec 16
  mode   : Byte
  vin    : BitVec 16
  vout   : BitVec 16
  iout   : BitVec 16
  temp   : BitVec 16
  deriving DecidableEq, Repr

/-- The strap balls sampled at PORST_N release (R502). -/
structure Straps where
  chainRoot : Bool
  bootSrc   : BitVec 2
  hostA     : BitVec 2
  hostB     : BitVec 2
  deriving DecidableEq, Repr

/-- A rising edge of TCK while PORST_N is low, and the levels of TMS, TDI and TRST_N there (R504, R505). -/
structure TapClock where
  tms  : Bool
  tdi  : Bool
  trst : Bool
  deriving DecidableEq, Repr

/-- What PORST_N shows when it is released: the straps, and the clocks that the test access port took while it was low (R502, R505). -/
structure PorstLow where
  straps : Straps
  jtag   : List TapClock
  deriving DecidableEq, Repr

/-- A data-class packet (R311 to R314): destination, source, packet type and data bytes, with its STOMP mark. -/
structure Packet where
  dest  : BitVec 16
  src   : BitVec 16
  ptype : Byte
  data  : List Byte
  stomp : Bool
  deriving DecidableEq, Repr

/-- The commands, one for each row of the opcode table, in the table's order. -/
inductive Instr where
  /-- DEV_IDENTIFY (R361): Command returns the identity record: DEVICE_UID, BOOT_ID, stepping, interface level, grade, slot, version and address. -/
  | devIdentify (dt : Nat) (r : Req)
  /-- DEV_STATUS (R359): Command returns the STATE word, degraded and SERVICE time left, Tj, active fault count and replace reason. -/
  | devStatus (dt : Nat) (r : Req)
  /-- DEV_RESET (R359): Command writes its response and then resets the device within 10 ms with reset cause command. -/
  | devReset (dt : Nat) (r : Req)
  /-- MODE_START (R50): Command accepts a mode start in STANDBY, enters RUN and begins warm-up toward the change boundary B. -/
  | modeStart (dt : Nat) (r : Req)
  /-- MODE_STOP (R362): Command starts the orderly stop, making the column in progress the last measured column. -/
  | modeStop (dt : Nat) (r : Req)
  /-- MODE_SET (R46): Command accepts a mode change in RUN and begins warm-up, drain and prime toward the new mode. -/
  | modeSet (dt : Nat) (r : Req)
  /-- MODE_STATUS (R359): Command returns the mode, change and stop flags, variants, B, D and the last measured frame and column. -/
  | modeStatus (dt : Nat) (r : Req)
  /-- SERVICE_ENTER (R359): Command moves the device from STANDBY to SERVICE and starts the session count. -/
  | serviceEnter (dt : Nat) (r : Req)
  /-- SERVICE_EXIT (R359): Command moves the device from SERVICE to SAFE HOLD. -/
  | serviceExit (dt : Nat) (r : Req)
  /-- SERVICE_PROOF (R360): Command queues one proof shot of a string for the next free slot of the service grid. -/
  | serviceProof (dt : Nat) (r : Req)
  /-- FE_CONFIG (R74): Command writes the front-end configuration word of the named sectors. -/
  | feConfig (dt : Nat) (r : Req)
  /-- FE_TRIM (R76): Command writes per-channel trim words, with the mask rules for retired channels. -/
  | feTrim (dt : Nat) (r : Req)
  /-- FE_STATUS (R78): Command returns the per-channel front-end status words. -/
  | feStatus (dt : Nat) (r : Req)
  /-- POINT_CONFIG (R118): Command writes the point configuration word (air index, emitted classes). -/
  | pointConfig (dt : Nat) (r : Req)
  /-- POINT_STATUS (R363): Command returns the point configuration word and the range factor K in force. -/
  | pointStatus (dt : Nat) (r : Req)
  /-- CAL_LOAD (R116): Command checks a sensor calibration block and writes it to flash. -/
  | calLoad (dt : Nat) (r : Req)
  /-- CAL_STATUS (R363): Command returns whether a calibration block is valid and its CRC. -/
  | calStatus (dt : Nat) (r : Req)
  /-- EMIT_CONFIG (R170): Command writes the emission word and the 64 string words. -/
  | emitConfig (dt : Nat) (r : Req)
  /-- EMIT_STATUS (R365): Command returns the emission word and per-string reservoir, flag, count and diagnosis records. -/
  | emitStatus (dt : Nat) (r : Req)
  /-- LEDGER_SET (R163): Command loads the ledger shares, zeroes every bucket level and writes the shares to flash. -/
  | ledgerSet (dt : Nat) (r : Req)
  /-- LEDGER_STATUS (R363): Command returns the ledger shares and all bucket levels. -/
  | ledgerStatus (dt : Nat) (r : Req)
  /-- LOOP_CLOSE (R194): Command closes an axis loop, entering CLOSING with alignment and spin-up for axis A. -/
  | loopClose (dt : Nat) (r : Req)
  /-- LOOP_OPEN (R194): Command opens an axis loop with a controlled brake. -/
  | loopOpen (dt : Nat) (r : Req)
  /-- LOOP_COEF (R199): Command writes an axis coefficient block and repetitive block while the loop is open. -/
  | loopCoef (dt : Nat) (r : Req)
  /-- LOOP_SET (R180): Command sets the axis A speed target without a schedule set, or axis B B_HOLD. -/
  | loopSet (dt : Nat) (r : Req)
  /-- LOOP_REP_CLEAR (R193): Command clears the repetitive memory of an open axis. -/
  | loopRepClear (dt : Nat) (r : Req)
  /-- LOOP_STATUS (R366): Command returns the loop state, lock flags, speed or angle, error and counters of an axis. -/
  | loopStatus (dt : Nat) (r : Req)
  /-- SCHED_LOAD (R240): Command clears the schedule store and starts writing, authenticating and validating a schedule set. -/
  | schedLoad (dt : Nat) (r : Req)
  /-- SCHED_STATUS (R240): Command returns the set in force, loaded modes, FACET_MISMATCH and per-sector slot figures. -/
  | schedStatus (dt : Nat) (r : Req)
  /-- SAFE_CONFIG (R397): Command checks the safety configuration and degraded period and writes them to flash for the next SAFE HOLD exit. -/
  | safeConfig (dt : Nat) (r : Req)
  /-- SAFE_STATUS (R400): Command returns the 64-byte safety status. -/
  | safeStatus (dt : Nat) (r : Req)
  /-- HK_CONFIG (R417): Command writes the housekeeping global word and channel records. -/
  | hkConfig (dt : Nat) (r : Req)
  /-- HK_SWITCH (R419): Command writes the 16 threshold switch records. -/
  | hkSwitch (dt : Nat) (r : Req)
  /-- HK_THERM (R427): Command writes the thermal limits and extra-channel records. -/
  | hkTherm (dt : Nat) (r : Req)
  /-- HK_URGENT (R406): Command claims the urgent slot of the round in progress for a channel, or is dropped. -/
  | hkUrgent (dt : Nat) (r : Req)
  /-- HK_READ (R414): Command returns housekeeping results with gain, OPEN and SETTLING flags. -/
  | hkRead (dt : Nat) (r : Req)
  /-- PWR_SET (R367): Command powers and removes named domains in Requires order, all or nothing. -/
  | pwrSet (dt : Nat) (r : Req)
  /-- PWR_STATUS (R367): Command returns the powered mask and the mask held off by retirement. -/
  | pwrStatus (dt : Nat) (r : Req)
  /-- RIDGE_LANE_CFG (R282): Command writes a port configuration word, with APPLY forcing a data-lane retrain. -/
  | ridgeLaneCfg (dt : Nat) (r : Req)
  /-- RIDGE_LANE_TEST (R280): Command writes a port test word selecting loopbacks and PRBS in SERVICE. -/
  | ridgeLaneTest (dt : Nat) (r : Req)
  /-- RIDGE_LANE_STATUS (R284): Command returns the port status word, lane words and per-lane counts. -/
  | ridgeLaneStatus (dt : Nat) (r : Req)
  /-- CHAIN_CONFIG (R318): Command writes the chain, event and port words, taking affected ports down and up. -/
  | chainConfig (dt : Nat) (r : Req)
  /-- CHAIN_DISCOVER (R303): Command at the root starts discovery with a new generation. -/
  | chainDiscover (dt : Nat) (r : Req)
  /-- CHAIN_TIME_SET (R319): Command at the root sets chain time to VALUE at the next control-cycle start. -/
  | chainTimeSet (dt : Nat) (r : Req)
  /-- CHAIN_STATUS (R319): Command returns address, generation, hops, ranges, alignment and discard counts. -/
  | chainStatus (dt : Nat) (r : Req)
  /-- HOST_NET_CONFIG (R328): Command writes the network settings of the entry Ethernet port, effective 1 ms later. -/
  | hostNetConfig (dt : Nat) (r : Req)
  /-- HOST_STATUS (R368): Command returns a host port's mode, link, counts and ring losses. -/
  | hostStatus (dt : Nat) (r : Req)
  /-- SEM_CLAIM (R344): Command claims a semaphore for the entry port or pair if free and returns its SEM word. -/
  | semClaim (dt : Nat) (r : Req)
  /-- SEM_RELEASE (R344): Command frees a semaphore held by the entry port. -/
  | semRelease (dt : Nat) (r : Req)
  /-- SEM_LEASE (R344): Command sets the lease length of a held semaphore. -/
  | semLease (dt : Nat) (r : Req)
  /-- SEM_STATUS (R368): Command returns the 32 SEM words as SEM_PEEK reads them. -/
  | semStatus (dt : Nat) (r : Req)
  /-- KEY_ROTATE (R347): Command unwraps a new key into the lowest BLANK slot, activates it and revokes the old one. -/
  | keyRotate (dt : Nat) (r : Req)
  /-- KEY_PROVISION (R371): Command writes the first key into slot 0 of a port with all slots BLANK. -/
  | keyProvision (dt : Nat) (r : Req)
  /-- KEY_SCHED_DIGEST (R371): Command writes or revokes a schedule-key digest slot in OTP. -/
  | keySchedDigest (dt : Nat) (r : Req)
  /-- KEY_STATUS (R370): Command returns key and digest slot states and last accepted counters. -/
  | keyStatus (dt : Nat) (r : Req)
  /-- FW_WRITE (R370): Command writes firmware image data into a non-running flash slot. -/
  | fwWrite (dt : Nat) (r : Req)
  /-- FW_COMMIT (R453): Command verifies a slot's image and writes the boot control record to boot it next. -/
  | fwCommit (dt : Nat) (r : Req)
  /-- FW_STATUS (R370): Command returns running and next slots, fallback, validity and versions. -/
  | fwStatus (dt : Nat) (r : Req)
  /-- MON_WRITE (R372): Command writes a monitor register if the port holds semaphore 4. -/
  | monWrite (dt : Nat) (r : Req)
  /-- MON_READ (R370): Command returns a monitor register value. -/
  | monRead (dt : Nat) (r : Req)
  /-- FAULT_LOG (R482): Command returns fault log entries. -/
  | faultLog (dt : Nat) (r : Req)
  /-- FAULT_UNITS (R489): Command returns the retirement map and replace reasons. -/
  | faultUnits (dt : Nat) (r : Req)
  /-- HEALTH_CONFIG (R492): Command replaces a health monitor's configuration and clears its statistics. -/
  | healthConfig (dt : Nat) (r : Req)
  /-- HEALTH_READ (R495): Command returns health monitor statistics. -/
  | healthRead (dt : Nat) (r : Req)
  /-- HIST_DUMP (R370): Command arms copying of a channel region for 1 to 4 columns. -/
  | histDump (dt : Nat) (r : Req)
  /-- HIST_DUMP_COMPLETE (R370): After the last dumped column's set is handed over, the dump data and response are written. -/
  | histDumpComplete (dt : Nat) (p : HostPort) (m : Fin 4)
  /-- DOORBELL (R336): A write to DOORBELL makes the device read CMD_TAIL and hand over command slots, or set TAIL_ERR. -/
  | doorbell (dt : Nat) (p : HostPort) (m : Fin 4)
  /-- MAILBOX_TAKE (R339): When a response slot is free the device takes a handed-over command, checks it in order and evaluates or forwards it. -/
  | mailboxTake (dt : Nat) (p : HostPort) (m : Fin 4) (din : Option (List Byte))
  /-- ETH_COMMAND_DATAGRAM (R338): A command datagram arrives on an Ethernet mailbox port and is queued, answered BUSY, or answered from the keep. -/
  | ethCommandDatagram (dt : Nat) (p : HostPort) (src : Endpoint) (bytes : List Byte)
  /-- COMMAND_TIMEOUT (R337): A taken command's timeout expires and TIMEOUT is returned. -/
  | commandTimeout (dt : Nat) (p : HostPort) (m : Fin 4)
  /-- SEM_READ_CLAIM (R344): A read of SEM[n] over PCI Express claims the semaphore if free and returns the owner. -/
  | semReadClaim (dt : Nat) (p : HostPort) (n : Fin 32)
  /-- SEM_WRITE_RELEASE (R344): A write with RELEASE from the owner frees the semaphore. -/
  | semWriteRelease (dt : Nat) (p : HostPort) (n : Fin 32) (w : Word)
  /-- SEM_LEASE_EXPIRY (R345): A semaphore lease runs out and the semaphore is freed. -/
  | semLeaseExpiry (dt : Nat) (n : Fin 32)
  /-- LOCKOUT_END (R350): The 1 s critical-command lockout of a port ends. -/
  | lockoutEnd (dt : Nat) (who : Entry)
  /-- CT_LATCH (R331): A write to CT_LATCH latches chain time. -/
  | ctLatch (dt : Nat) (p : HostPort)
  /-- RING_ENABLE (R341): Setting ENABLE of a ring block zeroes PROD and CONS and opens delivery from the next column or held events. -/
  | ringEnable (dt : Nat) (p : HostPort) (k : RingKind) (w : Word)
  /-- RING_DISABLE (R341): Clearing ENABLE stops the ring after the column in delivery. -/
  | ringDisable (dt : Nat) (p : HostPort) (k : RingKind) (w : Word)
  /-- MON_COMMIT (R462): Writing COMMIT requests that the monitor shadows be taken at the next vertical blanking. -/
  | monCommit (dt : Nat) (p : HostPort) (w : Word)
  /-- BOOT_GO (R455): A write to BOOT_GO starts DMA of a host firmware image for authentication and start. -/
  | bootGo (dt : Nat) (p : HostPort) (image : Option (List Byte))
  /-- BOOT_DATAGRAM (R455): A KIND 4 boot datagram delivers image bytes at the expected offset and is answered. -/
  | bootDatagram (dt : Nat) (p : HostPort) (src : Endpoint) (bytes : List Byte)
  /-- REGISTER_WRITE (R6): A write to a register with no behaviour of its own stores, ignores or clears per its access code. -/
  | registerWrite (dt : Nat) (p : HostPort) (off : BitVec 16) (w : Word)
  /-- HOST_SESSION_END (R326): FLR, hot reset, D3hot entry or link down ends the port's host session and releases its semaphores. -/
  | hostSessionEnd (dt : Nat) (p : HostPort) (why : SessionEnd)
  /-- HOST_PERST (R448): Assertion of a host PERST_N is a conventional reset of that port. -/
  | hostPerst (dt : Nat) (p : HostPort)
  /-- HOST_LINK_DOWN (R480): A host link goes down and fault 0x7001 is raised. -/
  | hostLinkDown (dt : Nat) (p : HostPort)
  /-- HOST_AER_FATAL (R480): A host port reports an uncorrectable error through AER. -/
  | hostAerFatal (dt : Nat) (p : HostPort)
  /-- HOST_DMA_TIMEOUT (R480): A device read completion times out after 50 ms. -/
  | hostDmaTimeout (dt : Nat) (p : HostPort)
  /-- ARP_REQUEST (R327): An ARP request for the port's address is answered. -/
  | arpRequest (dt : Nat) (p : HostPort) (senderIp : Word) (senderMac : BitVec 48) (targetIp : Word)
  /-- ARP_CACHE_EXPIRY (R327): An ARP cache entry expires after 60 s. -/
  | arpCacheExpiry (dt : Nat) (p : HostPort) (ip : Word)
  /-- ICMP_ECHO (R327): An ICMP echo request is answered with an echo reply. -/
  | icmpEcho (dt : Nat) (p : HostPort) (srcIp : Word) (dstIp : Word) (idSeq : Word) (data : List Byte)
  /-- FRAME_DISCARD (R327): An unsupported frame or datagram is discarded and counted. -/
  | frameDiscard (dt : Nat) (p : HostPort)
  /-- PTP_SYNC (R329): A Sync message is timestamped in chain time at the PCS. -/
  | ptpSync (dt : Nat) (p : HostPort) (m : PtpSync)
  /-- PTP_FOLLOW_UP (R330): A Follow_Up updates the time map and rate offset. -/
  | ptpFollowUp (dt : Nat) (p : HostPort) (master : BitVec 80) (seq : BitVec 16) (t1 : Nat)
  /-- PTP_ANNOUNCE (R329): An Announce message feeds best master selection. -/
  | ptpAnnounce (dt : Nat) (p : HostPort) (m : PtpAnnounce)
  /-- PTP_DELAY_REQ (R329): A Delay_Req is sent at the master's interval. -/
  | ptpDelayReq (dt : Nat) (p : HostPort)
  /-- PTP_DELAY_RESP (R329): A Delay_Resp updates the mean path delay. -/
  | ptpDelayResp (dt : Nat) (p : HostPort) (master : BitVec 80) (seq : BitVec 16) (t4 : Nat) (logMinInterval : Int)
  /-- TIME_MAP_TIMEOUT (R330): No Sync for 3 announce intervals makes the time map invalid. -/
  | timeMapTimeout (dt : Nat) (p : HostPort)
  /-- TIME_MAP_REPORT (R330): Once per second a valid time map raises EV_TIME_MAP. -/
  | timeMapReport (dt : Nat) (p : HostPort)
  /-- EVENT_DATAGRAM (R343): Queued event records are sent in an Ethernet datagram within 1 ms of the first. -/
  | eventDatagram (dt : Nat) (p : HostPort)
  /-- POINT_INTERRUPT (R341): The point ring's moderation count or INT_US timer signals its vector. -/
  | pointInterrupt (dt : Nat) (p : HostPort)
  /-- COLUMN_DELIVERY (R342): A column's header and records are delivered to each enabled port, dropping records or the column for lack of room. -/
  | columnDelivery (dt : Nat)
  /-- COLUMN_BOUNDARY (R103): At a column boundary buffer sets change owner, epochs advance and new gain, thresholds and signature take force. -/
  | columnBoundary (dt : Nat) (gateTestOk : Bool) (badOwner : List (Fin 64))
  /-- SERVICE_RECORD_APPEND (R488): A pending replace reason is appended to the flash service record once writing is allowed. -/
  | serviceRecordAppend (dt : Nat)
  /-- WRITE_PIPELINE_CHECK (R104): One cycle before the boundary the tile write pipeline and comparator outputs are checked. -/
  | writePipelineCheck (dt : Nat) (notEmpty : List (Fin 64)) (active : List (Fin 1024))
  /-- DECISION_INSTANT (R68): At the close of the last listening window range-detector counts and AMB latch and the quiet-interval actions run. -/
  | decisionInstant (dt : Nat) (obs : List ChanObs)
  /-- SHOT_FRAME (R154): 600 ns before a slot the SHOT frame is sent on every Cornice line. -/
  | shotFrame (dt : Nat)
  /-- LEDGER_DECISION (R161): 40 ns before a slot permission is sampled and each string of the fire mask is paid or suppressed. -/
  | ledgerDecision (dt : Nat)
  /-- SHOT_INSTANT (R141): At the dithered instant the two gate pulses of each debited string are driven. -/
  | shotInstant (dt : Nat)
  /-- ESNS_CHECK (R140): After the second pulse the ESNS response of each string is checked; a dark string becomes SUSPECT. -/
  | esnsCheck (dt : Nat) (sensed : BitVec 64)
  /-- UNCOMMANDED_CURRENT (R140): ESNS high outside every gate interval raises emission fault 0x4001. -/
  | uncommandedCurrent (dt : Nat) (str : Fin 64)
  /-- GATE_READBACK (R140): EMG readback differing for 2 cycles raises emission fault 0x4002. -/
  | gateReadback (dt : Nat) (str : Fin 64)
  /-- HOLD_FRAME (R150): A HOLD frame is sent on a line silent for 20 µs. -/
  | holdFrame (dt : Nat) (line : Fin 8)
  /-- CORNICE_READ (R148): The sequencer sends a READ frame in free line time. -/
  | corniceRead (dt : Nat) (str : Fin 64) (reg : Byte)
  /-- CORNICE_WRITE (R148): The sequencer sends a WRITE frame in free line time. -/
  | corniceWrite (dt : Nat) (str : Fin 64) (reg : Byte) (data : Word)
  /-- CORNICE_REPLY (R148): A head reply arrives and is acted on, including DIAG diagnosis and DRAINED. -/
  | corniceReply (dt : Nat) (line : Fin 8) (reply : BitVec 48)
  /-- CORNICE_NO_REPLY (R148): A reply window closes without a valid reply and 0x400A is charged. -/
  | corniceNoReply (dt : Nat) (line : Fin 8)
  /-- CORNICE_LINE_FAULT (R144): A line fault symbol at the device charges 0x400C to every string of the line. -/
  | corniceLineFault (dt : Nat) (line : Fin 8)
  /-- SERVICE_PROOF_SHOT (R360): At the next service grid slot the queued proof shot is framed, paid and fired. -/
  | serviceProofShot (dt : Nat)
  /-- REFILL_TICK (R160): Every 100 µs of chain time every bucket refills and the ledger audit runs. -/
  | refillTick (dt : Nat) (observed : List (Fin 64 × Nat)) (eccBad : Bool)
  /-- DIAGNOSIS_AGE_EXPIRED (R166): An emitter's diagnosis age passes 1 s and it runs on half share. -/
  | diagnosisAgeExpired (dt : Nat) (em : Fin 1024)
  /-- RESERVOIR_COMPARATOR (R156): An RSV_SNS comparator event drives CHG high or low or detects overvoltage. -/
  | reservoirComparator (dt : Nat) (str : Fin 64) (volts : Nat)
  /-- CHARGE_TIMEOUT (R159): CHG high longer than CHG_TMAX raises 0x4009 and holds CHG low. -/
  | chargeTimeout (dt : Nat) (str : Fin 64)
  /-- COMPARATOR_CROSSING (R83): A comparator crossing is timestamped, paired and accumulated into the histograms. -/
  | comparatorCrossing (dt : Nat) (ch : Fin 1024) (path : TdcPath) (edge : TdcEdge) (stage : Fin 40) (ecc : RiseEcc)
  /-- PRE_DETECTOR (R94): After the last coarse window closes the pre-detector chooses the candidate windows. -/
  | preDetector (dt : Nat)
  /-- CAL_TABLE_COMPUTE (R85): After 65,536 hits an interpolator computes a new correction table. -/
  | calTableCompute (dt : Nat) (ch : Fin 1024) (path : TdcPath)
  /-- TILE_DLL_UNLOCK (R89): A tile DLL loses lock, raising 0x2004 and discarding the tile's channels. -/
  | tileDllUnlock (dt : Nat) (tile : Fin 64)
  /-- ENGINE_RUN_START (R205): In the arrival cycle all scheduled engines reset their state and issue bundle 0. -/
  | engineRunStart (dt : Nat)
  /-- NOP (R215): An all-zero slot does nothing for the cycle. -/
  | engNop (dt : Nat) (e : Fin 256) (slot : SlotKind) (ecc : EccHit)
  /-- LDB (R222): Load a zero-extended byte. -/
  | engLdb (dt : Nat) (e : Fin 256) (op : LSlot) (ecc : EccHit)
  /-- LDH (R222): Load a zero-extended 16-bit value. -/
  | engLdh (dt : Nat) (e : Fin 256) (op : LSlot) (ecc : EccHit)
  /-- LDW (R222): Load a 32-bit word. -/
  | engLdw (dt : Nat) (e : Fin 256) (op : LSlot) (ecc : EccHit)
  /-- LDD (R222): Load a 64-bit word into a register pair. -/
  | engLdd (dt : Nat) (e : Fin 256) (op : LSlot) (ecc : EccHit)
  /-- LDB4 (R222): Load four bytes into four registers. -/
  | engLdb4 (dt : Nat) (e : Fin 256) (op : LSlot) (ecc : EccHit)
  /-- STB (R222): Store a byte. -/
  | engStb (dt : Nat) (e : Fin 256) (op : LSlot)
  /-- STH (R222): Store 16 bits. -/
  | engSth (dt : Nat) (e : Fin 256) (op : LSlot)
  /-- STW (R222): Store 32 bits. -/
  | engStw (dt : Nat) (e : Fin 256) (op : LSlot)
  /-- STD (R222): Store 64 bits, or write one word to the output port. -/
  | engStd (dt : Nat) (e : Fin 256) (op : LSlot)
  /-- ADD (R223): Wrapping addition. -/
  | engAdd (dt : Nat) (e : Fin 256) (op : ASlot)
  /-- ADDS (R223): Saturating addition. -/
  | engAdds (dt : Nat) (e : Fin 256) (op : ASlot)
  /-- SUB (R223): Wrapping subtraction. -/
  | engSub (dt : Nat) (e : Fin 256) (op : ASlot)
  /-- SUBS (R223): Saturating subtraction. -/
  | engSubs (dt : Nat) (e : Fin 256) (op : ASlot)
  /-- AND (R223): Bitwise and. -/
  | engAnd (dt : Nat) (e : Fin 256) (op : ASlot)
  /-- OR (R223): Bitwise or. -/
  | engOr (dt : Nat) (e : Fin 256) (op : ASlot)
  /-- XOR (R223): Bitwise exclusive or. -/
  | engXor (dt : Nat) (e : Fin 256) (op : ASlot)
  /-- SHL (R223): Shift left. -/
  | engShl (dt : Nat) (e : Fin 256) (op : ASlot)
  /-- SHR (R223): Logical shift right. -/
  | engShr (dt : Nat) (e : Fin 256) (op : ASlot)
  /-- ASR (R223): Arithmetic shift right. -/
  | engAsr (dt : Nat) (e : Fin 256) (op : ASlot)
  /-- ASRR (R227): Arithmetic shift right with convergent rounding. -/
  | engAsrr (dt : Nat) (e : Fin 256) (op : ASlot)
  /-- MIN (R223): Signed minimum. -/
  | engMin (dt : Nat) (e : Fin 256) (op : ASlot)
  /-- MAX (R223): Signed maximum. -/
  | engMax (dt : Nat) (e : Fin 256) (op : ASlot)
  /-- ABS (R223): Saturating absolute value. -/
  | engAbs (dt : Nat) (e : Fin 256) (op : ASlot)
  /-- MOV (R223): Register move. -/
  | engMov (dt : Nat) (e : Fin 256) (op : ASlot)
  /-- MOVI (R223): Load a signed 14-bit immediate. -/
  | engMovi (dt : Nat) (e : Fin 256) (op : ASlot)
  /-- SATH (R223): Saturate to 18 bits. -/
  | engSath (dt : Nat) (e : Fin 256) (op : ASlot)
  /-- SEL (R223): Select a source by predicate. -/
  | engSel (dt : Nat) (e : Fin 256) (op : ASlot)
  /-- NORM (R229): Count redundant sign bits. -/
  | engNorm (dt : Nat) (e : Fin 256) (op : ASlot)
  /-- BEXP (R223): Update the block exponent. -/
  | engBexp (dt : Nat) (e : Fin 256) (op : ASlot)
  /-- BXCLR (R223): Reset the block exponent to 31. -/
  | engBxclr (dt : Nat) (e : Fin 256) (op : ASlot)
  /-- CMPEQ (R223): Compare equal into a predicate. -/
  | engCmpeq (dt : Nat) (e : Fin 256) (op : ASlot)
  /-- CMPLT (R223): Compare signed less-than into a predicate. -/
  | engCmplt (dt : Nat) (e : Fin 256) (op : ASlot)
  /-- CMPLE (R223): Compare signed less-or-equal into a predicate. -/
  | engCmple (dt : Nat) (e : Fin 256) (op : ASlot)
  /-- CMPLTU (R223): Compare unsigned less-than into a predicate. -/
  | engCmpltu (dt : Nat) (e : Fin 256) (op : ASlot)
  /-- PAND (R223): Predicate and. -/
  | engPand (dt : Nat) (e : Fin 256) (op : ASlot)
  /-- POR (R223): Predicate or. -/
  | engPor (dt : Nat) (e : Fin 256) (op : ASlot)
  /-- PNOT (R223): Predicate not. -/
  | engPnot (dt : Nat) (e : Fin 256) (op : ASlot)
  /-- DIV (R223): Truncating scaled division on the iterative unit. -/
  | engDiv (dt : Nat) (e : Fin 256) (op : ASlot)
  /-- DIVR (R223): Rounded scaled division on the iterative unit. -/
  | engDivr (dt : Nat) (e : Fin 256) (op : ASlot)
  /-- SQRT (R223): Scaled integer square root on the iterative unit. -/
  | engSqrt (dt : Nat) (e : Fin 256) (op : ASlot)
  /-- MFS (R223): Read ENG_STAT or BX. -/
  | engMfs (dt : Nat) (e : Fin 256) (op : ASlot)
  /-- MTS (R223): Clear ENG_STAT W1C fields. -/
  | engMts (dt : Nat) (e : Fin 256) (op : ASlot)
  /-- QMAC (R224): Four-lane multiply-accumulate. -/
  | engQmac (dt : Nat) (e : Fin 256) (op : MSlot)
  /-- QMSU (R224): Four-lane multiply-subtract. -/
  | engQmsu (dt : Nat) (e : Fin 256) (op : MSlot)
  /-- QMUL (R224): Four-lane multiply into the accumulators. -/
  | engQmul (dt : Nat) (e : Fin 256) (op : MSlot)
  /-- ACCRD (R224): Read an accumulator with rounded shift. -/
  | engAccrd (dt : Nat) (e : Fin 256) (op : MSlot)
  /-- ACCCLR (R224): Clear all accumulators. -/
  | engAccclr (dt : Nat) (e : Fin 256) (op : MSlot)
  /-- SMUL (R224): Single multiply into a register. -/
  | engSmul (dt : Nat) (e : Fin 256) (op : MSlot)
  /-- ACCSUM (R224): Sum the four accumulators into A0. -/
  | engAccsum (dt : Nat) (e : Fin 256) (op : MSlot)
  /-- ACCNORM (R224): Redundant sign bits of the accumulators. -/
  | engAccnorm (dt : Nat) (e : Fin 256) (op : MSlot)
  /-- SETB (R225): Set an address generator base. -/
  | engSetb (dt : Nat) (e : Fin 256) (op : XSlot)
  /-- SETI (R225): Set an address generator index. -/
  | engSeti (dt : Nat) (e : Fin 256) (op : XSlot)
  /-- SETM (R225): Set an address generator modifier. -/
  | engSetm (dt : Nat) (e : Fin 256) (op : XSlot)
  /-- SETL (R225): Set an address generator length. -/
  | engSetl (dt : Nat) (e : Fin 256) (op : XSlot)
  /-- SETD (R225): Set an address generator mode. -/
  | engSetd (dt : Nat) (e : Fin 256) (op : XSlot)
  /-- ADDI (R225): Add to an address generator index. -/
  | engAddi (dt : Nat) (e : Fin 256) (op : XSlot)
  /-- GETI (R225): Read an address generator index. -/
  | engGeti (dt : Nat) (e : Fin 256) (op : XSlot)
  /-- LOOP0 (R226): Start an outer hardware loop. -/
  | engLoop0 (dt : Nat) (e : Fin 256) (arg : BitVec 12)
  /-- LOOP1 (R226): Start an inner hardware loop. -/
  | engLoop1 (dt : Nat) (e : Fin 256) (arg : BitVec 12)
  /-- LEND0 (R226): Mark the end of the outer loop body. -/
  | engLend0 (dt : Nat) (e : Fin 256)
  /-- LEND1 (R226): Mark the end of the inner loop body. -/
  | engLend1 (dt : Nat) (e : Fin 256)
  /-- END (R226): Mark the last bundle of the engine run. -/
  | engEnd (dt : Nat) (e : Fin 256)
  /-- RESULT_LANDING (R221): An operation in flight lands its result at its stated latency. -/
  | resultLanding (dt : Nat) (e : Fin 256)
  /-- GUARD_SLOT_END (R247): At SLOT_END the guard checks every engine has issued END and stops any overrunning engine. -/
  | guardSlotEnd (dt : Nat) (sector : Fin 8)
  /-- STAGING_COMPLETE (R213): Staging of the next variant into the staged instruction banks completes. -/
  | stagingComplete (dt : Nat) (sector : Fin 8) (eccBad : Bool)
  /-- STORE_SCRUB (R242): The schedule store is scrubbed once per second. -/
  | storeScrub (dt : Nat) (found : StoreScrub)
  /-- STORE_RESTORE_DONE (R242): Restore of a damaged store part from flash completes. -/
  | storeRestoreDone (dt : Nat) (idx : Nat)
  /-- SCHED_LOAD_DONE (R240): Authentication, validation and any flash write of a schedule set end with its result. -/
  | schedLoadDone (dt : Nat)
  /-- WARM_UP_END (R45): Warm-up of a mode change or start ends and fixes the change boundary B. -/
  | warmUpEnd (dt : Nat)
  /-- ORDERLY_STOP_COMPLETE (R362): With the end header delivered and every head DRAINED the orderly stop completes. -/
  | orderlyStopComplete (dt : Nat)
  /-- STOP_TIMEOUT (R362): 20 ms after acceptance the orderly stop completes and undrained heads are charged 0x400A. -/
  | stopTimeout (dt : Nat)
  /-- DEGRADED_PERIOD_EXPIRY (R396): The degraded period ends and the device enters SAFE HOLD. -/
  | degradedPeriodExpiry (dt : Nat)
  /-- SERVICE_SESSION_TIMEOUT (R360): A SERVICE session passes SESSION seconds without a command and the device enters SAFE HOLD. -/
  | serviceSessionTimeout (dt : Nat)
  /-- SAFE_RESET_RISING_EDGE (R392): The debounced SAFE_RESET input rises, beginning a press. -/
  | safeResetRisingEdge (dt : Nat)
  /-- SAFE_RESET_PRESS (R392): A debounced falling edge completes a press, judged for validity and the transition to STANDBY. -/
  | safeResetPress (dt : Nat) (fb : BitVec 4) (cmpOk : Bool)
  /-- SAFE_RESET_STUCK (R393): SAFE_RESET high for more than 5 s sets SAFE_RESET_STUCK. -/
  | safeResetStuck (dt : Nat)
  /-- RESET_STUCK_CLEAR (R393): SAFE_RESET low for 100 ms clears SAFE_RESET_STUCK. -/
  | resetStuckClear (dt : Nat)
  /-- ESTOP_DEMAND (R385): ESTOP_N low past its filter removes permission, switches outputs OFF and enters SAFE HOLD. -/
  | estopDemand (dt : Nat)
  /-- ESTOP_RELEASE (R481): ESTOP_N high after its filter ends the ESTOP fault. -/
  | estopRelease (dt : Nat)
  /-- ZONE_CODE_TAKEN (R385): A ZONE_SEL code stable for 10 ms is taken or found invalid. -/
  | zoneCodeTaken (dt : Nat) (code : BitVec 4)
  /-- ZONE_CODE_UNSTABLE (R385): No ZONE_SEL code stable within 100 ms raises 0x8006. -/
  | zoneCodeUnstable (dt : Nat)
  /-- ENCODER_EDGE (R177): An ENC_A or ENC_B edge updates the loop and island counts and direction and speed checks. -/
  | encoderEdge (dt : Nat) (up : Bool)
  /-- ENCODER_INDEX (R177): An index checks and corrects the count and settles commutation. -/
  | encoderIndex (dt : Nat) (abHigh : Bool)
  /-- FACET_CROSSING (R181): A facet boundary crossing measures e_phi and updates lock. -/
  | facetCrossing (dt : Nat) (k : Fin 12)
  /-- ENC_EDGE_TIMEOUT (R184): No encoder edge within 4 × P opens axis A with a phase short. -/
  | encEdgeTimeout (dt : Nat)
  /-- SLS_EDGE_WATCHDOG (R379): No edge at the island within 4 × P_lo closes the SLS gate. -/
  | slsEdgeWatchdog (dt : Nat)
  /-- SLP_FRAME_TIMEOUT (R381): No SSI frame within 50 µs closes the SLP gate. -/
  | slpFrameTimeout (dt : Nat)
  /-- LE0_PERIOD (R178): Every 2.5 µs LE0 computes the phase current references. `ia`, `ib`, `ic`: the 12-bit samples of the ISNS
  inputs (R176). -/
  | le0Period (dt : Nat) (ia : BitVec 12) (ib : BitVec 12) (ic : BitVec 12)
  /-- PHASE_CURRENT_COMPARATOR (R178): A phase current leaving its band switches that phase of the bridge. `uV`: the
  ISNS input of the phase, µV (R176). -/
  | phaseCurrentComparator (dt : Nat) (ph : Fin 3) (uV : Nat)
  /-- LE1_PERIOD (R181): Every 50 µs LE1 runs the speed and phase loop. -/
  | le1Period (dt : Nat)
  /-- LE2_PERIOD (R191): Every 50 µs LE2 runs the axis A repetitive controller. -/
  | le2Period (dt : Nat)
  /-- LE3_PERIOD (R187): Every 25 µs LE3 reads an SSI frame and runs the axis B position loop. -/
  | le3Period (dt : Nat) (frame : SsiFrame) (island : SsiFrame)
  /-- LE4_PERIOD (R191): Every 25 µs LE4 runs the axis B repetitive controller. -/
  | le4Period (dt : Nat)
  /-- LE5_PERIOD (R184): Every 2.5 µs LE5 supervises feedback of both axes. -/
  | le5Period (dt : Nat)
  /-- REFERENCE_INSTANT (R134): At a column's reference instant both axis angles are sampled for the header. -/
  | referenceInstant (dt : Nat)
  /-- ALIGNMENT_END (R179): Rotor alignment ends, fixing comm_ref and starting edge supervision and the ramp. -/
  | alignmentEnd (dt : Nat)
  /-- OVERCURRENT_A (R184): A phase current above 1.25 × IMAX_A raises 0x5008 and coasts axis A. `uV`: the ISNS
  input of the phase, µV (R176). -/
  | overcurrentA (dt : Nat) (ph : Fin 3) (uV : Nat)
  /-- BUS_OVERVOLT (R184): VBUS_SNS above VBUS_TRIP raises 0x5009 and phase-shorts axis A. -/
  | busOvervolt (dt : Nat) (mV : Nat)
  /-- SPINUP_TIMEOUT (R184): Lock not reached within SPINUP_TMAX raises 0x500A. -/
  | spinupTimeout (dt : Nat)
  /-- LOCK_REGAIN_TIMEOUT (R182): Lock lost and not regained within 1 s raises 0x500B. -/
  | lockRegainTimeout (dt : Nat)
  /-- TRACKING_ERROR_LIMIT (R188): Axis B error above B_EMAX for 1 ms raises 0x500D. -/
  | trackingErrorLimit (dt : Nat)
  /-- LOOP_ENGINE_UPSET (R174): A loop engine missing its period or meeting an uncorrectable error has upset 0x500C. -/
  | loopEngineUpset (dt : Nat) (hit : LoopUpset)
  /-- BRAKE_STOP_CONDITION (R197): A braking axis meets its stop condition or BRAKE_TMAX and becomes OPEN. -/
  | brakeStopCondition (dt : Nat) (axis : Axis)
  /-- PERIOD_IN_EDGE (R404): A PERIOD_IN rising edge measures the machine period. -/
  | periodInEdge (dt : Nat)
  /-- ZONE_EVALUATION (R387): When a column's records and validity words arrive the comparator evaluates every zone and switches outputs. -/
  | zoneEvaluation (dt : Nat) (testOk : Bool) (arrived : Bool)
  /-- OFF_TEST (R391): Once per second an ON safe output is driven low for 200 µs. -/
  | offTest (dt : Nat) (k : Fin 4)
  /-- OFF_TEST_END (R391): The 200 µs OFF-test pulse ends and the output returns ON. -/
  | offTestEnd (dt : Nat) (k : Fin 4)
  /-- SAFE_FB_READBACK (R391): SAFE_FB not following the commanded level within T_FB raises 0x800A or 0x800B. -/
  | safeFbReadback (dt : Nat) (k : Fin 4) (level : Bool)
  /-- LOCKSTEP_MISMATCH (R395): A safety pair mismatch drives the safe state in hardware and resets the pair. -/
  | lockstepMismatch (dt : Nat) (selfTestOk : Bool)
  /-- LOCKSTEP_SELF_TEST (R377): Every 100 ms the lockstep comparator is tested by injected mismatch. -/
  | lockstepSelfTest (dt : Nat) (detected : Bool)
  /-- SAFETY_MEM_ECC (R395): An uncorrectable safety memory word raises 0x800D. -/
  | safetyMemEcc (dt : Nat)
  /-- ISLAND_CLOCK (R377): The island oscillator cross-check fails and 0x800E is raised. -/
  | islandClock (dt : Nat)
  /-- FAULT_N_READBACK (R395): FAULT_N readback differing for 20 µs raises 0x8010. -/
  | faultNReadback (dt : Nat)
  /-- SELF_TEST_COMPLETE (R394): The start-up self-test ends and BOOT passes to SAFE HOLD or stays in BOOT. -/
  | selfTestComplete (dt : Nat) (res : SelfTest)
  /-- ROUND_START (R404): A housekeeping round starts and fixes T_INT. -/
  | roundStart (dt : Nat)
  /-- EXCITATION_SWAP (R412): At T_INT ÷ 2 three-wire channels swap their excitation sources. -/
  | excitationSwap (dt : Nat)
  /-- CONVERSION_END (R407): A conversion position ends and its results are processed, delivered, switched and judged thermally. -/
  | conversionEnd (dt : Nat) (raw : List Int)
  /-- OPEN_DETECT (R413): A source reaching compliance flags OPEN within 50 µs and charges 0x9003. -/
  | openDetect (dt : Nat) (ch : Fin 48)
  /-- DIE_MONITOR_READ (R420): Every 1 ms the die sensors are read, Tj computed and thermal limits judged. -/
  | dieMonitorRead (dt : Nat) (ts : List Int)
  /-- HARD_TRIP (R425): The analogue hard trip cuts emission and removes every switched domain. -/
  | hardTrip (dt : Nat)
  /-- HARD_TRIP_RELEASE (R425): The trip diode falls below release and 0x9001 ends. -/
  | hardTripRelease (dt : Nat)
  /-- PMBUS_POLL (R435): Every 100 ms each present regulator is polled. -/
  | pmbusPoll (dt : Nat) (readings : List PmbReading)
  /-- PMB_ALERT (R435): PMB_ALERT_N low reads STATUS_WORD of every regulator and clears faults. -/
  | pmbAlert (dt : Nat) (words : List PmbReading)
  /-- FLASH_WRITE_DONE (R426): A command's flash write ends, completely or stopped by temperature. -/
  | flashWriteDone (dt : Nat)
  /-- HEALTH_WINDOW (R491): A windowed health monitor closes its window and restarts its statistics. -/
  | healthWindow (dt : Nat) (m : Fin 64)
  /-- POWER_ON (R444): VDD_AON and VDD_HK come up, a power-on reset cause. -/
  | powerOn (dt : Nat)
  /-- POWER_LOSS (R26): Loss of VDD_AON or VDD_HK takes the device to OFF. -/
  | powerLoss (dt : Nat)
  /-- PORST_ASSERT (R446): PORST_N low runs the reset sequence. -/
  | porstAssert (dt : Nat)
  /-- PORST_RELEASE (R502): PORST_N release samples the straps and starts BOOT. -/
  | porstRelease (dt : Nat) (low : PorstLow)
  /-- VDD_IO_LOW (R444): VDD_IO below 1.70 V for 10 µs is a reset cause. -/
  | vddIoLow (dt : Nat)
  /-- RESET_CAUSE_END (R444): A reset cause ends and BOOT starts with the rail enables. -/
  | resetCauseEnd (dt : Nat)
  /-- ROOT_PLL_LOCK (R440): The root PLL locks and chain time starts. -/
  | rootPllLock (dt : Nat)
  /-- ROOT_PLL_UNLOCK (R440): Root PLL unlock raises 0xA004, a reset cause. -/
  | rootPllUnlock (dt : Nat)
  /-- REFCLK_LOST (R443): Loss of REFCLK raises 0xA003 and starts holdover. -/
  | refclkLost (dt : Nat)
  /-- REFCLK_HOLDOVER_EXPIRED (R443): REFCLK not back within 1 ms becomes a reset cause. -/
  | refclkHoldoverExpired (dt : Nat)
  /-- REFERENCE_HOLDOVER_END (R442): After 10 ms without the upstream lane the PLL slews back to REFCLK. -/
  | referenceHoldoverEnd (dt : Nat)
  /-- RAIL_PG_GOOD (R438): A rail's power-good rises and the next rail or domains are enabled. -/
  | railPgGood (dt : Nat) (rail : Fin 6)
  /-- RAIL_PG_TIMEOUT (R449): A rail's power-good does not rise in time and 0xA001 is raised. -/
  | railPgTimeout (dt : Nat) (rail : Fin 6)
  /-- RAIL_PG_LOST (R449): A rail's power-good falls and 0xA002 is raised. -/
  | railPgLost (dt : Nat) (rail : Fin 6)
  /-- DOMAIN_POWER_GOOD (R436): A switched domain reports power-good and the next sequence step proceeds. -/
  | domainPowerGood (dt : Nat) (d : Fin 34)
  /-- DOMAIN_SWITCH (R439): A domain without power-good after 500 µs is switched off with 0xA005. -/
  | domainSwitch (dt : Nat) (d : Fin 34)
  /-- SAFETY_WATCHDOG (R444): The safety watchdog goes unserved for 2 ms, a reset cause. -/
  | safetyWatchdog (dt : Nat)
  /-- APP_WATCHDOG (R447): The application watchdog expires and PD_APP is reset and restarted. -/
  | appWatchdog (dt : Nat)
  /-- APP_RESTART_DONE (R447): The application firmware restart completes and commands are served again. -/
  | appRestartDone (dt : Nat)
  /-- START_WATCHDOG (R444): Firmware not reaching SAFE HOLD within 3 s is a reset cause. -/
  | startWatchdog (dt : Nat)
  /-- IMAGE_LOADED (R452): A firmware image read completes and is authenticated and started or rejected. -/
  | imageLoaded (dt : Nat)
  /-- SIGNAL_DETECT (R268): Signal detect held 2 µs completes stage 1 on a control lane. -/
  | signalDetect (dt : Nat) (port : Fin 4)
  /-- CDR_LOCK (R268): A lane's CDR locks and adaptation completes stage 2. -/
  | cdrLock (dt : Nat) (port : Fin 4) (lane : Fin 4)
  /-- COMMA_ALIGNMENT (R268): Eight K28.5 at the CTS spacing align the control lane and start reference switch-over. -/
  | commaAlignment (dt : Nat) (port : Fin 4)
  /-- CTS_RECEIVED (R265): A valid CTS is taken, giving polarity and the partner's stage, DRDY, EXCL and RET. -/
  | ctsReceived (dt : Nat) (port : Fin 4) (sym : BitVec 48) (inverted : Bool)
  /-- DTP_RECEIVED (R266): A DTP unit gives a data lane's polarity and lane ID. -/
  | dtpReceived (dt : Nat) (port : Fin 4) (phys : Fin 3) (inverted : Bool) (code : BitVec 17)
  /-- BLOCK_LOCK (R271): 64 valid sync headers give block lock on a data lane. -/
  | blockLock (dt : Nat) (port : Fin 4) (lane : Fin 3)
  /-- DSK_BLOCK (R272): A deskew block is received for deskew or checked against its place. -/
  | dskBlock (dt : Nat) (port : Fin 4) (phys : Fin 3) (payload : BitVec 64) (inPlace : Bool)
  /-- DSK_SEND (R267): Every 1,024 blocks a DSK is sent on all active data lanes. -/
  | dskSend (dt : Nat) (port : Fin 4)
  /-- CREDIT_INITIALISATION (R316): INIT blocks with ACK exchanged complete stage 8 and bring the link up. -/
  | creditInitialisation (dt : Nat) (port : Fin 4) (type : Byte) (content : BitVec 56)
  /-- BRINGUP_TIMEOUT (R268): A bring-up stage times out, excluding a lane or charging 0x6002. -/
  | bringupTimeout (dt : Nat) (port : Fin 4) (lane : Fin 4)
  /-- BRINGUP_RESTART (R268): After 20 µs of electrical idle bring-up restarts from stage 1. -/
  | bringupRestart (dt : Nat) (port : Fin 4)
  /-- DATA_LOCK_LOST (R273): Block lock lost on a data lane raises 0x6003 and a retrain. -/
  | dataLockLost (dt : Nat) (port : Fin 4) (loss : LockLoss)
  /-- CTL_LANE_LOST (R273): Control lane loss raises 0x6001 and restarts bring-up. -/
  | ctlLaneLost (dt : Nat) (port : Fin 4)
  /-- EXCLUDED_LANE_RETRAIN (R274): An excluded non-retired lane triggers a retrain 1 s after link up and at most every 10 s. -/
  | excludedLaneRetrain (dt : Nat) (port : Fin 4)
  /-- SLEEP_ENTRY (R275): An idle transmit direction sets SLEEP and idles its data lanes. -/
  | sleepEntry (dt : Nat) (port : Fin 4)
  /-- WAKE (R276): A sleeping direction sends the wake preamble for data or a window. -/
  | wake (dt : Nat) (port : Fin 4)
  /-- CONTROL_SLOT_SEND (R290): Each 25 ns control slot is sent as SYNC, LINK, SAFETY, MSG or IDLE. -/
  | controlSlotSend (dt : Nat) (port : Fin 4)
  /-- CONTROL_CYCLE_START (R290): At each 100 µs control cycle start a SYNC slot is sent. -/
  | controlCycleStart (dt : Nat)
  /-- SYNC_SLOT (R295): A valid SYNC is timestamped and a non-root device steps or slews its chain time. -/
  | syncSlot (dt : Nat) (port : Fin 4) (body : BitVec 120) (frac : Byte)
  /-- LINK_SLOT (R299): A LINK slot carries link management and keep-alive. -/
  | linkSlot (dt : Nat) (port : Fin 4) (body : BitVec 120)
  /-- KEEPALIVE_LOST (R300): No SYNC or LINK for 100 µs raises 0x6006 and restarts bring-up. -/
  | keepaliveLost (dt : Nat) (port : Fin 4)
  /-- STOP_HOLD_RECEIVED (R310): A valid STOP_HOLD is forwarded and, with SAFE_ACCEPT, stops emission and enters SAFE HOLD. -/
  | stopHoldReceived (dt : Nat) (port : Fin 4) (body : BitVec 120)
  /-- MSG_FRAGMENT (R301): An MSG fragment is routed or reassembled into a CMD, RSP, EVT or DISC message. -/
  | msgFragment (dt : Nat) (port : Fin 4) (body : BitVec 120)
  /-- REASSEMBLY_TIMEOUT (R301): A message incomplete 10 ms after its first fragment is discarded. -/
  | reassemblyTimeout (dt : Nat) (src : BitVec 16) (id : Byte)
  /-- DISC_ASSIGN (R303): An ASSIGN takes an address and offers ranges downstream. -/
  | discAssign (dt : Nat) (port : Fin 4) (gen : Byte) (addr : BitVec 16) (down : Bool) (hops : Byte)
  /-- DISC_DONE (R303): A DONE records a subtree range or completes discovery at the root. -/
  | discDone (dt : Nat) (port : Fin 4) (gen : Byte) (next : BitVec 16) (down : Bool) (refused : Bool)
  /-- DISC_CHANGE (R305): A CHANGE is relayed upstream and starts rediscovery at the root. -/
  | discChange (dt : Nat) (port : Fin 4) (gen : Byte) (addr : BitVec 16) (cause : Byte)
  /-- DISCOVERY_START (R305): The root starts discovery 100 ms after BOOT or within 1 ms of a topology change. -/
  | discoveryStart (dt : Nat)
  /-- DISCOVERY_FAILED (R304): Discovery incomplete after 500 ms raises 0x6009. -/
  | discoveryFailed (dt : Nat)
  /-- DISCOVERY_RETRY (R304): 10 ms after a failure the root retries discovery once. -/
  | discoveryRetry (dt : Nat)
  /-- ADDRESS_LOSS (R305): No ASSIGN within 10 ms of losing the upstream port leaves the device unaddressed. -/
  | addressLoss (dt : Nat)
  /-- DATA_PACKET (R313): A data-class packet is received and forwarded cut-through or delivered. `crc`: the CRC-32
  of its EOP; `inside`: a control block that stood between its blocks (R311). -/
  | dataPacket (dt : Nat) (port : Fin 4) (pkt : Packet) (crc : Word) (inside : Option (BitVec 64))
  /-- PACKET_SEND (R316): A queued packet starts once credits and window allow. -/
  | packetSend (dt : Nat) (port : Fin 4)
  /-- CREDIT_BLOCK (R316): A CREDIT block returns credits to the transmitter. -/
  | creditBlock (dt : Nat) (port : Fin 4) (payload : BitVec 64)
  /-- CREDIT_RETURN (R316): 16 pending credits or 500 ns send a CREDIT block. -/
  | creditReturn (dt : Nat) (port : Fin 4)
  /-- SLOT_REPORT_SEND (R315): A slot report is sent at the later of the last ledger decision and its window. -/
  | slotReportSend (dt : Nat) (port : Fin 4)
  /-- VERTICAL_BLANKING (R462): At vertical blanking a pending commit is checked and taken and the L1 grid advances. -/
  | verticalBlanking (dt : Nat)
  /-- IDLE_COMMIT (R462): With ENABLE = 0 a commit is taken 1 µs after COMMIT is written. -/
  | idleCommit (dt : Nat)
  /-- LAYER_UNDERRUN (R471): Layer data late or a failed read skips the layer for the rest of the frame. -/
  | layerUnderrun (dt : Nat) (layer : Fin 3) (timedOut : Bool)
  /-- MON_GRID_ECC (R480): An uncorrectable L1 grid word discards the grid being filled. -/
  | monGridEcc (dt : Nat)
  /-- HOST_PERST_RELEASE (R448): Release of a host PERST_N lets that port begin link training within 20 ms. -/
  | hostPerstRelease (dt : Nat) (p : HostPort)
  /-- HOST_LINK_UP (R473): A host port's PCI Express or Ethernet link comes up again after training or regained block lock. -/
  | hostLinkUp (dt : Nat) (p : HostPort)
  /-- REFCLK_RETURN (R443): REFCLK returns within the 1 ms holdover and the root PLL keeps it as reference without a reset. -/
  | refclkReturn (dt : Nat)
  /-- EMISSION_FAULT_END (R481): Faults 0x4001, 0x4002 or 0x4005 cease to be active when their observation has not been made for 1 ms. -/
  | emissionFaultEnd (dt : Nat) (code : BitVec 16) (str : Fin 64)
  /-- ARP_REPLY (R327): An ARP reply that resolves the gateway or a configured destination enters the 16-entry cache. -/
  | arpReply (dt : Nat) (p : HostPort) (ip : Word) (mac : BitVec 48)
  /-- NET_CONFIG_APPLY (R328): New network settings of a port take effect 1 ms after HOST.NET_CONFIG returned OK. -/
  | netConfigApply (dt : Nat) (p : HostPort)
  deriving DecidableEq, Repr

end Sys2Proof
end

