-- ==== Sys2Proof/Machine/Bits.lean ====
section
/-! DEFINITION. Helpers over words, bytes, sparse tables and exact numbers: bit fields, sign extension, byte order (R10),
rounding, check codes. They carry no state. -/

namespace Sys2Proof.Machine

open Sys2Proof

/-! ### Sparse tables -/

/-- The entry of a table at a key; an unlisted key reads `d`. -/
def tget {α : Type} (d : α) : Tab α → Nat → α
  | [], _ => d
  | (k', v) :: r, k => if k' = k then v else tget d r k

/-- A table without a key. -/
def tdel {α : Type} : Tab α → Nat → Tab α
  | [], _ => []
  | (k', v) :: r, k => if k' = k then tdel r k else (k', v) :: tdel r k

/-- A table with an entry in its place by key. -/
def tins {α : Type} : Tab α → Nat → α → Tab α
  | [], k, v => [(k, v)]
  | (k', v') :: r, k, v => if k < k' then (k, v) :: (k', v') :: r else (k', v') :: tins r k v

/-- A table with one entry written: an entry equal to `d` is not listed. -/
def tput {α : Type} [DecidableEq α] (d : α) (t : Tab α) (k : Nat) (v : α) : Tab α :=
  if v = d then tdel t k else tins (tdel t k) k v

/-- A table with one entry changed. -/
def tmod {α : Type} [DecidableEq α] (d : α) (t : Tab α) (k : Nat) (f : α → α) : Tab α :=
  tput d t k (f (tget d t k))

/-- The canonical form above a lower bound: keys strictly rising, no entry equal to `d`. -/
def twfFrom {α : Type} [DecidableEq α] (d : α) : Nat → Tab α → Bool
  | _, [] => true
  | lo, (k, v) :: r => lo ≤ k && v ≠ d && twfFrom d (k + 1) r

/-- A table is in its canonical form. -/
def twf {α : Type} [DecidableEq α] (d : α) (t : Tab α) : Bool :=
  twfFrom d 0 t

/-! ### Bits and fields -/

/-- Bits `lo + n − 1 : lo` of a number. -/
def fld (x lo n : Nat) : Nat :=
  x / 2 ^ lo % 2 ^ n

/-- A number with bits `lo + n − 1 : lo` replaced. -/
def setFld (x lo n v : Nat) : Nat :=
  x - fld x lo n * 2 ^ lo + v % 2 ^ n * 2 ^ lo

/-- Bit `i` of a number. -/
def bitN (x i : Nat) : Bool :=
  x / 2 ^ i % 2 = 1

/-- A bit as a number. -/
def b2n (b : Bool) : Nat :=
  if b then 1 else 0

/-- The numbers whose bit is set, below `n`. -/
def onesOf (n x : Nat) : List Nat :=
  (List.range n).filter (bitN x)

/-- The number of ones below bit `n`. -/
def popN (n x : Nat) : Nat :=
  (onesOf n x).length

/-- A number with the bits of a list set. -/
def maskOf (l : List Nat) : Nat :=
  (l.eraseDups).foldl (fun m i => m + 2 ^ i) 0

/-- Two's complement: the value of `n` bits. -/
def sgn (n x : Nat) : Int :=
  if x % 2 ^ n < 2 ^ (n - 1) then (x % 2 ^ n : Nat) else (x % 2 ^ n : Nat) - (2 ^ n : Nat)

/-- Two's complement: the `n` bits of a value. -/
def uns (n : Nat) (i : Int) : Nat :=
  (i % (2 ^ n : Nat)).toNat

/-- A signed field of a number. -/
def sfld (x lo n : Nat) : Int :=
  sgn n (fld x lo n)

/-- A value held between two bounds. -/
def clampI (lo hi x : Int) : Int :=
  if x < lo then lo else if hi < x then hi else x

/-- As `clampI` for natural numbers. -/
def clampN (lo hi x : Nat) : Nat :=
  if x < lo then lo else if hi < x then hi else x

/-- As `clampI` for exact fractions. -/
def clampQ (lo hi x : Rat) : Rat :=
  if x < lo then lo else if hi < x then hi else x

/-- A count that saturates at `n` bits. -/
def sat (n x : Nat) : Nat :=
  if x < 2 ^ n then x else 2 ^ n - 1

/-! ### Bytes, little-endian (R10) -/

/-- The `n` bytes of a number, least significant first. -/
def bytesOf : Nat → Nat → List Byte
  | 0, _ => []
  | n + 1, x => BitVec.ofNat 8 x :: bytesOf n (x / 256)

/-- The number of a byte list, least significant first. -/
def ofBytes : List Byte → Nat
  | [] => 0
  | b :: r => b.toNat + 256 * ofBytes r

/-- The `n` bytes of a number, most significant first. -/
def bytesBE (n x : Nat) : List Byte :=
  (bytesOf n x).reverse

/-- The number of a byte list, most significant first. -/
def ofBytesBE (l : List Byte) : Nat :=
  ofBytes l.reverse

/-- `n` bytes of a list from an offset, as a number; bytes past its end read 0. -/
def leAt (l : List Byte) (off n : Nat) : Nat :=
  ofBytes ((l.drop off).take n)

/-- `n` zero bytes. -/
def zeros (n : Nat) : List Byte :=
  List.replicate n 0

/-- A list brought to length `n` with zeros. -/
def padTo (n : Nat) (l : List Byte) : List Byte :=
  (l ++ zeros n).take n

/-- A list with bytes overwritten from an offset, grown with zeros where needed. -/
def overlay (l : List Byte) (off : Nat) (d : List Byte) : List Byte :=
  padTo off l ++ d ++ l.drop (off + d.length)

/-- One byte of an on-die memory. -/
def mget (m : List (Nat × Byte)) (a : Nat) : Byte :=
  tget 0 m a

/-- An on-die memory with one byte written. -/
def mput (m : List (Nat × Byte)) (a : Nat) (b : Byte) : List (Nat × Byte) :=
  tput 0 m a b

/-- `n` bytes of an on-die memory as a number. -/
def mread (m : List (Nat × Byte)) (a : Nat) : Nat → Nat
  | 0 => 0
  | n + 1 => (mget m a).toNat + 256 * mread m (a + 1) n

/-- An on-die memory with the `n` bytes of a number written. -/
def mwrite (m : List (Nat × Byte)) (a : Nat) : Nat → Nat → List (Nat × Byte)
  | 0, _ => m
  | n + 1, v => mwrite (mput m a (BitVec.ofNat 8 v)) (a + 1) n (v / 256)

/-- A bit field of an on-die memory, counted from bit 0 of the byte at `a`. -/
def mfld (m : List (Nat × Byte)) (a lo n : Nat) : Nat :=
  fld (mread m (a + lo / 8) ((n + lo % 8 + 7) / 8)) (lo % 8) n

/-- An on-die memory with a bit field written. -/
def msetFld (m : List (Nat × Byte)) (a lo n v : Nat) : List (Nat × Byte) :=
  let len := (n + lo % 8 + 7) / 8
  mwrite m (a + lo / 8) len (setFld (mread m (a + lo / 8) len) (lo % 8) n v)

/-! ### Rounding and roots -/

/-- An exact fraction rounded to the nearest integer, halves to even (R5). -/
def rhe (q : Rat) : Int :=
  let f := q.floor
  let r := q - f
  if r < 1 / 2 then f else if 1 / 2 < r then f + 1 else if f % 2 = 0 then f else f + 1

/-- An exact fraction rounded toward minus infinity. -/
def flr (q : Rat) : Int :=
  q.floor

/-- The magnitude of an exact fraction. -/
def absQ (q : Rat) : Rat :=
  if q < 0 then -q else q

/-- Sums up an integer square root bit by bit. -/
def isqrtGo : Nat → Nat → Nat → Nat
  | 0, _, r => r
  | k + 1, x, r => isqrtGo k x (if (r + 2 ^ k) * (r + 2 ^ k) ≤ x then r + 2 ^ k else r)

/-- The integer square root, rounded down. -/
def isqrt (x : Nat) : Nat :=
  isqrtGo (Nat.log2 x / 2 + 1) x 0

/-- The number of bits of a number: 0 for 0. -/
def bitLen (x : Nat) : Nat :=
  if x = 0 then 0 else Nat.log2 x + 1

/-! ### Check codes -/

/-- A cyclic code over bits, most significant first: width, polynomial, start value. -/
def crcBits (w poly : Nat) (init : Nat) (bits : List Bool) : Nat :=
  bits.foldl (fun r b =>
    let r' := r * 2 % 2 ^ w
    if bitN r (w - 1) != b then r' ^^^ poly else r') init

/-- The `n` bits of a number, most significant first. -/
def bitsMsb (n x : Nat) : List Bool :=
  ((List.range n).map (bitN x)).reverse

/-- The `n` bits of a number, least significant first. -/
def bitsLsb (n x : Nat) : List Bool :=
  (List.range n).map (bitN x)

/-- A number with its low `n` bits reversed. -/
def revBits (n x : Nat) : Nat :=
  (bitsLsb n x).foldl (fun r b => r * 2 + b2n b) 0

/-- CRC-8, polynomial x⁸ + x² + x + 1, start 0xFF, over bytes taken most significant bit first (R146). -/
def crc8 (l : List Byte) : Nat :=
  crcBits 8 0x07 0xFF (l.flatMap (fun b => bitsMsb 8 b.toNat))

/-- The IEEE 802.3 frame check sequence (R311). -/
def crc32 (l : List Byte) : Nat :=
  revBits 32 (crcBits 32 0x04C11DB7 0xFFFFFFFF (l.flatMap (fun b => bitsLsb 8 b.toNat))) ^^^ 0xFFFFFFFF

/-! ### Lists -/

/-- The first `n` of a list after a new head. -/
def pushMax {α : Type} (n : Nat) (x : α) (l : List α) : List α :=
  (x :: l).take n

/-- A list kept sorted by an order that holds for the first argument to stand before the second. -/
def insertBy {α : Type} (lt : α → α → Bool) (x : α) : List α → List α
  | [] => [x]
  | y :: r => if lt y x then y :: insertBy lt x r else x :: y :: r

/-- A list sorted by an order. -/
def sortBy {α : Type} (lt : α → α → Bool) (l : List α) : List α :=
  l.foldr (insertBy lt) []

/-- The least of the numbers of a list, and a value for the empty list. -/
def minOf (d : Nat) (l : List Nat) : Nat :=
  match l with
  | [] => d
  | x :: r => r.foldl min x

/-- A sum over the numbers below `n`. -/
def sumTo (n : Nat) (f : Nat → Nat) : Nat :=
  (List.range n).foldl (fun a i => a + f i) 0

/-- A function repeated over the numbers of a list. -/
def forEach {α β : Type} (l : List β) (f : α → β → α) (x : α) : α :=
  l.foldl f x

end Sys2Proof.Machine
end

