-- ==== Sys2Proof/Machine/Crypto.lean ====
section
/-! DEFINITION. The cryptographic standards the manual names and does not print (log entry 17): AES-128, AES-CMAC (NIST SP
800-38B, R348), AES key wrap (RFC 3394, R371), SHA-256 and ECDSA over P-256 (R239, R452). PRESUMED from those standards. -/

namespace Sys2Proof.Machine

open Sys2Proof

/-! ### AES-128 -/

/-- Doubling of each byte of a block in the field of AES. The bytes of a block stand in a number, the first at bits 7 to 0. -/
def aesX2 (w : Nat) : Nat :=
  ((w &&& 0x7F7F7F7F7F7F7F7F7F7F7F7F7F7F7F7F) * 2) ^^^ ((w >>> 7 &&& 0x01010101010101010101010101010101) * 0x1B)

/-- Each column turned by one byte. -/
def aesTurn (w : Nat) : Nat :=
  (w >>> 8 &&& 0x00FFFFFF00FFFFFF00FFFFFF00FFFFFF) ||| (w <<< 24 &&& 0xFF000000FF000000FF000000FF000000)

/-- The column mix of AES. Its fourth power changes nothing, so that its third is its inverse. -/
def aesMix (w : Nat) : Nat :=
  let r := aesTurn w
  let q := aesTurn r
  aesX2 (w ^^^ r) ^^^ r ^^^ q ^^^ aesTurn q

/-- The substitution table of AES (FIPS 197): the byte for `a` stands at bits 8a + 7 to 8a. -/
def aesTable : Nat :=
  0x16BB54B00F2D99416842E6BF0D89A18CDF2855CEE9871E9B948ED9691198F8E19E1DC186B95735610EF6034866B53E708A8BBD4B1F74DDE8C6B4A61C2E2578BA08AE7A65EAF4566CA94ED58D6D37C8E779E4959162ACD3C25C2406490A3A32E0DB0B5EDE14B8EE4688902A22DC4F816073195D643D7EA7C41744975FEC130CCDD2F3FF1021DAB6BCF5389D928F40A351A89F3C507F02F94585334D43FBAAEFD0CF584C4A39BECB6A5BB1FC20ED00D153842FE329B3D63B52A05A6E1B1A2C830975B227EBE28012079A059618C323C7041531D871F1E5A534CCF73F362693FDB7C072A49CAFA2D4ADF04759FA7DC982CA76ABD7FE2B670130C56F6BF27B777C63

/-- The inverse substitution table. -/
def aesTableInv : Nat :=
  0x7D0C2155631469E126D677BA7E042B17619953833CBBEBC8B0F52AAE4D3BE0A0EF9CC9939F7AE52D0D4AB519A97F51605FEC8027591012B131C7078833A8DD1FF45ACD78FEC0DB9A2079D2C64B3E56FC1BBE18AA0E62B76F89C5291D711AF1476EDF751CE837F9E28535ADE72274AC9673E6B4F0CECFF297EADC674F4111913A6B8A130103BDAFC1020F3FCA8F1E2CD00645B3B80558E4F70AD3BC8C00ABD890849D8DA75746155EDAB9EDFD5048706C92B6655DCC5CA4D41698688664F6F87225D18B6D49A25B76B224D92866A12E084EC3FA420B954CEE3D23C2A632947B54CBE9DEC444438E3487FF2F9B8239E37CFBD7F3819EA340BF38A53630D56A0952

/-- The bytes at the places of `order`, each substituted by a table. -/
def aesSub (table : Nat) (order : List Nat) (b : Nat) : Nat :=
  order.foldr (fun i n => n <<< 8 ||| (table >>> (8 * (b >>> (8 * i) % 256))) % 256) 0

/-- The substitution and the row shift of AES. -/
def aesSubShift : Nat → Nat :=
  aesSub aesTable [0, 5, 10, 15, 4, 9, 14, 3, 8, 13, 2, 7, 12, 1, 6, 11]

/-- The inverse substitution and row shift. -/
def aesSubShiftInv : Nat → Nat :=
  aesSub aesTableInv [0, 13, 10, 7, 4, 1, 14, 11, 8, 5, 2, 15, 12, 9, 6, 3]

/-- The next round key from the last, with its round constant. -/
def aesNextKey (k rc : Nat) : Nat :=
  ((k ^^^ k <<< 32 ^^^ k <<< 64 ^^^ k <<< 96) % 2 ^ 128)
    ^^^ ((aesSub aesTable [13, 14, 15, 12] k ^^^ rc) * 0x00000001000000010000000100000001)

/-- The round keys after the first, the first of them first. -/
def aesKeys : List Nat → Nat → List Nat
  | [], _ => []
  | rc :: r, k => aesNextKey k rc :: aesKeys r (aesNextKey k rc)

/-- The eleven round keys, the first first. -/
def aesRoundKeys (key : Nat) : List Nat :=
  key :: aesKeys [1, 2, 4, 8, 16, 32, 64, 128, 0x1B, 0x36] key

/-- AES-128 encryption of one block under its round keys. -/
def aesEnc (keys : List Nat) (blk : Nat) : Nat :=
  aesSubShift (((keys.drop 1).dropLast).foldl (fun b k => aesMix (aesSubShift b) ^^^ k) (blk ^^^ keys.headD 0))
    ^^^ keys.getLastD 0

/-- AES-128 decryption of one block under its round keys. -/
def aesDec (keys : List Nat) (blk : Nat) : Nat :=
  (((keys.drop 1).dropLast).foldr (fun k b => aesSubShiftInv (aesMix (aesMix (aesMix (b ^^^ k)))))
    (aesSubShiftInv (blk ^^^ keys.getLastD 0))) ^^^ keys.headD 0

/-! ### AES-CMAC -/

/-- A block with the order of its bytes turned about. -/
def aesFlip (b : Nat) : Nat :=
  ofBytesBE (bytesOf 16 b)

/-- Doubling of a subkey of CMAC, in which the first byte is the most significant. -/
def cmacDbl (b : Nat) : Nat :=
  let n := aesFlip b
  aesFlip ((n * 2 % 2 ^ 128) ^^^ (if bitN n 127 then 0x87 else 0))

/-- The chaining of CMAC over a message, with fuel for its blocks. -/
def cmacGo (keys : List Nat) (k1 k2 : Nat) : Nat → List Byte → Nat → Nat
  | 0, _, x => x
  | n + 1, m, x =>
    if m.length ≤ 16 then
      aesEnc keys (x ^^^ (if m.length = 16 then ofBytes m ^^^ k1 else ofBytes (m ++ [0x80]) ^^^ k2))
    else cmacGo keys k1 k2 n (m.drop 16) (aesEnc keys (x ^^^ ofBytes (m.take 16)))

/-- The AES-128-CMAC of a message. -/
def cmac (k : BitVec 128) (m : List Byte) : List Byte :=
  let keys := aesRoundKeys k.toNat
  let k1 := cmacDbl (aesEnc keys 0)
  bytesOf 16 (cmacGo keys k1 (cmacDbl k1) (m.length / 16 + 1) m 0)

/-! ### AES key wrap -/

/-- One step of the unwrap: counter t, half A, the two registers. -/
def unwrapStep (keys : List Nat) (st : Nat × Nat × Nat) (t : Nat) : Nat × Nat × Nat :=
  let (a, r1, r2) := st
  let b := aesDec keys ((a ^^^ t * 2 ^ 56) + (if t % 2 = 0 then r2 else r1) * 2 ^ 64)
  if t % 2 = 0 then (b % 2 ^ 64, r1, b / 2 ^ 64) else (b % 2 ^ 64, b / 2 ^ 64, r2)

/-- The 128-bit key that 24 wrapped bytes carry, or `none` where the check value of RFC 3394 differs. -/
def keyUnwrap (kek : BitVec 128) (w : List Byte) : Option (BitVec 128) :=
  let c := ofBytes w
  let (a, r1, r2) := [12, 11, 10, 9, 8, 7, 6, 5, 4, 3, 2, 1].foldl (unwrapStep (aesRoundKeys kek.toNat))
    (c % 2 ^ 64, c / 2 ^ 64 % 2 ^ 64, c / 2 ^ 128 % 2 ^ 64)
  if a = 0xA6A6A6A6A6A6A6A6 then some (BitVec.ofNat 128 (r1 + r2 * 2 ^ 64)) else none

/-! ### SHA-256 -/

/-- The round constants of SHA-256. -/
def shaK : List Nat :=
  [0x428A2F98, 0x71374491, 0xB5C0FBCF, 0xE9B5DBA5, 0x3956C25B, 0x59F111F1, 0x923F82A4, 0xAB1C5ED5]
    ++ [0xD807AA98, 0x12835B01, 0x243185BE, 0x550C7DC3, 0x72BE5D74, 0x80DEB1FE, 0x9BDC06A7, 0xC19BF174]
    ++ [0xE49B69C1, 0xEFBE4786, 0x0FC19DC6, 0x240CA1CC, 0x2DE92C6F, 0x4A7484AA, 0x5CB0A9DC, 0x76F988DA]
    ++ [0x983E5152, 0xA831C66D, 0xB00327C8, 0xBF597FC7, 0xC6E00BF3, 0xD5A79147, 0x06CA6351, 0x14292967]
    ++ [0x27B70A85, 0x2E1B2138, 0x4D2C6DFC, 0x53380D13, 0x650A7354, 0x766A0ABB, 0x81C2C92E, 0x92722C85]
    ++ [0xA2BFE8A1, 0xA81A664B, 0xC24B8B70, 0xC76C51A3, 0xD192E819, 0xD6990624, 0xF40E3585, 0x106AA070]
    ++ [0x19A4C116, 0x1E376C08, 0x2748774C, 0x34B0BCB5, 0x391C0CB3, 0x4ED8AA4A, 0x5B9CCA4F, 0x682E6FF3]
    ++ [0x748F82EE, 0x78A5636F, 0x84C87814, 0x8CC70208, 0x90BEFFFA, 0xA4506CEB, 0xBEF9A3F7, 0xC67178F2]

/-- A 32-bit word rotated right. -/
def rotr (x n : Nat) : Nat :=
  (x / 2 ^ n) ||| (x * 2 ^ (32 - n) % 2 ^ 32)

/-- The message schedule, 48 words on from 16, newest first. -/
def shaSched : Nat → List Nat → List Nat
  | 0, w => w
  | n + 1, w =>
    let w15 := w.getD 14 0
    let w2 := w.getD 1 0
    let s0 := rotr w15 7 ^^^ rotr w15 18 ^^^ (w15 / 8)
    let s1 := rotr w2 17 ^^^ rotr w2 19 ^^^ (w2 / 1024)
    shaSched n ((w.getD 15 0 + s0 + w.getD 6 0 + s1) % 2 ^ 32 :: w)

/-- One round of SHA-256 over its eight words. -/
def shaRound (h : List Nat) (kw : Nat × Nat) : List Nat :=
  let a := h.getD 0 0
  let b := h.getD 1 0
  let c := h.getD 2 0
  let e := h.getD 4 0
  let f := h.getD 5 0
  let g := h.getD 6 0
  let s1 := rotr e 6 ^^^ rotr e 11 ^^^ rotr e 25
  let ch := (e &&& f) ^^^ ((2 ^ 32 - 1 - e) &&& g)
  let t1 := h.getD 7 0 + s1 + ch + kw.1 + kw.2
  let s0 := rotr a 2 ^^^ rotr a 13 ^^^ rotr a 22
  let mj := (a &&& b) ^^^ (a &&& c) ^^^ (b &&& c)
  [(t1 + s0 + mj) % 2 ^ 32, a, b, c, (h.getD 3 0 + t1) % 2 ^ 32, e, f, g]

/-- The digest of a padded message, with fuel for its blocks. -/
def shaGo : Nat → List Byte → List Nat → List Nat
  | 0, _, h => h
  | n + 1, m, h =>
    let w0 := ((List.range 16).map (fun i => ofBytesBE ((m.drop (4 * i)).take 4))).reverse
    let w := (shaSched 48 w0).reverse
    let h' := (shaK.zip w).foldl shaRound h
    shaGo n (m.drop 64) (List.zipWith (fun x y => (x + y) % 2 ^ 32) h h')

/-- SHA-256 of a message, as a 256-bit number, most significant byte first. -/
def sha256 (m : List Byte) : Nat :=
  let pad := (119 - m.length % 64) % 64
  let p := m ++ [0x80] ++ zeros pad ++ bytesBE 8 (8 * m.length)
  (shaGo (p.length / 64) p [0x6A09E667, 0xBB67AE85, 0x3C6EF372, 0xA54FF53A, 0x510E527F, 0x9B05688C, 0x1F83D9AB,
    0x5BE0CD19]).foldl (fun a x => a * 2 ^ 32 + x) 0

/-! ### ECDSA over P-256 -/

/-- The prime of P-256. -/
def p256p : Nat := 0xFFFFFFFF00000001000000000000000000000000FFFFFFFFFFFFFFFFFFFFFFFF

/-- The order of P-256. -/
def p256n : Nat := 0xFFFFFFFF00000000FFFFFFFFFFFFFFFFBCE6FAADA7179E84F3B9CAC2FC632551

/-- The coefficient b of P-256. -/
def p256b : Nat := 0x5AC635D8AA3A93E7B3EBBD55769886BC651D06B0CC53B0F63BCE3C3E27D2604B

/-- The base point of P-256. -/
def p256g : Nat × Nat :=
  (0x6B17D1F2E12C4247F8BCE6E563A440F277037D812DEB33A0F4A13945D898C296,
    0x4FE342E2FE1A7F9B8EE7EB4A7C0F9E162BCE33576B315ECECBB6406837BF51F5)

/-- A power modulo m, over the bits of the exponent. -/
def powMod (m : Nat) : Nat → Nat → Nat → Nat
  | 0, _, _ => 1 % m
  | n + 1, b, e => let r := powMod m n (b * b % m) (e / 2); if e % 2 = 1 then r * b % m else r

/-- The inverse modulo a 256-bit prime. -/
def invMod (m a : Nat) : Nat :=
  powMod m 256 a (m - 2)

/-- A difference modulo the prime of P-256. -/
def ecSub (a b : Nat) : Nat :=
  (a + p256p - b) % p256p

/-- Twice a point of P-256. A point (x, y, z) with z other than 0 stands for (x ÷ z², y ÷ z³), one with z = 0 for the point at infinity. -/
def ecDbl (a : Nat × Nat × Nat) : Nat × Nat × Nat :=
  let (x, y, z) := a
  let yy := y * y % p256p
  let zz := z * z % p256p
  let s := 4 * x * yy % p256p
  let m := 3 * ecSub x zz * (x + zz) % p256p
  let x3 := ecSub (m * m % p256p) (2 * s % p256p)
  (x3, ecSub (m * ecSub s x3 % p256p) (8 * yy * yy % p256p), 2 * y * z % p256p)

/-- The sum of two points of P-256. -/
def ecAdd (a b : Nat × Nat × Nat) : Nat × Nat × Nat :=
  let (x1, y1, z1) := a
  let (x2, y2, z2) := b
  if z1 = 0 then b
  else if z2 = 0 then a
  else
    let u1 := x1 * z2 * z2 % p256p
    let s1 := y1 * z2 * z2 * z2 % p256p
    let h := ecSub (x2 * z1 * z1 % p256p) u1
    let r := ecSub (y2 * z1 * z1 * z1 % p256p) s1
    if h = 0 then (if r = 0 then ecDbl a else (1, 1, 0))
    else
      let hh := h * h % p256p
      let v := u1 * hh % p256p
      let x3 := ecSub (r * r % p256p) ((hh * h + 2 * v) % p256p)
      (x3, ecSub (r * ecSub v x3 % p256p) (s1 * hh * h % p256p), h * z1 * z2 % p256p)

/-- A multiple of a point of P-256, over the bits of the factor. -/
def ecMul : Nat → Nat → Nat × Nat × Nat → Nat × Nat × Nat
  | 0, _, _ => (1, 1, 0)
  | n + 1, k, q => let r := ecMul n (k / 2) (ecDbl q); if k % 2 = 1 then ecAdd r q else r

/-- The signature (r, s) over the message is valid under the public key (x, y). -/
def ecdsaOk (x y r s : Nat) (m : List Byte) : Bool :=
  let onCurve := x < p256p && y < p256p && (y * y % p256p == (x * x * x + (p256p - 3) * x + p256b) % p256p)
  if onCurve && 0 < r && r < p256n && 0 < s && s < p256n then
    let w := invMod p256n s
    let q := ecAdd (ecMul 256 (sha256 m * w % p256n) (p256g.1, p256g.2, 1)) (ecMul 256 (r * w % p256n) (x, y, 1))
    let i := invMod p256p q.2.2
    q.2.2 != 0 && (q.1 * i * i % p256p) % p256n == r
  else false

end Sys2Proof.Machine
end

