-- ==== Sys2Proof/Config.lean ====
section
/-! DEFINITION. What is fixed for one device or left open by the manual: the mode table of R40, the contents of the
parts of a schedule set whose byte layout the manual does not give, and the free values. -/

namespace Sys2Proof

/-! ### The modes (R32, R37, R40) -/

/-- The parameters R40 fixes for a mode. -/
structure ModeParams where
  /-- Coarse bins N of the window. -/
  bins    : Nat
  /-- Window W, ticks. -/
  window  : Nat
  /-- Shots n of a column. -/
  shots   : Nat
  /-- Coarse shots c. -/
  coarse  : Nat
  /-- Slot spacing S, ticks. -/
  spacing : Nat
  /-- Dither window D, ticks. -/
  dither  : Nat
  /-- Columns of a frame. -/
  columns : Nat
  /-- Column lengths of a triplet, or of one column, in ENG_CK cycles (R32). -/
  lengths : List Nat
  /-- Fine windows f. -/
  fine    : Nat
  /-- Coincidence depth. -/
  depth   : Nat
  /-- Thresholds are adaptive. -/
  adaptive : Bool
  /-- The signature hops. -/
  hopping : Bool
  /-- Bit k: the class of code k of R127 is assigned. -/
  classes : BitVec 16
  /-- Powered sectors, bit per sector. -/
  sectors : BitVec 8
  deriving DecidableEq, Repr, Inhabited

/-- A mode's parameters by its code (R32, R40); a reserved code has none (R42).
Classes by code: bit 0 target, 1 drizzle, 2 dust, 3 glare, 4 foreign, 5 ghost (R127). -/
def modeParams : Nat → Option ModeParams
  | 0 => some ⟨2048, 163840, 12, 3, 166400, 1280, 1600, [25000], 3, 1, false, false, 0b110001, 0xFF⟩
  | 1 => some ⟨4096, 327680, 24, 6, 330240, 1280, 800, [100000], 2, 1, false, false, 0b110001, 0xFF⟩
  | 2 => some ⟨1024, 81920, 32, 4, 83280, 800, 1500, [33334, 33333, 33333], 2, 1, false, false, 0b110001, 0xFF⟩
  | 3 => some ⟨1024, 81920, 8, 2, 83280, 800, 2400, [8334, 8333, 8333], 4, 1, false, false, 0b110001, 0xFF⟩
  | 4 => some ⟨2048, 163840, 16, 4, 166400, 1280, 1500, [33334, 33333, 33333], 4, 2, false, false, 0b110111, 0xFF⟩
  | 5 => some ⟨2048, 163840, 16, 6, 166400, 1280, 1500, [33334, 33333, 33333], 3, 3, true, false, 0b111001, 0xFF⟩
  | 6 => some ⟨2048, 163840, 16, 4, 166400, 2240, 1500, [33334, 33333, 33333], 3, 2, false, true, 0b110001, 0xFF⟩
  | 7 => some ⟨512, 40960, 4, 2, 43520, 1280, 800, [200000], 1, 1, false, false, 0b110001, 0x3C⟩
  | _ => none

/-- The sweep periods a schedule set may name, ticks (R34, R236). -/
def sweepTicks : Nat → Option Nat
  | 0 => some (us 500)
  | 1 => some (us 1250)
  | 2 => some (us 2500)
  | 3 => some (us 6250)
  | 4 => some (us 12500)
  | _ => none

/-! ### The parts of a schedule set (R238) -/

/-- A Cornice frame that the schedule places in spare line time (R151, R164, R238). -/
structure LineFrame where
  /-- Line. -/
  line  : Nat
  /-- Start, ticks after the column boundary. -/
  start : Nat
  /-- Target string. -/
  str   : Nat
  /-- Register read. -/
  reg   : Byte
  deriving DecidableEq, Repr, Inhabited

/-- One slot of the emission plan (R154, R238). -/
structure SlotPlan where
  /-- Fire mask. -/
  fire : BitVec 64
  /-- Pattern index by string. -/
  pat  : Tab Nat
  deriving DecidableEq, Repr, Inhabited

/-- One column of the emission plan's pattern (R238). -/
structure ColumnPlan where
  /-- The slots, in order. -/
  slots  : List SlotPlan
  /-- The Cornice frame table of the column. -/
  frames : List LineFrame
  deriving DecidableEq, Repr, Inhabited

/-- One entry of the proof table (R164, R238). -/
structure ProofPlan where
  /-- String. -/
  str    : Nat
  /-- Pattern index. -/
  pat    : Nat
  /-- Period in columns. -/
  period : Nat
  /-- Phase in columns. -/
  phase  : Nat
  /-- Slot. -/
  slot   : Nat
  /-- Position of its DIAG read: ticks after the proof's slot start. -/
  diag   : Nat
  deriving DecidableEq, Repr, Inhabited

/-- A mode block (R238). -/
structure ModeBlock where
  /-- The parameters of R40. -/
  params  : ModeParams
  /-- Sweeps of the frame, each of the same number of columns (R34, R238). -/
  sweeps  : Nat
  /-- Axis B target of each sweep of the frame, 1/32,768 ° (R188). -/
  targets : List Int
  /-- The pattern of P columns of the emission plan. -/
  plan    : List ColumnPlan
  /-- The proof table. -/
  proofs  : List ProofPlan
  /-- Shunt masks of the pattern indices, by 64 × string + index; 16 bits each, 0xFFFF where not listed (R149, R152; log entry 131). -/
  pats    : Tab (BitVec 16)
  /-- PW by string, ticks (R141). -/
  pw      : Tab Nat
  /-- PROOF_W by string, ticks (R141). -/
  proofW  : Tab Nat
  /-- COST by string, tokens (R163). -/
  cost    : Tab Nat
  /-- PCOST by string, tokens (R163). -/
  pcost   : Tab Nat
  /-- Base values of the compiled thresholds, TL and TH. -/
  tl      : Nat
  /-- As `tl`, TH. -/
  th      : Nat
  /-- pd_min by sector (R94). -/
  pdMin   : Tab Nat
  deriving DecidableEq, Repr, Inhabited

/-- The classification and acceptance parameters of R128, as the integers they are compiled to. -/
structure ClassParams where
  /-- E_MIN, Q8.4. -/
  eMin       : Nat := 32
  /-- SNR_MIN, Q4.4. -/
  snrMin     : Nat := 48
  /-- MERGE_T, ticks. -/
  mergeT     : Nat := 48
  /-- GHOST_NEAR, ticks. -/
  ghostNear  : Nat := 240
  /-- DUST_MAX, m. -/
  dustMax    : Nat := 40
  /-- DUST_W, 1/16 tick. -/
  dustW      : Nat := 64
  /-- DRIZZLE_MAX, m. -/
  drizzleMax : Nat := 60
  /-- P_DRIZZLE, 1/256. -/
  pDrizzle   : Nat := 154
  /-- CV_DRIZZLE, 1/256. -/
  cvDrizzle  : Nat := 90
  /-- FOREIGN_W, 1/16 tick. -/
  foreignW   : Nat := 112
  /-- P_FOREIGN, 1/256. -/
  pForeign   : Nat := 128
  /-- H_FOREIGN, 1/256. -/
  hForeign   : Nat := 192
  /-- GLARE_AMB, AMB code. -/
  glareAmb   : Nat := 96
  /-- SNR_GLARE, Q4.4. -/
  snrGlare   : Nat := 64
  deriving DecidableEq, Repr, Inhabited

/-- The parameters of R128 in the order of its table. -/
def ClassParams.all (p : ClassParams) : List Nat :=
  [p.eMin, p.snrMin, p.mergeT, p.ghostNear, p.dustMax, p.dustW, p.drizzleMax, p.pDrizzle, p.cvDrizzle, p.foreignW, p.pForeign,
   p.hForeign, p.glareAmb, p.snrGlare]

/-- The accepted ranges of R128. -/
def ClassParams.ok (p : ClassParams) : Bool :=
  let within (lo hi x : Nat) : Bool := lo ≤ x && x ≤ hi
  within 16 1792 p.eMin && within 16 255 p.snrMin && within 0 128 p.mergeT && within 0 1280 p.ghostNear
    && within 1 100 p.dustMax && within 16 152 p.dustW && within 1 100 p.drizzleMax && within 1 255 p.pDrizzle
    && within 1 255 p.cvDrizzle && within 16 152 p.foreignW && within 1 255 p.pForeign && within 1 255 p.hForeign
    && within 0 255 p.glareAmb && within 16 255 p.snrGlare

/-- Threshold base and coefficients of a channel (R63). -/
structure Thr where
  /-- tl_base, codes. -/
  tl : Nat := 8
  /-- th_base, codes. -/
  th : Nat := 24
  /-- kl. -/
  kl : Nat := 0
  /-- kh. -/
  kh : Nat := 0
  deriving DecidableEq, Repr, Inhabited

/-- A sector image (R238). -/
structure SectorImage where
  /-- SLOT_END, cycles (R245). -/
  slotEnd  : Nat
  /-- The program pool, bundles of 128 bits. -/
  programs : List (List (BitVec 128))
  /-- The engine map: pool index of the program of each logical engine. -/
  map      : List Nat
  /-- The bank token table (R244). -/
  tokens   : List (BitVec 64)
  /-- Initial contents of the sector state memory, by byte address (R211). -/
  init     : List (Nat × Byte)
  /-- The parameters of R128. -/
  params   : ClassParams
  /-- Placement of calibration items: offset in the calibration block (R364), bytes, and address in the state memory (R115, R211). -/
  calAt    : List (Nat × Nat × Nat)
  /-- Placement of the parameters of R128, in their order, 32 bits each (R211). -/
  parAt    : List Nat
  /-- Placement of the skew states m, 128 signed 32-bit words by channel of the sector (R122, R211); none: not placed. -/
  skewAt   : Option Nat
  /-- Threshold bases and coefficients by channel of the sector, 0 to 127. -/
  thr      : Tab Thr
  deriving DecidableEq, Repr, Inhabited

/-- A listen entry (R252). -/
structure Listen where
  /-- MODE; 4 bits. -/
  mode    : Nat
  /-- COLUMN; 12 bits. -/
  column  : Nat
  /-- PARTNER; 16 bits. -/
  partner : BitVec 16
  /-- PARTNER_SIG; 4 bits. -/
  sig     : Nat
  /-- PARTNER_SEED; 32 bits. -/
  seed    : Word
  /-- PAIR_DELAY, signed, 1/256 tick; 32 bits. -/
  delay   : Int
  deriving DecidableEq, Repr, Inhabited

/-- An entry of the Ridge slot table (R317). -/
structure RidgeSlot where
  /-- PORT; 2 bits. -/
  port   : Nat
  /-- MODE; 4 bits. -/
  mode   : Nat
  /-- ALLCOL. -/
  allCol : Bool
  /-- COLUMN; 12 bits. -/
  column : Nat
  /-- START, ENG_CK cycles from the boundary; 18 bits. -/
  start  : Nat
  /-- LEN, ENG_CK cycles; 12 bits. -/
  len    : Nat
  /-- DEST; 16 bits. -/
  dest   : BitVec 16
  deriving DecidableEq, Repr, Inhabited

/-- The chain plan slice (R251 to R253, R317). -/
structure Slice where
  /-- PLAN_ID; 32 bits. -/
  planId : Word
  /-- DEVICE; 16 bits. -/
  device : BitVec 16
  /-- EPOCH, chain time in ticks; 64 bits. -/
  epoch  : Nat
  /-- DITHER_SEED; 32 bits. -/
  seed   : Word
  /-- SIG; 4 bits. -/
  sig    : Nat
  /-- The SQUALL hop table. -/
  hops   : List Nat
  /-- The listen entries. -/
  listen : List Listen
  /-- The Ridge slot table. -/
  ridge  : List RidgeSlot
  deriving DecidableEq, Repr, Inhabited

/-- The instructions of the test access port (R505). -/
inductive TapInstr where
  /-- BYPASS. -/
  | bypass
  /-- IDCODE. -/
  | idcode
  /-- SAMPLE/PRELOAD. -/
  | sample
  /-- EXTEST. -/
  | extest
  /-- AC EXTEST of IEEE 1149.6. -/
  | acExtest
  deriving DecidableEq, Repr, Inhabited

/-- The balls of a boundary cell, as R505 tells them apart; RET_P and RET_N have no cell. -/
inductive CellBall where
  /-- EMG, CHG, CORN, PH, GALV or SAFE_OUT: observe-only. -/
  | observed
  /-- A Ridge, host or MON pair: also AC EXTEST. -/
  | pair
  /-- Any other ball. -/
  | plain
  deriving DecidableEq, Repr, Inhabited

namespace Config

/-- The contents of a mode block's bytes; `none` where a field is malformed. The manual gives the contents and no byte
layout (R238, log entry 12). -/
opaque modeBlockOf : List Byte → Option ModeBlock

/-- The contents of a sector image's bytes, as `modeBlockOf` (R238, log entry 12). -/
opaque sectorImageOf : List Byte → Option SectorImage

/-- The kernel library identifiers that the running firmware lists for interface level 3 (R243, reason 0x02; log entry 13). -/
opaque libIds : List Word

/-- A fresh value where the manual states none: the counter `State.free` picks it (log entry 3). -/
opaque freeNat : Nat → Nat

/-- A fresh signed value where the manual states none (log entry 3). -/
opaque freeInt : Nat → Int

/-- A fresh bit where the manual states none (log entry 3). -/
opaque freeBool : Nat → Bool

/-- BOOT_ID drawn from the hardware random source at a boot, by the device clock and boot counter (R348; log entry 14). -/
opaque bootId : Nat → Word

/-- sin of an electrical angle in 1/196,608 turn, a third of the unit of R178 (log entry 15). -/
opaque sine : Nat → Rat

/-- What INTENSITY may be off by: R124 gives it to within ±1 (log entry 16). -/
opaque lsbError : Nat → Int

/-- What a component of a converted L0 sample may be off by: R467 gives it to within ±1 code, by Y, Cb, Cr and the component
(log entry 30). -/
opaque colourError : Nat → Nat → Nat → Nat → Int

/-- How CHAIN.STATUS lays its items out in its 256 bytes: R319 names the items and no layout (log entry 21). -/
opaque chainStatusBytes : List Int → List Byte

/-- How HOST.STATUS lays its items out in its 128 bytes: R368 names the items and no layout (log entry 21). -/
opaque hostStatusBytes : List Int → List Byte

/-- Bits of the instruction register of the test access port: R505 gives no length (log entry 173). -/
opaque tapIrBits : Nat

/-- The instruction that a code of that register selects: R505 gives no code (log entry 173). -/
opaque tapInstrOf : Nat → TapInstr

/-- The boundary cells, in the order of their register: R505 gives no list (log entry 173). -/
opaque tapCells : List CellBall

/-- The level that a boundary cell captures, by a fresh number, the clock and the cell (log entry 173). -/
opaque tapPin : Nat → Nat → Nat → Bool

end Config

end Sys2Proof
end

