-- ==== Sys2Proof/Machine/State.lean ====
section
/-! DEFINITION. The state of the ZPS1024 block as plain data: every register, buffer, counter, mode and pin the spec
gives it, grouped by the unit that holds it, and the queue of waiting commands.
Each field's docstring says what it is, the rule that names it, its width where the spec counts it in bits, and its value at reset
(`-` in front of a reset value: the spec gives none, log entry 2). -/

namespace Sys2Proof.Machine

open Sys2Proof

/-- Why the block stops. The manual gives every command of the table an effect, so no meaning raises one: safe. -/
inductive Fault where
  /-- Raised by no meaning of this model; it stands for a stop the manual does not have: safe. -/
  | stopped
  deriving DecidableEq, Repr

/-- Why a command has no meaning. -/
inductive Refusal where
  /-- Raised by an arm of `exec` whose command has no meaning yet; safe: the model stops where the hardware goes on. -/
  | notModelled (mnemonic : String)
  deriving DecidableEq, Repr


/-! ### Host ports, mailboxes, semaphores, authentication (12, 13) -/

/-- An event record of 32 bytes (R343). -/
structure EventRec where
  /-- CHAIN_TIME: chain time of the event; 64 bits (R343). -/
  ct      : BitVec 64
  /-- EVENT: event code; 16 bits (R343, R373). -/
  event   : BitVec 16
  /-- SRC: Ridge address of the raising device; 16 bits (R343). -/
  src     : BitVec 16
  /-- FAULT: fault code or 0; 16 bits (R343). -/
  fault   : BitVec 16
  /-- SEV: severity; 4 bits (R343, R477). -/
  sev     : BitVec 4
  /-- LOSS: events were lost before this one; 1 bit (R343). -/
  loss    : Bool
  /-- REMOTE: received as an EVT message; 1 bit (R343, R308). -/
  remote  : Bool
  /-- PAYLOAD: E0 at the lowest byte; 128 bits (R343). -/
  payload : BitVec 128
  deriving DecidableEq, Repr

/-- A response slot and the data that goes with it (R334, R352). -/
structure Rsp where
  /-- OPCODE echoed; 16 bits (R334). -/
  opcode  : BitVec 16
  /-- TAG echoed; 16 bits (R334). -/
  tag     : BitVec 16
  /-- STATUS; 8 bits (R334, R358). -/
  status  : Byte
  /-- LCS: lifecycle state at the response; 4 bits (R334). -/
  lcs     : BitVec 4
  /-- FWD: response from another device of the Chain; 1 bit (R334). -/
  fwd     : Bool
  /-- SRC: Ridge address of the responding device; 16 bits (R334). -/
  src     : BitVec 16
  /-- COUNTER echoed; 32 bits (R334). -/
  counter : Word
  /-- RLEN: result bytes written; 32 bits (R334). -/
  rlen    : Nat
  /-- DETAIL; 32 bits (R334, R358). -/
  detail  : Nat
  /-- RESULT: A0 first, 44 bytes, shorter lists read 0 above (R334, R352). -/
  result  : List Byte
  /-- Dout: the data buffer bytes (R352). -/
  dout    : List Byte
  /-- DATA_ADDR of the command, where Dout is written on PCI Express; 64 bits (R334). -/
  addr    : Nat := 0
  deriving DecidableEq, Repr

/-- A multi-part transfer in progress on one mailbox (R356). -/
structure PartXfer where
  /-- OPCODE every part must repeat (R356). -/
  opcode : BitVec 16
  /-- P0 to P15 every part must repeat (R356). -/
  p      : BitVec 128
  /-- PART_TOTAL every part must repeat (R356). -/
  total  : Nat
  /-- The data bytes stored so far, the 64 KiB buffer of the mailbox (R356). -/
  data   : List Byte
  /-- The command in service is a part that breaks the sequence: DETAIL of its first bad field (R356); at first none. -/
  broken : Option Nat := none
  deriving DecidableEq, Repr

/-- A histogram dump armed on a mailbox (R370). -/
structure HistDump where
  /-- Channel dumped (R370). -/
  ch    : Nat
  /-- Columns still to be copied (R370). -/
  left  : Nat
  /-- Bytes copied: chain time of the column and its channel region, column by column (R370). -/
  bytes : List Byte
  deriving DecidableEq, Repr

/-- A command a mailbox has taken and not yet answered (R337). -/
structure Exec where
  /-- The command (R334). -/
  req   : Req
  /-- Source of the datagram on an Ethernet port (R338). -/
  src   : Option Endpoint
  /-- Device clock at its taking (R337). -/
  since : Nat
  /-- Device clock at which its timeout expires (R337). -/
  until_ : Nat
  /-- The dump it waits for, or `none`: it waits for a forwarded response (R370, R307). -/
  dump  : Option HistDump
  /-- Byte 0 of the CMD message that carries or carried it: entry port, mailbox, slot (R307). -/
  b0    : Nat
  /-- The domains that a PWR.SET waits for (R366). -/
  pwr   : Option Nat := none
  deriving DecidableEq, Repr

/-- A command datagram waiting in an Ethernet mailbox (R338). -/
structure EthCmd where
  /-- Source address and port of the datagram (R338). -/
  src  : Endpoint
  /-- The 64-byte slot (R334, R338). -/
  slot : BitVec 512
  /-- The data bytes (R338). -/
  data : List Byte
  /-- Device clock at its arrival (R496). -/
  came : Nat
  deriving DecidableEq, Repr

/-- One mailbox (R334 to R338). -/
structure Mailbox where
  /-- Command ring, 32 slots of 64 bytes, as 512 words (R332); reset -0. -/
  cmdRing : Tab Word := []
  /-- Response ring, 32 slots of 64 bytes, as 512 words (R332); reset -0. -/
  rspRing : Tab Word := []
  /-- CMD_TAIL as last written, INDEX and WRAP; 6 bits (R335); reset 0. -/
  cmdTail : BitVec 6 := 0
  /-- CMD_HEAD; 6 bits (R335); reset 0. -/
  cmdHead : BitVec 6 := 0
  /-- RSP_TAIL; 6 bits (R335); reset 0. -/
  rspTail : BitVec 6 := 0
  /-- RSP_HEAD; 6 bits (R335); reset 0. -/
  rspHead : BitVec 6 := 0
  /-- The CMD_TAIL value read at the last valid doorbell (R336); reset 0. -/
  handed  : BitVec 6 := 0
  /-- Slot number of the next command forwarded from an entry that has no ring slot; 5 bits (R307); reset DESIGN CHOICE 0. -/
  fwdSlot : BitVec 5 := 0
  /-- Device clocks of the doorbells that handed over the slots of the command ring, by slot (R337, R496); reset -0. -/
  rings   : Tab Nat := []
  /-- Device clock of the doorbell or datagram of the command taken last (R337, R496); reset 0. -/
  rangAt  : Nat := 0
  /-- MB_STAT.TAIL_ERR; 1 bit (R335, R336); reset 0. -/
  tailErr : Bool := false
  /-- The command in execution; MB_STAT.EXECUTING (R335, R337); reset none. -/
  exec    : Option Exec := none
  /-- Ethernet command queue, up to 32, oldest first (R338); reset empty. -/
  queue   : List EthCmd := []
  /-- The last 32 responses kept, newest first, with their destination (R338); reset empty. -/
  keep    : List (Endpoint × Rsp) := []
  deriving DecidableEq, Repr

/-- A ring block (R341). -/
structure Ring where
  /-- BASE; 64 bits (R341); reset -0. -/
  base  : BitVec 64 := 0
  /-- CTRL: ENABLE, WB_EN, SIZE 12, INT_UNITS 64, INT_US 50; 32 bits (R341); reset 0x0320_4030. -/
  ctrl  : Word := 0x03204030
  /-- PROD; 32 bits (R341); reset -0. -/
  prod  : Word := 0
  /-- CONS; 32 bits (R341); reset -0. -/
  cons  : Word := 0
  /-- WB; 64 bits (R341); reset -0. -/
  wb    : BitVec 64 := 0
  /-- LOST, saturating; 32 bits (R341); reset -0. -/
  lost  : Word := 0
  /-- The ring delivers: ENABLE has been set and, for a clearing, no column is still in delivery (R341); reset 0. -/
  live  : Bool := false
  /-- Point ring: units written since the last signal (R341); reset 0. -/
  units : Nat := 0
  /-- Point ring: device clock of the first unsignalled unit (R341); reset 0. -/
  first : Nat := 0
  deriving DecidableEq, Repr

/-- The network settings of one port (R328, R369). -/
structure NetCfg where
  /-- IP address; 32 bits (R328); reset 169.254.90.10 on Port A, 169.254.90.11 on Port B. -/
  ip       : Word := 0xA9FE5A0A
  /-- Netmask; 32 bits (R328); reset 255.255.0.0. -/
  mask     : Word := 0xFFFF0000
  /-- Gateway, 0 for none; 32 bits (R328); reset none. -/
  gw       : Word := 0
  /-- VLAN tag on; 1 bit (R328); reset off. -/
  vlan     : Bool := false
  /-- VLAN PCP; 3 bits (R328); reset -0. -/
  pcp      : BitVec 3 := 0
  /-- VLAN VID; 12 bits (R328); reset -0. -/
  vid      : BitVec 12 := 0
  /-- RS-FEC on; 1 bit (R328); reset off. -/
  rsFec    : Bool := false
  /-- Mailbox UDP port; 16 bits (R328); reset 23,040. -/
  mbPort   : BitVec 16 := 23040
  /-- Event destination (R328); reset none. -/
  evDst    : Option Endpoint := none
  /-- Stream destination (R328); reset none. -/
  stDst    : Option Endpoint := none
  /-- Stream units per datagram, 1 to 90 (R328); reset 90. -/
  stUnits  : Nat := 90
  /-- IEEE 1588: 0 off, 1 UDP/IPv4, 2 layer 2; 2 bits (R328); reset off. -/
  ptp      : BitVec 2 := 0
  /-- PTP domain, 0 to 127; 8 bits (R328); reset 0. -/
  ptpDom   : Byte := 0
  deriving DecidableEq, Repr

/-- One ARP cache entry (R327). -/
structure ArpEntry where
  /-- IPv4 address (R327). -/
  ip  : Word
  /-- MAC address; 48 bits (R327). -/
  mac : BitVec 48
  /-- Device clock at which the entry expires, 60 s after it entered (R327). -/
  exp : Nat
  deriving DecidableEq, Repr

/-- A foreign master heard through Announce messages (R329). -/
structure PtpMaster where
  /-- The last Announce of this master (R329). -/
  ann  : PtpAnnounce
  /-- Device clock at its reception (R329, R330). -/
  seen : Nat
  deriving DecidableEq, Repr

/-- The IEEE 1588 slave clock and time map of one port (R329, R330). -/
structure Ptp where
  /-- Masters heard, newest first (R329); reset empty. -/
  masters : List PtpMaster := []
  /-- The best master chosen (R329); reset none. -/
  best    : Option (BitVec 80) := none
  /-- A Sync waiting for its Follow_Up: sequence number and chain time of arrival (R329); reset none. -/
  sync    : Option (BitVec 16 × Nat) := none
  /-- Syncs from the best master in a row, up to 8 (R330); reset 0. -/
  syncs   : Nat := 0
  /-- Device clock of the last Sync (R330); reset 0. -/
  lastSync : Nat := 0
  /-- prev: t1 and t2 of the last Follow_Up whose rate was taken, t2 in ticks (R330); reset none. -/
  prev    : Option (Nat × Nat) := none
  /-- rate: filtered rate offset, signed, 2^−40 (R330, R332); reset -0. -/
  rate    : Int := 0
  /-- d: mean path delay, ns of PTP time (R330); reset -0. -/
  delay   : Int := 0
  /-- A Delay_Req sent and unanswered: sequence number and chain time t3 (R329); reset none. -/
  req     : Option (BitVec 16 × Nat) := none
  /-- Sequence number of the next Delay_Req; 16 bits (R329); reset -0. -/
  reqSeq  : BitVec 16 := 0
  /-- logMinDelayReqInterval the master gave (R329); reset -0. -/
  logReq  : Int := 0
  /-- Device clock from which the next Delay_Req is due (R329); reset 0. -/
  reqDue  : Nat := 0
  /-- t1 and t2 of the last completed Sync, for the delay computation (R329); reset none. -/
  last    : Option (Nat × Nat) := none
  /-- The map is VALID (R330); reset 0. -/
  valid   : Bool := false
  /-- C0: chain time of the map, ticks; 64 bits (R330, R332); reset -0. -/
  c0      : Nat := 0
  /-- P0: PTP time of the map, ns (R330, R332); reset -0. -/
  p0      : Int := 0
  /-- Device clock of the last EV_TIME_MAP while valid (R330); reset 0. -/
  told    : Nat := 0
  deriving DecidableEq, Repr

/-- One host port (R323 to R343). -/
structure HostSt where
  /-- The four mailboxes (R335). -/
  mbs     : Tab Mailbox := []
  /-- Point ring block (R341). -/
  points  : Ring := {}
  /-- Event ring block (R341). -/
  events  : Ring := {}
  /-- INT_MAP; 32 bits (R340); reset 0x0A41_8820. -/
  intMap  : Word := 0x0A418820
  /-- INT_STAT, W1C; 32 bits (R332); reset -0. -/
  intStat : Word := 0
  /-- FAB_CK cycle in which a bit of INT_STAT was last set, and the bits set in it (R7); reset 0. -/
  intAt   : Nat := 0
  /-- As `intAt`, the bits (R7); reset 0. -/
  intNew  : Word := 0
  /-- MSI-X table, 128 words (R332); reset -0. -/
  msix    : Tab Word := []
  /-- MSI-X PBA; 32 bits (R332); reset -0. -/
  pba     : Word := 0
  /-- CT_LATCH; 64 bits (R331, R332); reset -0. -/
  ctLatch : BitVec 64 := 0
  /-- Device clock of the last MSI-X messages, and their vectors (R340); reset 0. -/
  msiAt   : Nat := 0
  /-- As `msiAt`, the vectors; 32 bits (R340); reset 0. -/
  msiVecs : Word := 0
  /-- MSI-X Enable of the configuration space (R325); reset -1 (log entry 167). -/
  msixOn  : Bool := true
  /-- MSI-X Function Mask of the configuration space (R325); reset -0. -/
  fnMask  : Bool := false
  /-- The function is in D3hot (R325, R326); reset 0: D0. -/
  d3      : Bool := false
  /-- Negotiated PCI Express rate: 0 16, 1 8, 2 5, 3 2.5 GT/s (R325, R368); reset 0. -/
  rate    : Nat := 0
  /-- Negotiated PCI Express width: 0 ×4, 1 ×2, 2 ×1 (R325); reset 0. -/
  width   : Nat := 0
  /-- The link is up (R448, R473); reset 0. -/
  linkUp  : Bool := false
  /-- Host PERST_N is asserted (R448); reset 0. -/
  perst   : Bool := false
  /-- Events held until the delivery path first opens, oldest first, up to 64 (R343); reset empty. -/
  held    : List EventRec := []
  /-- The delivery path has opened in this boot (R343); reset 0. -/
  opened  : Bool := false
  /-- Events were lost: the next record carries LOSS (R343); reset 0. -/
  lossDue : Bool := false
  /-- Ethernet: event records waiting for their datagram, oldest first (R343); reset empty. -/
  evQ     : List EventRec := []
  /-- Ethernet: device clock of the first waiting event record (R343); reset 0. -/
  evAt    : Nat := 0
  /-- Network settings in force (R328). -/
  net     : NetCfg := {}
  /-- New network settings and the device clock at which they take force (R328); reset none. -/
  netNew  : Option (NetCfg × Nat) := none
  /-- ARP cache, 16 entries, newest first (R327); reset empty. -/
  arp     : List ArpEntry := []
  /-- IEEE 1588 slave clock (R329). -/
  ptp     : Ptp := {}
  /-- Frames and datagrams discarded (R327, R368); reset -0. -/
  discards : Nat := 0
  /-- Ethernet stream queue: units waiting (R342); reset 0. -/
  streamQ : Nat := 0
  /-- Ethernet: stream datagrams whose next hop is not resolved, oldest first (R327); reset empty. -/
  streamWait : List (Endpoint × List Byte) := []
  /-- Ethernet: device clock up to which the stream queue has been emptied (R342); reset 0. -/
  streamAt : Nat := 0
  /-- Ethernet: stream datagram sequence number; 32 bits (R342); reset -0. -/
  streamSeq : Word := 0
  /-- Ethernet: columns not delivered on this port (R342); reset -0. -/
  streamLost : Nat := 0
  /-- The last column was delivered on this port (R342); reset 1. -/
  delivered : Bool := true
  deriving DecidableEq, Repr

/-- One hardware semaphore (R344, R345). -/
structure Sem where
  /-- Owner: a port of this device or a forwarded pair (R344); reset none. -/
  owner : Option Entry := none
  /-- LEASE, 100 ms units; 8 bits (R344); reset 20. -/
  lease : Byte := 20
  /-- Device clock at which the lease ends (R345); reset 0. -/
  exp   : Nat := 0
  deriving DecidableEq, Repr

/-- Authentication state of one port or forwarded pair (R349, R350). -/
structure Auth where
  /-- Last accepted counter of each key slot; 32 bits each (R349); reset 0. -/
  counters : Tab Word := []
  /-- Consecutive failures at steps 5 and 6 (R350); reset 0. -/
  fails    : Nat := 0
  /-- Device clock at which the lockout ends (R350); reset none. -/
  lockUntil : Option Nat := none
  /-- Lockouts counted in HOST.STATUS (R350); reset -0. -/
  lockouts : Nat := 0
  deriving DecidableEq, Repr


/-! ### Faults, retirement and health monitors (18) -/

/-- A unit a fault charges: the kind and index of R478. -/
structure UnitId where
  /-- Unit kind; 8 bits (R478). -/
  kind : Nat
  /-- Unit index; 16 bits (R478). -/
  idx  : Nat
  deriving DecidableEq, Repr

/-- An entry of the fault log (R370, R482). -/
structure LogEntry where
  /-- Chain time; 64 bits (R370). -/
  ct     : Nat
  /-- Fault code; 16 bits (R370). -/
  code   : BitVec 16
  /-- Severity; 8 bits (R370, R477). -/
  sev    : Nat
  /-- Unit charged (R370, R478). -/
  unit   : UnitId
  /-- Upsets of the unit in 10 s, this fault included; 8 bits (R370, R482). -/
  upsets : Nat
  deriving DecidableEq, Repr

/-- An active fault (R481). -/
structure Active where
  /-- Fault code (R481). -/
  code : BitVec 16
  /-- Unit charged (R481). -/
  unit : UnitId
  /-- Device clock of the last observation (R481). -/
  seen : Nat
  deriving DecidableEq, Repr

/-- The statistics of one health monitor (R491, R495). -/
structure Stats where
  /-- Minimum, signed 32 bits (R495); reset 0x7FFF_FFFF. -/
  min   : Int := 0x7FFFFFFF
  /-- Maximum, signed 32 bits (R495); reset 0x8000_0000. -/
  max   : Int := -0x80000000
  /-- Sample count, saturating; 32 bits (R495); reset 0. -/
  count : Nat := 0
  /-- Sum of samples, signed 64 bits (R495); reset 0. -/
  sum   : Int := 0
  /-- Out-of-limit count, saturating; 32 bits (R494, R495); reset 0. -/
  out   : Nat := 0
  /-- Counts of the 32 bins, saturating; 32 bits each (R493, R495); reset 0. -/
  bins  : Tab Nat := []
  deriving DecidableEq, Repr

/-- One health monitor (R491 to R495). -/
structure Monitor where
  /-- The configuration word of HEALTH.CONFIG; 256 bits (R492); reset 0 (off). -/
  cfg    : BitVec 256 := 0
  /-- Running statistics (R491). -/
  run    : Stats := {}
  /-- The last completed window (R491). -/
  done   : Stats := {}
  /-- Window number since configuration; 32 bits (R495); reset 0. -/
  window : Nat := 0
  /-- Device clock at which the running window began (R491); reset 0. -/
  start  : Nat := 0
  /-- The lower limit is armed (R494, R495); reset 0. -/
  armMin : Bool := false
  /-- The upper limit is armed (R494, R495); reset 0. -/
  armMax : Bool := false
  /-- Device clock of the last EV_HEALTH_LIMIT for the lower and the upper limit (R494); reset none. -/
  toldMin : Option Nat := none
  /-- As `toldMin`, for the upper limit (R494); reset none. -/
  toldMax : Option Nat := none
  deriving DecidableEq, Repr

/-- The fault bookkeeping of the device (R477 to R489). -/
structure Faults where
  /-- The last 256 faults, newest first (R482); reset empty at power-on, the 16 newest kept at a reset. -/
  log     : List LogEntry := []
  /-- Faults active now (R481); reset empty. -/
  active  : List Active := []
  /-- Instants of the upsets of each unit within 10 s, on the device clock, newest first (R483); reset empty. -/
  upsets  : List (UnitId × List Nat) := []
  /-- Units whose retirement fell due and has not taken effect (R485, R497); reset empty. -/
  due     : List UnitId := []
  /-- Units retired, in the order of their retirement (R485, R489); reset empty. -/
  retired : List UnitId := []
  /-- Replace reasons set, bit r; 16 bits (R487, R489); reset 0, then the service record (R488). -/
  reasons : BitVec 16 := 0
  /-- Replace reasons and indices not yet in the flash service record (R488); reset empty. -/
  toRecord : List (Nat × Nat) := []
  /-- SVC_REQ_N is driven low (R488); reset 0. -/
  svcReq  : Bool := false
  /-- Faults of BOOT to report when the mailboxes open, oldest first (R479, R354); reset empty. -/
  bootHeld : List LogEntry := []
  /-- Corrected errors within 3,600 s: device clock and tile, 64 for the device alone (R487); reset empty. -/
  corrected : List (Nat × Nat) := []
  /-- Units that have charged an upset in the column in progress: code class key and unit (R110, R233, R248, R287); reset empty. -/
  colUpsets : List UnitId := []
  /-- The 64 health monitors (R491). -/
  monitors : Tab Monitor := []
  /-- Corrected errors since the last one-second sample, by source index 0 to 66 (R496); reset 0. -/
  corrSec : Tab Nat := []
  deriving DecidableEq, Repr


/-! ### Modes, columns and changes (02) -/

/-- What a column is for (R46, R50, R129, R132). -/
inductive ColKind where
  /-- A measured home column. -/
  | home
  /-- A measured listen column (R129). -/
  | listen
  /-- The drain of a mode change (R46). -/
  | drain
  /-- The prime column (R46, R50). -/
  | prime
  deriving DecidableEq, Repr

/-- A column of the running schedule (R32, R35). -/
structure Column where
  /-- What the column is for (R46, R129). -/
  kind    : ColKind
  /-- Chain time of its start boundary (R33). -/
  start   : Nat
  /-- Chain time of its end boundary (R32). -/
  stop    : Nat
  /-- Mode code (R42). -/
  mode    : Nat
  /-- FRAME (R47, R133). -/
  frame   : Nat
  /-- COLUMN within the frame (R47, R133). -/
  col     : Nat
  /-- VARIANT, 2 bits per sector (R133). -/
  variants : BitVec 16
  /-- CONTRIB as powered and unretired at the start (R133). -/
  contrib : BitVec 8
  /-- First measured column after MODE.START or a mode change (R133). -/
  settling : Bool
  /-- The frame is partial from its start: D was no frame start (R47). -/
  partialFrame : Bool
  /-- DEGRADED RUN at the column start (R133). -/
  degraded : Bool
  /-- Ridge address of the partner of a listen column (R129, R131). -/
  partner : BitVec 16
  /-- ANGLE_A and ANGLE_B sampled at the reference instant (R134); reset 0 until sampled. -/
  angleA  : Nat
  /-- As `angleA`, axis B, signed 1/32,768 ° (R134). -/
  angleB  : Int
  /-- The axis angles have been sampled (R134). -/
  sampled : Bool
  /-- Device clock of the reference instant, while ANGLE_A awaits the edge that follows it (R134, R177). -/
  refAt  : Option Nat := none
  /-- The island's count of axis A since its index, sampled at the reference instant (R386); reset 0 until sampled. -/
  islA    : Int := 0
  /-- The island's axis B angle sampled with it, 1/32,768 ° (R386). -/
  islB    : Int := 0
  /-- Emission permission has been in force since the start boundary (R132). -/
  permitted : Bool
  /-- Columns of its mode's grid between the schedule epoch and its start boundary (R142). -/
  index   : Nat
  deriving DecidableEq, Repr

/-- A mode change or start in progress (R45, R46, R50). -/
structure Change where
  /-- A MODE.START, without drain (R50). -/
  isStart : Bool
  /-- The new mode code. -/
  mode    : Nat
  /-- T, chain time, 0 for none (R48). -/
  t       : Nat
  /-- Chain time of acceptance (R45). -/
  accepted : Nat
  /-- Sectors that the warm-up powers (R45). -/
  powering : BitVec 8
  /-- Warm-up has ended and B is fixed (R45). -/
  warm    : Bool
  /-- B (R45, R46). -/
  b       : Nat
  /-- D (R46). -/
  d       : Nat
  deriving DecidableEq, Repr

/-- An orderly stop in progress (R362). -/
structure Stop where
  /-- E0 of EV_STOPPED: 0 MODE.STOP, 1 thermal manager (R373). -/
  cause   : Nat
  /-- Device clock at acceptance (R362). -/
  since   : Nat
  /-- The stop ends a start before its first measured column (R51). -/
  noColumn : Bool
  /-- The last measured column has ended (R362). -/
  ended   : Bool
  /-- The end header has been written (R362). -/
  header  : Bool
  /-- Heads that have reported DRAINED (R362). -/
  drained : BitVec 64
  /-- It was accepted in DEGRADED RUN, or by the thermal manager: it ends in SAFE HOLD (R29, R424). -/
  toHold  : Bool
  deriving DecidableEq, Repr

/-- Mode, column and stop state (R32 to R51, R359). -/
structure ModeSt where
  /-- MODE.STATUS A0: mode in force or last run, 0xFF when none since boot; 8 bits (R359); reset 0xFF. -/
  mode    : Nat := 0xFF
  /-- The column in progress (R18); reset none. -/
  cur     : Option Column := none
  /-- The column whose sets the sectors hold (R18); reset none. -/
  prev    : Option Column := none
  /-- The change or start in progress (R49); reset none. -/
  change  : Option Change := none
  /-- The orderly stop in progress (R362); reset none. -/
  stop    : Option Stop := none
  /-- B of the last change or start; 64 bits (R359); reset 0. -/
  lastB   : Nat := 0
  /-- D of the last change or start; 64 bits (R359); reset 0. -/
  lastD   : Nat := 0
  /-- Frame number; 32 bits (R47); reset -0. -/
  frame   : Nat := 0
  /-- The frame that the change in progress cut short, once warm-up has ended (R47); reset none. -/
  cutFrame : Option Nat := none
  /-- FRAME of the last measured column; 32 bits (R359); reset 0. -/
  lastFrame : Nat := 0
  /-- COLUMN of the last measured column; 16 bits (R359); reset 0. -/
  lastCol : Nat := 0
  /-- Chain time of the boundary that ended the last measured column (R132); reset -0. -/
  lastEnd : Nat := 0
  /-- MODE of the last measured column (R132); reset -0. -/
  lastMode : Nat := 0
  /-- Code of the last mode that ran, 0xFF for none (R359); reset 0xFF. -/
  ranMode : Nat := 0xFF
  /-- Chain time of the last boundary of the grid that passed while no column ran (R107); reset -0. -/
  idleAt  : Nat := 0
  /-- A measured column has run since the MODE.START (R132); reset 0. -/
  measured : Bool := false
  /-- Measured columns since MODE.START (R69); reset 0. -/
  count   : Nat := 0
  /-- VARIANT of each sector, 2 bits each; 16 bits (R43, R359); reset -0. -/
  variants : BitVec 16 := 0
  /-- The sectors have begun the run on the sets of `prev` (R205); reset 1. -/
  ran     : Bool := true
  /-- The decision instant of the column in progress has passed (R66); reset 0. -/
  decided : Bool := false
  /-- Cycle −1 of the column in progress has passed (R104); reset 0. -/
  checked : Bool := false
  deriving DecidableEq, Repr


/-! ### Front end, tiles and kernels (03, 04, 05) -/

/-- A rise accepted by a channel in the shot being timed, with its fall (R83, R84). -/
structure Event where
  /-- t: time of flight of the L-path rise, ticks (R82). -/
  t    : Nat
  /-- Time of flight of the paired L-path fall, ticks (R83, R84). -/
  fall : Option Nat
  /-- What the error code shows at the words that the event adds to where it qualifies (R109). -/
  ecc  : AddEcc := {}
  deriving DecidableEq, Repr

/-- One interpolator of a channel TDC (R85, R86). -/
structure Interp where
  /-- Hits per stage, 40 counts (R85); reset -0. -/
  hits  : Tab Nat := []
  /-- The correction table in force, 40 ticks; empty: the nominal table (R85); reset -nominal. -/
  table : List Nat := []
  /-- A new table waiting for the next column boundary (R85); reset none. -/
  next  : Option (List Nat) := none
  /-- Device clock at the installation of the table in force (CAL_AGE, R101); reset -0. -/
  since : Nat := 0
  /-- Time that the tile's calibration pulser had run when the count last restarted, ticks (R85, R87); reset 0. -/
  mark  : Nat := 0
  deriving DecidableEq, Repr

/-- One channel: front end and TDC (R57 to R84). -/
structure Chan where
  /-- Gain tag in force; 2 bits (R56, R78); reset 0b11. -/
  gain     : Nat := 3
  /-- Gain decided for the next column; 2 bits (R58); reset -0b11. -/
  gainNext : Nat := 3
  /-- The column in progress is the first at a new gain (R59, R101); reset 0. -/
  settling : Bool := false
  /-- TL in force, codes (R61, R63); reset -8, the lowest of R62. -/
  tl       : Nat := 8
  /-- TH in force, codes (R61, R63); reset -24, the lowest of R62. -/
  th       : Nat := 24
  /-- AMB of the last column; 8 bits (R65, R78); reset 0x00. -/
  amb      : Byte := 0
  /-- Last column blinded; 1 bit (R67, R78); reset 0. -/
  blinded  : Bool := false
  /-- By slot of the column, RD_HI fired in its listening window (R57); 32 bits; reset 0. -/
  rdHi     : BitVec 32 := 0
  /-- As `rdHi`, RD_LO (R57); reset 0. -/
  rdLo     : BitVec 32 := 0
  /-- h: shots of the last decided column in which RD_HI fired (R57, R58); reset 0. -/
  h        : Nat := 0
  /-- l: shots of the last decided column in which RD_LO fired (R57, R58); reset 0. -/
  l        : Nat := 0
  /-- Failed checks in a row (R70); reset 0. -/
  failRun  : Nat := 0
  /-- CHECK_FAILS since power-on, saturating; 16 bits (R78); reset 0x0000. -/
  fails    : Nat := 0
  /-- Active stuck-active samples in a row (R70); reset 0. -/
  stuckRun : Nat := 0
  /-- The L path's last accepted rise, timestamp in ticks (R83); reset none. -/
  lastL    : Option Nat := none
  /-- The H path's last accepted rise (R83); reset none. -/
  lastH    : Option Nat := none
  /-- The last L-path rise was lost, so its fall is ignored (R83); reset 0. -/
  lostL    : Bool := false
  /-- The last H-path rise was lost, so its fall is ignored (R83); reset 0. -/
  lostH    : Bool := false
  /-- The L path's last accepted rise has no fall yet (R83); reset 0. -/
  openL    : Bool := false
  /-- As `openL`, H path (R83); reset 0. -/
  openH    : Bool := false
  /-- The L path's events of the shot in progress, oldest first (R91); reset empty. -/
  evs      : List Event := []
  /-- Times of flight of the H path's rises of the shot in progress (R91); reset empty. -/
  hs       : List Nat := []
  /-- The L-path interpolator (R81, R85). -/
  intL     : Interp := {}
  /-- The H-path interpolator (R81, R85). -/
  intH     : Interp := {}
  /-- The front end is powered down by retirement (R71); reset 0. -/
  down     : Bool := false
  deriving DecidableEq, Repr

/-- Who owns a buffer set (R103, R108, R111). -/
inductive Owner where
  | tile | sector | parked | none | both
  deriving DecidableEq, Repr

/-- One buffer set of a tile (R99). -/
structure BufSet where
  /-- Owner (R103); reset tile for set 0 and sector for set 1 (R111). -/
  owner  : Owner := .tile
  /-- Epoch (R102); reset -0. -/
  epoch  : Nat := 0
  /-- The 160 KiB of the set, by byte offset; an unlisted byte reads 0 (R99, R102); reset nothing listed. -/
  mem    : List Host.Cell := []
  /-- Offsets of poisoned 64-bit words (R109, R212); reset empty. -/
  poison : List Nat := []
  deriving DecidableEq, Repr

/-- One tile (R81, R99, R103). -/
structure Tile where
  /-- Set 0 (R99). -/
  set0    : BufSet := {}
  /-- Set 1 (R99). -/
  set1    : BufSet := { owner := .sector }
  /-- The DLL is locked (R89); reset -1. -/
  locked  : Bool := true
  /-- Lock was lost in the column in progress, or not yet regained at a boundary (R89); reset 0. -/
  discard : Bool := false
  /-- The candidates of the column are chosen (R39, R94); reset 0. -/
  chosen  : Bool := false
  deriving DecidableEq, Repr

/-- The kernel results of one column, waiting for delivery (R19, R133). -/
structure Result where
  /-- The column (R133). -/
  col      : Column
  /-- Return records by sector, in stream order within the sector (R135). -/
  recs     : Tab (List (BitVec 128))
  /-- SECTOR_LOST; 8 bits (R133). -/
  lost     : BitVec 8
  /-- CHANNEL_LOST; 8 bits (R133). -/
  chanLost : BitVec 8
  /-- SUPPRESSED of the header (R133). -/
  suppressed : Bool
  /-- Sectors whose processing slot has ended (R19, R247). -/
  ended    : BitVec 8
  /-- An end header: END_CAUSE, or none for a measured column (R132). -/
  endCause : Option Nat
  /-- Channels that are valid for the zone comparator by their region's record and their mask, before SECTOR_LOST (R386). -/
  valid    : BitVec 1024 := 0
  /-- Channels retired while the column ran (R71, R124). -/
  retired  : BitVec 1024 := 0
  /-- The zone comparator has evaluated the column (R387). -/
  evaluated : Bool := false
  /-- The column has been delivered to the ports (R342). -/
  delivered : Bool := false
  deriving DecidableEq, Repr

/-- A listen column's slot report (R130, R315). -/
structure SlotReport where
  /-- Chain time of the column it reports (R315). -/
  start : Nat
  /-- MODE: the partner's mode code; 4 bits (R315). -/
  mode  : Nat
  /-- The partner's suppressed shots (R130). -/
  suppressed : Nat
  deriving DecidableEq, Repr

/-- Front-end, tile and kernel state (R53 to R136). -/
structure Front where
  /-- Front-end configuration words as written, per sector; 32 bits (R73); reset 0x0000_039C. -/
  cfgSet   : Tab Word := []
  /-- Front-end configuration words in force, per sector; 32 bits (R73, R77); reset 0x0000_039C. -/
  cfg      : Tab Word := []
  /-- Trim words as written, per channel; 32 bits (R75); reset 0. -/
  trimSet  : Tab Word := []
  /-- Trim words in force, per channel; 32 bits (R75, R77); reset 0. -/
  trim     : Tab Word := []
  /-- The 1,024 channels. -/
  chans    : Tab Chan := []
  /-- The 64 tiles. -/
  tiles    : Tab Tile := []
  /-- Point configuration word as written; 32 bits (R117); reset 0x000F_010E. -/
  pointSet : Word := 0x000F010E
  /-- Point configuration word in force; 32 bits (R117, R118); reset 0x000F_010E. -/
  point    : Word := 0x000F010E
  /-- K in force; 32 bits (R123); reset -613,809, the K of AIR_PPM 270. -/
  k        : Nat := 613809
  /-- Sensor calibration block read at boot or accepted by CAL.LOAD, for the next MODE.START (R116, R426); reset none. -/
  calSet   : Option (List Byte) := none
  /-- Sensor calibration block in force, 12,596 bytes; none: the defaults of R116; reset none. -/
  cal      : Option (List Byte) := none
  /-- Skew state m per channel, 1/256 tick; none: CHK0 (R122, R517); reset none. -/
  skew     : Tab (Option Int) := []
  /-- CHK0 learnt per channel where no calibration block is present, 1/256 tick (R116, R517); reset none learnt. -/
  chk0     : Tab (Option Nat) := []
  /-- Columns waiting for delivery, oldest first (R19, R342). -/
  results  : List Result := []
  /-- Slot reports received, newest first (R130). -/
  reports  : List SlotReport := []
  /-- RETIRED of the status words: channels retired at the last decision instant; 1,024 bits (R78); reset 0. -/
  seenRet  : BitVec 1024 := 0
  /-- MASKED of the status words: masks in force at the last decision instant; 1,024 bits (R78); reset 0. -/
  seenMask : BitVec 1024 := 0
  /-- UPSETS of the status words: upsets within 10 s at the last decision instant, 0 to 3, by channel (R78); reset 0. -/
  seenUps  : Tab Nat := []
  deriving DecidableEq, Repr


/-! ### Emission: strings, heads and the exposure ledger (06) -/

/-- The last shot driven on a string (R141). -/
structure Pulse where
  /-- Chain time of the first gate pulse's rise (R139). -/
  rise  : Nat
  /-- σ, ticks (R142). -/
  sigma : Nat
  /-- Length of the first pulse, ticks (R141). -/
  w1    : Nat
  /-- Length of the second pulse, ticks (R141). -/
  w2    : Nat
  /-- A proof shot (R141). -/
  proof : Bool
  /-- Emitters lit; 16 bits (R161). -/
  lit   : BitVec 16
  deriving DecidableEq, Repr

/-- One string with its reservoir and head (R138 to R168). -/
structure Strng where
  /-- Sensed reservoir voltage, 0.1 V; 16 bits (R156, R365); reset -0. -/
  rsv      : Nat := 0
  /-- Target v, 0.1 V; 16 bits (R158, R365); reset -0. -/
  v        : Nat := 0
  /-- CHG[s] is high (R156); reset 0. -/
  chg      : Bool := false
  /-- Device clock at which CHG[s] last went high (R159); reset 0. -/
  chgSince : Nat := 0
  /-- CHG[s] is held low after 0x4009 (R159); reset 0. -/
  chgHeld  : Bool := false
  /-- Number of emitters fitted, bits 31:24 of HEAD_ID as last read (R152, R161); reset -16. -/
  fitted   : Nat := 16
  /-- SUSPECT (R167); reset 0. -/
  suspect  : Bool := false
  /-- ESNS was seen on the proof of a SUSPECT string (R167); reset none driven. -/
  suspProof : Option Bool := none
  /-- The emitters a driven proof lit, waiting for its DIAG read; 16 bits (R165); reset none. -/
  proofLit : Option (BitVec 16) := none
  /-- SUSPEND of the head as the device has set it, from the DIAG read on and before the WRITE reaches the head (log entry 157); 16 bits (R152,
  R161, R165); reset 0. -/
  suspend  : BitVec 16 := 0
  /-- Positions that the head declares retired in its RETIRE register, as last read, beside those the device retired; 16 bits (R138, R152);
  reset none read. -/
  declared : Option (BitVec 16) := none
  /-- The head's registers as its replies last gave them, by address; 32 bits each (R148, R152); reset none given. -/
  regs     : Tab Word := []
  /-- RETIRE of the head as the device wrote it; 16 bits (R152, R168); reset 0. -/
  retire   : BitVec 16 := 0
  /-- HEAD_CTRL.DRAIN as the device wrote it (R152, R157); reset 0. -/
  drain    : Bool := false
  /-- DRAINED in the head's last reply (R148); reset 0. -/
  drained  : Bool := false
  /-- Shots debited since the last refill tick (R162); reset 0. -/
  debited  : Nat := 0
  /-- Pulse pairs the gate monitor observed since the last refill tick (R162); reset 0. -/
  driven   : Nat := 0
  /-- Shots cancelled since the last refill tick (R155, R162); reset 0. -/
  cancelled : Nat := 0
  /-- Debits not yet driven or cancelled at the last tick (R162); reset 0. -/
  carried  : Nat := 0
  /-- Suppressed string-shots; 32 bits (R161, R365); reset -0. -/
  supTotal : Nat := 0
  /-- Cancelled shots; 32 bits (R155, R365); reset -0. -/
  canTotal : Nat := 0
  /-- Suppressed string-shots since the last refill tick (R496); reset 0. -/
  supTick  : Nat := 0
  /-- The last shot driven (R140, R141); reset none. -/
  last     : Option Pulse := none
  /-- A pulse of the string drives EMG[s] until this chain time (R139); reset 0. -/
  emgUntil : Nat := 0
  deriving DecidableEq, Repr

/-- A Cornice register access waiting for its reply (R148). -/
structure Access where
  /-- Target string (R138, R148). -/
  str   : Nat
  /-- Register; 8 bits (R152). -/
  reg   : Byte
  /-- Data of a WRITE; none for a READ (R146). -/
  wdata : Option Word
  /-- Device clock at which the reply window closes (R148). -/
  close : Nat
  deriving DecidableEq, Repr

/-- An access that the device owes a head (R157, R165, R168, R170). -/
structure Owed where
  /-- String (R138). -/
  str   : Nat
  /-- Register; 8 bits (R152). -/
  reg   : Byte
  /-- A WRITE; else the READ that verifies one (R170). -/
  write : Bool
  /-- Device clock since which it is owed: a RETIRE bit reaches its head within 1 ms (R168). -/
  since : Nat
  deriving DecidableEq, Repr

/-- One Cornice line (R144 to R151). -/
structure Line where
  /-- Device clock of the start of the last SHOT or HOLD frame (R150); reset 0. -/
  lastFrame : Nat := 0
  /-- Device clock at which the last frame ended (R151); reset 0. -/
  frameEnd  : Nat := 0
  /-- Device clock at which the last reply window ends (R148); reset 0. -/
  windowEnd : Nat := 0
  /-- The READ or WRITE whose reply window is open (R148); reset none. -/
  pending   : Option Access := none
  deriving DecidableEq, Repr

/-- The proof shot of SERVICE.PROOF (R360). -/
structure ServProof where
  /-- String (R359). -/
  str    : Nat
  /-- Pattern index (R359). -/
  pat    : Nat
  /-- Mode code whose PROOF_W, PW and PCOST apply (R359). -/
  mode   : Nat
  /-- Chain time of its service grid slot (R360). -/
  slot   : Nat
  /-- Its SHOT frame has left, or its instant has passed without permission (R154, R360); reset 0. -/
  framed : Bool := false
  /-- The ledger's decision, once it has fallen: paid, or suppressed (R161, R360); reset none. -/
  paid   : Option Bool := none
  /-- None until the slot; then whether it was driven (R360). -/
  driven : Option Bool
  deriving DecidableEq, Repr

/-- The emission unit (R138 to R171). -/
structure Emit where
  /-- Emission word as written; 32 bits (R170); reset 0x1464_3C46. -/
  wordSet  : Word := 0x14643C46
  /-- Emission word in force; 32 bits (R170); reset 0x1464_3C46. -/
  word     : Word := 0x14643C46
  /-- String words as written; 32 bits each (R170); reset 0x00FC_4000. -/
  strSet   : Tab Word := []
  /-- String words in force; 32 bits each (R170); reset 0x00FC_4000. -/
  strWord  : Tab Word := []
  /-- The 64 strings. -/
  strs     : Tab Strng := []
  /-- Accesses owed to the heads, oldest first (R157, R165, R168, R170); reset empty. -/
  owed     : List Owed := []
  /-- The 8 Cornice lines. -/
  lines    : Tab Line := []
  /-- Share records of strings 0 to 63 and, as record 64, the device; 128 bits each (R163); reset 0. -/
  shares   : Tab (BitVec 128) := []
  /-- PATTERN[p] of each head as the device wrote it, by 64 × string + p; 16 bits each (R149, R152); reset 0xFFFF. -/
  patReg   : Tab (BitVec 16) := []
  /-- Levels of the emitter buckets, 1,024; 24 bits each (R160); reset 0. -/
  bEm      : Tab Nat := []
  /-- Levels of the string buckets, 64; 24 bits each (R160); reset 0. -/
  bStr     : Tab Nat := []
  /-- Level of the device bucket; 24 bits (R160); reset 0. -/
  bDev     : Nat := 0
  /-- Index of the refill tick last done: chain time divided by 6,400,000 (R160); reset 0. -/
  tick     : Nat := 0
  /-- Index of the refill tick whose refill has been applied: before a debit that came first in its cycle, or with the tick (R160); reset
  0. -/
  refilled : Nat := 0
  /-- Device clock of the last diagnosis of each emitter; 0 undefined, else clock + 1 (R166); reset undefined. -/
  diagAt   : Tab Nat := []
  /-- Emitters that run on half share from the next tick; 0 unless diagnosed and not aged (R160, R166): emitters diagnosed
  at the last tick; reset none. -/
  fullShare : Tab Bool := []
  /-- Slot of the column that the sequencer works on next (R154); reset 0. -/
  slot     : Nat := 0
  /-- The SHOT frame of that slot has been sent (R154); reset 0. -/
  framed   : Bool := false
  /-- The ledger decision of that slot has been taken (R154); reset 0. -/
  decided  : Bool := false
  /-- Strings debited for that slot; 64 bits (R154, R161); reset 0. -/
  debits   : BitVec 64 := 0
  /-- Strings whose shot in that slot is a proof; 64 bits (R154, R167); reset 0. -/
  proofs   : BitVec 64 := 0
  /-- Shunt pattern index of each string in that slot (R154); reset 0. -/
  pats     : Tab Nat := []
  /-- Slots of the column whose listening window a suppressed shot closed, by tile; bit per slot, 32 bits each (R38, R101, R161);
  reset 0. -/
  supCol   : Tab (BitVec 32) := []
  /-- Tiles whose windows are closed in the slot being fired; 64 bits (R38); reset 0. -/
  shut     : BitVec 64 := 0
  /-- Shots whose events entered the histograms in the column: the shots fired or listened to (R101); reset 0. -/
  shots    : Nat := 0
  /-- Chain time of the current shot instant, with its slot (R36, R82); reset none. -/
  shotAt   : Option (Nat × Nat) := none
  /-- Strings suppressed in the slot that the sequencer works on; 64 bits (R161); reset 0. -/
  supSlot  : BitVec 64 := 0
  /-- Strings driven in the last shot, until its ESNS check; 64 bits (R140, R154); reset 0. -/
  fired    : BitVec 64 := 0
  /-- SUPP of the slot report of the column in work; 32 bits (R315); reset 0. -/
  suppBits : BitVec 32 := 0
  /-- FIRED of that slot report; 32 bits (R315); reset 0. -/
  firedBits : BitVec 32 := 0
  /-- The proof shots of SERVICE.PROOF waiting, oldest first (R360); reset empty. -/
  service  : List ServProof := []
  deriving DecidableEq, Repr


/-! ### Sector engines and the schedule (08, 09) -/

/-- Where a result in flight lands (R207, R209). -/
inductive Dest where
  /-- A general register X. -/
  | x (r : Nat)
  /-- An accumulator A. -/
  | a (k : Nat)
  /-- An accumulator as ACCRD, ACCSUM and ACCNORM read it (R224). -/
  | ar (k : Nat)
  /-- A predicate P. -/
  | p (k : Nat)
  /-- An address generator's base. -/
  | gb (n : Nat)
  /-- An address generator's index. -/
  | gi (n : Nat)
  /-- An address generator's modifier. -/
  | gm (n : Nat)
  /-- An address generator's length. -/
  | gl (n : Nat)
  /-- An address generator's mode. -/
  | gd (n : Nat)
  /-- The block exponent. -/
  | bx
  /-- A byte of local data memory. -/
  | mem (addr : Nat)
  /-- A byte of the sector state memory. -/
  | state (addr : Nat)
  deriving DecidableEq, Repr

/-- A result in flight (R221). -/
structure Flight where
  /-- Cycle of the run at which it lands (R221). -/
  land : Nat
  /-- Where it lands. -/
  dst  : Dest
  /-- The value; 64 bits hold the widest (R222). -/
  val  : BitVec 64
  deriving DecidableEq, Repr

/-- One sector engine (R207). -/
structure Eng where
  /-- X0 to X31; 32 bits each (R207); reset 0. -/
  x     : Tab Word := []
  /-- A0 to A3; 48 bits each (R207); reset 0. -/
  a     : Tab (BitVec 48) := []
  /-- A0 to A3 as ACCRD, ACCSUM and ACCNORM read them, three cycles after the QMAC class writes them (R224); reset 0. -/
  ar    : Tab (BitVec 48) := []
  /-- P0 to P7; 8 bits (R207); reset P0 = 1, others 0. -/
  p     : BitVec 8 := 1
  /-- BX; 6 bits (R207); reset 31. -/
  bx    : BitVec 6 := 31
  /-- GB0 to GB3; 23 bits each (R207); reset 0. -/
  gb    : Tab (BitVec 23) := []
  /-- GI0 to GI3; 16 bits each (R207); reset 0. -/
  gi    : Tab (BitVec 16) := []
  /-- GM0 to GM3; 16 bits each, signed (R207); reset 0. -/
  gm    : Tab (BitVec 16) := []
  /-- GL0 to GL3; 16 bits each (R207); reset 1. -/
  gl    : Tab (BitVec 16) := []
  /-- GD0 to GD3; 2 bits each (R207); reset 0b00. -/
  gd    : Tab (BitVec 2) := []
  /-- LC0; 12 bits (R207); reset 0. -/
  lc0   : BitVec 12 := 0
  /-- LC1; 12 bits (R207); reset 0. -/
  lc1   : BitVec 12 := 0
  /-- ENG_STAT W1C fields SAT, PSN, DIVZ, ECC_CORR; 4 bits (R208); reset 0. -/
  stat  : BitVec 4 := 0
  /-- ENG_CK cycle in which a W1C field of ENG_STAT was last set, and the fields set in it (R7); reset 0. -/
  statAt  : Nat := 0
  /-- As `statAt`, the fields (R7); reset 0. -/
  statNew : BitVec 4 := 0
  /-- Local data memory, 64 KiB; an unlisted byte reads 0 (R206, R209); reset nothing listed. -/
  mem   : List Host.Cell := []
  /-- Results in flight, oldest issue first (R221); reset empty. -/
  fly   : List Flight := []
  /-- The engine issues bundles: it has started a run and not issued END (R205, R226); reset 0. -/
  run   : Bool := false
  /-- Rows of single operations drive the engine in this run (log entry 24); reset 0. -/
  stepped : Bool := false
  /-- END has been issued in the run (R247); reset 0. -/
  ended : Bool := false
  /-- Cycle of the run at which END was issued (R240, R496); reset 0. -/
  endAt : Nat := 0
  /-- Bundle index issued at cycle `pcAt` (R205, R226); reset 0. -/
  pc    : Nat := 0
  /-- Cycle of the run that `pc` belongs to (R205); reset 0. -/
  pcAt  : Nat := 0
  /-- First bundle of the body of loop 0 and 1 (R226); reset 0. -/
  body0 : Nat := 0
  /-- As `body0`, loop 1 (R226); reset 0. -/
  body1 : Nat := 0
  /-- First word of an unfinished record pair (R231); reset none. -/
  half  : Option (BitVec 64) := none
  /-- Far-port accesses and output words are discarded: the engine overran SLOT_END (R247); reset 0. -/
  cut   : Bool := false
  /-- Instruction bank 0, up to 256 bundles of 128 bits (R213, R215); reset zero. -/
  bank0 : List (BitVec 128) := []
  /-- Instruction bank 1 (R213, R215); reset zero. -/
  bank1 : List (BitVec 128) := []
  /-- IBANK: the active bank (R208, R213); reset -0. -/
  ibank : Bool := false
  deriving DecidableEq, Repr

/-- One sector (R203 to R232, R240). -/
structure Sector where
  /-- Sector state memory, 16 KiB; an unlisted byte reads 0 (R209, R211); reset -nothing listed. -/
  mem     : List Host.Cell := []
  /-- State-memory words to reload from the image at the next boundary, by address (R212); reset empty. -/
  reload  : List Nat := []
  /-- A run is in progress; chain time of the boundary that started it (R205); reset none. -/
  runFrom : Option Nat := none
  /-- Record words that have entered the port: entry cycle, logical engine, word, oldest first (R231); reset empty. -/
  words   : List (Nat × Nat × BitVec 64) := []
  /-- Summary words of the run: entry cycle at the port, and the bits CHANNEL_LOST and SUPPRESSED (R231, R232); reset empty. -/
  sums    : List (Nat × BitVec 2) := []
  /-- CHANNEL_LOST and SUPPRESSED of the run as the standard kernels find them, for a sector whose engines no row steps (R232, log entry
  24); 2 bits; reset 0. -/
  kern    : BitVec 2 := 0
  /-- Records of the column in processing are withheld (R233, R248); reset 0. -/
  lost    : Bool := false
  /-- Records are withheld until the device leaves RUN and DEGRADED RUN (R242, R479); reset 0. -/
  lostRun : Bool := false
  /-- Staged banks hold the next variant (R213); reset -1. -/
  staged  : Bool := true
  /-- Columns starting their slot before the staging completes are withheld (R213); reset 0. -/
  unstaged : Bool := false
  /-- Last END cycle of the last run (R240); reset -0. -/
  lastEnd : Nat := 0
  /-- Smallest margins to SLOT_END within the last 1 s: device clock and margin (R240); reset empty. -/
  margins : List (Nat × Int) := []
  /-- Mean λ of the regions that passed the gate in the last column, Q0.16 (R119); reset -0. -/
  ambient : Nat := 0
  /-- Guard faults while one mode's images run: logical engine, physical engine, device clock (R248); reset empty. -/
  guard   : List (Nat × Nat × Nat) := []
  /-- Logical engines whose guard faults no longer count (R248); reset empty. -/
  suspect : List Nat := []
  /-- Time that the calibration pulsers of the sector's tiles have run, completed runs, ticks (R87); reset 0. -/
  pulsed  : Nat := 0
  /-- Device clock at which the pulser run in progress began (R87); reset none. -/
  pulseAt : Option Nat := none
  deriving DecidableEq, Repr

/-- A schedule load in progress (R240). -/
structure Load where
  /-- PERSIST of the command (R240). -/
  persist : Bool
  /-- The file as it has arrived (R240). -/
  file    : List Byte
  /-- The transfer that brings it: four times the key of the entry, and the mailbox (R356). -/
  key     : Nat
  /-- TAG and port of the command, for EV_FLASH_WRITTEN (R373). -/
  tag     : BitVec 16
  /-- As `tag`: who sent it (R373). -/
  entry   : Entry
  /-- The whole file has arrived (R240, R356). -/
  whole   : Bool
  deriving DecidableEq, Repr

/-- The schedule store and its sets (R236 to R254). -/
structure SchedSt where
  /-- The schedule set in force, 4 MiB store; empty: none (R240); reset -empty. -/
  file    : List Byte := []
  /-- Mode blocks of the set in force, by mode code (R238); reset -empty. -/
  modes   : List (Nat × ModeBlock) := []
  /-- Sector images of the set in force, by store index (R42, R238); reset -empty. -/
  images  : List (Nat × SectorImage) := []
  /-- The chain plan slice of the set in force (R251); reset -none. -/
  slice   : Option Slice := none
  /-- Store indices damaged without a flash copy: they count as absent (R242); reset empty. -/
  damaged : List Nat := []
  /-- Modes that 0x300A or 0x3009 withdraws until the next accepted SCHED.LOAD; 8 bits (R242, R479); reset 0. -/
  withdrawn : BitVec 8 := 0
  /-- Parts under restore from flash: store index and the device clock at which the restore is due (R242); reset empty. -/
  restore : List (Nat × Nat) := []
  /-- The load in progress (R240); reset none. -/
  load    : Option Load := none
  /-- Last load result (R240, R366); reset -0. -/
  result  : Nat := 0
  /-- SET_ID reported: of the set in force; 32 bits (R366); reset -0. -/
  setId   : Word := 0
  /-- LIB_ID; 32 bits (R366); reset -0. -/
  libId   : Word := 0
  /-- Sweep period of the set in force, ticks; 0 without a set (R34); reset -0. -/
  sweep   : Nat := 0
  /-- FACETS of the set in force; 4 bits (R236); reset -0. -/
  facets  : Nat := 0
  /-- The 256 engines, by 32 × sector + physical engine (R203). -/
  engs    : Tab Eng := []
  /-- The 8 sectors. -/
  sectors : Tab Sector := []
  deriving DecidableEq, Repr


/-! ### Scanner drive and control loops (07) -/

/-- The state of an axis loop (R194). -/
inductive LoopState where
  | open_ | closing | closed | braking
  deriving DecidableEq, Repr

/-- How axis A brakes (R197). -/
inductive BrakeA where
  /-- istar = −IBRAKE under commutation (R197). -/
  | regen
  /-- PH_xH low, PH_xL high on all phases, after regenerative braking: stop condition w < 60 rpm for 100 ms (R197). -/
  | short
  /-- Phase short until BRAKE_TMAX (R197). -/
  | shortTmax
  /-- Coast: all PH low, until BRAKE_TMAX (R197). -/
  | coast
  deriving DecidableEq, Repr

/-- One phase of the bridge (R176, R178). -/
structure Phase where
  /-- PH_xH; 1 bit (R176); reset low. -/
  hi     : Bool := false
  /-- PH_xL; 1 bit (R176); reset low. -/
  lo     : Bool := false
  /-- Output that goes high after DEADTIME: some true PH_xH, some false PH_xL, and the device clock (R176); reset none. -/
  next   : Option (Bool × Nat) := none
  /-- Device clock of the last switching of the phase (R178); reset none. -/
  swAt   : Option Nat := none
  /-- Phase current at the last reading, mA (R176); reset -0. -/
  i      : Rat := 0
  deriving DecidableEq, Repr

/-- The repetitive controller of one axis (R190 to R193). -/
structure Rep where
  /-- The repetitive memory: REP_CELLS cells of signed 16-bit current, mA (R190); reset 0. -/
  m      : Tab Int := []
  /-- i_prev (R191); reset -0. -/
  iPrev  : Nat := 0
  /-- Learning ran in the previous period (R191); reset 0. -/
  learnt : Bool := false
  /-- u_rep (R191); reset -0. -/
  u      : Int := 0
  /-- Repetitive-memory errors counted in LOOP.STATUS; 16 bits (R193, R366); reset -0. -/
  errors : Nat := 0
  deriving DecidableEq, Repr

/-- Axis A (R173 to R184). -/
structure AxisA where
  /-- Loop state (R194); reset OPEN (R175). -/
  st     : LoopState := .open_
  /-- Coefficient block; 256 bits (R199); reset the fields' values. -/
  coef   : BitVec 256 := BitVec.ofNat 256 (0x0400 + 200 * 2 ^ 16 + 0x0100 * 2 ^ 32 + 500 * 2 ^ 48 + 4000 * 2 ^ 64
    + 2000 * 2 ^ 80 + 200 * 2 ^ 96 + 80 * 2 ^ 108 + 40 * 2 ^ 116 + 8 * 2 ^ 124 + 4096 * 2 ^ 128 + 2000 * 2 ^ 144
    + 4 * 2 ^ 178 + 5 * 2 ^ 182 + 30 * 2 ^ 186 + 20 * 2 ^ 209 + 10 * 2 ^ 217 + 10000 * 2 ^ 225 + 1500 * 2 ^ 241)
  /-- Repetitive block; 64 bits (R201); reset REP_CELLS 0b01, L_SHIFT 6, LEAD 4, REP_MAX 500, REP_EMAX 100. -/
  repCfg : BitVec 64 := BitVec.ofNat 64 (8 + 6 * 32 + 4 * 2 ^ 14 + 500 * 2 ^ 32 + 100 * 2 ^ 48)
  /-- Repetitive controller (R190). -/
  rep    : Rep := {}
  /-- Speed target of LOOP.SET, 0.01 rpm; 32 bits (R180, R366); reset -0. -/
  set    : Nat := 0
  /-- Count since the last index, ×4 (R177); reset -0. -/
  count  : Int := 0
  /-- Device clocks of the edges, newest first: those of the last 50 µs, and never fewer than the last five (R181, R184); reset
  empty. -/
  edges  : List Nat := []
  /-- Direction of the last edge: counting up (R177); reset -1. -/
  up     : Bool := true
  /-- An index has been seen since power-up (R179); reset 0. -/
  indexed : Bool := false
  /-- The measured angle is valid: an index has come since the loop closed (R177); reset 0. -/
  angleOk : Bool := false
  /-- Commutation is valid (R179); reset 0. -/
  commOk : Bool := false
  /-- A feedback fault has made commutation invalid since it was last settled (R179); reset 0. -/
  fbBad  : Bool := false
  /-- Learned COMM_OFFSET; 16 bits (R179, R366); reset none. -/
  learned : Option Nat := none
  /-- comm_ref, 1/65,536 electrical turn (R178, R179); reset -0. -/
  commRef : Int := 0
  /-- Device clock at which alignment ends (R179); reset none. -/
  alignEnd : Option Nat := none
  /-- Device clock from which edge supervision runs (R184); reset none. -/
  watch  : Option Nat := none
  /-- A facet crossing has been taken at the present count (R181); reset 0. -/
  crossed : Bool := false
  /-- Counts past the expected index without one: revolutions missed in a row (R184); reset 0. -/
  missed : Nat := 0
  /-- The revolutions from which the next index is expected, counting up and counting down: those of the count at which the loop
  closed, 0 from an index on (R184); reset 0 and 0. -/
  missBase : Int × Int := (0, 0)
  /-- The count has been doubtful since a feedback fault: no index has come yet to count from (R177, log entry 161); reset 0. -/
  stale  : Bool := false
  /-- Net count against DIR (R184); reset 0. -/
  back   : Int := 0
  /-- w: speed estimate, rpm (R181); reset -0. -/
  w      : Rat := 0
  /-- w_ref, rpm (R181); reset -0. -/
  wRef   : Rat := 0
  /-- e: loop error, rpm (R181, R366); reset 0. -/
  err    : Rat := 0
  /-- xi: integrator, mA (R181); reset -0. -/
  xi     : Rat := 0
  /-- Saturation flag (R181); reset 0. -/
  sat    : Bool := false
  /-- istar, mA (R181); reset -0. -/
  istar  : Rat := 0
  /-- Current references of the three phases, mA (R178); reset -0. -/
  iref   : Tab Rat := []
  /-- e_phi, µs (R181); reset 0. -/
  ephi   : Rat := 0
  /-- Facet crossings in a row with |e_phi| ≤ PHASE_TOL, up to 16 (R182); reset 0. -/
  inTol  : Nat := 0
  /-- Facet crossings in a row with |e_phi| > 4 × PHASE_TOL (R182); reset 0. -/
  outTol : Nat := 0
  /-- LOCKED (R182); reset 0. -/
  locked : Bool := false
  /-- Device clock at which lock was lost by R182's two conditions (R182); reset none. -/
  lostAt : Option Nat := none
  /-- Device clock of the LOOP.CLOSE in spin-up (R184); reset none. -/
  closeAt : Option Nat := none
  /-- Brake in progress (R197); reset none. -/
  brake  : Option BrakeA := none
  /-- Device clock at which the brake began (R197); reset 0. -/
  brakeAt : Nat := 0
  /-- Device clock from which w has been below 60 rpm (R197); reset none. -/
  slowAt : Option Nat := none
  /-- The three phases of the bridge (R176). -/
  ph     : Tab Phase := []
  /-- VBUS_SNS at the last reading, mV (R184); reset -0. -/
  vbus   : Nat := 0
  deriving DecidableEq, Repr

/-- Axis B (R185 to R189). -/
structure AxisB where
  /-- Loop state (R194); reset OPEN (R175). -/
  st     : LoopState := .open_
  /-- Coefficient block; 256 bits (R200); reset the fields' values. -/
  coef   : BitVec 256 := BitVec.ofNat 256 (0x0640 + 2000 * 2 ^ 16 + 0x0100 * 2 ^ 32 + 2000 * 2 ^ 48 + 2500 * 2 ^ 64
    + 20 * 2 ^ 80 + 50 * 2 ^ 88 + 1 * 2 ^ 122 + 20 * 2 ^ 124 + 0x10000 * 2 ^ 136 + (2 ^ 20 - 327680) * 2 ^ 160
    + 205 * 2 ^ 180 + 327680 * 2 ^ 192)
  /-- Repetitive block; 64 bits (R201); reset REP_SRC 0b01, REP_CELLS 0b01, L_SHIFT 6, LEAD 4, REP_MAX 500, REP_EMAX 3,277. -/
  repCfg : BitVec 64 := BitVec.ofNat 64 (2 + 8 + 6 * 32 + 4 * 2 ^ 14 + 500 * 2 ^ 32 + 3277 * 2 ^ 48)
  /-- Repetitive controller (R190). -/
  rep    : Rep := {}
  /-- B_HOLD, 1/32,768 °; signed 32 bits (R188, R366); reset -0. -/
  hold   : Int := 0
  /-- th: measured angle, 1/32,768 ° (R186, R187); reset -0. -/
  th     : Int := 0
  /-- th_prev (R187); reset -0. -/
  thPrev : Int := 0
  /-- r: slewed reference, 1/32,768 ° (R187); reset -0. -/
  r      : Rat := 0
  /-- e: loop error, 1/32,768 ° (R187, R366); reset 0. -/
  err    : Rat := 0
  /-- The errors of the last 8 periods, newest first (R191); reset empty. -/
  errs   : List Rat := []
  /-- xb: integrator, mA (R187); reset -0. -/
  xb     : Rat := 0
  /-- Saturation flag (R187); reset 0. -/
  sat    : Bool := false
  /-- icmd, mA; GALV_P − GALV_N is icmd ÷ GALV_FS volts (R187); reset 0. -/
  icmd   : Rat := 0
  /-- Invalid frames in a row (R185); reset 0. -/
  bad    : Nat := 0
  /-- The last valid position value (R189); reset none. -/
  pos    : Option Nat := none
  /-- Valid frames in a row with the same position value (R189); reset 0. -/
  same   : Nat := 0
  /-- Periods since the dither last changed sign, 0 to 3, and its sign (R189); reset 0, positive. -/
  dith   : Nat := 0
  /-- Device clock from which |e| has been above B_EMAX (R188); reset none. -/
  overAt : Option Nat := none
  /-- The last target before its clamp, 1/32,768 ° (R188); reset none. -/
  tgt    : Option Int := none
  /-- Clamped targets counted in LOOP.STATUS; 16 bits (R188, R366); reset -0. -/
  clamped : Nat := 0
  /-- Brake slews to B_PARK (R197); reset 0. -/
  parking : Bool := false
  deriving DecidableEq, Repr

/-- The scanner drive (R173 to R201). -/
structure Scan where
  /-- Axis A. -/
  a      : AxisA := {}
  /-- Axis B. -/
  b      : AxisB := {}
  /-- Loop engine that runs each function 0 to 13; none: the function is lost (R173, R174); reset engine n for function n. -/
  fns    : List (Nat × Option Nat) := []
  /-- Device clock of the last period each function 0 to 5 ran; 0 none, else clock + 1 (R173); reset none. -/
  ran    : Tab Nat := []
  deriving DecidableEq, Repr


/-! ### The safety island (14) -/

/-- An emission gate of the island (R379, R381, R383). -/
structure Gate where
  /-- The gate is open (R400); reset closed. -/
  opened : Bool := false
  /-- The gate is armed (R383, R400); reset 0. -/
  armed  : Bool := false
  deriving DecidableEq, Repr

/-- One safe output and its zone (R388, R391). -/
structure SafeOut where
  /-- SAFE_OUT[k] commanded ON (R376, R388); reset OFF. -/
  on       : Bool := false
  /-- SAFE_FB[k] as last read; 1: ON (R391, R400); reset -0. -/
  fb       : Bool := false
  /-- The output is held OFF by a fault (R388, R395); reset 0. -/
  held     : Bool := false
  /-- Device clock of the start of the OFF-test pulse in progress (R391); reset none. -/
  test     : Option Nat := none
  /-- A demand arose during the test pulse: the test is discarded (R391); reset 0. -/
  demanded : Bool := false
  /-- Device clock of the last OFF-test (R391); reset none. -/
  lastTest : Option Nat := none
  /-- Device clock at which the driven level last changed (R391); reset 0. -/
  changed  : Nat := 0
  /-- Zone occupied in the last evaluated column (R387, R400); reset -0. -/
  occupied : Bool := false
  /-- Full clear frames in a row (R388); reset 0. -/
  clear    : Nat := 0
  /-- The zone has been clear in every measured column of the frame so far (R388); reset 0. -/
  frameOk  : Bool := false
  /-- A demand arose between B and the first measured column of a mode change, and is still to be met, at the first evaluation after it (R52, R389; DESIGN CHOICE, log entry 171); reset 0. -/
  owed     : Bool := false
  /-- Completed OFF-tests; 32 bits (R400); reset -0. -/
  tests    : Nat := 0
  /-- Demands of the zone; 32 bits (R400); reset -0. -/
  demands  : Nat := 0
  /-- Discarded OFF-tests; 16 bits (R400); reset -0. -/
  discarded : Nat := 0
  deriving DecidableEq, Repr

/-- The safety island (R375 to R400). -/
structure Safe where
  /-- SLS gate (R379). -/
  sls     : Gate := {}
  /-- SDI gate (R379). -/
  sdi     : Gate := {}
  /-- SLP gate (R381). -/
  slp     : Gate := {}
  /-- The island's count of axis A since its last index (R379); reset -0. -/
  count   : Int := 0
  /-- An index has reached the island (R379, R387); reset 0. -/
  indexed : Bool := false
  /-- Device clock of the last edge at the island (R379); reset none. -/
  edgeAt  : Option Nat := none
  /-- Device clocks of the last edges at the island, newest first, up to 5 (R379); reset empty. -/
  edges   : List Nat := []
  /-- Counts into the facet interval in progress (R379); reset 0. -/
  facetN  : Nat := 0
  /-- Device clock at which that interval began (R379); reset none. -/
  facetAt : Option Nat := none
  /-- Facet intervals in a row with a speed outside the band (R379); reset 0. -/
  badFacets : Nat := 0
  /-- Facet intervals in a row with a speed inside the band (R379); reset 0. -/
  goodFacets : Nat := 0
  /-- Island speed estimate, 0.01 rpm; 32 bits (R400); reset -0. -/
  speed   : Nat := 0
  /-- Net count against DIR (R379); reset 0. -/
  back    : Nat := 0
  /-- Counts in the positive direction since the net count restarted (R379); reset 0. -/
  fwd     : Nat := 0
  /-- Island axis B angle, 1/32,768 ° (R381, R400); reset -0. -/
  angle   : Int := 0
  /-- Invalid frames in a row at the island (R381); reset 0. -/
  bad     : Nat := 0
  /-- Position value of the last valid frame at the island (R381); reset none. -/
  pos     : Option Nat := none
  /-- Valid frames in a row with that value while the drive carries dither (R381); reset 0. -/
  same    : Nat := 0
  /-- Device clock at which the last frame began (R381); reset none. -/
  frameAt : Option Nat := none
  /-- The gate test at the prime column of a MODE.START has passed (R380); reset -1. -/
  testOk  : Bool := true
  /-- ESTOP_N after its filter; 1 high (R385, R400); reset -1. -/
  estop   : Bool := true
  /-- ZONE_SEL raw, as the last row about it shows the pins; 4 bits (R385, R400); reset -0. -/
  zoneRaw : BitVec 4 := 0
  /-- The last code taken is valid (R385); reset 0. -/
  zoneOk  : Bool := false
  /-- Active zone set; none until one has been taken (R400); reset none. -/
  zone    : Option Nat := none
  /-- A zone set taken and due at the next column boundary (R385); reset none. -/
  zoneNext : Option Nat := none
  /-- The four safe outputs. -/
  outs    : Tab SafeOut := []
  /-- All outputs are held by 0x800C (R395); reset 0. -/
  cmpHeld : Bool := false
  /-- SAFE_RESET debounced; 1 pressed (R392, R400); reset -0. -/
  button  : Bool := false
  /-- Device clock of the last change of the debounced input (R392); reset -0. -/
  buttonAt : Nat := 0
  /-- Device clock of the rising edge of a press that can still complete validly (R392); reset none. -/
  press   : Option Nat := none
  /-- SAFE_RESET_STUCK (R393); reset 0. -/
  stuck   : Bool := false
  /-- Presses ignored or consumed; 16 bits (R392, R400); reset -0. -/
  presses : Nat := 0
  /-- Last safety fault code; 16 bits (R400); reset -0. -/
  lastFault : BitVec 16 := 0
  /-- Device clocks of the lockstep mismatches within 10 s, newest first (R395, R400); reset empty. -/
  mismatch : List Nat := []
  /-- Fault 0x8007 is latched (R395); reset 0. -/
  latched : Bool := false
  /-- Safety configuration in force; empty: none, every field at its reset value (R397 to R399); reset empty. -/
  cfg     : List Byte := []
  /-- Safety configuration accepted for the next exit from SAFE HOLD, with its degraded period (R397); reset none. -/
  cfgNext : Option (List Byte × Nat) := none
  /-- Degraded period in force, s (R396, R397); reset 20. -/
  period  : Nat := 20
  deriving DecidableEq, Repr


/-! ### Housekeeping and thermal management (15) -/

/-- One housekeeping channel (R403 to R414). -/
structure HkChan where
  /-- Channel record in force; 128 bits (R416); reset off: EXC 1, AUTORANGE 1, GAIN 0x4000_0000. -/
  cfg     : BitVec 128 := BitVec.ofNat 128 (2 ^ 10 + 2 ^ 12 + 0x40000000 * 2 ^ 64)
  /-- Channel record that takes effect at the channel's next position (R417); reset none. -/
  next    : Option (BitVec 128) := none
  /-- Gain tag of the next conversion; 2 bits (R410); reset G0. -/
  gain    : Nat := 0
  /-- Excitation of the next conversion: 1 is 1 mA (R411); reset -1 mA. -/
  exc     : Bool := true
  /-- The last corrected conversions, newest first, up to 4: the filter memory (R408); reset empty. -/
  mem     : List Int := []
  /-- Conversions that still carry SETTLING after a change (R409); reset 0. -/
  settle  : Nat := 0
  /-- The next conversion refills the filter (R409); reset 1. -/
  refill  : Bool := true
  /-- OPEN was flagged in the conversion in progress (R413); reset 0. -/
  openNow : Bool := false
  /-- An OPEN condition holds (R413); reset 0. -/
  isOpen  : Bool := false
  /-- Result reported: value, gain tag, OPEN and SETTLING; none: no result since configured (R414); reset none. -/
  res     : Option (Int × Nat × Bool × Bool) := none
  /-- The last result that was not OPEN (R413); reset none. -/
  good    : Option Int := none
  /-- Regular results since the last filter restart, newest first, up to 5: end time, temperature, and not OPEN (R422); reset empty. -/
  rates   : List (Nat × Int) := []
  /-- A result without SETTLING has come since the last configuration change or OPEN (R421); reset 0. -/
  settled : Bool := false
  deriving DecidableEq, Repr

/-- A warning or stop of a thermal source (R423). -/
structure Therm where
  /-- E1 of EV_THERMAL: channel, or 0x80 + sensor (R429). -/
  src  : Nat
  /-- E0 of EV_THERMAL: 1 level warning, 2 rate warning, 3 level stop, 4 rate stop, 5 OPEN (R429). -/
  kind : Nat
  deriving DecidableEq, Repr

/-- One die sensor (R420). -/
structure DieSensor where
  /-- Last reading, 1/16 °C (R420); reset -0. -/
  t      : Int := 0
  /-- The sensor is broken (R420); reset 0. -/
  broken : Bool := false
  /-- Device clock from which a broken sensor has read within both conditions (R420); reset none. -/
  goodAt : Option Nat := none
  deriving DecidableEq, Repr

/-- Housekeeping and thermal state (R403 to R427). -/
structure Hk where
  /-- Global word in force; 128 bits (R415); reset T_FIX 2,000, T_MIN 2,000. -/
  word    : BitVec 128 := BitVec.ofNat 128 (2000 + 2000 * 2 ^ 32)
  /-- Global word that takes effect at the next round start (R417); reset none. -/
  wordNext : Option (BitVec 128) := none
  /-- The 48 channels. -/
  chans   : Tab HkChan := []
  /-- T_INT of the round, HK_CK cycles (R404); reset -500,000 (20 ms). -/
  tInt    : Nat := 500000
  /-- Position in progress, 0 to 11; 12: the round has ended (R405); reset -12. -/
  pos     : Nat := 12
  /-- Device clock at which the position began (R405); reset 0. -/
  posAt   : Nat := 0
  /-- The excitation sources of the 3-wire channels have swapped in this position (R412); reset 0. -/
  swapped : Bool := false
  /-- Channel that claimed the urgent slot of the round (R406); reset none. -/
  urgent  : Option Nat := none
  /-- Dropped urgent requests since the last round's sample; 32 bits (R406, R496); reset 0. -/
  dropped : Nat := 0
  /-- Device clock of the last PERIOD_IN rising edge (R404); reset none. -/
  pinAt   : Option Nat := none
  /-- Last period of PERIOD_IN, ticks of the device clock (R404); reset none. -/
  pin     : Option Nat := none
  /-- 0x9006 has been raised for the present loss (R404); reset 0. -/
  pinTold : Bool := false
  /-- The 16 switch records; 128 bits each (R419); reset 0. -/
  swCfg   : Tab (BitVec 128) := []
  /-- Switches that are on; 16 bits (R418); reset 0. -/
  swOn    : BitVec 16 := 0
  /-- TJ_WARN, 1/16 °C (R427); reset 1,840. -/
  tjWarn  : Int := 1840
  /-- TJ_STOP, 1/16 °C (R427); reset 2,000. -/
  tjStop  : Int := 2000
  /-- HEAD_WARN, 1/16 °C (R427); reset 1,360. -/
  headWarn : Int := 1360
  /-- HEAD_STOP, 1/16 °C (R427); reset 1,600. -/
  headStop : Int := 1600
  /-- Extra-channel records, 16 bytes each (R427); reset none. -/
  extra   : List (BitVec 128) := []
  /-- Warnings active, each with the E1 it was raised with (R423, R429); reset empty. -/
  warns   : List (Therm × Nat) := []
  /-- Stop faults active (R423); reset empty. -/
  stops   : List Therm := []
  /-- The nine die sensors TS0 to TS8 (R420). -/
  die     : Tab DieSensor := []
  /-- Tj, 1/16 °C (R420); reset -400 (25 °C). -/
  tj      : Int := 400
  /-- Die minimum, 1/16 °C (R420); reset -400 (25 °C). -/
  dieMin  : Int := 400
  /-- Device clock of the last die monitor reading (R420); reset none. -/
  dieAt   : Option Nat := none
  /-- The analogue hard trip is tripped (R425); reset 0. -/
  trip    : Bool := false
  /-- The switched domains are off because of a hard trip and no press has powered them again (R425); reset 0. -/
  dark    : Bool := false
  deriving DecidableEq, Repr


/-! ### Power, clocks, reset and boot (16) -/

/-- A key slot or digest slot of OTP (R347, R371, R452). -/
inductive OtpSt where
  | blank | active | revoked
  deriving DecidableEq, Repr

/-- One authentication key slot (R347). -/
structure KeySlot where
  /-- BLANK, ACTIVE or REVOKED; 2 bits (R347, R370); reset -BLANK. -/
  st  : OtpSt := .blank
  /-- The AES-128 key; 128 bits (R347); reset -0. -/
  key : BitVec 128 := 0
  deriving DecidableEq, Repr

/-- One digest slot (R371, R452). -/
structure DigestSlot where
  /-- BLANK, SET (`active`) or REVOKED (R371); reset -BLANK. -/
  st  : OtpSt := .blank
  /-- The SHA-256 digest; 256 bits (R239, R452); reset -0. -/
  dig : BitVec 256 := 0
  deriving DecidableEq, Repr

/-- One-time programmable memory (R332, R347, R361, R371, R452): kept across every reset and loss of power. -/
structure Otp where
  /-- The boot ROM can read the memory (R456, boot fault 0x02); reset -1. -/
  readable : Bool := true
  /-- DEVICE_UID; 64 bits (R332); reset -0. -/
  uid    : BitVec 64 := 0
  /-- Temperature grade, 0x45 E or 0x49 I; 8 bits (R361); reset -0x45. -/
  grade  : Byte := 0x45
  /-- MAC addresses of Port A and Port B; 48 bits each (R327); reset -0. -/
  macA   : BitVec 48 := 0
  /-- As `macA`, Port B (R327); reset -0. -/
  macB   : BitVec 48 := 0
  /-- Key slots: 4 × port + slot (R347). -/
  keys   : Tab KeySlot := []
  /-- The two schedule-key digest slots (R239, R371). -/
  sched  : Tab DigestSlot := []
  /-- The two firmware-key digests (R452). -/
  fw     : Tab DigestSlot := []
  deriving DecidableEq, Repr

/-- QSPI flash (R450): kept across every reset and loss of power; an object whose check code fails counts as absent (`none`). -/
structure Flash where
  /-- A flash answers on the QSPI bus (R456, boot fault 0x03); reset -1. -/
  fitted  : Bool := true
  /-- The flash announces valid SFDP and can be written (R450); reset -1. -/
  ok      : Bool := true
  /-- The flash announces 4-4-4 mode in its SFDP (R450); reset -0. -/
  quad    : Bool := false
  /-- Its size, MiB (R450); reset -16. -/
  mib     : Nat := 16
  /-- Next slot of the boot control record, 0 A, 1 B, in the copy at offset 0; none: that copy is absent (R450, R453); reset -none. -/
  boot    : Option Nat := none
  /-- As `boot`, the copy at offset 0x8000 (R450, R453); reset -none. -/
  boot2   : Option Nat := none
  /-- Firmware slots A and B, 2 MiB each, as the bytes from offset 0 (R450); reset -empty. -/
  slotA   : List Byte := []
  /-- As `slotA`, slot B (R450); reset -empty. -/
  slotB   : List Byte := []
  /-- Calibration block (R364, R450); reset -absent. -/
  cal     : Option (List Byte) := none
  /-- Ledger shares, 1,040 bytes (R163, R450); reset -absent. -/
  shares  : Option (List Byte) := none
  /-- Safety configuration and degraded period (R397, R450); reset -absent. -/
  safe    : Option (List Byte × Nat) := none
  /-- Chain words: chain, event and port words of P0 to P3 (R318, R450); reset -absent. -/
  chain   : Option (List Word) := none
  /-- Network settings of Port A (R328, R450); reset -absent. -/
  netA    : Option NetCfg := none
  /-- Network settings of Port B (R328, R450); reset -absent. -/
  netB    : Option NetCfg := none
  /-- Persisted schedule set (R240, R450); reset -absent. -/
  sched   : Option (List Byte) := none
  /-- Service record: DEVICE_UID, reasons and indices in the order appended (R488); reset -absent. -/
  service : Option (BitVec 64 × List (Nat × Nat)) := none
  deriving DecidableEq, Repr

/-- What a flash write in progress writes (R426, R450). -/
inductive FlashObj where
  | cal (b : List Byte)
  | shares (b : List Byte)
  | safe (b : List Byte) (period : Nat)
  | chain (ws : List Word)
  | net (p : HostPort) (n : NetCfg)
  | sched (b : List Byte)
  | fw (slot : Nat) (off : Nat) (b : List Byte)
  deriving DecidableEq, Repr

/-- A flash write started by a command (R373, R426). -/
structure FlashJob where
  /-- The object being written (R450). -/
  obj    : FlashObj
  /-- Opcode of the command; 16 bits (R373). -/
  opcode : BitVec 16
  /-- TAG of the command; 16 bits (R373). -/
  tag    : BitVec 16
  /-- Who sent the command (R373). -/
  entry  : Entry
  /-- The die has left the range of flash writes since the write began (R426); at first 0. -/
  stopped : Bool := false
  deriving DecidableEq, Repr

/-- Where BOOT stands (R438, R452 to R456). -/
structure BootSt where
  /-- PHASE; 4 bits (R456); reset 0x0. -/
  phase   : Nat := 0
  /-- SLOT; 1 bit (R456); reset 0. -/
  slot    : Nat := 0
  /-- FALLBACK; 1 bit (R456); reset 0. -/
  fallback : Bool := false
  /-- HOST_IMAGE; 1 bit (R456); reset 0. -/
  hostImg : Bool := false
  /-- BOOT_FAULT; 8 bits (R456); reset 0x00. -/
  fault   : Nat := 0
  /-- RESET_CAUSE; 4 bits (R456); reset 0x1. -/
  cause   : Nat := 1
  /-- Reset causes present and not ended, with the device clock of their detection (R444); reset power-on. -/
  causes  : List (Nat × Nat) := [(1, 0)]
  /-- Slots tried in this boot (R453); reset empty. -/
  tried   : List Nat := []
  /-- starts(s): start-watchdog resets of slot A and B since the last successful start (R453); reset -0. -/
  startsA : Nat := 0
  /-- As `startsA`, slot B (R453); reset -0. -/
  startsB : Nat := 0
  /-- Start failures noted, newest first: slot and device clock (R453, R456); reset empty. -/
  noted   : List (Nat × Nat) := []
  /-- Device clock at which firmware was started (R444); reset none. -/
  started : Option Nat := none
  /-- The running image, header fields IFL and VERSION (R451); reset -0. -/
  ifl     : Nat := 3
  /-- VERSION of the running image; 32 bits (R451, R361); reset -0. -/
  version : Word := 0
  /-- A host image as it arrives, and its total length (R455); reset none. -/
  image   : List Byte := []
  /-- Total length of the host image in transfer; 32 bits (R455); reset 0. -/
  total   : Nat := 0
  /-- BOOT_ADDR; 64 bits (R455); reset -0. -/
  addr    : BitVec 64 := 0
  /-- BOOT_LEN; 32 bits (R455); reset -0. -/
  len     : Word := 0
  /-- The last sampled straps (R502). -/
  straps  : Straps := { chainRoot := false, bootSrc := 0, hostA := 0, hostB := 0 }
  /-- PORST_N is low (R444); reset 1. -/
  porst   : Bool := true
  /-- The always-on rails VDD_AON and VDD_HK are good (R26, R444); reset 1. -/
  aon     : Bool := true
  /-- VDD_IO is below 1.70 V (R444); reset 0. -/
  vddLow  : Bool := false
  deriving DecidableEq, Repr

/-- The states of the controller of IEEE 1149.1 (R505). -/
inductive TapState where
  | reset | idle | selectDr | captureDr | shiftDr | exit1Dr | pauseDr | exit2Dr | updateDr
  | selectIr | captureIr | shiftIr | exit1Ir | pauseIr | exit2Ir | updateIr
  deriving DecidableEq, Repr

/-- The test access port (R505). -/
structure Tap where
  /-- The state of its controller (R505); reset the reset state. -/
  st    : TapState := .reset
  /-- It is held there: PORST_N has been released (R505); reset 0. -/
  held  : Bool := false
  /-- The instruction in force (R505); reset IDCODE. -/
  instr : TapInstr := .idcode
  /-- The instruction register as it shifts, the bit nearest to TDO first (R505); reset empty. -/
  ir    : List Bool := []
  /-- The data register selected, as it shifts, the bit nearest to TDO first (R505); reset empty. -/
  dr    : List Bool := []
  /-- What the boundary cells hold since the last update (R505); reset empty. -/
  cells : List Bool := []
  deriving DecidableEq, Repr

/-- Power, clocks and reset state (R432 to R456). -/
structure Power where
  /-- Boot state (R453 to R456). -/
  boot    : BootSt := {}
  /-- The test access port (R505). -/
  tap     : Tap := {}
  /-- RAIL_EN[5:0] (R433); reset 0. -/
  railEn  : BitVec 6 := 0
  /-- RAIL_PG[5:0] as last seen (R433); reset 0. -/
  railPg  : BitVec 6 := 0
  /-- Device clocks at which each RAIL_EN last went high (R433, R449); reset 0. -/
  railAt  : Tab Nat := []
  /-- Rails lost or timed out: off until the next reset (R449); reset 0. -/
  railDead : BitVec 6 := 0
  /-- Switched domains with power-good, by the bits of R367; 34 bits (R22); reset 0. -/
  dom     : BitVec 34 := 0
  /-- Domains switched on and not yet good, with the device clock (R436); reset empty. -/
  ramping : List (Nat × Nat) := []
  /-- Domains the device still means to switch on, in order (R437, R438); reset empty. -/
  toPower : List Nat := []
  /-- Domains off for the rest of the boot after 0xA005 (R439); 34 bits; reset 0. -/
  domDead : BitVec 34 := 0
  /-- The root PLL is locked (R440); reset 0. -/
  pll     : Bool := false
  /-- The reference is the recovered clock of a port; none: REFCLK (R21, R442); reset none. -/
  ref     : Option Nat := none
  /-- Device clock at which the upstream control lane was lost: holdover (R442); reset none. -/
  holdAt  : Option Nat := none
  /-- REFCLK is present (R443); reset -1. -/
  refclk  : Bool := true
  /-- Device clock at which REFCLK was lost while it was the reference (R443); reset none. -/
  refLost : Option Nat := none
  /-- Device clock of the application watchdog's last service (R447); reset 0. -/
  appAt   : Nat := 0
  /-- PD_APP is being restarted after a watchdog expiry (R447); reset 0. -/
  appDown : Bool := false
  /-- That restart follows a hard trip: PD_LOOP, PD_EMIT and the Ridge ports are powered at its end (R425); reset 0. -/
  afterTrip : Bool := false
  /-- Device clocks of the application watchdog's expiries within 10 s, newest first (R447); reset empty. -/
  appHits : List Nat := []
  /-- Hard-trip record kept across resets (R425, R445); reset -0. -/
  tripRec : Bool := false
  /-- Regulators that acknowledged STATUS_WORD at boot, by address 0x40 + n; 12 bits (R435); reset -0. -/
  pmbus   : BitVec 12 := 0
  /-- The addresses have been probed in this boot (R435); reset 0. -/
  probed  : Bool := false
  /-- PMBus bus errors in a row by address (R435); reset 0. -/
  pmbErr  : Tab Nat := []
  /-- DEV.RESET waits for its response: device clock (R359); reset none. -/
  resetAt : Option Nat := none
  deriving DecidableEq, Repr


/-! ### Ridge ports, chain time, discovery and messages (10, 11) -/

/-- One lane of a port: index 0 is C, 1 to 3 the data lanes D0 to D2. The stage is the lane's own lowest incomplete
stage of R268. -/
structure Lane where
  /-- Lowest incomplete stage of the lane, 1 to 9 (R268); reset 1. -/
  stage   : Nat := 1
  /-- Device clock at which that stage began on the lane (R268); reset 0. -/
  since   : Nat := 0
  /-- Inverted and corrected; 1 bit (R268, R284); reset 0. -/
  inv     : Bool := false
  /-- Agreeing values in a row in stages 3 to 5 (R268); reset 0. -/
  run     : Nat := 0
  /-- The last value of that run (R268); reset 0. -/
  last    : Nat := 0
  /-- LANE value the lane settled on in stage 5 (R268, R270); reset none. -/
  lane    : Option Nat := none
  /-- CTLE peaking, dB; 5 bits (R285); reset 0. -/
  ctle    : Nat := 0
  /-- EYE_H; 8 bits (R285); reset 0. -/
  eyeH    : Nat := 0
  /-- EYE_W; 8 bits (R285); reset 0. -/
  eyeW    : Nat := 0
  /-- Invalid-header count; 32 bits (R281); reset -0. -/
  badHdr  : Nat := 0
  /-- Retrain count; 32 bits (R281); reset -0. -/
  retrains : Nat := 0
  /-- PRBS error count, saturating; 32 bits (R279, R281); reset -0. -/
  prbs    : Nat := 0
  /-- In stage 7 the last DSK stood outside the 40 ns of the other lanes' (R268); reset 0. -/
  late    : Bool := false
  /-- The partner's lane sleeps: its last DSK carried SLEEP (R267, R275, R276); reset 0. -/
  asleep  : Bool := false
  deriving DecidableEq, Repr

/-- A fragment waiting on a port's control lane (R301). -/
structure Frag where
  /-- Bytes 1 to 13 of the MSG slot, byte 1 in bits 7:0; 104 bits (R301). -/
  body : BitVec 104
  deriving DecidableEq, Repr

/-- One Ridge port (R255 to R316). -/
structure RidgePort where
  /-- Port configuration word in force; 32 bits (R282); reset 0x0000_1414. -/
  cfg     : Word := 0x00001414
  /-- Port configuration word as written; 32 bits (R281, R282); reset 0x0000_1414. -/
  cfgSet  : Word := 0x00001414
  /-- Test word; 32 bits (R283); reset 0. -/
  test    : Word := 0
  /-- Port word of CHAIN.CONFIG: ASYM, ENABLE; 32 bits (R318); reset ENABLE 1 for P0 and P1. -/
  word    : Word := 0
  /-- The port runs bring-up or is up (R268); reset 0. -/
  active  : Bool := false
  /-- Link up: stage 9 (R284); reset 0. -/
  up      : Bool := false
  /-- ABSENT (R284); reset 0. -/
  absent  : Bool := false
  /-- A data-lane retrain runs (R273); reset 0. -/
  retrain : Bool := false
  /-- The lanes: 0 is C, 1 to 3 physical D0 to D2. -/
  lanes   : Tab Lane := []
  /-- Logical data lanes excluded at this end; 3 bits (R269, R284); reset 0. -/
  excl    : BitVec 3 := 0
  /-- Logical data lanes retired at this end; 3 bits (R277, R284); reset 0. -/
  ret     : BitVec 3 := 0
  /-- EXCL of the partner; 3 bits (R265); reset 0. -/
  pExcl   : BitVec 3 := 0
  /-- Lanes whose retirement waits for the next wake of a sleeping direction; 3 bits (R277); reset 0. -/
  retDue  : BitVec 3 := 0
  /-- Lanes that a retrain of R274 tries again; 3 bits (R274); reset 0. -/
  again   : BitVec 3 := 0
  /-- RET of the partner; 3 bits (R265); reset 0. -/
  pRet    : BitVec 3 := 0
  /-- DRDY of the partner; 3 bits (R265); reset 0. -/
  pDrdy   : BitVec 3 := 0
  /-- STAGE of the partner; 4 bits (R265); reset 0. -/
  pStage  : Nat := 0
  /-- LCS of the partner; 4 bits (R265, R299); reset 0. -/
  pLcs    : BitVec 4 := 0
  /-- REVERSED: the reversal map is in force (R270, R284); reset 0. -/
  rev     : Bool := false
  /-- The transmitter has switched to 64b/66b (R269); reset 0. -/
  switched : Bool := false
  /-- SEQ of the DSK seen last on each physical data lane, with matches in a row (R268, R272); reset none. -/
  dskSeq  : Tab (Option (BitVec 16)) := []
  /-- Consecutive SEQ values that matched on every lane in use (R268); reset 0. -/
  dskRun  : Nat := 0
  /-- SEQ of the next DSK sent; 16 bits (R267); reset -0. -/
  txSeq   : BitVec 16 := 0
  /-- Device clock of the last DSK sent; none: none since the switch (R267, R276); reset none. -/
  dskAt   : Option Nat := none
  /-- Control blocks with a bad CRC-8 or a reserved type (R311); reset -0. -/
  badBlocks : Nat := 0
  /-- TX_SLEEP (R275, R284); reset 0. -/
  txSleep : Bool := false
  /-- RX_SLEEP (R275, R284); reset 0. -/
  rxSleep : Bool := false
  /-- Device clock since which the transmit data class has had nothing to send (R275); reset 0. -/
  idleAt  : Nat := 0
  /-- Striping of the data class: place of the next block among the lanes in use (R311); reset 0. -/
  txPos   : Nat := 0
  /-- Device clock at which that place was reached (R311); reset 0. -/
  txAt    : Nat := 0
  /-- Device clock of the last INIT block sent in the present stage 8 (R316); reset 0. -/
  initAt  : Nat := 0
  /-- INIT received from the partner (R316); reset 0. -/
  gotInit : Bool := false
  /-- ACK received from the partner (R316); reset 0. -/
  gotAck  : Bool := false
  /-- Device clock of the last link up or end of retrain (R274); reset 0. -/
  upAt    : Nat := 0
  /-- Device clock of the last retrain request of R274; reset none. -/
  askAt   : Option Nat := none
  /-- Device clock until which the port holds electrical idle before a restart (R268); reset none. -/
  idleTo  : Option Nat := none
  /-- Device clock of the last valid SYNC or LINK slot (R300); reset 0. -/
  alive   : Nat := 0
  /-- ROOT conflict: no MSG and no data class on the port (R300); reset 0. -/
  conflict : Bool := false
  /-- ρ of the last SYNC, 1/256 tick; none: none (R293, R294); reset none. -/
  rho     : Option Int := none
  /-- SYNCs still to be sent before the partner's measurement no longer spans a step of our own (R295); reset 0. -/
  stale   : Nat := 0
  /-- One-way delay of the last valid SYNC, 1/256 tick (R319, R496); reset -0. -/
  delay   : Int := 0
  /-- ADDR of the partner's LINK; 16 bits (R299); reset 0xFFFF. -/
  pAddr   : BitVec 16 := 0xFFFF
  /-- GEN of the partner's LINK; 8 bits (R299); reset -0. -/
  pGen    : Byte := 0
  /-- HOPS of the partner's LINK; 8 bits (R299); reset -0xFF. -/
  pHops   : Byte := 0xFF
  /-- MSG fragments queued, oldest first (R290, R292); reset empty. -/
  msgs    : List Frag := []
  /-- SAFETY slots queued, oldest first, bytes 1 to 13 (R290, R310); reset empty. -/
  safety  : List (BitVec 104) := []
  /-- Address range routed to this port: first and last; none: no range (R303); reset none. -/
  range   : Option (Nat × Nat) := none
  /-- CREDITS the partner offered (R316); reset 0. -/
  offered : Nat := 0
  /-- Credits charged since stage 8 (R316); reset 0. -/
  charged : Nat := 0
  /-- RETURNED of the last CREDIT block received; 16 bits, cumulative (R311, R316); reset 0. -/
  returned : Nat := 0
  /-- Credits in use by packets in the receive buffer (R316); reset 0. -/
  held    : Nat := 0
  /-- Credits freed and not yet sent back (R316); reset 0. -/
  pendCr  : Nat := 0
  /-- Device clock of the first pending credit (R316); reset 0. -/
  pendAt  : Nat := 0
  /-- Cumulative credits freed, modulo 2^16 (R311); reset 0. -/
  freed   : Nat := 0
  /-- Packets queued to send, oldest first, with the port whose buffer holds each, if any (R313, R316); reset empty. -/
  txQ     : List (Packet × Option Nat) := []
  /-- Slots discarded (R291, R319); reset -0. -/
  badSlots : Nat := 0
  deriving DecidableEq, Repr

/-- A message being reassembled (R301). -/
structure Partial where
  /-- SRC; 16 bits (R301). -/
  src   : BitVec 16
  /-- MSGID; 8 bits (R301). -/
  id    : Byte
  /-- MTYPE; 4 bits (R301). -/
  mtype : BitVec 4
  /-- Payload bytes so far (R301). -/
  data  : List Byte
  /-- FRAG of the next fragment (R301). -/
  next  : Nat
  /-- Device clock of the first fragment (R301). -/
  since : Nat
  deriving DecidableEq, Repr

/-- A forwarded CMD or RSP that waits for data in BULK or HIST packets (R307, R314, R370). -/
structure BulkMsg where
  /-- SRC of the message (R307). -/
  src   : BitVec 16
  /-- MSGID of the message (R314); none for a histogram dump, whose packets carry none. -/
  id    : Option Byte
  /-- Byte 0 of the message (R307); 0xFF for a histogram dump. -/
  b0    : Byte
  /-- The slot and the data of the message itself, and whether it is an RSP; none until it has arrived (R307). -/
  msg   : Option (Bool × BitVec 512 × List Byte)
  /-- The bytes that packets have brought (R314). -/
  data  : List Byte
  /-- Device clock of the first part (R301). -/
  since : Nat
  deriving DecidableEq, Repr

/-- A discovery in progress at this device (R303). -/
structure Disc where
  /-- The ports still to be offered a range, ascending (R303). -/
  left  : List Nat
  /-- The port whose DONE is awaited (R303). -/
  wait  : Option Nat
  /-- nxt (R303). -/
  nxt   : Nat
  /-- DOWN of the ASSIGN in hand (R303). -/
  down  : Bool
  /-- HOPS of this device (R303). -/
  hops  : Nat
  /-- The address before this generation (R303). -/
  old   : BitVec 16
  /-- old_hi (R303). -/
  oldHi : Nat
  /-- The port the ASSIGN came from; none at the root (R303). -/
  up    : Option Nat
  /-- Device clock of its start (R304). -/
  since : Nat
  deriving DecidableEq, Repr

/-- Chain state (R288 to R321). -/
structure ChainSt where
  /-- The four ports; P0 and P1 have ENABLE 1 at reset (R318). -/
  ports   : Tab RidgePort := [(0, { word := 0x01000000 }), (1, { word := 0x01000000 })]
  /-- Chain word: TOPO 0b01, SAFE_PROP, SAFE_ACCEPT, STREAM_DEST; 32 bits (R318); reset 0xFFFF_000D. -/
  word    : Word := 0xFFFF000D
  /-- Event word: EVT_DEST; 32 bits (R318); reset 0x0000_FFFF. -/
  event   : Word := 0x0000FFFF
  /-- Ridge address; 16 bits (R303, R332); reset 0xFFFF. -/
  addr    : BitVec 16 := 0xFFFF
  /-- hi: highest address of the subtree (R303); reset 0xFFFF. -/
  hi      : Nat := 0xFFFF
  /-- own_gen: discovery generation; 8 bits (R299, R303); reset -0. -/
  gen     : Byte := 0
  /-- Hops to the root, 0xFF when unaddressed; 8 bits (R299); reset 0xFF. -/
  hops    : Byte := 0xFF
  /-- Upstream port assigned in a ring; none: the fixed one of TOPO (R288); reset none. -/
  upstream : Option Nat := none
  /-- ALIGNED (R297, R333); reset 0. -/
  aligned : Bool := false
  /-- SYNCs in a row with |θ| above 512 (R297); reset 0. -/
  thetaRun : Nat := 0
  /-- Last θ, 1/256 tick (R295, R319); reset -0. -/
  theta   : Int := 0
  /-- A step of chain time is due at the root's next control-cycle start: VALUE (R319); reset none. -/
  setTo   : Option Nat := none
  /-- Discovery in progress at this device (R303); reset none. -/
  disc    : Option Disc := none
  /-- Device clock at which the root starts discovery (R305); reset none. -/
  discAt  : Option Nat := none
  /-- The discovery due or in progress is the one repetition of R304; reset 0. -/
  retry   : Bool := false
  /-- Device clock at which the upstream port was lost (R305); reset none. -/
  lostUp  : Option Nat := none
  /-- MSGID of the next message; 8 bits (R301); reset -0. -/
  msgId   : Byte := 0
  /-- Messages being reassembled (R301); reset empty. -/
  partials : List Partial := []
  /-- Forwarded messages waiting for packet data (R307, R314); reset empty. -/
  bulk    : List BulkMsg := []
  /-- SEQ of the next STOP_HOLD originated; 8 bits (R309); reset -0. -/
  stopSeq : Byte := 0
  /-- STOP_HOLD copies seen: ORIGIN, SEQ and device clock, newest first (R310); reset empty. -/
  stops   : List (BitVec 16 × Byte × Nat) := []
  /-- Fragments discarded (R306, R319); reset -0. -/
  badFrags : Nat := 0
  /-- Packets discarded (R306, R319); reset -0. -/
  badPkts : Nat := 0
  /-- Duplicate STOP_HOLD copies (R310, R319); reset -0. -/
  dups    : Nat := 0
  /-- Slot reports to send: port, packet, and the earliest chain time of their start (R315, R317); reset empty. -/
  toReport : List (Nat × Packet × Nat) := []
  deriving DecidableEq, Repr


/-! ### Monitor output (17) -/

/-- A grid of the range image (R469). -/
structure Grid where
  /-- Cells by gy × GW + gx: palette index and INTENSITY >> 4; 2 bytes each; an unlisted cell has index 0 (R469). -/
  cells : Tab (BitVec 16) := []
  deriving DecidableEq, Repr

/-- The monitor output (R458 to R473). -/
structure Mon where
  /-- Shadow registers as written, by offset ÷ 4, the palette among them; a word not listed reads its reset value (R460); reset the
  fields' values. -/
  shadow  : Tab Word := []
  /-- Live registers, taken at a commit (R462); reset the fields' values. -/
  live    : Tab Word := []
  /-- COMMIT_PEND (R460, R462); reset 0. -/
  pend    : Bool := false
  /-- Device clock at which COMMIT was written (R462); reset 0. -/
  pendAt  : Nat := 0
  /-- COMMIT_ERR; 3 bits (R460, R463); reset 0. -/
  err     : Nat := 0
  /-- Frames of link restart blanking still to send (R464); reset 0. -/
  restart : Nat := 0
  /-- FRAME: frames sent modulo 256; 8 bits (R460); reset 0. -/
  frame   : Nat := 0
  /-- Device clock of the last start of vertical blanking (R461); reset 0. -/
  vblankAt : Nat := 0
  /-- Underruns of L0, saturating; 16 bits (R460, R471); reset 0. -/
  under0  : Nat := 0
  /-- Underruns of L2, saturating; 16 bits (R460, R471); reset 0. -/
  under2  : Nat := 0
  /-- Underruns in the frame in progress (R496); reset 0. -/
  underF  : Nat := 0
  /-- Layers skipped for the rest of the frame; 3 bits (R471); reset 0. -/
  skip    : BitVec 3 := 0
  /-- Layers to take off at the next vertical blanking; 3 bits (R473); reset 0. -/
  offDue  : BitVec 3 := 0
  /-- Buffer leased by L0: BUF_ID (R472); reset none. -/
  lease0  : Option Word := none
  /-- Buffer leased by L2: BUF_ID (R472); reset none. -/
  lease2  : Option Word := none
  /-- Grid being filled (R469); reset empty. -/
  fill    : Grid := {}
  /-- Ready grid not yet shown (R469); reset none. -/
  ready   : Option Grid := none
  /-- Device clock at which it became ready (R475); reset 0. -/
  readyAt : Nat := 0
  /-- Grid displayed (R469); reset empty. -/
  shown   : Grid := {}
  /-- The grid being filled is discarded after an uncorrectable word (R480); reset 0. -/
  spoilt  : Bool := false
  /-- FRAME of the stream frame being filled (R469); reset none. -/
  fillOf  : Option Nat := none
  deriving DecidableEq, Repr


/-! ### The device (00, 01) -/

/-- The lifecycle states (R25). -/
inductive Lcs where
  | off | boot | standby | run | degraded | safeHold | service
  deriving DecidableEq, Repr

/-- A SERVICE session (R360). -/
structure Session where
  /-- The port or pair that sent SERVICE.ENTER (R360). -/
  entry : Entry
  /-- SESSION, s (R359). -/
  secs  : Nat
  /-- Device clock at which the session ends (R360). -/
  exp   : Nat
  deriving DecidableEq, Repr

/-- Lifecycle state (R25 to R30). -/
structure Life where
  /-- Lifecycle state; 4-bit code (R25); reset OFF: the rails are good and PORST_N is still low (R26, R444). -/
  lcs     : Lcs := .off
  /-- Device clock at which the degraded period ends (R396); reset none. -/
  degEnd  : Option Nat := none
  /-- SERVICE session (R360); reset none. -/
  session : Option Session := none
  /-- FAB_CK cycle in which a cause for SAFE HOLD last arose (R27); reset none. -/
  holdAt  : Option Nat := none
  /-- Mailboxes take commands (R354); reset 0. -/
  open_   : Bool := false
  /-- BOOT_ID; 32 bits (R332, R348); reset -0. -/
  bootId  : Word := 0
  deriving DecidableEq, Repr

/-- What leaves the device: the model's own record of its outputs, newest first. -/
inductive Out where
  /-- A response slot and its data to a host port or pair (R334, R338). -/
  | rsp (e : Entry) (mb : Nat) (dst : Option Endpoint) (r : Rsp)
  /-- An event record written to the event ring of a base address at a unit index (R341, R343). -/
  | event (p : HostPort) (base : BitVec 64) (idx : Nat) (r : EventRec)
  /-- An event datagram (R338, R343). -/
  | evDatagram (p : HostPort) (dst : Endpoint) (rs : List EventRec)
  /-- A column in the point ring of a PCI Express port: the header and the records that follow it, with the host address of each unit of
16 bytes (R133, R341, R342). -/
  | column (p : HostPort) (hdr : BitVec 256) (recs : List (BitVec 128)) (addrs : List Nat)
  /-- A DMA read of some bytes at a host address (R325, R334). -/
  | dmaRead (p : HostPort) (addr len : Nat)
  /-- A DMA write of a command's result at its DATA_ADDR (R325, R334). -/
  | dmaWrite (p : HostPort) (addr : Nat) (bytes : List Byte)
  /-- A stream datagram of an Ethernet port: its destination and payload (R314, R342). -/
  | points (p : HostPort) (dst : Endpoint) (payload : List Byte)
  /-- An MSI-X message (R340). -/
  | msi (p : HostPort) (vec : Nat)
  /-- PROD written back (R341). -/
  | wb (p : HostPort) (addr : BitVec 64) (prod : Word)
  /-- A boot datagram answered (R455). -/
  | bootReply (p : HostPort) (dst : Endpoint) (next : Nat) (status : Word)
  /-- An ARP reply or request (R327). -/
  | arp (p : HostPort) (reply : Bool) (ip : Word)
  /-- An ICMP echo reply (R327). -/
  | echo (p : HostPort) (ip : Word) (idSeq : Word) (data : List Byte)
  /-- A Delay_Req (R329). -/
  | delayReq (p : HostPort) (seq : BitVec 16)
  /-- A SHOT frame on a Cornice line: ARM, MEAS and PAT of each position, and its bits on the wire (R145, R146, R154). -/
  | shotFrame (line : Nat) (fields : List (Bool × Bool × Nat)) (bits : List Bool)
  /-- A HOLD frame, with its bits on the wire (R145, R150). -/
  | holdFrame (line : Nat) (bits : List Bool)
  /-- A READ or WRITE frame: string, register, data of a WRITE, and its bits on the wire (R146, R148). -/
  | access (str : Nat) (reg : Byte) (data : Option Word) (bits : List Bool)
  /-- The two gate pulses of a string's shot (R141). -/
  | gate (str : Nat) (p : Pulse)
  /-- A check pulse on a channel (R69). -/
  | check (ch : Nat) (codes : Nat)
  /-- A control slot on a Ridge port: symbol 0 and bytes 1 to 15 (R290, R291). -/
  | slot (port : Nat) (k : BitVec 8) (body : BitVec 120)
  /-- Deskew blocks on a port's data lanes: the logical lanes with the payload of the first block on each, and how many block periods
  follow one another with SEQ rising (R267, R275, R276). -/
  | dsk (port : Nat) (blocks : List (Nat × BitVec 64)) (count : Nat)
  /-- A data-class packet sent, with its blocks: logical lane, control or data, and the payload (R311 to R313). -/
  | packet (port : Nat) (p : Packet) (blocks : List (Nat × Bool × BitVec 64))
  /-- An INIT or CREDIT block: its logical lane, none on the control lane of a port of width 0, and its payload (R269, R311, R316). -/
  | credit (port : Nat) (lane : Option Nat) (payload : BitVec 64)
  /-- The word that a read of SEM[n] over PCI Express returned (R344). -/
  | semRead (p : HostPort) (n : Nat) (w : Word)
  /-- A PMBus CLEAR_FAULTS to an address (R435). -/
  | clearFaults (addr : Nat)
  /-- The levels of TDO while the test access port shifts, in order, one a clock (R504, R505). -/
  | tdo (bits : List Bool)
  /-- The boundary cells that EXTEST, or AC EXTEST, drives onto their balls, with their values (R505). -/
  | extest (ac : Bool) (cells : List (Nat × Bool))
  deriving DecidableEq, Repr

/-- What the rest of the FAB_CK cycle brings before a row of it acts, as R27 and R196 order them: the model's own, filled while such a row
runs and empty otherwise. -/
structure Race where
  /-- A cause for OFF, BOOT or SAFE HOLD arises (R27). -/
  hold     : Bool := false
  /-- Degraded operation starts (R27). -/
  degraded : Bool := false
  /-- A fault opens the loop of axis A (R196). -/
  brakeA   : Bool := false
  /-- A fault opens the loop of axis B (R196). -/
  brakeB   : Bool := false
  deriving DecidableEq, Repr

/-- The time map that the register window shows (R330, R332). -/
structure TimeMap where
  /-- RATE, signed, 2^−40 (R332); reset -0. -/
  rate : Int := 0
  /-- C0, ticks; 64 bits (R332); reset -0. -/
  c0   : Nat := 0
  /-- P0, ns (R330, R332); reset -0. -/
  p0   : Int := 0
  deriving DecidableEq, Repr

/-- The ZPS1024 as a block: everything the spec gives it, and the queue of waiting commands. -/
structure State where
  /-- The commands that wait, first in, first out (the model's own queue); reset empty. -/
  pending : List Instr := []
  /-- The device's free-running clock, ticks since power came up (R483); reset 0. -/
  clk     : Nat := 0
  /-- Chain time in 1/256 tick; 72 bits (R294); reset 0. -/
  ct      : Nat := 0
  /-- Slew of chain time still to be applied, 1/256 tick, and the ticks over which it falls (R295); reset 0. -/
  slew    : Int × Nat := (0, 0)
  /-- A counter that picks a fresh free value each time one is taken (the model's own); reset -0. -/
  free    : Nat := 0
  /-- Lifecycle (01). -/
  life    : Life := {}
  /-- Power, clocks, boot (16). -/
  power   : Power := {}
  /-- OTP (12, 13, 16). -/
  otp     : Otp := {}
  /-- Flash (16). -/
  flash   : Flash := {}
  /-- Flash writes in progress, oldest first (R373, R426); reset empty. -/
  jobs    : List FlashJob := []
  /-- Port A (12). -/
  hostA   : HostSt := {}
  /-- Port B (12). -/
  hostB   : HostSt := { net := { ip := 0xA9FE5A0B } }
  /-- The 32 semaphores (R344). -/
  sems    : Tab Sem := []
  /-- Authentication by entry: 0 Port A, 1 Port B, then pairs (R349, R350). -/
  auths   : Tab Auth := []
  /-- Multi-part transfers in progress, by 4 × entry key + mailbox (R356); reset none. -/
  xfers   : Tab (Option PartXfer) := []
  /-- Histogram dumps of forwarded pairs in execution, with byte 0 of their CMD (R307, R370); reset empty. -/
  remote  : List (Nat × Exec) := []
  /-- Port whose time map is published in TIME_MAP; none: no map has been valid (R332); reset none. -/
  mapPort : Option HostPort := none
  /-- TIME_MAP: the last valid map on either port (R332); reset -0. -/
  map     : TimeMap := {}
  /-- The priority bit of R324: true favours Port B; reset -Port A. -/
  prio    : Bool := false
  /-- The mailbox whose MAILBOX_TAKE has been served ahead of its place in the queue, by R324 (the model's own); reset none. -/
  early   : Option (HostPort × Nat) := none
  /-- What the FAB_CK cycle of the row that runs still brings (R27, R196; the model's own); reset nothing. -/
  race    : Race := {}
  /-- Faults, retirement, monitors (18). -/
  faults  : Faults := {}
  /-- Modes and columns (02). -/
  mode    : ModeSt := {}
  /-- Front end, tiles, kernels (03 to 05). -/
  front   : Front := {}
  /-- Emission (06). -/
  emit    : Emit := {}
  /-- Scanner drive (07). -/
  scan    : Scan := {}
  /-- Engines and schedule (08, 09). -/
  sched   : SchedSt := {}
  /-- Ridge and chain (10, 11). -/
  chain   : ChainSt := {}
  /-- Safety island (14). -/
  safe    : Safe := {}
  /-- Housekeeping (15). -/
  hk      : Hk := {}
  /-- Monitor output (17). -/
  mon     : Mon := {}
  /-- What has left the device, newest first (the model's own record); reset empty. -/
  out     : List Out := []
  deriving DecidableEq, Repr

/-- The state at power-on, with PORST_N low: OFF, with everything at its reset value (R25, R26, R444, R456; log entry 148). -/
def State.reset : State := {}

end Sys2Proof.Machine
end

