-- ==== Sys2Proof/WellFormed.lean ====
section
/-! DEFINITION. Which commands are well formed: the bounds that the type of an operand does not carry. An ill-formed command is
none the outside can send; `exec` is total all the same. -/

namespace Sys2Proof

/-- The ticks that pass between the command before and this one (log entry 1). -/
def Instr.ticks : Instr → Nat
  | .devIdentify dt _ => dt
  | .devStatus dt _ => dt
  | .devReset dt _ => dt
  | .modeStart dt _ => dt
  | .modeStop dt _ => dt
  | .modeSet dt _ => dt
  | .modeStatus dt _ => dt
  | .serviceEnter dt _ => dt
  | .serviceExit dt _ => dt
  | .serviceProof dt _ => dt
  | .feConfig dt _ => dt
  | .feTrim dt _ => dt
  | .feStatus dt _ => dt
  | .pointConfig dt _ => dt
  | .pointStatus dt _ => dt
  | .calLoad dt _ => dt
  | .calStatus dt _ => dt
  | .emitConfig dt _ => dt
  | .emitStatus dt _ => dt
  | .ledgerSet dt _ => dt
  | .ledgerStatus dt _ => dt
  | .loopClose dt _ => dt
  | .loopOpen dt _ => dt
  | .loopCoef dt _ => dt
  | .loopSet dt _ => dt
  | .loopRepClear dt _ => dt
  | .loopStatus dt _ => dt
  | .schedLoad dt _ => dt
  | .schedStatus dt _ => dt
  | .safeConfig dt _ => dt
  | .safeStatus dt _ => dt
  | .hkConfig dt _ => dt
  | .hkSwitch dt _ => dt
  | .hkTherm dt _ => dt
  | .hkUrgent dt _ => dt
  | .hkRead dt _ => dt
  | .pwrSet dt _ => dt
  | .pwrStatus dt _ => dt
  | .ridgeLaneCfg dt _ => dt
  | .ridgeLaneTest dt _ => dt
  | .ridgeLaneStatus dt _ => dt
  | .chainConfig dt _ => dt
  | .chainDiscover dt _ => dt
  | .chainTimeSet dt _ => dt
  | .chainStatus dt _ => dt
  | .hostNetConfig dt _ => dt
  | .hostStatus dt _ => dt
  | .semClaim dt _ => dt
  | .semRelease dt _ => dt
  | .semLease dt _ => dt
  | .semStatus dt _ => dt
  | .keyRotate dt _ => dt
  | .keyProvision dt _ => dt
  | .keySchedDigest dt _ => dt
  | .keyStatus dt _ => dt
  | .fwWrite dt _ => dt
  | .fwCommit dt _ => dt
  | .fwStatus dt _ => dt
  | .monWrite dt _ => dt
  | .monRead dt _ => dt
  | .faultLog dt _ => dt
  | .faultUnits dt _ => dt
  | .healthConfig dt _ => dt
  | .healthRead dt _ => dt
  | .histDump dt _ => dt
  | .histDumpComplete dt _ _ => dt
  | .doorbell dt _ _ => dt
  | .mailboxTake dt _ _ _ => dt
  | .ethCommandDatagram dt _ _ _ => dt
  | .commandTimeout dt _ _ => dt
  | .semReadClaim dt _ _ => dt
  | .semWriteRelease dt _ _ _ => dt
  | .semLeaseExpiry dt _ => dt
  | .lockoutEnd dt _ => dt
  | .ctLatch dt _ => dt
  | .ringEnable dt _ _ _ => dt
  | .ringDisable dt _ _ _ => dt
  | .monCommit dt _ _ => dt
  | .bootGo dt _ _ => dt
  | .bootDatagram dt _ _ _ => dt
  | .registerWrite dt _ _ _ => dt
  | .hostSessionEnd dt _ _ => dt
  | .hostPerst dt _ => dt
  | .hostLinkDown dt _ => dt
  | .hostAerFatal dt _ => dt
  | .hostDmaTimeout dt _ => dt
  | .arpRequest dt _ _ _ _ => dt
  | .arpCacheExpiry dt _ _ => dt
  | .icmpEcho dt _ _ _ _ _ => dt
  | .frameDiscard dt _ => dt
  | .ptpSync dt _ _ => dt
  | .ptpFollowUp dt _ _ _ _ => dt
  | .ptpAnnounce dt _ _ => dt
  | .ptpDelayReq dt _ => dt
  | .ptpDelayResp dt _ _ _ _ _ => dt
  | .timeMapTimeout dt _ => dt
  | .timeMapReport dt _ => dt
  | .eventDatagram dt _ => dt
  | .pointInterrupt dt _ => dt
  | .columnDelivery dt => dt
  | .columnBoundary dt _ _ => dt
  | .serviceRecordAppend dt => dt
  | .writePipelineCheck dt _ _ => dt
  | .decisionInstant dt _ => dt
  | .shotFrame dt => dt
  | .ledgerDecision dt => dt
  | .shotInstant dt => dt
  | .esnsCheck dt _ => dt
  | .uncommandedCurrent dt _ => dt
  | .gateReadback dt _ => dt
  | .holdFrame dt _ => dt
  | .corniceRead dt _ _ => dt
  | .corniceWrite dt _ _ _ => dt
  | .corniceReply dt _ _ => dt
  | .corniceNoReply dt _ => dt
  | .corniceLineFault dt _ => dt
  | .serviceProofShot dt => dt
  | .refillTick dt _ _ => dt
  | .diagnosisAgeExpired dt _ => dt
  | .reservoirComparator dt _ _ => dt
  | .chargeTimeout dt _ => dt
  | .comparatorCrossing dt _ _ _ _ _ => dt
  | .preDetector dt => dt
  | .calTableCompute dt _ _ => dt
  | .tileDllUnlock dt _ => dt
  | .engineRunStart dt => dt
  | .engNop dt _ _ _ => dt
  | .engLdb dt _ _ _ => dt
  | .engLdh dt _ _ _ => dt
  | .engLdw dt _ _ _ => dt
  | .engLdd dt _ _ _ => dt
  | .engLdb4 dt _ _ _ => dt
  | .engStb dt _ _ => dt
  | .engSth dt _ _ => dt
  | .engStw dt _ _ => dt
  | .engStd dt _ _ => dt
  | .engAdd dt _ _ => dt
  | .engAdds dt _ _ => dt
  | .engSub dt _ _ => dt
  | .engSubs dt _ _ => dt
  | .engAnd dt _ _ => dt
  | .engOr dt _ _ => dt
  | .engXor dt _ _ => dt
  | .engShl dt _ _ => dt
  | .engShr dt _ _ => dt
  | .engAsr dt _ _ => dt
  | .engAsrr dt _ _ => dt
  | .engMin dt _ _ => dt
  | .engMax dt _ _ => dt
  | .engAbs dt _ _ => dt
  | .engMov dt _ _ => dt
  | .engMovi dt _ _ => dt
  | .engSath dt _ _ => dt
  | .engSel dt _ _ => dt
  | .engNorm dt _ _ => dt
  | .engBexp dt _ _ => dt
  | .engBxclr dt _ _ => dt
  | .engCmpeq dt _ _ => dt
  | .engCmplt dt _ _ => dt
  | .engCmple dt _ _ => dt
  | .engCmpltu dt _ _ => dt
  | .engPand dt _ _ => dt
  | .engPor dt _ _ => dt
  | .engPnot dt _ _ => dt
  | .engDiv dt _ _ => dt
  | .engDivr dt _ _ => dt
  | .engSqrt dt _ _ => dt
  | .engMfs dt _ _ => dt
  | .engMts dt _ _ => dt
  | .engQmac dt _ _ => dt
  | .engQmsu dt _ _ => dt
  | .engQmul dt _ _ => dt
  | .engAccrd dt _ _ => dt
  | .engAccclr dt _ _ => dt
  | .engSmul dt _ _ => dt
  | .engAccsum dt _ _ => dt
  | .engAccnorm dt _ _ => dt
  | .engSetb dt _ _ => dt
  | .engSeti dt _ _ => dt
  | .engSetm dt _ _ => dt
  | .engSetl dt _ _ => dt
  | .engSetd dt _ _ => dt
  | .engAddi dt _ _ => dt
  | .engGeti dt _ _ => dt
  | .engLoop0 dt _ _ => dt
  | .engLoop1 dt _ _ => dt
  | .engLend0 dt _ => dt
  | .engLend1 dt _ => dt
  | .engEnd dt _ => dt
  | .resultLanding dt _ => dt
  | .guardSlotEnd dt _ => dt
  | .stagingComplete dt _ _ => dt
  | .storeScrub dt _ => dt
  | .storeRestoreDone dt _ => dt
  | .schedLoadDone dt => dt
  | .warmUpEnd dt => dt
  | .orderlyStopComplete dt => dt
  | .stopTimeout dt => dt
  | .degradedPeriodExpiry dt => dt
  | .serviceSessionTimeout dt => dt
  | .safeResetRisingEdge dt => dt
  | .safeResetPress dt _ _ => dt
  | .safeResetStuck dt => dt
  | .resetStuckClear dt => dt
  | .estopDemand dt => dt
  | .estopRelease dt => dt
  | .zoneCodeTaken dt _ => dt
  | .zoneCodeUnstable dt => dt
  | .encoderEdge dt _ => dt
  | .encoderIndex dt _ => dt
  | .facetCrossing dt _ => dt
  | .encEdgeTimeout dt => dt
  | .slsEdgeWatchdog dt => dt
  | .slpFrameTimeout dt => dt
  | .le0Period dt _ _ _ => dt
  | .phaseCurrentComparator dt _ _ => dt
  | .le1Period dt => dt
  | .le2Period dt => dt
  | .le3Period dt _ _ => dt
  | .le4Period dt => dt
  | .le5Period dt => dt
  | .referenceInstant dt => dt
  | .alignmentEnd dt => dt
  | .overcurrentA dt _ _ => dt
  | .busOvervolt dt _ => dt
  | .spinupTimeout dt => dt
  | .lockRegainTimeout dt => dt
  | .trackingErrorLimit dt => dt
  | .loopEngineUpset dt _ => dt
  | .brakeStopCondition dt _ => dt
  | .periodInEdge dt => dt
  | .zoneEvaluation dt _ _ => dt
  | .offTest dt _ => dt
  | .offTestEnd dt _ => dt
  | .safeFbReadback dt _ _ => dt
  | .lockstepMismatch dt _ => dt
  | .lockstepSelfTest dt _ => dt
  | .safetyMemEcc dt => dt
  | .islandClock dt => dt
  | .faultNReadback dt => dt
  | .selfTestComplete dt _ => dt
  | .roundStart dt => dt
  | .excitationSwap dt => dt
  | .conversionEnd dt _ => dt
  | .openDetect dt _ => dt
  | .dieMonitorRead dt _ => dt
  | .hardTrip dt => dt
  | .hardTripRelease dt => dt
  | .pmbusPoll dt _ => dt
  | .pmbAlert dt _ => dt
  | .flashWriteDone dt => dt
  | .healthWindow dt _ => dt
  | .powerOn dt => dt
  | .powerLoss dt => dt
  | .porstAssert dt => dt
  | .porstRelease dt _ => dt
  | .vddIoLow dt => dt
  | .resetCauseEnd dt => dt
  | .rootPllLock dt => dt
  | .rootPllUnlock dt => dt
  | .refclkLost dt => dt
  | .refclkHoldoverExpired dt => dt
  | .referenceHoldoverEnd dt => dt
  | .railPgGood dt _ => dt
  | .railPgTimeout dt _ => dt
  | .railPgLost dt _ => dt
  | .domainPowerGood dt _ => dt
  | .domainSwitch dt _ => dt
  | .safetyWatchdog dt => dt
  | .appWatchdog dt => dt
  | .appRestartDone dt => dt
  | .startWatchdog dt => dt
  | .imageLoaded dt => dt
  | .signalDetect dt _ => dt
  | .cdrLock dt _ _ => dt
  | .commaAlignment dt _ => dt
  | .ctsReceived dt _ _ _ => dt
  | .dtpReceived dt _ _ _ _ => dt
  | .blockLock dt _ _ => dt
  | .dskBlock dt _ _ _ _ => dt
  | .dskSend dt _ => dt
  | .creditInitialisation dt _ _ _ => dt
  | .bringupTimeout dt _ _ => dt
  | .bringupRestart dt _ => dt
  | .dataLockLost dt _ _ => dt
  | .ctlLaneLost dt _ => dt
  | .excludedLaneRetrain dt _ => dt
  | .sleepEntry dt _ => dt
  | .wake dt _ => dt
  | .controlSlotSend dt _ => dt
  | .controlCycleStart dt => dt
  | .syncSlot dt _ _ _ => dt
  | .linkSlot dt _ _ => dt
  | .keepaliveLost dt _ => dt
  | .stopHoldReceived dt _ _ => dt
  | .msgFragment dt _ _ => dt
  | .reassemblyTimeout dt _ _ => dt
  | .discAssign dt _ _ _ _ _ => dt
  | .discDone dt _ _ _ _ _ => dt
  | .discChange dt _ _ _ _ => dt
  | .discoveryStart dt => dt
  | .discoveryFailed dt => dt
  | .discoveryRetry dt => dt
  | .addressLoss dt => dt
  | .dataPacket dt _ _ _ _ => dt
  | .packetSend dt _ => dt
  | .creditBlock dt _ _ => dt
  | .creditReturn dt _ => dt
  | .slotReportSend dt _ => dt
  | .verticalBlanking dt => dt
  | .idleCommit dt => dt
  | .layerUnderrun dt _ _ => dt
  | .monGridEcc dt => dt
  | .hostPerstRelease dt _ => dt
  | .hostLinkUp dt _ => dt
  | .refclkReturn dt => dt
  | .emissionFaultEnd dt _ _ => dt
  | .arpReply dt _ _ _ => dt
  | .netConfigApply dt _ => dt

/-- No number stands twice in a list. -/
def distinct (l : List Nat) : Bool :=
  l.eraseDups.length == l.length

/-- A command slot's data: at most the 4 MiB of a schedule set (R236, R240). -/
def Req.ok (r : Req) : Bool :=
  match r.din with
  | some d => d.length ≤ 4194304
  | none => true

/-- The bounds of the operands beside their types: lengths of data, datagrams and packets, lists without repeats. -/
def Instr.operandsOk : Instr → Bool
  | .devIdentify _ r => r.ok
  | .devStatus _ r => r.ok
  | .devReset _ r => r.ok
  | .modeStart _ r => r.ok
  | .modeStop _ r => r.ok
  | .modeSet _ r => r.ok
  | .modeStatus _ r => r.ok
  | .serviceEnter _ r => r.ok
  | .serviceExit _ r => r.ok
  | .serviceProof _ r => r.ok
  | .feConfig _ r => r.ok
  | .feTrim _ r => r.ok
  | .feStatus _ r => r.ok
  | .pointConfig _ r => r.ok
  | .pointStatus _ r => r.ok
  | .calLoad _ r => r.ok
  | .calStatus _ r => r.ok
  | .emitConfig _ r => r.ok
  | .emitStatus _ r => r.ok
  | .ledgerSet _ r => r.ok
  | .ledgerStatus _ r => r.ok
  | .loopClose _ r => r.ok
  | .loopOpen _ r => r.ok
  | .loopCoef _ r => r.ok
  | .loopSet _ r => r.ok
  | .loopRepClear _ r => r.ok
  | .loopStatus _ r => r.ok
  | .schedLoad _ r => r.ok
  | .schedStatus _ r => r.ok
  | .safeConfig _ r => r.ok
  | .safeStatus _ r => r.ok
  | .hkConfig _ r => r.ok
  | .hkSwitch _ r => r.ok
  | .hkTherm _ r => r.ok
  | .hkUrgent _ r => r.ok
  | .hkRead _ r => r.ok
  | .pwrSet _ r => r.ok
  | .pwrStatus _ r => r.ok
  | .ridgeLaneCfg _ r => r.ok
  | .ridgeLaneTest _ r => r.ok
  | .ridgeLaneStatus _ r => r.ok
  | .chainConfig _ r => r.ok
  | .chainDiscover _ r => r.ok
  | .chainTimeSet _ r => r.ok
  | .chainStatus _ r => r.ok
  | .hostNetConfig _ r => r.ok
  | .hostStatus _ r => r.ok
  | .semClaim _ r => r.ok
  | .semRelease _ r => r.ok
  | .semLease _ r => r.ok
  | .semStatus _ r => r.ok
  | .keyRotate _ r => r.ok
  | .keyProvision _ r => r.ok
  | .keySchedDigest _ r => r.ok
  | .keyStatus _ r => r.ok
  | .fwWrite _ r => r.ok
  | .fwCommit _ r => r.ok
  | .fwStatus _ r => r.ok
  | .monWrite _ r => r.ok
  | .monRead _ r => r.ok
  | .faultLog _ r => r.ok
  | .faultUnits _ r => r.ok
  | .healthConfig _ r => r.ok
  | .healthRead _ r => r.ok
  | .histDump _ r => r.ok
  | .histDumpComplete _ _ _ => true
  | .doorbell _ _ _ => true
  | .mailboxTake _ _ _ din => (match din with | some d => decide (d.length ≤ 4194304) | none => true)
  | .ethCommandDatagram _ _ _ bytes => bytes.length ≤ 1472
  | .commandTimeout _ _ _ => true
  | .semReadClaim _ _ _ => true
  | .semWriteRelease _ _ _ _ => true
  | .semLeaseExpiry _ _ => true
  | .lockoutEnd _ _ => true
  | .ctLatch _ _ => true
  | .ringEnable _ _ _ _ => true
  | .ringDisable _ _ _ _ => true
  | .monCommit _ _ _ => true
  | .bootGo _ _ image => (match image with | some d => decide (d.length ≤ 4194304) | none => true)
  | .bootDatagram _ _ _ bytes => bytes.length ≤ 1472
  | .registerWrite _ _ _ _ => true
  | .hostSessionEnd _ _ _ => true
  | .hostPerst _ _ => true
  | .hostLinkDown _ _ => true
  | .hostAerFatal _ _ => true
  | .hostDmaTimeout _ _ => true
  | .arpRequest _ _ _ _ _ => true
  | .arpCacheExpiry _ _ _ => true
  | .icmpEcho _ _ _ _ _ data => data.length ≤ 1472
  | .frameDiscard _ _ => true
  | .ptpSync _ _ _ => true
  | .ptpFollowUp _ _ _ _ _ => true
  | .ptpAnnounce _ _ _ => true
  | .ptpDelayReq _ _ => true
  | .ptpDelayResp _ _ _ _ _ _ => true
  | .timeMapTimeout _ _ => true
  | .timeMapReport _ _ => true
  | .eventDatagram _ _ => true
  | .pointInterrupt _ _ => true
  | .columnDelivery _ => true
  | .columnBoundary _ _ badOwner => distinct (badOwner.map Fin.val)
  | .serviceRecordAppend _ => true
  | .writePipelineCheck _ notEmpty active => distinct (notEmpty.map Fin.val) && distinct (active.map Fin.val)
  | .decisionInstant _ obs => distinct (obs.map (fun o => o.ch.val))
  | .shotFrame _ => true
  | .ledgerDecision _ => true
  | .shotInstant _ => true
  | .esnsCheck _ _ => true
  | .uncommandedCurrent _ _ => true
  | .gateReadback _ _ => true
  | .holdFrame _ _ => true
  | .corniceRead _ _ _ => true
  | .corniceWrite _ _ _ _ => true
  | .corniceReply _ _ _ => true
  | .corniceNoReply _ _ => true
  | .corniceLineFault _ _ => true
  | .serviceProofShot _ => true
  | .refillTick _ observed _ => distinct (observed.map (fun o => o.1.val))
  | .diagnosisAgeExpired _ _ => true
  | .reservoirComparator _ _ _ => true
  | .chargeTimeout _ _ => true
  | .comparatorCrossing _ _ _ _ _ _ => true
  | .preDetector _ => true
  | .calTableCompute _ _ _ => true
  | .tileDllUnlock _ _ => true
  | .engineRunStart _ => true
  | .engNop _ _ _ _ => true
  | .engLdb _ _ _ _ => true
  | .engLdh _ _ _ _ => true
  | .engLdw _ _ _ _ => true
  | .engLdd _ _ _ _ => true
  | .engLdb4 _ _ _ _ => true
  | .engStb _ _ _ => true
  | .engSth _ _ _ => true
  | .engStw _ _ _ => true
  | .engStd _ _ _ => true
  | .engAdd _ _ _ => true
  | .engAdds _ _ _ => true
  | .engSub _ _ _ => true
  | .engSubs _ _ _ => true
  | .engAnd _ _ _ => true
  | .engOr _ _ _ => true
  | .engXor _ _ _ => true
  | .engShl _ _ _ => true
  | .engShr _ _ _ => true
  | .engAsr _ _ _ => true
  | .engAsrr _ _ _ => true
  | .engMin _ _ _ => true
  | .engMax _ _ _ => true
  | .engAbs _ _ _ => true
  | .engMov _ _ _ => true
  | .engMovi _ _ _ => true
  | .engSath _ _ _ => true
  | .engSel _ _ _ => true
  | .engNorm _ _ _ => true
  | .engBexp _ _ _ => true
  | .engBxclr _ _ _ => true
  | .engCmpeq _ _ _ => true
  | .engCmplt _ _ _ => true
  | .engCmple _ _ _ => true
  | .engCmpltu _ _ _ => true
  | .engPand _ _ _ => true
  | .engPor _ _ _ => true
  | .engPnot _ _ _ => true
  | .engDiv _ _ _ => true
  | .engDivr _ _ _ => true
  | .engSqrt _ _ _ => true
  | .engMfs _ _ _ => true
  | .engMts _ _ _ => true
  | .engQmac _ _ _ => true
  | .engQmsu _ _ _ => true
  | .engQmul _ _ _ => true
  | .engAccrd _ _ _ => true
  | .engAccclr _ _ _ => true
  | .engSmul _ _ _ => true
  | .engAccsum _ _ _ => true
  | .engAccnorm _ _ _ => true
  | .engSetb _ _ _ => true
  | .engSeti _ _ _ => true
  | .engSetm _ _ _ => true
  | .engSetl _ _ _ => true
  | .engSetd _ _ _ => true
  | .engAddi _ _ _ => true
  | .engGeti _ _ _ => true
  | .engLoop0 _ _ _ => true
  | .engLoop1 _ _ _ => true
  | .engLend0 _ _ => true
  | .engLend1 _ _ => true
  | .engEnd _ _ => true
  | .resultLanding _ _ => true
  | .guardSlotEnd _ _ => true
  | .stagingComplete _ _ _ => true
  | .storeScrub _ _ => true
  | .storeRestoreDone _ _ => true
  | .schedLoadDone _ => true
  | .warmUpEnd _ => true
  | .orderlyStopComplete _ => true
  | .stopTimeout _ => true
  | .degradedPeriodExpiry _ => true
  | .serviceSessionTimeout _ => true
  | .safeResetRisingEdge _ => true
  | .safeResetPress _ _ _ => true
  | .safeResetStuck _ => true
  | .resetStuckClear _ => true
  | .estopDemand _ => true
  | .estopRelease _ => true
  | .zoneCodeTaken _ _ => true
  | .zoneCodeUnstable _ => true
  | .encoderEdge _ _ => true
  | .encoderIndex _ _ => true
  | .facetCrossing _ _ => true
  | .encEdgeTimeout _ => true
  | .slsEdgeWatchdog _ => true
  | .slpFrameTimeout _ => true
  | .le0Period _ _ _ _ => true
  | .phaseCurrentComparator _ _ uV => decide (uV ≤ 1800000)
  | .le1Period _ => true
  | .le2Period _ => true
  | .le3Period _ _ _ => true
  | .le4Period _ => true
  | .le5Period _ => true
  | .referenceInstant _ => true
  | .alignmentEnd _ => true
  | .overcurrentA _ _ uV => decide (uV ≤ 1800000)
  | .busOvervolt _ _ => true
  | .spinupTimeout _ => true
  | .lockRegainTimeout _ => true
  | .trackingErrorLimit _ => true
  | .loopEngineUpset _ _ => true
  | .brakeStopCondition _ _ => true
  | .periodInEdge _ => true
  | .zoneEvaluation _ _ _ => true
  | .offTest _ _ => true
  | .offTestEnd _ _ => true
  | .safeFbReadback _ _ _ => true
  | .lockstepMismatch _ _ => true
  | .lockstepSelfTest _ _ => true
  | .safetyMemEcc _ => true
  | .islandClock _ => true
  | .faultNReadback _ => true
  | .selfTestComplete _ _ => true
  | .roundStart _ => true
  | .excitationSwap _ => true
  | .conversionEnd _ _ => true
  | .openDetect _ _ => true
  | .dieMonitorRead _ ts => ts.length = 9
  | .hardTrip _ => true
  | .hardTripRelease _ => true
  | .pmbusPoll _ readings => distinct (readings.map (fun o => o.addr.val))
  | .pmbAlert _ words => distinct (words.map (fun o => o.addr.val))
  | .flashWriteDone _ => true
  | .healthWindow _ _ => true
  | .powerOn _ => true
  | .powerLoss _ => true
  | .porstAssert _ => true
  | .porstRelease _ _ => true
  | .vddIoLow _ => true
  | .resetCauseEnd _ => true
  | .rootPllLock _ => true
  | .rootPllUnlock _ => true
  | .refclkLost _ => true
  | .refclkHoldoverExpired _ => true
  | .referenceHoldoverEnd _ => true
  | .railPgGood _ _ => true
  | .railPgTimeout _ _ => true
  | .railPgLost _ _ => true
  | .domainPowerGood _ _ => true
  | .domainSwitch _ _ => true
  | .safetyWatchdog _ => true
  | .appWatchdog _ => true
  | .appRestartDone _ => true
  | .startWatchdog _ => true
  | .imageLoaded _ => true
  | .signalDetect _ _ => true
  | .cdrLock _ _ _ => true
  | .commaAlignment _ _ => true
  | .ctsReceived _ _ _ _ => true
  | .dtpReceived _ _ _ _ _ => true
  | .blockLock _ _ _ => true
  | .dskBlock _ _ _ _ _ => true
  | .dskSend _ _ => true
  | .creditInitialisation _ _ _ _ => true
  | .bringupTimeout _ _ _ => true
  | .bringupRestart _ _ => true
  | .dataLockLost _ _ _ => true
  | .ctlLaneLost _ _ => true
  | .excludedLaneRetrain _ _ => true
  | .sleepEntry _ _ => true
  | .wake _ _ => true
  | .controlSlotSend _ _ => true
  | .controlCycleStart _ => true
  | .syncSlot _ _ _ _ => true
  | .linkSlot _ _ _ => true
  | .keepaliveLost _ _ => true
  | .stopHoldReceived _ _ _ => true
  | .msgFragment _ _ _ => true
  | .reassemblyTimeout _ _ _ => true
  | .discAssign _ _ _ _ _ _ => true
  | .discDone _ _ _ _ _ _ => true
  | .discChange _ _ _ _ _ => true
  | .discoveryStart _ => true
  | .discoveryFailed _ => true
  | .discoveryRetry _ => true
  | .addressLoss _ => true
  | .dataPacket _ _ pkt _ _ => pkt.data.length % 8 = 0 && 8 ≤ pkt.data.length && pkt.data.length ≤ 2048
  | .packetSend _ _ => true
  | .creditBlock _ _ _ => true
  | .creditReturn _ _ => true
  | .slotReportSend _ _ => true
  | .verticalBlanking _ => true
  | .idleCommit _ => true
  | .layerUnderrun _ _ _ => true
  | .monGridEcc _ => true
  | .hostPerstRelease _ _ => true
  | .hostLinkUp _ _ => true
  | .refclkReturn _ => true
  | .emissionFaultEnd _ _ _ => true
  | .arpReply _ _ _ _ => true
  | .netConfigApply _ _ => true

/-- A command is well formed: its time fits the device's clock word of chain time (R294), and its operands their bounds. -/
def Instr.wellFormed (i : Instr) : Bool :=
  i.ticks < 2 ^ 64 && i.operandsOk

end Sys2Proof
end

