-- ==== Sys2Proof/Machine/Ops.lean ====
section
/-! DEFINITION. The named operations every meaning is built from: time, access to one unit of a table, outputs, power,
retirement queries, and the shape of a meaning (`run`, `runOtp`). -/

namespace Sys2Proof.Machine

open Sys2Proof

/-- What a meaning answers. -/
abbrev Res := Host.Outcome State Fault Refusal

/-! ### Time -/

/-- The part of a slew that falls into `dt` ticks, in 1/256 tick (R295). -/
def slewPart (sl : Int × Nat) (dt : Nat) : Int :=
  if sl.2 ≤ dt then sl.1 else sl.1 * dt / sl.2

/-- Time passes: the device's own clock always, chain time while the root PLL is locked (R20, R294, R440), with its slew
applied (R295). Chain time is a 64-bit tick count with an 8-bit fraction. -/
def State.advance (s : State) (dt : Nat) : State :=
  { s with
    clk := s.clk + dt
    ct := if s.power.pll then (((s.ct : Int) + dt * 256 + slewPart s.slew dt) % (2 ^ 72 : Nat)).toNat else s.ct
    slew := if s.power.pll then (s.slew.1 - slewPart s.slew dt, s.slew.2 - dt) else s.slew }

/-- Chain time in ticks (R4). -/
def State.now (s : State) : Nat :=
  s.ct / 256

/-- The shape of every meaning: time passes, then the command acts; a device that is OFF takes nothing (R25, R26). The
queue belongs to `step`; the one-time memory is written by the KEY commands alone (R347, R371). -/
def run (dt : Nat) (s : State) (f : State → State) : Res :=
  .next { (if s.life.lcs = .off then s.advance dt else f (s.advance dt)) with
    pending := s.pending, clk := s.clk + dt, otp := s.otp }

/-- As `run`, for the commands through which a KEY command can reach the one-time memory. -/
def runOtp (dt : Nat) (s : State) (f : State → State) : Res :=
  .next { (if s.life.lcs = .off then s.advance dt else f (s.advance dt)) with
    pending := s.pending, clk := s.clk + dt }

/-- As `run`, for the arrival and loss of power, which an OFF device takes (R26). -/
def runAlways (dt : Nat) (s : State) (f : State → State) : Res :=
  .next { f (s.advance dt) with pending := s.pending, clk := s.clk + dt, otp := s.otp }

/-- A fresh free value is taken: the state with the counter advanced (log entry 3). -/
def State.took (s : State) : State :=
  { s with free := s.free + 1 }

/-- The rows of a queue that come before `left` ticks have passed. -/
def rowsWithin : Nat → List Instr → List Instr
  | _, [] => []
  | left, c :: rest => if c.ticks < left then c :: rowsWithin (left - c.ticks) rest else []

/-- The rows that wait for the FAB_CK cycle in progress (R20, R27). -/
def State.cycleRows (s : State) : List Instr :=
  rowsWithin (fabCk - s.clk % fabCk) s.pending

/-- Something leaves the device. -/
def State.say (s : State) (o : Out) : State :=
  { s with out := o :: s.out }

/-! ### Host ports -/

/-- A host port. -/
def State.port (s : State) (p : HostPort) : HostSt :=
  match p with
  | .A => s.hostA
  | .B => s.hostB

/-- A host port replaced. -/
def State.setPort (s : State) (p : HostPort) (h : HostSt) : State :=
  match p with
  | .A => { s with hostA := h }
  | .B => { s with hostB := h }

/-- A host port changed. -/
def State.modPort (s : State) (p : HostPort) (f : HostSt → HostSt) : State :=
  s.setPort p (f (s.port p))

/-- The mailbox of a port. -/
def State.mb (s : State) (p : HostPort) (m : Nat) : Mailbox :=
  tget {} (s.port p).mbs m

/-- A mailbox changed. -/
def State.modMb (s : State) (p : HostPort) (m : Nat) (f : Mailbox → Mailbox) : State :=
  s.modPort p (fun h => { h with mbs := tmod {} h.mbs m f })

/-- The strapped mode of a port: 0 off, 1 PCI Express, 2 25GBASE-R, 3 10GBASE-R (R323). -/
def State.portMode (s : State) (p : HostPort) : Nat :=
  match p with
  | .A => s.power.boot.straps.hostA.toNat
  | .B => s.power.boot.straps.hostB.toNat

/-- A port runs as a PCI Express endpoint (R323). -/
def State.isPcie (s : State) (p : HostPort) : Bool :=
  s.portMode p == 1

/-- A port runs as an Ethernet port (R323). -/
def State.isEth (s : State) (p : HostPort) : Bool :=
  s.portMode p == 2 || s.portMode p == 3

/-- The number of a port: 0 for A, 1 for B (R478). -/
def portIdx : HostPort → Nat
  | .A => 0
  | .B => 1

/-- The letter of a port (R348, R361). -/
def portLetter : HostPort → Nat
  | .A => 0x41
  | .B => 0x42

/-- The other port. -/
def otherPort : HostPort → HostPort
  | .A => .B
  | .B => .A

/-- An entry that is a port of this device. -/
def localEntry (p : HostPort) : Entry :=
  ⟨p, none⟩

/-- The key of an entry's authentication record: 0 Port A, 1 Port B, then forwarded pairs (R307, R349). -/
def entryKey (e : Entry) : Nat :=
  match e.pair with
  | none => portIdx e.port
  | some a => 2 + 2 * a.toNat + portIdx e.port

/-- The authentication record of an entry. -/
def State.auth (s : State) (e : Entry) : Auth :=
  tget {} s.auths (entryKey e)

/-- An entry's authentication record changed. -/
def State.modAuth (s : State) (e : Entry) (f : Auth → Auth) : State :=
  { s with auths := tmod {} s.auths (entryKey e) f }

/-- A semaphore. -/
def State.sem (s : State) (n : Nat) : Sem :=
  tget {} s.sems n

/-- A semaphore changed. -/
def State.modSem (s : State) (n : Nat) (f : Sem → Sem) : State :=
  { s with sems := tmod {} s.sems n f }

/-- A key slot of a port in OTP. -/
def State.key (s : State) (p : HostPort) (k : Nat) : KeySlot :=
  tget {} s.otp.keys (4 * portIdx p + k)

/-! ### Units of the measuring path -/

/-- A string. -/
def State.str (s : State) (i : Nat) : Strng :=
  tget {} s.emit.strs i

/-- A string changed. -/
def State.modStr (s : State) (i : Nat) (f : Strng → Strng) : State :=
  { s with emit.strs := tmod {} s.emit.strs i f }

/-- The string word in force (R170). -/
def State.strWord (s : State) (i : Nat) : Nat :=
  (tget 0x00FC4000#32 s.emit.strWord i).toNat

/-- A Cornice line. -/
def State.line (s : State) (i : Nat) : Line :=
  tget {} s.emit.lines i

/-- A Cornice line changed. -/
def State.modLine (s : State) (i : Nat) (f : Line → Line) : State :=
  { s with emit.lines := tmod {} s.emit.lines i f }

/-- A channel. -/
def State.chan (s : State) (c : Nat) : Chan :=
  tget {} s.front.chans c

/-- A channel changed. -/
def State.modChan (s : State) (c : Nat) (f : Chan → Chan) : State :=
  { s with front.chans := tmod {} s.front.chans c f }

/-- A tile. -/
def State.tile (s : State) (t : Nat) : Tile :=
  tget {} s.front.tiles t

/-- A tile changed. -/
def State.modTile (s : State) (t : Nat) (f : Tile → Tile) : State :=
  { s with front.tiles := tmod {} s.front.tiles t f }

/-- A physical engine, by 32 × sector + engine. -/
def State.eng (s : State) (e : Nat) : Eng :=
  tget {} s.sched.engs e

/-- A physical engine changed. -/
def State.modEng (s : State) (e : Nat) (f : Eng → Eng) : State :=
  { s with sched.engs := tmod {} s.sched.engs e f }

/-- A sector. -/
def State.sector (s : State) (k : Nat) : Sector :=
  tget {} s.sched.sectors k

/-- A sector changed. -/
def State.modSector (s : State) (k : Nat) (f : Sector → Sector) : State :=
  { s with sched.sectors := tmod {} s.sched.sectors k f }

/-- A safe output. -/
def State.outp (s : State) (k : Nat) : SafeOut :=
  tget {} s.safe.outs k

/-- A safe output changed. -/
def State.modOut (s : State) (k : Nat) (f : SafeOut → SafeOut) : State :=
  { s with safe.outs := tmod {} s.safe.outs k f }

/-- A housekeeping channel. -/
def State.hkc (s : State) (c : Nat) : HkChan :=
  tget {} s.hk.chans c

/-- A housekeeping channel changed. -/
def State.modHkc (s : State) (c : Nat) (f : HkChan → HkChan) : State :=
  { s with hk.chans := tmod {} s.hk.chans c f }

/-- A die sensor. -/
def State.dieS (s : State) (k : Nat) : DieSensor :=
  tget {} s.hk.die k

/-- The sector of a channel (R11). -/
def secOf (c : Nat) : Nat :=
  c / 128

/-- The device tile of a channel (R11). -/
def tileOf (c : Nat) : Nat :=
  c / 16

/-! ### Ridge ports -/

/-- A Ridge port. -/
def State.rport (s : State) (q : Nat) : RidgePort :=
  tget {} s.chain.ports q

/-- A Ridge port changed. -/
def State.modRport (s : State) (q : Nat) (f : RidgePort → RidgePort) : State :=
  { s with chain.ports := tmod {} s.chain.ports q f }

/-- A lane of a port: 0 is C, 1 to 3 the data lanes. -/
def RidgePort.lane (r : RidgePort) (l : Nat) : Lane :=
  tget {} r.lanes l

/-- A lane changed. -/
def RidgePort.modLane (r : RidgePort) (l : Nat) (f : Lane → Lane) : RidgePort :=
  { r with lanes := tmod {} r.lanes l f }

/-- ENABLE of a port (R318). -/
def State.ridgeEnabled (s : State) (q : Nat) : Bool :=
  bitN (s.rport q).word.toNat 24

/-- TOPO (R288, R318). -/
def State.topo (s : State) : Nat :=
  fld s.chain.word.toNat 0 2

/-- The device is the chain root (R288). -/
def State.isRoot (s : State) : Bool :=
  s.power.boot.straps.chainRoot

/-- The upstream port (R288). -/
def State.upPort (s : State) : Option Nat :=
  if s.isRoot || s.topo = 0 then none else if s.topo = 2 then s.chain.upstream else some 0

/-- The downstream ports in ascending order (R288); at the root of a ring P1 stands before P0 (R303). -/
def State.downPorts (s : State) : List Nat :=
  if s.topo = 1 then [1]
  else if s.topo = 2 then
    (if s.isRoot then [1, 0] else match s.chain.upstream with
      | some 0 => [1]
      | some 1 => [0]
      | _ => [])
  else if s.topo = 3 then [1, 2, 3].filter s.ridgeEnabled
  else []

/-- The port a message for an address leaves on (R306). -/
def State.route (s : State) (dest : Nat) : Option Nat :=
  if s.chain.addr = 0xFFFF then none
  else
    let usable := fun q => (s.rport q).up && !(s.rport q).conflict
    match (List.range 4).find? (fun q => match (s.rport q).range with
      | some (lo, hi) => lo ≤ dest && dest ≤ hi
      | none => false) with
    | some q => if usable q then some q else none
    | none => match s.upPort with
      | some q => if usable q then some q else none
      | none => none

/-! ### Power and retirement -/

/-- The device owes a head an access (R157, R165, R168, R170). -/
def State.owe (s : State) (i : Nat) (reg : Byte) (write : Bool) : State :=
  if s.emit.owed.any (fun o => o.str = i && o.reg = reg && o.write = write) then s
  else { s with emit.owed := s.emit.owed ++ [⟨i, reg, write, s.clk⟩] }

/-- A switched domain is powered, by the bits of R367. -/
def State.domOn (s : State) (d : Nat) : Bool :=
  bitN s.power.dom.toNat d

/-- The domains that a domain requires beside PD_AON (R22). -/
def requires (d : Nat) : List Nat :=
  if 8 ≤ d && d < 16 then [d + 8]
  else if 16 ≤ d && d < 24 then [d - 16]
  else if d = 32 then [31]
  else []

/-- Every domain that a domain requires is powered (R22), and it is not off for the rest of the boot (R439, R449). -/
def State.mayPower (s : State) (d : Nat) : Bool :=
  (requires d).all s.domOn && !bitN s.power.domDead.toNat d

/-- A domain is powered, or the device is switching it on or means to (R436, R437). -/
def State.powering (s : State) (d : Nat) : Bool :=
  s.domOn d || s.power.ramping.any (fun x => x.1 = d) || s.power.toPower.contains d

/-- Domains to be switched on wait in order; the first that waits starts to ramp, once what it requires is powered; one whose
requirement has failed is not switched on (R22, R436, R437). -/
def State.rampNext (s : State) : State :=
  if s.power.ramping.isEmpty then
    match s.power.toPower.dropWhile (fun d => !s.mayPower d) with
    | d :: rest => { s with power.ramping := [(d, s.clk)], power.toPower := rest }
    | [] => { s with power.toPower := [] }
  else s

/-- The three domains of a sector are powered (R22). -/
def State.secOn (s : State) (k : Nat) : Bool :=
  s.domOn k && s.domOn (8 + k) && s.domOn (16 + k)

/-- A unit is retired (R485). -/
def State.retired (s : State) (kind idx : Nat) : Bool :=
  s.faults.retired.contains ⟨kind, idx⟩

/-- A unit is retired, or its retirement has fallen due (R483). -/
def State.doomed (s : State) (kind idx : Nat) : Bool :=
  s.retired kind idx || s.faults.due.contains ⟨kind, idx⟩

/-- The retirement mask of PWR.STATUS: domains held off by retirement of a sector or a Ridge port (R22, R24, R366). -/
def State.heldOff (s : State) (d : Nat) : Bool :=
  (d < 24 && s.retired 3 (d % 8)) || (24 ≤ d && d < 28 && s.retired 8 (d - 24))

/-- The calibration pulsers of a sector's tiles start or stop (R87). -/
def Sector.pulse (x : Sector) (clk : Nat) (runs : Bool) : Sector :=
  match x.pulseAt, runs with
  | none, true => { x with pulseAt := some clk }
  | some t, false => { x with pulsed := x.pulsed + (clk - t), pulseAt := none }
  | _, _ => x

/-- The calibration pulsers of a sector's tiles run: the sector is powered, and no column runs, the column is a prime column, or it is
none of the sector's own (R87). DESIGN CHOICE (log entry 124): they run so in SAFE HOLD and SERVICE too, of which R87 does not speak. -/
def State.pulserRuns (s : State) (k : Nat) : Bool :=
  s.secOn k && (match s.mode.cur with
    | none => true
    | some c => c.kind == .prime || !bitN c.contrib.toNat k)

/-- The calibration pulsers of every sector follow the columns and the power (R87). -/
def State.pulsers (s : State) : State :=
  (List.range 8).foldl (fun t k => t.modSector k (fun x => x.pulse t.clk (t.pulserRuns k))) s

/-- A domain is switched off (R22, R436). The monitor registers take their reset values with their next power (R458); what the
memories of another domain hold while it is off is read by nothing. Without PD_EMIT every EMG and CHG is low (R172). -/
def State.domOff (s : State) (d : Nat) : State :=
  { s with
    power.dom := BitVec.ofNat 34 (setFld s.power.dom.toNat d 1 0)
    power.ramping := s.power.ramping.filter (fun x => x.1 != d)
    power.toPower := s.power.toPower.filter (fun x => x != d)
    mon := if d = 30 then {} else s.mon
    emit.strs := if d = 32 then s.emit.strs.map (fun x => (x.1, { x.2 with chg := false, emgUntil := min x.2.emgUntil s.now }))
      else s.emit.strs
    sched.sectors := if d < 24 then tmod {} s.sched.sectors (d % 8) (fun x => x.pulse s.clk false) else s.sched.sectors }

/-- The trim word of a channel in force (R75). -/
def State.trimWord (s : State) (c : Nat) : Nat :=
  (tget 0#32 s.front.trim c).toNat

/-- A channel is masked (R75). -/
def State.masked (s : State) (c : Nat) : Bool :=
  bitN (s.trimWord c) 5

/-- The parameters of a mode code; those of PLATEAU stand in for a reserved code, which no accepted command names (R42). -/
def parOf (m : Nat) : ModeParams :=
  (modeParams m).getD ((modeParams 0).getD default)

/-- The loaded mode block of a mode (R238). -/
def State.block (s : State) (m : Nat) : Option ModeBlock :=
  (s.sched.modes.find? (fun x => x.1 = m)).map Prod.snd

/-- Boundaries of the active schedule pass: a column runs, or a set is loaded whose mode has run (R18, R107). -/
def State.columnsPass (s : State) : Bool :=
  s.mode.cur.isSome || (s.block s.mode.mode).isSome

/-- The sector image of a store index (R42). -/
def State.image (s : State) (i : Nat) : Option SectorImage :=
  (s.sched.images.find? (fun x => x.1 = i)).map Prod.snd

/-- The store index of mode, sector and variant (R42). -/
def storeIdx (m k v : Nat) : Nat :=
  24 * m + 3 * k + v

/-- The number of retired engines of a sector, which is its variant code (R43). -/
def State.variantOf (s : State) (k : Nat) : Nat :=
  (s.faults.retired.filter (fun u => u.kind = 4 && u.idx / 32 = k)).length

/-- The variant of a sector as it runs, from the variants kept at the boundary (R43). -/
def State.runVariant (s : State) (k : Nat) : Nat :=
  fld s.mode.variants.toNat (2 * k) 2

/-- The bytes of a safety configuration at reset, where none is in force: CLASS_MASK 0b011111, N_PTS 3 and CLEAR_FRAMES 2 of every zone,
CH_LO 1 of every cell, every other field 0 (R398, R399). -/
def safeResetByte (i : Nat) : Byte :=
  let z := (i - 64) % 272
  if i < 64 then 0
  else match z with
    | 0 => 0x1F
    | 1 => 3
    | 2 => 2
    | _ => if 16 ≤ z && z % 16 = 4 then 1 else 0

/-- A byte field of the safety configuration in force (R397 to R399). -/
def State.safeFld (s : State) (off n : Nat) : Nat :=
  if s.safe.cfg.isEmpty then ofBytes ((List.range n).map (fun i => safeResetByte (off + i))) else leAt s.safe.cfg off n

/-! ### Stable small facts -/

/-- An axis coefficient field. -/
def State.aCoef (s : State) (lo n : Nat) : Nat :=
  fld s.scan.a.coef.toNat lo n

/-- As `aCoef`, axis B. -/
def State.bCoef (s : State) (lo n : Nat) : Nat :=
  fld s.scan.b.coef.toNat lo n

end Sys2Proof.Machine
end

