-- ==== Sys2Proof/Machine/Flags.lean ====
section
/-! DEFINITION. The words and flags computed from the state: the lifecycle code, STATE, BOOT_STATUS, FAULT_N, emission
permission, charging permission, and the severity of a fault. -/

namespace Sys2Proof.Machine

open Sys2Proof

/-- The lifecycle state code (R25); OFF reports none and reads 0. -/
def lcsCode : Lcs → Nat
  | .off => 0
  | .boot => 1
  | .standby => 2
  | .run => 3
  | .degraded => 4
  | .safeHold => 5
  | .service => 6

/-- RUN or DEGRADED RUN. -/
def State.running (s : State) : Bool :=
  s.life.lcs == .run || s.life.lcs == .degraded

/-- FAULT_N is driven low (R25). -/
def State.faultLow (s : State) : Bool :=
  match s.life.lcs with
  | .off | .boot | .degraded | .safeHold => true
  | .standby | .run | .service => false

/-- The entry's critical commands are locked out (R350). -/
def State.locked (s : State) (e : Entry) : Bool :=
  match (s.auth e).lockUntil with
  | some t => s.clk < t
  | none => false

/-- The STATE word as an entry reads it (R333). -/
def State.stateWord (s : State) (e : Entry) : Nat :=
  lcsCode s.life.lcs + 2 ^ 4 * b2n s.faultLow + 2 ^ 5 * b2n s.faults.svcReq + 2 ^ 6 * b2n s.safe.stuck
    + 2 ^ 7 * b2n (s.locked e) + 2 ^ 8 * b2n s.chain.aligned

/-- The BOOT_STATUS word (R456). -/
def State.bootStatus (s : State) : Nat :=
  let b := s.power.boot
  b.phase + 2 ^ 4 * b.slot + 2 ^ 5 * b2n b.fallback + 2 ^ 6 * b2n b.hostImg + 2 ^ 8 * b.fault + 2 ^ 16 * b.cause
    + 2 ^ 20 * b.straps.bootSrc.toNat

/-- The degraded time left, ms (R359, R396, R400). -/
def State.degradedLeft (s : State) : Nat :=
  match s.life.degEnd with
  | some t => (t - s.clk) / ms 1
  | none => 0

/-- A fault is active (R481). -/
def State.isActive (s : State) (code : Nat) : Bool :=
  s.faults.active.any (fun a => a.code.toNat = code)

/-- A fault is active against a unit (R481). -/
def State.isActiveAt (s : State) (code kind idx : Nat) : Bool :=
  s.faults.active.any (fun a => a.code.toNat = code && a.unit = ⟨kind, idx⟩)

/-- The faults that block the restart from SAFE HOLD while they are active (R481). -/
def blocksRestart (code : Nat) : Bool :=
  code = 0x4001 || code = 0x4002 || code = 0x4005 || (0x8001 ≤ code && code ≤ 0x8009) || code = 0x8011
    || code = 0x9001 || code = 0x9004 || code = 0x9005

/-- The three gates of the island are open (R155, R384). -/
def State.gatesOpen (s : State) : Bool :=
  s.safe.sls.opened && s.safe.sdi.opened && s.safe.slp.opened

/-- The thermal manager permits emission (R155, R423): no stop fault is active, or its orderly stop still runs the column that it
found in progress (R424). -/
def State.thermalPermits (s : State) : Bool :=
  s.hk.stops.isEmpty || (s.running && s.mode.cur.isSome && (match s.mode.stop with
    | some st => !st.ended
    | none => false))

/-- The conditions of emission permission beside the lifecycle state (R155). -/
def State.permitBase (s : State) : Bool :=
  s.gatesOpen && !s.isActive 0x4001 && !s.isActive 0x4002 && !s.isActive 0x4005 && s.thermalPermits && !s.hk.trip
    && s.domOn 32

/-- Emission permission for a column's shots (R155). -/
def State.permitted (s : State) : Bool :=
  s.running && s.permitBase

/-- Emission permission for the proof shot of SERVICE.PROOF (R155, R360). -/
def State.permittedService (s : State) : Bool :=
  s.life.lcs == .service && s.permitBase

/-! ### Strings (R157, R170) -/

/-- A head is fitted at the string's position: PRESENT (R170). -/
def State.present (s : State) (i : Nat) : Bool :=
  bitN (s.strWord i) 0

/-- The bound RTD channel; 0x3F is unbound (R157, R170). -/
def State.rtdOf (s : State) (i : Nat) : Nat :=
  fld (s.strWord i) 18 6

/-- The loop function that serves a string's reservoir: 6 + its group of eight (R173). -/
def chargeFn (i : Nat) : Nat :=
  6 + i / 8

/-- The engine that runs a loop function (R173, R174): none when the function is lost. -/
def State.fnEngine (s : State) (f : Nat) : Option Nat :=
  match s.scan.fns.find? (fun x => x.1 = f) with
  | some x => x.2
  | none => some f

/-- A loop function is lost (R174). -/
def State.fnLost (s : State) (f : Nat) : Bool :=
  (s.fnEngine f).isNone

/-- A string's head counts as too hot: its channel is unbound, off, OPEN, not settled since its last restart, or reads above
+95 °C; an urgent result is a reading too (R157, R406, R421). -/
def State.headHot (s : State) (i : Nat) : Bool :=
  let c := s.rtdOf i
  let h := s.hkc c
  47 < c || fld h.cfg.toNat 6 2 = 0 || h.isOpen || h.openNow || !h.settled || (match h.good with
    | some t => 1520 < t
    | none => true)

/-- A string's head reads too cold or counts as too hot (R157, R421). -/
def State.headBad (s : State) (i : Nat) : Bool :=
  s.headHot i || (match (s.hkc (s.rtdOf i)).good with
    | some t => t < -640
    | none => true)

/-- Charging of a string is forbidden (R157, R174). -/
def State.chargeForbidden (s : State) (i : Nat) : Bool :=
  let warm := match s.mode.change with
    | some c => c.isStart && !c.warm
    | none => false
  !s.present i || s.retired 6 i || s.fnLost (chargeFn i)
    || !(s.running || s.life.lcs == .service || warm) || s.headBad i

/-- A string has tokens it may spend: charging is not forbidden and its reservoir stands at 0.9 × v or above (R157). -/
def State.spendable (s : State) (i : Nat) : Bool :=
  !s.chargeForbidden i && 9 * (s.str i).v ≤ 10 * (s.str i).rsv

/-- The emitters fitted at a string's head, bit per emitter: all but those that its RETIRE register declares (R138, R152, R161). DESIGN
CHOICE (log entry 103): until that register has been read, the lowest as many as HEAD_ID counts. -/
def State.presentEm (s : State) (i : Nat) : Nat :=
  match (s.str i).declared with
  | some d => 0xFFFF - d.toNat
  | none => 2 ^ (min 16 (s.str i).fitted) - 1

/-! ### Columns -/

/-- The sectors that measure: powered, not retired and of the mode's set (R40, R133). -/
def State.contrib (s : State) (m : Nat) : BitVec 8 :=
  BitVec.ofNat 8 (maskOf ((List.range 8).filter (fun k =>
    bitN (parOf m).sectors.toNat k && s.secOn k && !s.retired 3 k)))

/-- VARIANT of every sector, 2 bits each (R43, R133). -/
def State.variantWord (s : State) : BitVec 16 :=
  BitVec.ofNat 16 (sumTo 8 (fun k => (if 2 < s.variantOf k then 2 else s.variantOf k) * 4 ^ k))

/-- A mode counts as loaded: its block and every image of its powered sectors are present, undamaged and not withdrawn (R42,
R238, R242, R479), and no load is in progress (R241). -/
def State.loaded (s : State) (m : Nat) : Bool :=
  s.sched.load.isNone && (s.block m).isSome && !s.sched.damaged.contains (192 + m) && !bitN s.sched.withdrawn.toNat m
    && (List.range 8).all (fun k => !bitN (parOf m).sectors.toNat k || (List.range 3).all (fun v =>
      (s.image (storeIdx m k v)).isSome && !s.sched.damaged.contains (storeIdx m k v)))

/-- FACETS of the axis A coefficient block (R199). -/
def State.coefFacets (s : State) : Nat :=
  s.aCoef 124 4

/-- The set's FACETS differs from that of the axis A coefficient block (R180). -/
def State.facetMismatch (s : State) : Bool :=
  !s.sched.modes.isEmpty && s.sched.facets != s.coefFacets

/-! ### Severity (R477, R479) -/

/-- The severity the table of R479 gives a fault at this occurrence. A fault whose severity depends on the unit takes it from
the index; 0x3009 is a DEGRADE where its caller says that the running mode has no flash copy. -/
def State.sevOf (s : State) (code kind idx : Nat) (noCopy : Bool) : Nat :=
  if 0x1001 ≤ code && code ≤ 0x3008 then 1
  else if code = 0x3009 then (if noCopy then (if s.life.lcs = .run then 2 else 0) else 0)
  else if code = 0x300A then (if s.life.lcs = .run then 2 else 0)
  else if 0x4001 ≤ code && code ≤ 0x4005 then 4
  else if 0x4006 ≤ code && code ≤ 0x400C then 1
  else if code = 0x500C then 1
  else if 0x5001 ≤ code && code ≤ 0x500D then (if s.running then 3 else 0)
  else if 0x6001 ≤ code && code ≤ 0x6005 then 1
  else if 0x6006 ≤ code && code ≤ 0x7005 then 0
  else if 0x800A ≤ code && code ≤ 0x800C then (if s.life.lcs = .run then 2 else 0)
  else if code = 0x800F then 5
  else if 0x8001 ≤ code && code ≤ 0x8011 then 3
  else if code = 0x9001 || code = 0x9004 || code = 0x9005 then 3
  else if code = 0xA001 then (if idx = 0 || idx = 1 || idx = 4 || idx = 5 then 5 else 0)
  else if code = 0xA002 then (if idx = 0 || idx = 1 then 5 else if s.life.lcs = .run then 2 else 0)
  else if code = 0xA004 then 5
  else if code = 0xA005 then (if kind = 12 then 0 else 1)
  else 0

/-- The faults whose cause can last (R481). -/
def lastingFault (code : Nat) : Bool :=
  code = 0x4001 || code = 0x4002 || code = 0x4005 || (0x8001 ≤ code && code ≤ 0x8003) || code = 0x8005 || code = 0x8006
    || code = 0x8007 || (0x8009 ≤ code && code ≤ 0x800C) || code = 0x8011 || code = 0x9001 || code = 0x9003
    || code = 0x9004 || code = 0x9005

end Sys2Proof.Machine
end

