-- ==== Sys2Proof/Machine/Report.lean ====
section
/-! DEFINITION. How the device reports: interrupts (R340), the event path of each port (R343), messages of the Chain
(R301, R306, R308), and the samples of the health monitors (R491 to R496). -/

namespace Sys2Proof.Machine

open Sys2Proof

/-! ### Interrupts -/

/-- A source of INT_MAP signals its vector: the INT_STAT bit is set and an MSI-X message leaves, one for all the sources that name the
vector in this instant, or waits in the PBA while the function or the table masks the vector (R332, R340; the mask bit is PRESUMED from PCI Express, log entry 18). -/
def State.signal (s : State) (p : HostPort) (src : Nat) : State :=
  if s.isPcie p && s.domOn (28 + portIdx p) then
    let h := s.port p
    let v := fld h.intMap.toNat (5 * src) 5
    let masked := h.fnMask || bitN (tget 0#32 h.msix (4 * v + 3)).toNat 0
    let sent := h.msiAt = s.clk && bitN h.msiVecs.toNat v
    let vec := BitVec.ofNat 32 (2 ^ v)
    let bit := BitVec.ofNat 32 (2 ^ src)
    let h1 := { h with
      intStat := h.intStat ||| bit, intAt := s.clk / fabCk
      intNew := if h.intAt = s.clk / fabCk then h.intNew ||| bit else bit }
    if !h.msixOn then s.setPort p h1
    else if masked then s.setPort p { h1 with pba := h1.pba ||| vec }
    else if sent then s.setPort p h1
    else (s.setPort p { h1 with msiAt := s.clk, msiVecs := if h.msiAt = s.clk then h.msiVecs ||| vec else vec }).say (.msi p v)
  else s

/-! ### Rings -/

/-- The base-2 logarithm of a ring's units: SIZE, or 12 where SIZE is reserved (R341, R9). -/
def ringLog (k : RingKind) (ctrl : Word) : Nat :=
  let z := fld ctrl.toNat 2 5
  match k with
  | .point => if 12 ≤ z && z ≤ 24 then z else 12
  | .event => if 6 ≤ z && z ≤ 12 then z else 12

/-- The units in a ring: PROD − CONS modulo 2^32 (R341). -/
def ringUsed (r : Ring) : Nat :=
  (r.prod - r.cons).toNat

/-- LOST counted, saturating (R341). -/
def Ring.lose (r : Ring) : Ring :=
  { r with lost := if r.lost = 0xFFFFFFFF#32 then r.lost else r.lost + 1 }

/-- PROD advanced by some units (R341). -/
def Ring.adv (r : Ring) (n : Nat) : Ring :=
  { r with prod := r.prod + BitVec.ofNat 32 n }

/-- PROD written to the write-back address where WB_EN is set (R341). -/
def State.writeBack (s : State) (p : HostPort) (r : Ring) : State :=
  if bitN r.ctrl.toNat 1 then s.say (.wb p r.wb r.prod) else s

/-- An event not delivered on a port: counted in LOST, and the next record carries LOSS (R343). -/
def State.loseEvent (s : State) (p : HostPort) : State :=
  s.modPort p (fun h => { h with events := h.events.lose, lossDue := true })

/-- One event record goes out on a port whose path has opened (R343). -/
def State.putEvent (s : State) (p : HostPort) (r : EventRec) : State :=
  let h := s.port p
  if !s.domOn (28 + portIdx p) then s.loseEvent p
  else if s.isPcie p then
    let e := h.events
    if !e.live || 2 ^ ringLog .event e.ctrl ≤ ringUsed e then s.loseEvent p
    else
      let e' := e.adv 1
      ((((s.setPort p { h with events := e', lossDue := false }).say
        (.event p e.base (e.prod.toNat % 2 ^ ringLog .event e.ctrl) { r with loss := r.loss || h.lossDue })).writeBack p e').signal p 4)
  else if s.isEth p then
    match h.net.evDst with
    | some _ => s.setPort p { h with
        evQ := h.evQ ++ [{ r with loss := r.loss || h.lossDue }], lossDue := false
        evAt := if h.evQ.isEmpty then s.clk else h.evAt }
    | none => s.loseEvent p
  else s

/-- One event record reaches a port: held until the path first opens in this boot, up to 64, the oldest discarded (R343). -/
def State.toPort (s : State) (p : HostPort) (r : EventRec) : State :=
  let h := s.port p
  if h.opened then s.putEvent p r
  else if h.held.length < 64 then s.setPort p { h with held := h.held ++ [r] }
  else s.setPort p { h with held := h.held.drop 1 ++ [r], lossDue := true }

/-- The event path of a port opens and the held records go out oldest first (R343). -/
def State.openPath (s : State) (p : HostPort) : State :=
  let h := s.port p
  if h.opened then s
  else h.held.foldl (fun t r => t.putEvent p r) (s.setPort p { h with opened := true, held := [] })

/-! ### Messages of the Chain (R301, R306) -/

/-- Bytes 1 to 13 of an MSG slot (R301). -/
def msgBody (mtype dest src id frag : Nat) (first last : Bool) (data : List Byte) : BitVec 104 :=
  BitVec.ofNat 104 (mtype % 16 + 2 ^ 4 * b2n first + 2 ^ 5 * b2n last + 2 ^ 8 * (dest % 2 ^ 16) + 2 ^ 24 * (src % 2 ^ 16)
    + 2 ^ 40 * (id % 256) + 2 ^ 48 * (frag % 256) + 2 ^ 56 * ofBytes (padTo 6 data))

/-- A payload cut into fragments of 6 bytes, at least one (R301). -/
def chunks6 : Nat → List Byte → List (List Byte)
  | 0, _ => []
  | n + 1, l => l.take 6 :: (if l.length ≤ 6 then [] else chunks6 n (l.drop 6))

/-- The fragments of a message. -/
def fragsOf (mtype dest src id : Nat) (payload : List Byte) : List Frag :=
  let cs := chunks6 256 payload
  (cs.zipIdx).map (fun c => ⟨msgBody mtype dest src id c.2 (c.2 = 0) (c.2 + 1 = cs.length) c.1⟩)

/-- Fragments queued on a port. -/
def State.queueFrags (s : State) (q : Nat) (fs : List Frag) : State :=
  s.modRport q (fun r => { r with msgs := r.msgs ++ fs })

/-- A message is sent toward an address: queued on its port, or discarded and counted where no route leads (R306). -/
def State.sendMsg (s : State) (mtype dest : Nat) (payload : List Byte) : State :=
  let fs := fragsOf mtype dest s.chain.addr.toNat s.chain.msgId.toNat payload
  let s1 := { s with chain.msgId := s.chain.msgId + 1 }
  match s.route dest with
  | some q => s1.queueFrags q fs
  | none => { s1 with chain.badFrags := (s1.chain.badFrags + fs.length) % 2 ^ 32 }

/-! ### Events -/

/-- The 32 bytes of an event record (R343). -/
def EventRec.bytes (r : EventRec) : List Byte :=
  bytesOf 8 r.ct.toNat ++ bytesOf 2 r.event.toNat ++ bytesOf 2 r.src.toNat ++ bytesOf 2 r.fault.toNat
    ++ bytesOf 2 (r.sev.toNat + 2 ^ 4 * b2n r.loss + 2 ^ 5 * b2n r.remote) ++ bytesOf 16 r.payload.toNat

/-- The event record that 32 bytes carry, as a received EVT message (R308, R343). -/
def eventOf (l : List Byte) (src : Nat) : EventRec :=
  { ct := BitVec.ofNat 64 (leAt l 0 8), event := BitVec.ofNat 16 (leAt l 8 2), src := BitVec.ofNat 16 src
    fault := BitVec.ofNat 16 (leAt l 12 2), sev := BitVec.ofNat 4 (leAt l 14 1), loss := bitN (leAt l 14 2) 4
    remote := true, payload := BitVec.ofNat 128 (leAt l 16 16) }

/-- An event is raised: to both ports, and as an EVT message to EVT_DEST, which can be the device itself (R306, R308, R343, R373). -/
def State.raise (s : State) (code : Nat) (payload : List Byte) (fault : Nat := 0) (sev : Nat := 0) : State :=
  let r : EventRec := { ct := BitVec.ofNat 64 s.now, event := BitVec.ofNat 16 code, src := s.chain.addr
                        fault := BitVec.ofNat 16 fault, sev := BitVec.ofNat 4 sev, loss := false, remote := false
                        payload := BitVec.ofNat 128 (ofBytes (payload.take 16)) }
  let s1 := (s.toPort .A r).toPort .B r
  let dest := fld s.chain.event.toNat 0 16
  if dest = 0xFFFF then s1
  else if dest = s.chain.addr.toNat then
    let echo := eventOf r.bytes dest
    ({ s1 with chain.msgId := s1.chain.msgId + 1 }.toPort .A echo).toPort .B echo
  else s1.sendMsg 3 dest r.bytes

/-- EV_STATE_CHANGE with a change of the lifecycle state (R26, R373). -/
def State.toState (s : State) (l : Lcs) : State :=
  ({ s with life.lcs := l }).raise 0x0101 (bytesOf 1 (lcsCode l) ++ bytesOf 1 (lcsCode s.life.lcs))

/-- A leased buffer of a layer is released: EV_MON_BUF_DONE (R373, R472). -/
def State.bufDone (s : State) (layer : Nat) (b : Option Word) : State :=
  match b with
  | some id => s.raise 0x1401 ([BitVec.ofNat 8 layer, 0, 0, 0] ++ bytesOf 4 id.toNat)
  | none => s

/-- PD_MON goes off: every leased buffer is released at once (R475). -/
def State.monOff (s : State) : State :=
  (s.bufDone 0 s.mon.lease0).bufDone 2 s.mon.lease2

/-! ### Health monitors (R491 to R496) -/

/-- The bin of a sample (R493). -/
def binOf (log : Bool) (shift : Nat) (origin v : Int) : Nat :=
  let u := (v - origin) / (2 ^ shift : Nat)
  if log then (if u ≤ 0 then 0 else min 31 (bitLen u.toNat)) else (clampI 0 31 u).toNat

/-- The statistics with one sample added (R491, R495). -/
def Stats.add (t : Stats) (bin : Nat) (bad : Bool) (v : Int) : Stats :=
  { t with
    min := if v < t.min then v else t.min
    max := if t.max < v then v else t.max
    count := sat 32 (t.count + 1)
    sum := sgn 64 (uns 64 (t.sum + v))
    out := if bad then sat 32 (t.out + 1) else t.out
    bins := tmod 0 t.bins bin (fun n => sat 32 (n + 1)) }

/-- A monitor takes a sample; the answer says which limits raise EV_HEALTH_LIMIT (R494). -/
def Monitor.take (m : Monitor) (clk : Nat) (v : Int) : Monitor × List Nat :=
  let c := m.cfg.toNat
  let low := bitN c 35 && v < sgn 32 (fld c 96 32)
  let high := bitN c 36 && sgn 32 (fld c 128 32) < v
  let quiet := fun (t : Option Nat) => match t with
    | some x => x + sec 1 ≤ clk
    | none => true
  let sayLow := low && m.armMin && quiet m.toldMin
  let sayHigh := high && m.armMax && quiet m.toldMax
  let inside := !low && !high
  ({ m with
     run := m.run.add (binOf (bitN c 33) (fld c 40 5) (sgn 32 (fld c 64 32)) v) (low || high) v
     armMin := bitN c 35 && (inside || (m.armMin && !sayLow))
     armMax := bitN c 36 && (inside || (m.armMax && !sayHigh))
     toldMin := if sayLow then some clk else m.toldMin
     toldMax := if sayHigh then some clk else m.toldMax },
   (if sayLow then [0] else []) ++ (if sayHigh then [1] else []))

/-- A source produces one sample: every enabled monitor of that source and index takes it (R491, R496). -/
def State.sample (s : State) (src idx : Nat) (v : Int) : State :=
  (List.range 64).foldl (fun t i =>
    let m := tget {} t.faults.monitors i
    let c := m.cfg.toNat
    if bitN c 32 && fld c 0 16 = src && fld c 16 16 = idx then
      let (m', evs) := m.take t.clk (sgn 32 (uns 32 v))
      evs.foldl (fun u e => u.raise 0x1601 [BitVec.ofNat 8 i, BitVec.ofNat 8 e])
        { t with faults.monitors := tput {} t.faults.monitors i m' }
    else t) s

end Sys2Proof.Machine
end

