-- ==== Sys2Proof/Machine/Recover.lean ====
section
/-! DEFINITION. What a fault does: its record and event, its upset, retirement and the replace request, and the response of
its severity: degraded operation, SAFE HOLD, the emission cut, reset (R26 to R30, R132, R155, R395, R396, R445 to R447,
R477 to R489, R497). -/

namespace Sys2Proof.Machine

open Sys2Proof

/-! ### Fragments and packets that are lost (R306, R316, R319) -/

/-- Fragments or whole messages discarded (R306, R319). -/
def State.dropFrag (s : State) (n : Nat := 1) : State :=
  { s with chain.badFrags := (s.chain.badFrags + n) % 2 ^ 32 }

/-- Packets discarded and counted (R306, R319). -/
def State.dropPkt (s : State) (n : Nat := 1) : State :=
  { s with chain.badPkts := (s.chain.badPkts + n) % 2 ^ 32 }

/-- The credits of a packet: one for each 256 bytes of its data blocks (R316). -/
def packetCost (p : Packet) : Nat :=
  ((p.data.length + 7) / 8 + 31) / 32

/-- Credits of a packet that has left the receive buffer become pending (R316). -/
def State.freeCredits (s : State) (q n : Nat) : State :=
  s.modRport q (fun r => { r with held := r.held - n, pendCr := r.pendCr + n, pendAt := if r.pendCr = 0 then s.clk else r.pendAt })

/-- The packets and reports that wait to go out on a port are discarded and counted; one that came in on another port leaves its
buffer (R306, R316). -/
def State.dropPackets (s : State) (q : Nat) : State :=
  let r := s.rport q
  let s1 := r.txQ.foldl (fun t x => match x.2 with
    | some i => t.freeCredits i (packetCost x.1)
    | none => t) s
  let n := r.txQ.length + (s.chain.toReport.filter (fun x => x.1 = q)).length
  ({ s1.modRport q (fun r => { r with txQ := [] }) with
    chain.toReport := s1.chain.toReport.filter (fun x => x.1 != q) } : State).dropPkt n

/-- As `dropPackets`, with the fragments of a port that has gone down (R306). -/
def State.dropQueues (s : State) (q : Nat) : State :=
  ((s.dropPackets q).modRport q (fun r => { r with msgs := [] })).dropFrag (s.rport q).msgs.length

/-- The credits of a port start anew: packets that came in on it and wait elsewhere owe it none any more (R316). -/
def State.orphan (s : State) (q : Nat) : State :=
  (List.range 4).foldl (fun t o => t.modRport o (fun r => { r with
    txQ := r.txQ.map (fun x => if x.2 = some q then (x.1, none) else x) })) s

/-! ### Ridge ports going down (R268, R273, R289, R297, R305) -/

/-- A DISC message: one fragment to the partner of a port (R302). -/
def State.sendDisc (s : State) (q : Nat) (data : List Byte) : State :=
  ({ s with chain.msgId := s.chain.msgId + 1 }).queueFrags q
    [⟨msgBody 4 (s.rport q).pAddr.toNat s.chain.addr.toNat s.chain.msgId.toNat 0 true true data⟩]

/-- A topology change is learnt: the root starts discovery within 1 ms, another device sends CHANGE upstream (R305). -/
def State.topoChange (s : State) (cause : Nat) : State :=
  if s.topo = 0 then s
  else if s.isRoot then { s with chain.discAt := some (match s.chain.discAt with
    | some t => min t (s.clk + ms 1)
    | none => s.clk + ms 1) }
  else match s.upPort with
    | some q => if (s.rport q).up then
        s.sendDisc q ([3#8, s.chain.gen] ++ bytesOf 2 s.chain.addr.toNat ++ [BitVec.ofNat 8 cause])
      else s
    | none => s

/-! ### The lanes of a port, and the counts they keep (R269, R270, R279, R281) -/

/-- The logical lane that a physical receive lane carries, 0 to 2 (R270). -/
def RidgePort.logical (r : RidgePort) (m : Nat) : Nat :=
  if r.rev then 2 - m else m

/-- The logical lanes in use: neither retired nor excluded at either end (R269). -/
def RidgePort.inUse (r : RidgePort) : Nat :=
  7 &&& (7 ^^^ (r.excl ||| r.pExcl ||| r.ret ||| r.pRet).toNat)

/-- The width: data lanes in use (R284). -/
def RidgePort.width (r : RidgePort) : Nat :=
  popN 3 r.inUse

/-- A physical data lane takes part: its logical lane is in use. -/
def RidgePort.takesPart (r : RidgePort) (m : Nat) : Bool :=
  bitN r.inUse (r.logical m)

/-- The physical data lanes that take part. -/
def RidgePort.parts (r : RidgePort) : List Nat :=
  (List.range 3).filter r.takesPart

/-- Every data lane is retired, by the two ends together (R269). -/
def RidgePort.allRetired (r : RidgePort) : Bool :=
  (r.ret ||| r.pRet) == 7#3

/-- The data lanes may run their stages: in a retrain, or in a bring-up whose control lane has a signal. -/
def RidgePort.dataRuns (r : RidgePort) : Bool :=
  r.retrain || (!r.up && 2 ≤ (r.lane 0).stage)

/-- The checker of a lane counts: CHK with a pattern on a selected lane (R279, R283). -/
def RidgePort.checks (r : RidgePort) (l : Nat) : Bool :=
  let w := r.test.toNat
  bitN w 10 && bitN w (3 + l) && fld w 7 2 != 0

/-- The bit errors that a checker has counted since the last reading: none where the near-end parallel loop carries the generator's own
pattern without a serialiser, else a free value (R279; log entry 144). -/
def State.prbsErrors (s : State) (q : Nat) : Nat :=
  let w := (s.rport q).test.toNat
  if fld w 0 3 = 2 && bitN w 9 then 0 else Config.freeNat s.free

/-- The counts of a lane as they have grown: PRBS errors while its checker counts, invalid headers while it holds block lock and is
awake. They are taken at each reading and before a lane's checker, lock or wakefulness ends (R279, R281; log entry 144). -/
def State.countLane (s : State) (q l : Nat) : State :=
  let r := s.rport q
  let s1 := if r.checks l then
      s.took.modRport q (fun r => r.modLane l (fun x => { x with prbs := sat 32 (x.prbs + s.prbsErrors q) }))
    else s
  if l != 0 && r.takesPart (l - 1) && 7 ≤ (r.lane l).stage && !(r.lane l).asleep then
    s1.took.modRport q (fun r => r.modLane l (fun x => { x with badHdr := sat 32 (x.badHdr + Config.freeNat s1.free) }))
  else s1

/-- As `countLane`, every lane of a port. -/
def State.countLanes (s : State) (q : Nat) : State :=
  (List.range 4).foldl (fun t l => t.countLane q l) s

/-- Everything a port learnt from its partner and its bring-up is forgotten; configuration, retirement, counts and the lane
map stay (R270, R277). -/
def RidgePort.fresh (r : RidgePort) (clk : Nat) : RidgePort :=
  { r with
    up := false, retrain := false, excl := 0, again := 0, ret := r.ret ||| r.retDue, retDue := 0, cfg := r.cfgSet, pExcl := 0
    pRet := 0, pDrdy := 0, pStage := 0, switched := false
    dskSeq := [], dskRun := 0, txSleep := false, rxSleep := false, gotInit := false, gotAck := false
    offered := 0, charged := 0, returned := 0, held := 0, pendCr := 0, freed := 0, conflict := false, rho := none
    safety := [], dskAt := none
    lanes := (List.range 4).foldl (fun t l => tmod {} t l (fun x => { x with
      stage := if l = 0 then 1 else 2, since := clk, run := 0, last := 0, lane := none, late := false, asleep := false })) r.lanes }

/-- The lane that the root PLL follows is lost: the holdover of 10 ms begins, in bring-up as from an up port (R289, R442). -/
def State.refLaneLost (s : State) (q : Nat) : State :=
  if s.power.ref = some q && s.power.holdAt.isNone then { s with power.holdAt := some s.clk } else s

/-- The lanes of a port return to their first stages. Where it was up it goes down: EV_RIDGE_DOWN, the topology change, and at the
upstream port the loss of alignment; what waited there has lost its route (R273, R297, R305, R306). The cause is coded as in CHANGE
(R302, log entry 19). -/
def State.portLost (s : State) (q cause : Nat) : State :=
  let was := (s.rport q).up
  let s1 := ((((s.countLanes q).refLaneLost q).dropQueues q).orphan q).modRport q (fun r => r.fresh s.clk)
  let s2 := if was then s1.raise 0x0E02 [BitVec.ofNat 8 q, BitVec.ofNat 8 cause] else s1
  let s3 := if s.upPort = some q && was then { s2 with chain.aligned := false, chain.lostUp := some s.clk } else s2
  if was then s3.topoChange cause else s3

/-- A port holds its transmit lanes in electrical idle for 20 µs and then restarts from stage 1 (R268). -/
def State.portRestart (s : State) (q cause : Nat) : State :=
  (s.portLost q cause).modRport q (fun r => { r with idleTo := some (s.clk + us 20) })

/-- A port stops: no bring-up runs (R278, R280, R288). -/
def State.portStop (s : State) (q cause : Nat) : State :=
  (s.portLost q cause).modRport q (fun r => { r with active := false, idleTo := none })

/-- A port starts bring-up from stage 1 (R268). -/
def State.portStart (s : State) (q : Nat) : State :=
  s.modRport q (fun r => { r.fresh s.clk with active := true, idleTo := none, absent := false })

/-- The data lanes of a port return to stage 2; the control class goes on, the data class stops and its credits are reset
(R273, R316). Excluded lanes take part again (R274). The packets that wait are not in flight and stay. -/
def State.portRetrain (s : State) (q : Nat) : State :=
  if (s.rport q).up then
    ((s.countLanes q).orphan q).modRport q (fun r => { r with
      retrain := true, pStage := 9, excl := 0, pExcl := 0, again := 0, ret := r.ret ||| r.retDue, retDue := 0, switched := false
      dskSeq := []
      dskRun := 0, dskAt := none, txSleep := false, rxSleep := false, gotInit := false, gotAck := false, pDrdy := 0
      charged := 0, returned := 0, held := 0, pendCr := 0, freed := 0
      cfg := BitVec.ofNat 32 (setFld r.cfgSet.toNat 3 3 (fld r.cfg.toNat 3 3))
      lanes := (List.range 4).foldl (fun t l => if l = 0 then t else tmod {} t l (fun x => { x with
        stage := 2, since := s.clk, run := 0, last := 0, lane := none, late := false, asleep := false
        retrains := sat 32 (x.retrains + 1) })) r.lanes })
  else s

/-- A port may run bring-up: it is powered, enabled, not retired, not looped, and TOPO gives it a role (R268, R278, R280, R288). -/
def State.portRuns (s : State) (q : Nat) : Bool :=
  let role := if s.topo = 0 then false
    else if s.topo = 1 then (q = 0 && !s.isRoot) || q = 1
    else if s.topo = 2 then q ≤ 1
    else (q = 0 && !s.isRoot) || 1 ≤ q
  role && bitN s.power.dom.toNat (24 + q) && s.ridgeEnabled q && !s.faults.retired.contains ⟨8, q⟩
    && fld (s.rport q).test.toNat 0 3 = 0

/-- Leaving SERVICE ends every test, and a looped port starts bring-up (R280). -/
def State.endTests (s : State) : State :=
  (List.range 4).foldl (fun t q =>
    let looped := fld (t.rport q).test.toNat 0 3 != 0
    let t1 := (t.countLanes q).modRport q (fun r => { r with test := 0 })
    if looped && t1.portRuns q then t1.portStart q else t1) s

/-! ### The replace request (R487, R488) -/

/-- A reason of the replace request is set: SVC_REQ_N low, EV_REPLACE, and the record to append (R488). -/
def State.setReason (s : State) (r idx : Nat) : State :=
  if bitN s.faults.reasons.toNat r then s
  else ({ s with
    faults.reasons := s.faults.reasons ||| BitVec.ofNat 16 (2 ^ r)
    faults.svcReq := true
    faults.toRecord := s.faults.toRecord ++ [(r, idx)] }).raise 0x0104 ([BitVec.ofNat 8 r, 0] ++ bytesOf 2 idx)

/-- Channels out of service (R486, R487): not masked, not of a retired sector or one the mode leaves off. -/
def State.chansOut (s : State) : Nat :=
  ((List.range 1024).filter (fun c =>
    (s.retired 1 c || s.retired 2 (tileOf c)) && !s.masked c && !s.retired 3 (secOf c)
      && (!s.running || bitN (parOf s.mode.mode).sectors.toNat (secOf c)))).length

/-- An emitter is out of service: itself or its string retired (R487). -/
def State.emOut (s : State) (e : Nat) : Bool :=
  s.retired 5 e || s.retired 6 (e / 16)

/-- Emitters out of service in all (R487). -/
def State.emsOut (s : State) : Nat :=
  ((List.range 1024).filter s.emOut).length

/-- Data lanes of a port not retired (R277, R487). -/
def State.lanesLeft (s : State) (q : Nat) : Nat :=
  3 - popN 3 ((s.rport q).ret ||| (s.rport q).retDue).toNat

/-- The reasons a retirement meets, in ascending order (R487). -/
def State.checkReasons (s : State) (u : UnitId) : State :=
  let s1 := if u.kind = 3 then s.setReason 1 u.idx else s
  let s2 := if 16 < s1.chansOut then s1.setReason 2 u.idx else s1
  let st := if u.kind = 6 then u.idx else u.idx / 16
  let s3 := if (u.kind = 5 || u.kind = 6) && 4 < ((List.range 16).filter (fun k => s2.emOut (16 * st + k))).length then
      s2.setReason 3 st
    else s2
  let s4 := if (u.kind = 5 || u.kind = 6) && 32 < s3.emsOut then s3.setReason 4 u.idx else s3
  let s5 := if u.kind = 8 then s4.setReason 5 u.idx
    else if u.kind = 7 && s4.lanesLeft (u.idx / 3) ≤ 1 then s4.setReason 5 (u.idx / 3) else s4
  if u.kind = 9 then s5.setReason 6 u.idx else s5

/-! ### Retirement (R485, R486) -/

/-- RETIRE of a head is owed to it; the device, which never clears a bit of it, reads what the head declares first (R138, R152, R168). -/
def State.oweRetire (s : State) (i : Nat) : State :=
  (if (s.str i).declared.isNone then s.owe i 0x05 false else s).owe i 0x05 true

/-- A shot that a string has been debited for is not driven, and counts as cancelled (R155, R162, R168). -/
def State.cancelDebit (s : State) (i : Nat) : State :=
  if bitN s.emit.debits.toNat i then
    { s.modStr i (fun x => { x with cancelled := x.cancelled + 1, canTotal := (x.canTotal + 1) % 2 ^ 32 }) with
      emit.debits := s.emit.debits &&& ~~~ BitVec.ofNat 64 (2 ^ i) }
  else s

/-- What a retirement does to its unit (R43, R71, R108, R168, R277, R278, R174). -/
def State.retireEffect (s : State) (u : UnitId) : State :=
  if u.kind = 1 then s.modChan u.idx (fun c => { c with down := true, evs := [], hs := [] })
  else if u.kind = 2 then s.modTile u.idx (fun t =>
    let hold := s.columnsPass
    { t with
      set0 := if hold && t.set0.owner = .sector then t.set0 else { t.set0 with owner := .parked }
      set1 := if hold && t.set1.owner = .sector then t.set1 else { t.set1 with owner := .parked } })
  else if u.kind = 3 then (([8 + u.idx, 16 + u.idx, u.idx]).foldl State.domOff s).rampNext
  else if u.kind = 5 then (s.modStr (u.idx / 16) (fun t =>
    { t with retire := t.retire ||| BitVec.ofNat 16 (2 ^ (u.idx % 16)) })).oweRetire (u.idx / 16)
  else if u.kind = 6 then
    ((s.cancelDebit u.idx).modStr u.idx (fun t => { t with
      chg := false, drain := true, emgUntil := min t.emgUntil s.now })).owe u.idx 0x02 true
  else if u.kind = 7 then
    let q := u.idx / 3
    let lane := BitVec.ofNat 3 (2 ^ (u.idx % 3))
    if (s.rport q).txSleep || (s.rport q).rxSleep then s.modRport q (fun r => { r with retDue := r.retDue ||| lane })
    else if (s.rport q).retrain then s.modRport q (fun r => { r with ret := r.ret ||| lane })
    else (s.modRport q (fun r => { r with ret := r.ret ||| lane })).portRetrain q
  else if u.kind = 8 then s.portStop u.idx 4
  else if u.kind = 9 then
    let spare := [14, 15].find? (fun e => !s.doomed 9 e && s.scan.fns.all (fun x => x.2 != some e))
    match (List.range 14).find? (fun f => s.fnEngine f = some u.idx) with
    | some f => { s with scan.fns := (f, spare) :: s.scan.fns.filter (fun x => x.1 != f) }
    | none => s
  else s

/-- A unit is retired: its effect, EV_RETIRED, and the replace request. -/
def State.retireOne (s : State) (u : UnitId) : State :=
  if s.faults.retired.contains u then { s with faults.due := s.faults.due.filter (· != u) }
  else
    let s1 := s.retireEffect u
    let s2 := { s1 with faults.retired := s1.faults.retired ++ [u], faults.due := s1.faults.due.filter (· != u) }
    (s2.raise 0x0103 ([BitVec.ofNat 8 u.kind, 0] ++ bytesOf 2 u.idx)).checkReasons u

/-- A unit is retired; the third engine of a sector retires the sector too (R16). -/
def State.retire (s : State) (u : UnitId) : State :=
  let s1 := s.retireOne u
  if u.kind = 4 && 3 ≤ s1.variantOf (u.idx / 32) then s1.retireOne ⟨3, u.idx / 32⟩ else s1

/-- An engine retirement waits for D: a mode change is in progress and its drain has not ended (R49). -/
def State.engineWaits (s : State) : Bool :=
  match s.mode.change, s.mode.cur with
  | some ch, some c => !ch.isStart && (c.kind == .home || c.kind == .listen)
  | _, _ => false

/-- The retirements due at a column boundary take effect: sectors first, then the rest in the order they fell due (R485, R497). An
engine's waits for D while a mode change is in progress (R49). -/
def State.applyDue (s : State) : State :=
  let atBoundary := s.faults.due.filter (fun u =>
    u.kind = 1 || u.kind = 2 || u.kind = 3 || (u.kind = 4 && !s.engineWaits) || u.kind = 6)
  let sectors := atBoundary.filter (fun u => u.kind = 3)
  let rest := atBoundary.filter (fun u => u.kind != 3)
  (sectors ++ rest).foldl State.retire s

/-- A retirement falls due: at once for emitters, lanes, ports and spare loop engines, at the function's next period for a
loop engine, else at the next column boundary, or at once where no boundary comes (R18, R485, log entry 20). -/
def State.dueRetire (s : State) (u : UnitId) : State :=
  if u.kind = 5 || u.kind = 7 || u.kind = 8 then s.retire u
  else if u.kind = 9 then
    (if (List.range 14).any (fun f => s.fnEngine f = some u.idx) then { s with faults.due := s.faults.due ++ [u] }
     else s.retire u)
  else if s.columnsPass then { s with faults.due := s.faults.due ++ [u] }
  else s.retire u

/-! ### Upsets (R483, R110) -/

/-- The parents of a unit (R483, R497). -/
def parentsOf (u : UnitId) : List UnitId :=
  if u.kind = 1 then [⟨2, u.idx / 16⟩, ⟨3, u.idx / 128⟩]
  else if u.kind = 2 then [⟨3, u.idx / 8⟩]
  else if u.kind = 4 then [⟨3, u.idx / 32⟩]
  else if u.kind = 5 then [⟨6, u.idx / 16⟩]
  else if u.kind = 7 then [⟨8, u.idx / 3⟩]
  else []

/-- The unit is retired or about to be, or the retirement of a parent of it is due (R483, R497). -/
def State.uncharged (s : State) (u : UnitId) : Bool :=
  s.doomed u.kind u.idx || (parentsOf u).any s.faults.due.contains

/-- The instants of a unit's upsets within 10 s of now (R483). -/
def State.upsetsOf (s : State) (u : UnitId) : List Nat :=
  match s.faults.upsets.find? (fun x => x.1 = u) with
  | some x => x.2.filter (fun t => s.clk ≤ t + sec 10)
  | none => []

/-- The unit has charged its one upset of the column (R110, R233, R248). -/
def State.colLimited (s : State) (u : UnitId) : Bool :=
  (u.kind = 1 || u.kind = 2 || u.kind = 4) && s.faults.colUpsets.contains u

/-- An upset is charged where the rules allow one; the answer is the count the log carries (R482, R483). -/
def State.charge (s : State) (u : UnitId) : State × Nat :=
  if s.uncharged u then (s, 0)
  else if s.colLimited u then (s, (s.upsetsOf u).length)
  else
    let l := s.clk :: s.upsetsOf u
    ({ s with
       faults.upsets := (u, l) :: s.faults.upsets.filter (fun x => x.1 != u)
       faults.colUpsets := if s.columnsPass || u.kind = 4 then u :: s.faults.colUpsets else s.faults.colUpsets },
     l.length)

/-! ### Emission cut and SAFE HOLD (R30, R132, R155) -/

/-- Permission is removed: pulses in progress are cut short, and the shots debited and not driven count as cancelled (R155). -/
def State.cutEmission (s : State) : State :=
  let cancelled := onesOf 64 s.emit.debits.toNat
  let s1 := (List.range 64).foldl (fun t i => t.modStr i (fun x => { x with emgUntil := min x.emgUntil s.now })) s
  let s2 := cancelled.foldl (fun t i => t.modStr i (fun x =>
    { x with cancelled := x.cancelled + 1, canTotal := (x.canTotal + 1) % 2 ^ 32 })) s1
  { s2 with emit.debits := 0 }

/-- Every CHG is held low (R157, R362). -/
def State.chargeOff (s : State) : State :=
  (List.range 64).foldl (fun t i => t.modStr i (fun x => { x with chg := false })) s

/-- No column runs any more; the sectors' withholding until the device leaves RUN and DEGRADED RUN ends (R242, R479). DESIGN CHOICE
(log entry 150): where SAFE HOLD abandons a change before B, headers of the frame that the change would have cut keep PARTIAL. -/
def State.endColumns (s : State) : State :=
  let s1 := (List.range 8).foldl (fun t k => t.modSector k (fun x => { x with lostRun := false })) s
  { s1 with
    mode.cur := none, mode.change := none, mode.stop := none, mode.idleAt := s.now
    emit.framed := false, emit.decided := false, emit.slot := 0, emit.shotAt := none
    faults.colUpsets := [] }.pulsers

/-- The end header of an entry into SAFE HOLD or of a completed stop waits behind the columns under way, where a measured
column has run since the MODE.START; it carries FRAME, COLUMN and MODE of the last measured column and the boundary that ended it
(R132). DESIGN CHOICE (log entry 33): VARIANT, DEGRADED, UNCAL and DEVICE, which R132 does not name, are those of the moment. -/
def State.endHeader (s : State) (cause : Nat) : State :=
  if s.mode.measured then
    let c : Column := { kind := .home, start := s.mode.lastEnd, stop := s.mode.lastEnd, mode := s.mode.lastMode
                        frame := s.mode.lastFrame, col := s.mode.lastCol, variants := s.mode.variants, contrib := 0
                        settling := false, partialFrame := false, degraded := s.life.lcs == .degraded, partner := 0
                        angleA := 0, angleB := 0, sampled := true, permitted := false, index := 0 }
    { s with front.results := s.front.results ++ [{ col := c, recs := [], lost := 0, chanLost := 0, suppressed := false
                                                    ended := 0xFF, endCause := some cause }] }
  else s

/-- A STOP_HOLD is originated: two consecutive SAFETY slots on every up port (R309, R310). -/
def State.originateStop (s : State) : State :=
  if bitN s.chain.word.toNat 2 then
    let body := BitVec.ofNat 104 (1 + 2 ^ 8 * s.chain.addr.toNat + 2 ^ 24 * s.chain.stopSeq.toNat
      + 2 ^ 32 * (s.now % 2 ^ 48))
    let s1 := (List.range 4).foldl (fun t q => if (t.rport q).up then
      t.modRport q (fun r => { r with safety := r.safety ++ [body, body] }) else t) s
    { s1 with chain.stopSeq := s.chain.stopSeq + 1
              chain.stops := (s.chain.addr, s.chain.stopSeq, s.clk) :: s.chain.stops }
  else s

/-- An output is commanded OFF: its clear count starts anew, and a test pulse in progress is lost to the demand; its level has then been
low since the pulse began (R388, R391). -/
def SafeOut.off (o : SafeOut) (clk : Nat) : SafeOut :=
  { o with on := false, clear := 0, changed := if o.on then o.test.getD clk else o.changed, owed := false, demanded := o.demanded || o.test.isSome }

/-- All four safe outputs go OFF (R25, R30, R388). -/
def State.outputsOff (s : State) : State :=
  (List.range 4).foldl (fun t k => t.modOut k (fun o => { o.off s.clk with frameOk := false })) s

/-- EV_PROOF_DONE (R360, R373). -/
def State.proofDone (s : State) (i : Nat) (driven : Bool) (open_ short : Nat) : State :=
  s.raise 0x0301 (bytesOf 1 i ++ bytesOf 1 (if driven then 1 else 2) ++ bytesOf 2 open_ ++ bytesOf 2 short)

/-- The proofs that SERVICE.PROOF accepted and that are not done end with the session, each with its event (R360). DESIGN CHOICE (log entry
160): one that was driven and not read reports masks of 0, one that was not driven counts as suppressed. -/
def State.endProofs (s : State) : State :=
  s.emit.service.foldl (fun t p => t.proofDone p.str (p.driven = some true) 0 0) { s with emit.service := [] }

/-- With the columns end the degraded period, the SERVICE session and its proofs (R26, R30, R360). -/
def State.endAll (s : State) : State :=
  { s.endColumns.endProofs with life.degEnd := none, life.session := none }

/-- A cause for SAFE HOLD arises (R26, R27, R30): permission goes before any other state, the safe outputs go OFF, the column
in progress is lost, the change, stop, degraded period and session end, and the end header follows the columns under way. In
SAFE HOLD, BOOT and OFF the cause is only noted. `prop`: the cause originates STOP_HOLD (R310). -/
def State.safeHold (s : State) (prop : Bool) (endHdr : Bool := true) : State :=
  let s0 := { s with life.holdAt := some (s.clk / fabCk) }
  match s.life.lcs with
  | .off | .boot | .safeHold => s0
  | _ =>
    let wasRun := s.running
    let s1 := s0.cutEmission
    let s2 := s1.outputsOff
    let s3 := if wasRun && endHdr then s2.endHeader 1 else s2
    let s4 := s3.endAll
    let s5 := (if s.life.lcs = .service then s4.endTests else s4).chargeOff.toState .safeHold
    if prop then s5.originateStop else s5

/-- Degraded operation starts in RUN (R396). -/
def State.degrade (s : State) : State :=
  if s.life.lcs = .run then
    ({ s with life.degEnd := some (s.clk + sec s.safe.period) }).toState .degraded
  else s

/-! ### Faults (R477 to R483) -/

/-- The cause of SAFE HOLD originates STOP_HOLD: an emission fault or a class 8 fault of response SAFE HOLD (R310, R395). -/
def propagates (code : Nat) : Bool :=
  (0x4001 ≤ code && code ≤ 0x4005) || (0x8001 ≤ code && code ≤ 0x8009) || code = 0x800D || code = 0x800E || code = 0x8010
    || code = 0x8011

/-- A fault is raised against a unit: its upset, its place in the log, EV_FAULT or the hold of BOOT, its activity, a
retirement that falls due, and the response of its severity where `respond` asks for it; `count`: an upset is charged (R248). -/
def State.fault (s : State) (code kind idx : Nat) (respond : Bool := true) (noCopy : Bool := false) (count : Bool := true) :
    State :=
  let u : UnitId := ⟨kind, idx⟩
  let sev := s.sevOf code kind idx noCopy
  let fresh := count && !s.uncharged u && !s.colLimited u
  let (s1, n) := if sev = 1 && count then s.charge u else (s, if s.uncharged u then 0 else (s.upsetsOf u).length)
  let e : LogEntry := { ct := s.now, code := BitVec.ofNat 16 code, sev := sev, unit := u, upsets := n }
  let s2 := { s1 with
    faults.log := pushMax 256 e s1.faults.log
    faults.active := if lastingFault code then
        { code := BitVec.ofNat 16 code, unit := u, seen := s.clk } :: s1.faults.active.filter (fun a =>
          !(a.code = BitVec.ofNat 16 code && a.unit = u))
      else s1.faults.active
    safe.lastFault := if code / 0x1000 = 8 then BitVec.ofNat 16 code else s1.safe.lastFault }
  let s3 := if s2.life.open_ then
      s2.raise 0x0102 ([BitVec.ofNat 8 kind, 0] ++ bytesOf 2 idx ++ [BitVec.ofNat 8 n]) code sev
    else { s2 with faults.bootHeld := s2.faults.bootHeld ++ [e] }
  let s4 := if sev = 1 && fresh && 3 ≤ n then s3.dueRetire u else s3
  if !respond then s4
  else if sev = 2 then s4.degrade
  else if sev = 3 || sev = 4 then s4.safeHold (propagates code)
  else s4

/-- A fault ceases to be active (R481). -/
def State.endFault (s : State) (code : Nat) : State :=
  { s with faults.active := s.faults.active.filter (fun a => a.code.toNat != code) }

/-- A fault ceases to be active against one unit (R481). -/
def State.endFaultAt (s : State) (code kind idx : Nat) : State :=
  { s with faults.active := s.faults.active.filter (fun a => !(a.code.toNat = code && a.unit = ⟨kind, idx⟩)) }

/-- Corrected errors of a tile (64: the sector memories; 65: the schedule store) are counted for the health sources, 66 being the whole
device, and for reason 7 (R487, R496). -/
def State.corrected (s : State) (src n : Nat) : State :=
  let recent := s.faults.corrected.filter (fun x => s.clk ≤ x.1 + sec 3600)
  let l := List.replicate n (s.clk, min src 64) ++ recent
  let s1 := { s with faults.corrected := l, faults.corrSec := tmod 0 (tmod 0 s.faults.corrSec src (· + n)) 66 (· + n) }
  let s2 := if src < 64 && 600 < (l.filter (fun x => x.2 = src)).length then s1.setReason 7 src else s1
  if 3600 < l.length then s2.setReason 7 0xFFFF else s2

/-! ### Sessions and reset (R326, R444 to R447) -/

/-- The semaphores of a local port are freed, each with EV_SEM_RELEASED to the other port (R326, R344). -/
def State.freeSems (s : State) (e : Entry) : State :=
  (List.range 32).foldl (fun t n =>
    if (t.sem n).owner = some e then
      ((t.modSem n (fun _ => {})).raise 0x1101 [BitVec.ofNat 8 n, BitVec.ofNat 8 (portIdx e.port + 1)]).setPort e.port (t.port e.port)
    else t) s

/-- A load ends: no set is loaded, and axis A no longer keeps the target of the previous one (R241, R380). -/
def State.endLoad (s : State) : State :=
  { s with sched.load := none, sched.sweep := 0, sched.facets := 0 }

/-- A port's host session ends (R326): indices, rings, interrupt map and CT_LATCH return to reset, waiting commands and
responses are discarded, the semaphores are freed; authentication is kept. The path of events stays as it was (R343). -/
def State.endSession (s : State) (p : HostPort) : State :=
  let h := s.port p
  let s1 := s.setPort p { h with
    mbs := [], points := {}, events := {}, intMap := 0x0A418820, intStat := 0, ctLatch := 0, evQ := [] }
  let k := 4 * portIdx p
  let s2 := if s1.sched.load.any (fun l => !l.whole && l.entry = localEntry p) then s1.endLoad else s1
  { s2.freeSems (localEntry p) with xfers := s1.xfers.filter (fun x => x.1 < k || k + 3 < x.1) }

/-- An object stands in flash (R450). -/
def Flash.put (f : Flash) (o : FlashObj) : Flash :=
  match o with
  | .cal b => { f with cal := some b }
  | .shares b => { f with shares := some b }
  | .safe b p => { f with safe := some (b, p) }
  | .chain ws => { f with chain := some ws }
  | .net .A n => { f with netA := some n }
  | .net .B n => { f with netB := some n }
  | .sched b => { f with sched := some b }
  | .fw k off b =>
    let put := fun (l : List Byte) => padTo off (l.take off) ++ b ++ l.drop (off + b.length)
    if k = 0 then { f with slotA := put f.slotA } else { f with slotB := put f.slotB }

/-- Offset and size of a flash object (R450); the second copy of the boot control record stands 0x8000 after the first. -/
def FlashObj.place : FlashObj → Nat × Nat
  | .cal _ | .shares _ | .safe _ _ | .chain _ | .net _ _ => (0x10000, 0x40000)
  | .fw 0 _ _ => (0x100000, 0x200000)
  | .fw _ _ _ => (0x300000, 0x200000)
  | .sched _ => (0x500000, 0x400000)

/-- Lines of the QSPI bus for command, address and data, and address bytes (R450). -/
def Flash.bus (f : Flash) : (Nat × Nat × Nat) × Nat :=
  if !f.ok then ((1, 1, 1), 3) else (if f.quad then (4, 4, 4) else (1, 1, 4), if f.mib ≤ 16 then 3 else 4)

/-- The object of a job that stopped: absent, or an invalid slot (R426, R446). -/
def Flash.spoil (f : Flash) (o : FlashObj) : Flash :=
  match o with
  | .fw k _ _ => if k = 0 then { f with slotA := [] } else { f with slotB := [] }
  | _ => f

/-- The flash after its writes in progress have stopped (R426, R446). -/
def State.flashStopped (s : State) : Flash :=
  s.jobs.foldl (fun f j => f.spoil j.obj) s.flash

/-- The state after a reset cause (R445, R446): what PD_AON keeps is kept, all else returns to its boot value; the pins and
the physical world are as they were. Columns, records and responses in flight are lost. A latched 0x8007 outlasts every reset but
PORST_N (R395; log entry 147). -/
def State.resetNow (s : State) (cause : Nat) : State :=
  let b := s.power.boot
  { State.reset with
    pending := s.pending, clk := s.clk, free := s.free, otp := s.otp, flash := s.flashStopped, out := s.out
    life := { lcs := .boot }
    power := { boot := { cause := cause, causes := (cause, s.clk) :: b.causes.filter (fun c => c.1 != cause)
                         startsA := b.startsA, startsB := b.startsB, straps := b.straps, porst := b.porst, aon := b.aon
                         noted := b.noted, vddLow := b.vddLow }
               tap := s.power.tap, refclk := s.power.refclk, tripRec := s.power.tripRec }
    hostA := { perst := s.hostA.perst }
    hostB := { perst := s.hostB.perst }
    faults := { log := s.faults.log.take 16 }
    hk := { trip := s.hk.trip }
    safe := { estop := s.safe.estop, button := s.safe.button, buttonAt := s.safe.buttonAt, latched := s.safe.latched && cause != 2 }
    emit := { strs := (List.range 64).foldl (fun t i => tput {} t i { rsv := (s.str i).rsv, drained := (s.str i).drained }) [] }
    scan := { a := { edges := s.scan.a.edges, vbus := s.scan.a.vbus } } }

/-- The device goes to OFF: nothing is kept but what is not volatile, and the world outside (R26, R445). -/
def State.powerOff (s : State) : State :=
  { State.reset with
    pending := s.pending, clk := s.clk, free := s.free, otp := s.otp, flash := s.flashStopped, out := s.out
    life := { lcs := .off }
    power := { boot := { porst := s.power.boot.porst, aon := false, causes := [] }, refclk := s.power.refclk
               tap := { held := !s.power.boot.porst } }
    hostA := { perst := s.hostA.perst }
    hostB := { perst := s.hostB.perst }
    hk := { trip := s.hk.trip }
    safe := { estop := s.safe.estop, button := s.safe.button, buttonAt := s.safe.buttonAt } }

end Sys2Proof.Machine
end

