-- ==== Sys2Proof/Machine/Operands.lean ====
section
/-! DEFINITION. The operands of a mailbox command: the fields of its slot (R334), its parameters and data, the shape of a
command's row (R352, R353), and the conditions rows share. -/

namespace Sys2Proof.Machine

open Sys2Proof

/-! ### The slot (R334) -/

/-- OPCODE. -/
def slotOp (x : Nat) : Nat := fld x 0 16
/-- TAG. -/
def slotTag (x : Nat) : Nat := fld x 16 16
/-- DEST. -/
def slotDest (x : Nat) : Nat := fld x 32 16
/-- KEY_SLOT. -/
def slotKey (x : Nat) : Nat := fld x 48 2
/-- DIR. -/
def slotDir (x : Nat) : Bool := bitN x 50
/-- TIMEOUT in ticks; 0 is 250 ms. -/
def slotTimeout (x : Nat) : Nat := if fld x 80 16 = 0 then ms 250 else ms (fld x 80 16)
/-- PLEN. -/
def slotPlen (x : Nat) : Nat := fld x 96 16
/-- COUNTER. -/
def slotCounter (x : Nat) : Nat := fld x 128 32
/-- DATA_LEN. -/
def slotDlen (x : Nat) : Nat := fld x 160 32
/-- The eight bytes of MAC. -/
def slotMac (x : Nat) : List Byte := bytesOf 8 (fld x 192 64)
/-- DATA_ADDR. -/
def slotAddr (x : Nat) : Nat := fld x 256 64

/-- A command in evaluation: who sent it, its slot and its data. -/
structure Ctx where
  /-- The entry (R31, R307). -/
  e    : Entry
  /-- The mailbox. -/
  mb   : Nat
  /-- The slot as a number (R334). -/
  slot : Nat
  /-- The data bytes (all parts together, R356). -/
  din  : List Byte
  /-- Byte 0 of the CMD message of a forwarded pair (R307). -/
  b0   : Nat

/-- Pn–m of PARAMS: `n` bytes from byte `lo` (R352). -/
def Ctx.p (c : Ctx) (lo n : Nat) : Nat :=
  fld c.slot (320 + 8 * lo) (8 * n)

/-- What a command answers: the state after it, its status and detail, the inline result and the data (R334, R352). -/
structure Ans where
  /-- The state after the command. -/
  st     : State
  /-- STATUS (R358). -/
  status : Nat := 0
  /-- DETAIL. -/
  detail : Nat := 0
  /-- RESULT bytes. -/
  a      : List Byte := []
  /-- Dout. -/
  dout   : List Byte := []
  /-- A histogram dump that the response waits for (R370). -/
  dump   : Option HistDump := none
  /-- The domains that the response waits for (R366). -/
  pwr    : Option Nat := none

/-! ### Status codes (R358) -/

/-- OK. -/
def stOk : Nat := 0x00
/-- BUSY. -/
def stBusy : Nat := 0x01
/-- BUSY_STOPPING. -/
def stBusyStopping : Nat := 0x02
/-- NOT_OWNER. -/
def stNotOwner : Nat := 0x03
/-- AUTH_FAIL. -/
def stAuthFail : Nat := 0x04
/-- AUTH_REPLAY. -/
def stAuthReplay : Nat := 0x05
/-- LOOP_CLOSED. -/
def stLoopClosed : Nat := 0x06
/-- BAD_STATE. -/
def stBadState : Nat := 0x07
/-- BAD_ARG. -/
def stBadArg : Nat := 0x08
/-- TIMEOUT. -/
def stTimeout : Nat := 0x09
/-- DROPPED. -/
def stDropped : Nat := 0x0A
/-- TEMP_FORBIDDEN. -/
def stTemp : Nat := 0x0B
/-- RETIRED. -/
def stRetired : Nat := 0x0C
/-- UNSUPPORTED. -/
def stUnsupported : Nat := 0x0D

/-- A command that fails: nothing changes. -/
def State.fail (s : State) (status : Nat) (detail : Nat := 0) : Ans :=
  { st := s, status := status, detail := detail }

/-- BAD_ARG naming a parameter byte: its offset in the slot (R358). -/
def State.badP (s : State) (byte : Nat) : Ans :=
  s.fail stBadArg (40 + byte)

/-- BAD_ARG naming a byte of the data buffer (R358). -/
def State.badD (s : State) (byte : Nat) : Ans :=
  s.fail stBadArg (2 ^ 31 + byte)

/-- A command that is done. -/
def State.ok (s : State) (a : List Byte := []) : Ans :=
  { st := s, a := a }

/-- A command that is done and returns data. -/
def State.okData (s : State) (dout : List Byte) (a : List Byte := []) : Ans :=
  { st := s, a := a, dout := dout }

/-! ### A command's row (R352, R353) -/

/-- What data a command carries. -/
inductive DataUse where
  /-- No data buffer. -/
  | none
  /-- Din of at most `max` bytes. -/
  | inp (max : Nat)
  /-- Dout. -/
  | out
  deriving DecidableEq, Repr

/-- The row of a command in the tables of Command Reference. -/
structure CmdDef where
  /-- The opcode. -/
  op       : Nat
  /-- Critical (R339). -/
  critical : Bool := false
  /-- The semaphore checked at step 8; none: 32. -/
  sem      : Ctx → Nat := fun _ => 32
  /-- The states that accept it. -/
  states   : State → Ctx → Bool
  /-- Parameter bytes used. -/
  plen     : Nat := 0
  /-- Parameter bits in use; a 1 in any other is refused (R8). -/
  mask     : Nat := 0
  /-- Its data. -/
  data     : DataUse := .none
  /-- Its data is a signed image and not covered by the tag (R348). -/
  signed   : Bool := false
  /-- The command writes the one-time memory (R347, R371). -/
  writesOtp : Bool := false
  /-- Checks of the parameters that need no data (R356): a status and detail. -/
  args     : State → Ctx → Option (Nat × Nat) := fun _ _ => none
  /-- What one part that is not final stores (R356), with its offset and bytes. -/
  part     : State → Ctx → Nat → List Byte → State := fun s _ _ _ => s
  /-- The command itself, every condition of step 9 but the state and those above included. -/
  act      : State → Ctx → Ans

/-- Every state from SAFE HOLD onward (R352). -/
def inAll (s : State) : Bool :=
  s.life.lcs != .off && s.life.lcs != .boot

/-- SAFE HOLD, STANDBY and SERVICE. -/
def inIdle (s : State) : Bool :=
  s.life.lcs == .safeHold || s.life.lcs == .standby || s.life.lcs == .service

/-- STANDBY and SERVICE. -/
def inSbSv (s : State) : Bool :=
  s.life.lcs == .standby || s.life.lcs == .service

/-- All bits of the parameter bytes `lo` to `hi`. -/
def pMask (lo hi : Nat) : Nat :=
  2 ^ (8 * (hi + 1)) - 2 ^ (8 * lo)

/-- The lowest bit of the reserved field that a bit outside a mask belongs to: the bits outside the mask below it, within its 32-bit word
(R8, R358). DESIGN CHOICE (log entry 141): bytes that no row names are reserved fields of at most a word. -/
def fieldStart (mask i : Nat) : Nat :=
  match (List.range (i % 32)).reverse.find? (fun k => bitN mask (i / 32 * 32 + k)) with
  | some k => i / 32 * 32 + k + 1
  | none => i / 32 * 32

/-- The byte at which the first reserved field with a 1 begins, in a number of `n` bytes (R8, R358). -/
def firstBad (n mask x : Nat) : Option Nat :=
  ((List.range (8 * n)).find? (fun i => bitN x i && !bitN mask i)).map (fun i => fieldStart mask i / 8)

/-! ### Conditions rows share -/

/-- A die sensor is broken (R420). -/
def State.dieBroken (s : State) : Bool :=
  (List.range 9).any (fun k => (s.dieS k).broken)

/-- Flash may be written (R426, R450). -/
def State.flashAllowed (s : State) : Bool :=
  s.hk.tj ≤ 1360 && -320 ≤ s.hk.dieMin && !s.dieBroken

/-- OTP may be written (R426). -/
def State.otpAllowed (s : State) : Bool :=
  s.hk.tj ≤ 1360 && 0 ≤ s.hk.dieMin && !s.dieBroken

/-- An entry holds a semaphore: it owns it and the lease does not run out by this FAB_CK cycle, in which its expiry stands first (R345,
R351). -/
def State.holds (s : State) (e : Entry) (n : Nat) : Bool :=
  (s.sem n).owner == some e && s.clk / fabCk < (s.sem n).exp / fabCk

/-- The length of a lease in ticks (R344); the reserved LEASE 0 acts as the reset value (R9). -/
def leaseTicks (l : Byte) : Nat :=
  ms (100 * (if l = 0 then 20 else l.toNat))

/-- Any taken command restarts the leases its entry holds (R339, R345); an expiry in the same cycle stands first (R351). -/
def State.refresh (s : State) (e : Entry) : State :=
  let s1 := (List.range 32).foldl (fun t n =>
    if t.holds e n then t.modSem n (fun x => { x with exp := t.clk + leaseTicks x.lease }) else t) s
  match s1.life.session with
  | some ss => if ss.entry = e && s1.clk < ss.exp then
      { s1 with life.session := some { ss with exp := s1.clk + sec ss.secs } } else s1
  | none => s1

/-- EV_FLASH_WRITTEN (R373). -/
def State.flashWritten (s : State) (op : Nat) (ok : Bool) (tag : Nat) (e : Entry) : State :=
  s.raise 0x0106 (bytesOf 2 op ++ [if ok then 0 else BitVec.ofNat 8 stTemp, 0] ++ bytesOf 2 tag ++ bytesOf 2 (portIdx e.port))

/-- A flash write starts; the object it writes counts as absent until the write ends (R426, R446, R450). A flash without valid SFDP is
not written (R450). -/
def State.startJob (s : State) (c : Ctx) (o : FlashObj) : State :=
  if !s.flash.ok then s
  else
  let f := s.flash
  let f' : Flash := match o with
    | .cal _ => { f with cal := none }
    | .shares _ => { f with shares := none }
    | .safe _ _ => { f with safe := none }
    | .chain _ => { f with chain := none }
    | .net .A _ => { f with netA := none }
    | .net .B _ => { f with netB := none }
    | .sched _ => { f with sched := none }
    | .fw _ _ _ => f
  { s with
    flash := f'
    jobs := s.jobs ++ [{ obj := o, opcode := BitVec.ofNat 16 (slotOp c.slot), tag := BitVec.ofNat 16 (slotTag c.slot)
                         entry := c.e }] }

/-- The SEM word of a semaphore as an entry reads it (R344). -/
def State.semWord (s : State) (reader : Option Entry) (n : Nat) : Nat :=
  let x := s.sem n
  match x.owner with
  | none => 2 ^ 8 * x.lease.toNat + 2 ^ 16 * 0xFFFF
  | some o =>
    b2n (reader == some o) + 2 * (portIdx o.port + 1) + 2 ^ 3 * b2n o.pair.isSome + 2 ^ 8 * x.lease.toNat
      + 2 ^ 16 * (match o.pair with
        | some a => a.toNat
        | none => 0xFFFF)

/-- A free semaphore is claimed by an entry (R344, R345). -/
def State.claim (s : State) (e : Entry) (n : Nat) : State :=
  if (s.sem n).owner.isNone then s.modSem n (fun x => { x with owner := some e, exp := s.clk + leaseTicks x.lease }) else s

/-- A semaphore held by an entry is freed, with EV_SEM_RELEASED (R344). -/
def State.release (s : State) (e : Entry) (n : Nat) : State :=
  (s.modSem n (fun _ => {})).raise 0x1101 [BitVec.ofNat 8 n, BitVec.ofNat 8 (portIdx e.port + 1)]

end Sys2Proof.Machine
end

