-- ==== Sys2Proof/Machine/Serve.lean ====
section
/-! DEFINITION. How a taken command is served (R336 to R339, R346 to R358): the checks in their order, authentication, parts,
evaluation, forwarding, and the response. -/

namespace Sys2Proof.Machine

open Sys2Proof

/-! ### Responses (R334, R336, R338, R357) -/

/-- The 64 bytes of a response slot, as a number (R334). -/
def Rsp.word (r : Rsp) : Nat :=
  r.opcode.toNat + 2 ^ 16 * r.tag.toNat + 2 ^ 32 * r.status.toNat + 2 ^ 40 * r.lcs.toNat + 2 ^ 44 * b2n r.fwd
    + 2 ^ 48 * r.src.toNat + 2 ^ 64 * r.counter.toNat + 2 ^ 96 * (r.rlen % 2 ^ 32) + 2 ^ 128 * (r.detail % 2 ^ 32)
    + 2 ^ 160 * ofBytes (padTo 44 r.result)

/-- The response to a slot. -/
def State.rspOf (s : State) (slot : Nat) (a : Ans) : Rsp :=
  { opcode := BitVec.ofNat 16 (slotOp slot), tag := BitVec.ofNat 16 (slotTag slot), status := BitVec.ofNat 8 a.status
    lcs := BitVec.ofNat 4 (lcsCode s.life.lcs), fwd := false, src := s.chain.addr
    counter := BitVec.ofNat 32 (slotCounter slot), rlen := a.dout.length, detail := a.detail, result := a.a
    dout := a.dout, addr := slotAddr slot }

/-- The ring index one slot on: INDEX rises, WRAP toggles past 31 (R335). -/
def nextIdx (i : BitVec 6) : BitVec 6 :=
  i + 1

/-- A ring is full: INDEX equal, WRAP different (R335). -/
def ringFull (head tail : BitVec 6) : Bool :=
  tail - head == 32

/-- The entries from head to tail (R335, R336). -/
def ringCount (head tail : BitVec 6) : Nat :=
  (tail - head).toNat

/-- The datagrams of a response (R357): a result of more than 1,400 bytes goes in consecutive ones, A40–43 the offset of the data. -/
def Rsp.parts (r : Rsp) : List Rsp :=
  if r.dout.length ≤ 1400 then [r]
  else (List.range ((r.dout.length + 1399) / 1400)).map (fun i =>
    { r with result := padTo 40 (r.result.take 40) ++ bytesOf 4 (1400 * i), dout := (r.dout.drop (1400 * i)).take 1400 })

/-- A response goes out on an Ethernet port (R338, R357). -/
def State.sayRsp (s : State) (p : HostPort) (m : Nat) (src : Option Endpoint) (r : Rsp) : State :=
  r.parts.foldl (fun t x => t.say (.rsp (localEntry p) m src x)) s

/-- A response reaches a local port: on PCI Express its data by DMA, the response ring and its interrupt, a datagram and the keep on Ethernet;
the turnaround is sampled (R336, R338, R496). -/
def State.writeRsp (s : State) (p : HostPort) (m : Nat) (src : Option Endpoint) (r : Rsp) : State :=
  let mb := s.mb p m
  let s1 := s.sample 0x01 (portIdx p) ((s.clk - mb.rangAt) / 64)
  if s.isPcie p then
    let i := fld mb.rspTail.toNat 0 5
    let ring := (List.range 16).foldl (fun t j => tput 0#32 t (16 * i + j) (BitVec.ofNat 32 (fld r.word (32 * j) 32))) mb.rspRing
    let s2 := if r.dout.isEmpty then s1 else s1.say (.dmaWrite p r.addr r.dout)
    ((s2.modMb p m (fun b => { b with rspRing := ring, rspTail := nextIdx b.rspTail })).say
      (.rsp (localEntry p) m none r)).signal p m
  else
    let keep := match src with
      | some d => pushMax 32 (d, r) mb.keep
      | none => mb.keep
    (s1.modMb p m (fun b => { b with keep := keep })).sayRsp p m src r

/-- BULK packets for data past the first 1,471 bytes of a message (R307, R314). -/
def State.bulkPackets (s : State) (dest b0 id : Nat) (rest : List Byte) : List Packet :=
  let n := (rest.length + 2031) / 2032
  (List.range n).map (fun i =>
    { dest := BitVec.ofNat 16 dest, src := s.chain.addr, ptype := 3
      data := bytesOf 1 b0 ++ bytesOf 1 id ++ zeros 2 ++ bytesOf 4 (1471 + 2032 * i) ++ zeros 8
        ++ (rest.drop (2032 * i)).take 2032
      stomp := false })

/-- A packet of this device: its own destination takes it at once, where the rules give it no further effect; else it is queued toward
its destination, or discarded and counted without a route or at a port of width 0 (R306). -/
def State.queuePacket (s : State) (p : Packet) : State :=
  if p.dest = s.chain.addr && p.dest != 0xFFFF then s
  else match s.route p.dest.toNat with
    | some q => if (s.rport q).ret ||| (s.rport q).pRet == 7#3 then s.dropPkt
      else s.modRport q (fun r => { r with txQ := r.txQ ++ [(p, none)] })
    | none => s.dropPkt

/-- As `queuePacket`, several in order. -/
def State.queuePackets (s : State) (ps : List Packet) : State :=
  ps.foldl State.queuePacket s

/-- A message with data: byte 0, the slot, and the data, the part past 1,471 bytes in BULK packets (R307). -/
def State.sendCmdMsg (s : State) (mtype dest b0 slot : Nat) (data : List Byte) : State :=
  let id := s.chain.msgId.toNat
  let s1 := s.sendMsg mtype dest (bytesOf 1 b0 ++ bytesOf 64 slot ++ data.take 1471)
  s1.queuePackets (s1.bulkPackets dest b0 id (data.drop 1471))

/-- A response goes back to its entry: a local port, or the entry device of a forwarded pair as an RSP (R307). -/
def State.respond (s : State) (e : Entry) (m b0 : Nat) (src : Option Endpoint) (r : Rsp) : State :=
  match e.pair with
  | none => s.writeRsp e.port m src r
  | some a => (s.sendCmdMsg 2 a.toNat b0 r.word r.dout).say (.rsp e m none r)

/-! ### Authentication (R346 to R350) -/

/-- Message M that the tag covers (R348). -/
def State.tagMessage (s : State) (c : Ctx) (data : List Byte) : List Byte :=
  bytesOf 8 s.otp.uid.toNat ++ bytesOf 4 s.life.bootId.toNat ++ [BitVec.ofNat 8 (portLetter c.e.port)]
    ++ [BitVec.ofNat 8 (slotKey c.slot)] ++ zeros 2 ++ bytesOf 24 (fld c.slot 0 192) ++ bytesOf 24 (fld c.slot 320 192)
    ++ data

/-- A failure at step 5 or 6: the third in a row locks the entry's critical commands for 1 s (R350). -/
def State.authFailure (s : State) (e : Entry) : State :=
  if (s.auth e).fails + 1 < 3 then s.modAuth e (fun a => { a with fails := a.fails + 1 })
  else
    let s1 := s.modAuth e (fun a => { a with fails := 0, lockUntil := some (s.clk + sec 1), lockouts := a.lockouts + 1 })
    let s2 := s1.raise 0x1201 ([BitVec.ofNat 8 (portLetter e.port), 0] ++ bytesOf 2 (match e.pair with
      | some a => a.toNat
      | none => 0xFFFF))
    s2.fault 0x7004 17 (portIdx e.port)

/-- Steps 4 to 8 of R339: the state after them, and the status of the first that fails. -/
def State.authenticate (s : State) (d : CmdDef) (c : Ctx) (data : List Byte) : State × Option Nat :=
  if !d.critical then (s, none)
  else if s.locked c.e then (s, some stAuthFail)
  else
    let k := s.key c.e.port (slotKey c.slot)
    let tagged := if d.signed then [] else data
    if k.st != .active || (cmac k.key (s.tagMessage c tagged)).take 8 != slotMac c.slot then
      (s.authFailure c.e, some stAuthFail)
    else
      let last := (tget 0#32 (s.auth c.e).counters (slotKey c.slot)).toNat
      if slotCounter c.slot ≤ last then (s.authFailure c.e, some stAuthReplay)
      else
        let s1 := s.modAuth c.e (fun a => { a with
          fails := 0, counters := tput 0#32 a.counters (slotKey c.slot) (BitVec.ofNat 32 (slotCounter c.slot)) })
        if d.sem c < 32 && !s1.holds c.e (d.sem c) then (s1, some stNotOwner) else (s1, none)

/-! ### Step 2 and step 9 (R8, R339, R353, R355, R356) -/

/-- The first bad field of step 2, by its byte offset in the slot. -/
def slotBad (eth : Bool) (x : Nat) : Option Nat :=
  if slotDest x = 0xFFFE then some 4
  else if fld x 51 29 != 0 then some 6
  else if 60000 < fld x 80 16 then some 10
  else if 24 < slotPlen x then some 12
  else if fld x 112 16 != 0 then some 14
  else if eth && slotAddr x != 0 then some 32
  else none

/-- The command's data comes in parts: PART_TOTAL is given, on any entry but a PCI Express port (R355, R356). -/
def State.inParts (s : State) (d : CmdDef) (c : Ctx) : Bool :=
  match d.data with
  | .inp _ => c.p 20 4 != 0 && !(c.e.pair.isNone && s.isPcie c.e.port)
  | _ => false

/-- DETAIL of a command with a 1 in a reserved field of PARAMS: that field, or a parameter before it that the row refuses (R358). -/
def State.firstField (s : State) (d : CmdDef) (c : Ctx) (reserved : Nat) : Nat :=
  let own := match d.args s c with
    | some x => x
    | none => if s.inParts d c then (stOk, 0) else
      let a := d.act s c
      (a.status, a.detail)
  if own.1 = stBadArg && own.2 < reserved then own.2 else reserved

/-- The checks of the slot that every row makes at step 9: state, DIR, PLEN, DATA_LEN, reserved parameter bits (R8, R353, R355). -/
def State.rowChecks (s : State) (d : CmdDef) (c : Ctx) : Option (Nat × Nat) :=
  let parts := s.inParts d c
  let plen := if parts then 24 else d.plen
  let mask := if parts then d.mask ||| pMask 16 23 else d.mask
  let lenBad := match d.data with
    | .none => slotDlen c.slot != 0
    | .inp m => m < slotDlen c.slot
    | .out => false
  if !d.states s c then some (stBadState, 0)
  else if slotDir c.slot != (d.data == .out) then some (stBadArg, 6)
  else if plen != slotPlen c.slot then some (stBadArg, 12)
  else if lenBad then some (stBadArg, 20)
  else match firstBad 24 mask (fld c.slot 320 192) with
    | some i => some (stBadArg, s.firstField d c (40 + i))
    | none => d.args s c

/-- The result of a command is held against DATA_LEN before it has any effect (R355). -/
def State.lengthCheck (s : State) (c : Ctx) (a : Ans) : Ans :=
  if a.status = stOk && slotDlen c.slot < a.dout.length then s.fail stBadArg a.dout.length else a

/-- The key of a multi-part transfer (R356). -/
def xferKey (c : Ctx) : Nat :=
  4 * entryKey c.e + c.mb

/-- A schedule load that the parts of a mailbox began is abandoned, and no set is loaded (R241, R356, R380). -/
def State.dropLoad (s : State) (c : Ctx) : State :=
  match s.sched.load with
  | some l => if !l.whole && l.key = xferKey c then s.endLoad else s
  | none => s

/-- A transfer is abandoned; a schedule load that its parts began goes with it (R356). -/
def State.dropXfer (s : State) (c : Ctx) : State :=
  { s with xfers := tput none s.xfers (xferKey c) none }.dropLoad c

/-- DETAIL of a part that is not of the transfer in progress: its first field that differs (R356, R358). -/
def PartXfer.differs (x : PartXfer) (slot total : Nat) : Option Nat :=
  if x.opcode.toNat != slotOp slot then some 0
  else if x.p.toNat != fld slot 320 128 then some 40
  else if x.total != total then some 60
  else none

/-- A taken command that is not the next part of the transfer of its mailbox breaks it; one that is itself a part is to return BAD_ARG
where it is evaluated (R356). -/
def State.breakXfer (s : State) (c : Ctx) : State :=
  match tget none s.xfers (xferKey c) with
  | some x =>
    if x.broken.isSome then s.dropXfer c
    else match x.differs c.slot (c.p 20 4) with
      | none => s
      | some i =>
        if c.p 20 4 = 0 then s.dropXfer c
        else { s with xfers := tput none s.xfers (xferKey c) (some { x with broken := some i }) }.dropLoad c
  | none => s

/-- One part of a multi-part command (R356). Data of at most 1,400 bytes fits one datagram and comes in no parts. -/
def State.evalPart (s : State) (d : CmdDef) (c : Ctx) : Ans :=
  let off := c.p 16 4
  let total := c.p 20 4
  let max := match d.data with
    | .inp m => m
    | _ => 0
  let p := BitVec.ofNat 128 (fld c.slot 320 128)
  let op := BitVec.ofNat 16 (slotOp c.slot)
  let prev := tget none s.xfers (xferKey c)
  let good := match prev with
    | some x => x.data.length = off
    | none => off = 0
  let broke := prev.bind PartXfer.broken
  if broke.isSome then { s.fail stBadArg (broke.getD 0) with st := s.dropXfer c }
  else if max < total || total ≤ 1400 then { s.fail stBadArg 60 with st := s.dropXfer c }
  else if !good || c.din.length = 0 || 1400 < c.din.length || total < off + c.din.length then
    { s.fail stBadArg 56 with st := s.dropXfer c }
  else
    let before := match prev with
      | some x => x.data
      | none => []
    let all := before ++ c.din
    if all.length = total then
      d.act { s with xfers := tput none s.xfers (xferKey c) none } { c with din := all }
    else
      (d.part { s with xfers := tput none s.xfers (xferKey c) (some { opcode := op, p := p, total := total, data := all }) } c off c.din).ok

/-- Step 9 of R339. -/
def State.evaluate (s : State) (d : CmdDef) (c : Ctx) : Ans :=
  match s.rowChecks d c with
  | some (st, det) => s.fail st det
  | none =>
    if s.inParts d c then s.evalPart d c
    else
      let s1 := s.dropXfer c
      s1.lengthCheck c (d.act s1 c)

/-! ### Forwarding (R306, R307) -/

/-- Byte 0 of a CMD message (R307): entry port, mailbox, slot. DESIGN CHOICE (log entry 145): where no ring slot carries the command, the
slot is a number that rises with every command that the mailbox forwards. -/
def cmdByte (p : HostPort) (m slot : Nat) : Nat :=
  portIdx p + 2 * m + 8 * (slot % 32)

/-- A command for another device is forwarded as a CMD and waits for its RSP (R307). -/
def State.forward (s : State) (p : HostPort) (m idx : Nat) (src : Option Endpoint) (r : Req) (data : List Byte) : State :=
  let s1 := s.sendCmdMsg 1 (slotDest r.slot.toNat) (cmdByte p m idx) r.slot.toNat data
  let x : Exec := { req := r, src := src, since := s.clk, until_ := s.clk + slotTimeout r.slot.toNat, dump := none
                    b0 := cmdByte p m idx }
  s1.modMb p m (fun b => { b with exec := some x, fwdSlot := b.fwdSlot + 1 })

/-! ### Serving -/

/-- After its response DEV.RESET runs its reset; that of a forwarded pair has yet to leave as a message (R307, R359, R444). -/
def State.afterRsp (s : State) (c : Ctx) : State :=
  if s.power.resetAt.isSome && c.e.pair.isNone && slotOp c.slot = 0x0103 then s.resetNow 3 else s

/-- The reset of a forwarded DEV.RESET runs once its response has left, within 10 ms of it (R359). -/
def State.resetDue (s : State) : State :=
  match s.power.resetAt with
  | some t => if (List.range 4).all (fun q => (s.rport q).msgs.isEmpty) || t + ms 10 ≤ s.clk then s.resetNow 3 else s
  | none => s

/-- A command is answered, or waits for its dump or its domains (R337, R366, R370). -/
def State.finish (s : State) (c : Ctx) (r : Req) (src : Option Endpoint) (a : Ans) : State :=
  if a.dump.isSome || a.pwr.isSome then
    let x : Exec := { req := r, src := src, since := s.clk, until_ := s.clk + slotTimeout c.slot, dump := a.dump, b0 := c.b0
                      pwr := a.pwr }
    match c.e.pair with
    | none => a.st.modMb c.e.port c.mb (fun b => { b with exec := some x })
    | some _ => { a.st with remote := a.st.remote ++ [(c.b0, x)] }
  else (a.st.respond c.e c.mb c.b0 src (a.st.rspOf c.slot a)).afterRsp c

/-- Steps 1 to 9 of R339 on a taken command and its response, and the one-time memory after it. -/
def State.serveSteps (s : State) (d : Option CmdDef) (r : Req) (b0 idx : Nat) (src : Option Endpoint) : State × Otp :=
  let c : Ctx := { e := r.entry, mb := r.mb.val, slot := r.slot.toNat, din := (r.din.getD []).take (slotDlen r.slot.toNat)
                   b0 := b0 }
  let s1 := (s.refresh c.e).breakXfer c
  let eth := c.e.pair.isNone && !s.isPcie c.e.port
  match d with
  | none => (s1.finish c r src (s1.fail stUnsupported), s.otp)
  | some d =>
    match slotBad eth c.slot with
    | some off => (s1.finish c r src (s1.fail stBadArg off), s.otp)
    | none =>
      let needsData := !slotDir c.slot && 0 < slotDlen c.slot
      if needsData && r.din.isNone then
        let s2 := s1.fault 0x7003 17 (portIdx c.e.port)
        (s2.finish c r src (s2.fail stTimeout), s.otp)
      else
        let data := if needsData then c.din else []
        if c.e.pair.isNone && slotDest c.slot != 0xFFFF && slotDest c.slot != s.chain.addr.toNat then
          (s1.forward c.e.port c.mb idx src r data, s.otp)
        else
          let c' := { c with din := data }
          match s1.authenticate d c' data with
          | (s2, some st) => (s2.finish c' r src (s2.fail st), s.otp)
          | (s2, none) =>
            let a := s2.evaluate d c'
            (s2.finish c' r src a, if d.writesOtp then a.st.otp else s.otp)

/-- A taken command is served; the one-time memory is written by the KEY commands alone (R347, R371). `d`: the row of its opcode, if
the interface level has one; `b0`: byte 0 of its CMD message, where one brought it; `idx`: the slot number under which it is forwarded. -/
def State.serve (s : State) (d : Option CmdDef) (r : Req) (b0 idx : Nat) (src : Option Endpoint) : State :=
  let x := s.serveSteps d r b0 idx src
  { x.1 with otp := x.2 }

/-- A mailbox can take a command: the mailboxes take commands, the port and the application firmware run, nothing is in
execution, and a response slot is free (R336, R337, R354, R447). -/
def State.canServe (s : State) (e : Entry) (m : Nat) : Bool :=
  s.life.open_ && !s.power.appDown && s.domOn 33 && (match e.pair with
    | some _ => true
    | none =>
      let b := s.mb e.port m
      s.domOn (28 + portIdx e.port) && s.portMode e.port != 0 && b.exec.isNone
        && (!s.isPcie e.port || !ringFull b.rspHead b.rspTail))

/-- The meaning of a command's row of the table: the command, its OPCODE that of the row, is taken where its mailbox can take
one; otherwise it waits and only time passes (log entry 4). -/
def State.command (d : CmdDef) (r : Req) (s : State) : State :=
  if s.canServe r.entry r.mb.val then
    let slot := BitVec.ofNat 512 (setFld r.slot.toNat 0 16 d.op)
    s.serve (some d) { r with slot := slot } (cmdByte r.entry.port r.mb.val 0)
      (s.mb r.entry.port r.mb.val).fwdSlot.toNat none
  else s

end Sys2Proof.Machine
end

