-- ==== Sys2Proof/Machine/Thermal.lean ====
section
/-! DEFINITION. The reservoirs' charge control (R156 to R159) and the bookkeeping of the thermal sources (R421 to R424, R429). -/

namespace Sys2Proof.Machine

open Sys2Proof

/-! ### Reservoirs -/

/-- VNOM of a string word, 0.1 V (R170). -/
def vnomOf (w : Nat) : Nat :=
  fld w 1 11

/-- The target voltage of a string at a head temperature, 0.1 V (R158). -/
def targetV (word strWord : Nat) (t : Int) : Nat :=
  let vnom := vnomOf strWord
  let knee : Int := 16 * fld word 0 8
  let top : Int := 95 * 16
  if t ≤ knee then vnom
  else if t < top then
    (((vnom : Int) - (vnom * (100 - (fld word 8 7 : Int))) * (t - knee) / ((top - knee) * 100))).toNat
  else 0

/-- HEAD_CTRL.DRAIN of a head is set or cleared, and owed to it where it changes (R157, R362). -/
def State.setDrain (s : State) (i : Nat) (on : Bool) : State :=
  if (s.str i).drain = on then s else (s.modStr i (fun x => { x with drain := on })).owe i 0x02 true

/-- HEAD_CTRL.DRAIN of every present head is set, and each has yet to report DRAINED (R51, R362). -/
def State.drainAll (s : State) : State :=
  (List.range 64).foldl (fun t i =>
    if t.present i then (t.modStr i (fun x => { x with drained := false })).setDrain i true else t) s

/-- A loop engine whose retirement is due gives its function to a spare at the function's next period; a charge function's period is
an RTD result or an RSV_SNS event of its strings (R173, R174). -/
def State.loopDue (s : State) (f : Nat) : State :=
  match s.fnEngine f with
  | some e => if s.faults.due.contains ⟨9, e⟩ then s.retire ⟨9, e⟩ else s
  | none => s

/-- CHG[s] and HEAD_CTRL.DRAIN of one string follow the conditions of R156, R157, R159 and R362; without PD_EMIT CHG is low (R172). -/
def State.chargeCtl (s : State) (i : Nat) : State :=
  let t := s.str i
  let w := s.strWord i
  let stopped := match s.mode.stop with
    | some x => x.ended
    | none => false
  if stopped || !s.domOn 32 then s.modStr i (fun x => { x with chg := false })
  else if s.chargeForbidden i then
    (s.modStr i (fun x => { x with chg := false })).setDrain i (t.drain || (s.present i && s.headHot i))
  else
    let high := if t.chgHeld || t.v ≤ t.rsv then false else if t.rsv + 5 * fld w 12 6 < t.v then true else t.chg
    (s.modStr i (fun x => { x with chg := high, chgSince := if high && !t.chg then s.clk else x.chgSince })).setDrain i false

/-- The charge control of every string. -/
def State.chargeAll (s : State) : State :=
  (List.range 64).foldl State.chargeCtl s

/-- A new result of an RTD channel is a period of the charge functions of the strings bound to it (R173); it sets their targets (R158)
and their charge control (R157). -/
def State.newTemp (s : State) (ch : Nat) (t : Int) : State :=
  (List.range 64).foldl (fun u i =>
    if u.present i && u.rtdOf i = ch then
      ((u.loopDue (chargeFn i)).modStr i (fun x => { x with v := targetV u.emit.word.toNat (u.strWord i) t })).chargeCtl i
    else u) s

/-! ### Thermal sources (R421, R423) -/

/-- EV_THERMAL (R429). -/
def State.sayTherm (s : State) (kind src : Nat) (value : Int) : State :=
  s.raise 0x0C03 ([BitVec.ofNat 8 kind, BitVec.ofNat 8 src, 0, 0] ++ bytesOf 4 (uns 32 value))

/-- The head channels: those bound by a PRESENT string (R421). -/
def State.headChans (s : State) : List Nat :=
  (List.range 48).filter (fun c => (List.range 64).any (fun i => s.present i && s.rtdOf i = c))

/-- The extra-channel record of a channel, if it is one (R427). -/
def State.extraOf (s : State) (ch : Nat) : Option Nat :=
  (s.hk.extra.find? (fun r => fld r.toNat 0 8 = ch)).map BitVec.toNat

/-- E1 of EV_THERMAL names a source that still is one. -/
def State.isSource (s : State) (src : Nat) : Bool :=
  0x80 ≤ src || s.headChans.contains src || (s.extraOf src).isSome

/-- A warning clears with EV_THERMAL kind 6, under the E1 it was raised with (R423, R429). -/
def State.clearWarn (s : State) (w : Therm) : State :=
  match s.hk.warns.find? (fun x => x.1 = w) with
  | some x => ({ s with hk.warns := s.hk.warns.filter (fun x => x.1 != w) }).sayTherm 6 x.2 w.kind
  | none => s

/-- The fault of a stop: 0x9005 of a rate, 0x9004 of a level or an OPEN (R423). -/
def Therm.fault (w : Therm) : Nat :=
  if w.kind = 4 then 0x9005 else 0x9004

/-- A stop ends; its fault ends with the last stop that has it (R423, R481). -/
def State.clearStop (s : State) (w : Therm) : State :=
  if s.hk.stops.contains w then
    let s1 := { s with hk.stops := s.hk.stops.filter (· != w) }
    if s1.hk.stops.any (fun x => x.fault = w.fault) then s1 else s1.endFault w.fault
  else s

/-- A channel that ceases to be a thermal source takes its warnings and stops with it (R423). -/
def State.pruneTherm (s : State) : State :=
  let s1 := s.hk.warns.foldl (fun u w => if u.isSource w.1.src then u else u.clearWarn w.1) s
  s1.hk.stops.foldl (fun u w => if u.isSource w.src then u else u.clearStop w) s1

end Sys2Proof.Machine
end

