-- ==== Sys2Proof/Machine/Grid.lean ====
section
/-! DEFINITION. The column grid (R32 to R35, R47), and the acceptance and end of mode starts, changes and stops (R44 to R51,
R359, R362, R374, R384). What happens at a boundary stands in Columns.lean. -/

namespace Sys2Proof.Machine

open Sys2Proof

/-! ### The grid -/

/-- The ticks of one triplet, or of one column (R32). -/
def tripTicks (p : ModeParams) : Nat :=
  engCk * p.lengths.sum

/-- The start of column `j` of a mode's grid, counted from the epoch (R32, R33). -/
def colStart (p : ModeParams) (epoch j : Nat) : Nat :=
  epoch + j / p.lengths.length * tripTicks p + engCk * (p.lengths.take (j % p.lengths.length)).sum

/-- The index of the first column boundary at or after `t`, never before the epoch (R46, R254). -/
def colAtOrAfter (p : ModeParams) (epoch t : Nat) : Nat :=
  let j0 := (t - epoch) / tripTicks p * p.lengths.length
  match (List.range (p.lengths.length + 1)).find? (fun i => t ≤ colStart p epoch (j0 + i)) with
  | some i => j0 + i
  | none => j0 + p.lengths.length

/-- The first grid mark at or after `t`, never before the epoch (R32, R45). -/
def gridAtOrAfter (epoch t : Nat) : Nat :=
  epoch + (t - epoch + (gridTicks - 1)) / gridTicks * gridTicks

/-- The schedule epoch of the set in force (R33, R251). -/
def State.epoch (s : State) : Nat :=
  match s.sched.slice with
  | some x => x.epoch
  | none => 0

/-- The shortest column of a mode, ENG_CK cycles (R245). -/
def shortCol (p : ModeParams) : Nat :=
  minOf 0 p.lengths

/-- The listen entry of a mode's column, if the plan has one (R129, R252). -/
def State.listenAt (s : State) (m col : Nat) : Option Listen :=
  match s.sched.slice with
  | some x => x.listen.find? (fun l => l.mode = m && l.column = col)
  | none => none

/-- A column of a mode's grid, from its index (R32, R47, R129, R133). DESIGN CHOICE (log entry 152): VARIANT is
that of the column's start. -/
def State.newColumn (s : State) (kind : ColKind) (m j frame : Nat) (cut settling : Bool) : Column :=
  let p := parOf m
  let col := j % p.columns
  let l := if kind = .home then s.listenAt m col else none
  { kind := if l.isSome then .listen else kind, start := colStart p s.epoch j, stop := colStart p s.epoch (j + 1), mode := m
    frame := frame, col := col, variants := s.variantWord, contrib := s.contrib m, settling := settling, partialFrame := cut
    degraded := s.life.lcs == .degraded
    partner := match l with
      | some x => x.partner
      | none => 0
    angleA := 0, angleB := 0, sampled := false, permitted := s.permitted, index := j }

/-- A column of a mode's grid in which no shot and no listen slot runs (R18, R107). -/
def State.shotless (s : State) (m j : Nat) : Column :=
  { s.newColumn .prime m j s.mode.frame false false with contrib := 0, permitted := false }

/-- The column of a mode's grid that ends at its last boundary, as one in which no shot and no listen slot ran (R18, R107). -/
def State.idleColumn (s : State) (m : Nat) : Option Column :=
  let j := colAtOrAfter (parOf m) s.epoch (s.now + 1)
  if j < 2 then none else some (s.shotless m (j - 2))

/-- The column in progress: that of the mode that runs, or of the active schedule where none does (R18, R66, R107). -/
def State.columnNow (s : State) : Option Column :=
  match s.mode.cur with
  | some c => some c
  | none =>
    let j := colAtOrAfter (parOf s.mode.mode) s.epoch (s.now + 1)
    if (s.block s.mode.mode).isSome && j != 0 then some (s.shotless s.mode.mode (j - 1)) else none

/-- σ of a signature code, ticks (R142). -/
def sigmaOf (sig : Nat) : Nat :=
  512 + 48 * sig

/-- The signature code of a column of the device itself (R142). -/
def State.sigOf (s : State) (m j : Nat) : Nat :=
  match s.sched.slice with
  | some x => if (parOf m).hopping then x.hops.getD (j % x.hops.length) 0 else x.sig
  | none => 0

/-- The dither of a slot that starts at chain time `t` under a seed (R143). -/
def ditherOf (seed t d : Nat) : Nat :=
  let c := t / 80
  let x0 := (c ^^^ (c / 2 ^ 32) ^^^ seed) % 2 ^ 32
  let x1 := (x0 ^^^ (x0 / 2 ^ 16)) * 0x045D9F3B % 2 ^ 32
  let x2 := (x1 ^^^ (x1 / 2 ^ 16)) * 0x045D9F3B % 2 ^ 32
  let x3 := x2 ^^^ (x2 / 2 ^ 16)
  x3 % 2 ^ 16 * d / 2 ^ 16

/-- The start of slot `k` of a column (R35). -/
def slotStart (c : Column) (k : Nat) : Nat :=
  c.start + k * (parOf c.mode).spacing

/-- The reference instant of a column (R134). -/
def refInstant (c : Column) : Nat :=
  c.start + (parOf c.mode).shots / 2 * (parOf c.mode).spacing

/-! ### Conditions of MODE.START and MODE.SET -/

/-- The island's copies agree with the coefficient blocks in force (R384, R397, R199, R200). -/
def State.copiesAgree (s : State) : Bool :=
  s.safeFld 12 2 = s.aCoef 128 16 && fld (s.safeFld 14 1) 0 4 = s.aCoef 124 4 && fld (s.safeFld 14 1) 4 1 = s.aCoef 177 1
    && s.safeFld 15 1 = s.bCoef 124 5 && fld (s.safeFld 16 1) 0 3 = s.bCoef 129 3 && fld (s.safeFld 16 1) 3 1 = s.bCoef 120 1
    && fld (s.safeFld 16 1) 4 1 = s.bCoef 121 1 && s.safeFld 22 2 + 2 ^ 16 * fld (s.safeFld 17 1) 0 1 = s.aCoef 192 17

/-- Every axis B target of the loaded set lies within SLP_MIN to SLP_MAX (R384). -/
def State.targetsInside (s : State) : Bool :=
  let lo := 16 * sgn 16 (s.safeFld 18 2)
  let hi := 16 * sgn 16 (s.safeFld 20 2)
  s.sched.modes.all (fun b => b.2.targets.all (fun t => lo ≤ t && t ≤ hi))

/-- The island's conditions for MODE.START and SERVICE.PROOF (R384). -/
def State.islandReady (s : State) : Bool :=
  s.copiesAgree && s.targetsInside && s.gatesOpen

/-- A mode may run: loaded, and the set's FACETS is that of the coefficient block (R44, R180). -/
def State.usable (s : State) (m : Nat) : Bool :=
  s.loaded m && !s.facetMismatch

/-- The slice is compiled for the address the device has (R254). -/
def State.sliceFits (s : State) : Bool :=
  match s.sched.slice with
  | some x => x.device = s.chain.addr
  | none => false

/-- The supply of sectors, loops and emission has not failed for this boot (R439, R449). -/
def State.supplyOk (s : State) : Bool :=
  !bitN s.power.railDead.toNat 2 && !bitN s.power.railDead.toNat 3 && s.domOn 31 && s.domOn 32
    && !bitN s.power.domDead.toNat 31 && !bitN s.power.domDead.toNat 32

/-- The smallest set for measurement (R457): a sector of the mode that can be powered and is not retired, and a present string, by the
words that come into force with the start, that can be charged. DEDUCED (log entry 165): MODE.START returns BAD_STATE without it. -/
def State.canMeasure (s : State) (m : Nat) : Bool :=
  (List.range 8).any (fun k => bitN (parOf m).sectors.toNat k && !s.retired 3 k && !bitN s.power.domDead.toNat k
      && !bitN s.power.domDead.toNat (8 + k) && !bitN s.power.domDead.toNat (16 + k))
    && (List.range 64).any (fun i => bitN (tget 0#32 s.emit.strSet i).toNat 0 && !s.retired 6 i && !s.fnLost (6 + i / 8))

/-- The sectors a mode needs powered that are not (R45). -/
def State.toWarm (s : State) (m : Nat) : List Nat :=
  (List.range 8).filter (fun k => bitN (parOf m).sectors.toNat k && !s.retired 3 k && !s.secOn k)

/-- The start time of a change is refused: nonzero and less than `least` or more than 10 s after acceptance (R48). -/
def State.badStart (s : State) (t least : Nat) : Bool :=
  t != 0 && (t < s.now + least || s.now + sec 10 < t)

/-- Sectors are powered one after another, each SEC, TDC, AFE, but for domains already on or on their way (R437). -/
def State.warmSectors (s : State) (ks : List Nat) : State :=
  ({ s with power.toPower := s.power.toPower ++ ks.flatMap (fun k =>
      [k, 16 + k, 8 + k].filter (fun d => !s.powering d)) }).rampNext

/-! ### Values that take effect at MODE.START -/

/-- K of a point configuration word (R123). -/
def rangeK (word : Nat) : Nat :=
  (rhe ((61397495 : Rat) / 100 * 1000000 / (1000000 + fld word 0 16))).toNat

/-- A front-end configuration word in force. -/
def State.feWord (s : State) (k : Nat) : Nat :=
  (tget 0x0000039C#32 s.front.cfg k).toNat

/-- The gain an autoranging channel starts at, and a fixed one runs at (R59, R60). -/
def State.startGain (s : State) (c : Nat) : Nat :=
  let w := s.feWord (secOf c)
  if bitN w 2 then fld w 7 2 else fld w 3 2

/-- The written front-end, trim, emission and point words come into force (R77, R118, R170), K is fixed (R123), every channel
starts at its start gain (R60), and the skew states start anew (R116, R211, R517). AMB stays as the last decision instant latched it
(R66); DESIGN CHOICE (log entry 123): so the first column takes it for `amb` of R63, which names no value where no column precedes. -/
def State.takeConfig (s : State) : State :=
  let s1 := { s with
    front.cfg := s.front.cfgSet, front.trim := s.front.trimSet, front.point := s.front.pointSet
    front.k := rangeK s.front.pointSet.toNat, front.cal := s.front.calSet, front.skew := [], front.chk0 := []
    emit.word := s.emit.wordSet, emit.strWord := s.emit.strSet }
  (List.range 1024).foldl (fun t c => t.modChan c (fun x =>
    { x with gain := t.startGain c, gainNext := t.startGain c, settling := false })) s1.pruneTherm

/-! ### Acceptance -/

/-- The pattern indices that a mode's block names for a string (R238). -/
def patsOf (b : ModeBlock) (i : Nat) : List Nat :=
  ((b.plan.flatMap (fun c => c.slots.filterMap (fun k => if bitN k.fire.toNat i then some (tget 0 k.pat i) else none)))
    ++ (b.proofs.filter (fun p => p.str = i)).map (fun p => p.pat)).eraseDups

/-- PATTERN, RETIRE and SUSPEND are owed to every present head, each with the READ that verifies it: the pattern indices that any mode of the
loaded set names for it (R170). RETIRE is read first where the head's declaration is not known (R152). -/
def State.oweWarmUp (s : State) : State :=
  (List.range 64).foldl (fun t i =>
    if t.present i then
      let pats := (t.sched.modes.flatMap (fun b => patsOf b.2 i)).eraseDups.map (fun p => BitVec.ofNat 8 (0x40 + p % 64))
      (pats ++ [5, 6]).foldl (fun u r => ((if r = 5 then u.oweRetire i else u.owe i r true)).owe i r false) t
    else t) s

/-- MODE.START is accepted (R50, R359): RUN, and warm-up begins. Heads drained by a stop are released where charging is
permitted (R157). -/
def State.acceptStart (s : State) (m t : Nat) : State :=
  let warm := s.toWarm m
  let s1 := s.takeConfig
  let s2 := { s1 with
    mode.mode := m, mode.cur := none, mode.prev := none, mode.stop := none, mode.measured := false, mode.count := 0
    mode.cutFrame := none, mode.lastB := 0, mode.lastD := 0
    mode.change := some { isStart := true, mode := m, t := t, accepted := s.now
                          powering := BitVec.ofNat 8 (maskOf warm), warm := false, b := 0, d := 0 } }
  let s3 := (s2.warmSectors warm).oweWarmUp
  s3.chargeAll.toState .run

/-- MODE.SET is accepted (R46): warm-up begins while the old mode runs. -/
def State.acceptSet (s : State) (m t : Nat) : State :=
  let warm := s.toWarm m
  ({ s with mode.change := some { isStart := false, mode := m, t := t, accepted := s.now
                                  powering := BitVec.ofNat 8 (maskOf warm), warm := false, b := 0, d := 0 } }).warmSectors warm

/-- The last column of a stop has ended: every CHG is held low; without an end header to wait for, the heads are told to
drain (R362, R51). DESIGN CHOICE (log entry 154): domains that a warm-up has switched on or queued go on to be powered. -/
def State.stopEnded (s : State) : State :=
  match s.mode.stop with
  | some st =>
    let s1 := s.chargeOff
    let s2 := if st.noColumn then s1 else s1.endHeader 0
    let none_ := st.noColumn || !s.mode.measured
    let s3 := { s2 with mode.cur := none, mode.change := none, mode.idleAt := s2.now
                        mode.stop := some { st with ended := true, header := none_ } }
    if none_ then s3.drainAll else s3
  | none => s

/-- An orderly stop is accepted or started (R49, R51, R362, R424). A stop before B abandons the change, and no frame is cut short
(R47, R49). -/
def State.acceptStop (s : State) (cause : Nat) (toHold : Bool) : State :=
  let st := fun (noCol : Bool) => ({ cause := cause, since := s.clk, noColumn := noCol, ended := false, header := false
                                     drained := 0, toHold := toHold } : Stop)
  match s.mode.change with
  | some c =>
    if c.isStart then
      let s1 := { s with mode.stop := some (st true) }
      if !c.warm || s.now < c.b || s.mode.cur.isNone then s1.stopEnded else { s1 with mode.change := none }
    else { s with mode.stop := some (st false), mode.change := none
                  mode.cutFrame := if c.warm && c.b ≤ s.now then s.mode.cutFrame else none }
  | none =>
    let s1 := { s with mode.stop := some (st false) }
    if s.mode.cur.isNone then s1.stopEnded else s1

/-- An orderly stop completes: present heads not drained by the time limit are charged 0x400A, EV_STOPPED is raised, and the device
enters STANDBY with every safe output OFF (R25), or SAFE HOLD for a stop of DEGRADED RUN or of the thermal manager (R29, R362, R373,
R424). -/
def State.completeStop (s : State) (timeout : Bool) : State :=
  match s.mode.stop with
  | some st =>
    let s1 := if timeout then (List.range 64).foldl (fun u i =>
        if u.present i && !(u.str i).drained then u.fault 0x400A 6 i else u) s else s
    if s1.mode.stop.isNone then s1
    else
      let s2 := { s1.endColumns with mode.stop := none }
      let s3 := s2.raise 0x0202 (bytesOf 1 st.cause ++ bytesOf 1 s2.mode.mode)
      if st.toHold || s3.life.lcs = .degraded then s3.safeHold false
      else s3.outputsOff.toState .standby
  | none => s

/-- Every present head has reported DRAINED, that of a retired string too (R51, R170, R362). -/
def State.allDrained (s : State) : Bool :=
  (List.range 64).all (fun i => !s.present i || (s.str i).drained)

/-- Warm-up ends and fixes B and D, and with B the frame in progress there, which is cut short unless its last column ends at B (R45,
R46, R47, R50, R254). -/
def State.endWarmUp (s : State) : State :=
  match s.mode.change with
  | some c =>
    if c.warm || !s.power.ramping.isEmpty || !s.power.toPower.isEmpty then s
    else
      let b := gridAtOrAfter s.epoch (max s.now c.t)
      let old := parOf s.mode.mode
      let d := if c.isStart then b
        else colStart (parOf c.mode) s.epoch (colAtOrAfter (parOf c.mode) s.epoch (b + engCk * (old.lengths.headD 0)))
      let jb := colAtOrAfter old s.epoch b
      { s with
        mode.change := some { c with warm := true, b := b, d := d }
        mode.lastB := b, mode.lastD := d
        mode.cutFrame := if c.isStart || jb % old.columns = 0 then none
          else some (s.mode.frame + (jb / old.columns - (match s.mode.cur with
            | some x => x.index
            | none => jb) / old.columns)) }
  | none => s

end Sys2Proof.Machine
end

