-- ==== Sys2Proof/Machine/CmdSafe.lean ====
section
/-! DEFINITION. The commands of the classes SAFE and HK (R397 to R400, R406, R414 to R419, R427). -/

namespace Sys2Proof.Machine

open Sys2Proof

/-! ### SAFE -/

/-- The place of the first condition that holds in a list of conditions and places. -/
def firstOf (l : List (Bool × Nat)) : Option Nat :=
  (l.find? (fun x => x.1)).map Prod.snd

/-- A field of `n` bytes from `lo` that must be 0 is not (R8). -/
def notZero (l : List Byte) (lo n : Nat) : Option Nat :=
  if (List.range n).any (fun i => leAt l (lo + i) 1 != 0) then some lo else none

/-- The first byte of a zone's parameters that R397 or R398 refuses. -/
def zoneBad (l : List Byte) : Option Nat :=
  match firstOf [(!bitN (leAt l 0 1) 0 || fld (leAt l 0 1) 6 2 != 0, 0),
      (leAt l 1 1 = 0 || 16 < leAt l 1 1, 1), (leAt l 2 1 = 0, 2)] with
  | some i => some i
  | none => notZero l 3 13

/-- The first byte of a safety configuration that R397 refuses; the copies of loop fields keep the ranges of R199 and R200. -/
def safeBad (l : List Byte) : Option Nat :=
  let sets := leAt l 6 1
  let lo := sgn 16 (leAt l 18 2)
  let hi := sgn 16 (leAt l 20 2)
  let lim := fun (x : Int) => x < -20480 || 20480 < x
  let within := fun (a b x : Nat) => a ≤ x && x ≤ b
  match firstOf [
      (l.take 4 != [0x5A, 0x53, 0x41, 0x46], 0),
      (leAt l 4 2 != l.length || (within 1 8 sets && leAt l 4 2 != 64 + 1088 * sets + 4), 4),
      (!within 1 8 sets, 6), (15 < leAt l 7 1, 7), (!within 5 100 (leAt l 8 2), 8), (!within 4 255 (leAt l 10 1), 10),
      (!within 10 150 (leAt l 11 1), 11), (!within 256 32768 (leAt l 12 2), 12),
      (fld (leAt l 14 1) 5 3 != 0 || !within 3 12 (fld (leAt l 14 1) 0 4), 14), (!within 12 24 (leAt l 15 1), 15),
      (fld (leAt l 16 1) 5 3 != 0 || 4 < fld (leAt l 16 1) 0 3, 16),
      (1 < leAt l 17 1 || 4 * leAt l 12 2 ≤ leAt l 22 2 + 2 ^ 16 * leAt l 17 1, 17), (lim lo || hi ≤ lo, 18), (lim hi, 20), (leAt l 27 1 != 0, 27), (leAt l 31 1 != 0, 31)] with
  | some i => some i
  | none => match notZero l 32 32 with
    | some i => some i
    | none => match (List.range (4 * sets)).findSome? (fun z =>
        (zoneBad (l.drop (64 + 272 * z))).map (fun i => 64 + 272 * z + i)) with
      | some i => some i
      | none => if leAt l (l.length - 4) 4 != crc32 (l.take (l.length - 4)) then some (l.length - 4) else none

/-- SAFE.CONFIG (R394, R397, R426): acceptance ends 0x8011. -/
def cmdSafeConfig : CmdDef :=
  { op := 0x0B01
    critical := true
    sem := fun _ => 1
    states := fun s _ => s.life.lcs == .safeHold
    plen := 1
    mask := pMask 0 0
    data := .inp 16384
    args := fun _ c => if c.p 0 1 = 0 || 60 < c.p 0 1 then some (stBadArg, 40) else none
    act := fun s c =>
      if c.din.length < 68 then s.fail stBadArg 20
      else match safeBad c.din with
        | some i => s.badD i
        | none =>
          if !s.flashAllowed then s.fail stTemp
          else
            let s1 := { s with safe.cfgNext := some (c.din, c.p 0 1) }
            ((s1.startJob c (.safe c.din (c.p 0 1))).endFault 0x8011).ok }

/-- SAFE_CONFIG (R397). -/
def execSafeConfig (dt : Nat) (r : Req) (s : State) : Res :=
  run dt s (State.command cmdSafeConfig r)

/-- The lockstep mismatches of the last 10 s (R395, R400). -/
def State.mismatches (s : State) : Nat :=
  (s.safe.mismatch.filter (fun t => s.clk ≤ t + sec 10)).length

/-- A number made of one bit for each of the four safe outputs. -/
def State.outBits (s : State) (f : SafeOut → Bool) : Nat :=
  maskOf ((List.range 4).filter (fun k => f (s.outp k)))

/-- The 64 bytes of SAFE.STATUS (R400). -/
def State.safeStatus (s : State) : List Byte :=
  let x := s.safe
  let gates := fun (f : Gate → Bool) => b2n (f x.sls) + 2 * b2n (f x.sdi) + 4 * b2n (f x.slp)
  bytesOf 1 (lcsCode s.life.lcs) ++ bytesOf 1 (x.zone.getD 0xFF)
    ++ bytesOf 1 (s.outBits SafeOut.on + 16 * s.outBits SafeOut.fb)
    ++ bytesOf 1 (s.outBits SafeOut.occupied + 16 * s.outBits (fun o => o.held || x.cmpHeld))
    ++ bytesOf 1 (gates Gate.opened + 8 * gates Gate.armed)
    ++ bytesOf 1 (b2n x.estop + 2 * b2n x.button + 4 * b2n x.stuck + 16 * x.zoneRaw.toNat)
    ++ bytesOf 2 s.degradedLeft ++ bytesOf 2 x.lastFault.toNat ++ bytesOf 2 x.presses
    ++ bytesOf 4 (leAt x.cfg (x.cfg.length - 4) 4) ++ bytesOf 4 x.speed
    ++ bytesOf 2 (uns 16 (rhe ((x.angle : Rat) / 16))) ++ bytesOf 2 s.mismatches
    ++ (List.range 4).flatMap (fun k => bytesOf 4 (s.outp k).tests)
    ++ (List.range 4).flatMap (fun k => bytesOf 4 (s.outp k).demands)
    ++ (List.range 4).flatMap (fun k => bytesOf 2 (s.outp k).discarded)

/-- SAFE.STATUS (R400). -/
def cmdSafeStatus : CmdDef :=
  { op := 0x0B02
    states := fun s _ => inAll s
    data := .out
    act := fun s _ => s.okData s.safeStatus }

/-- SAFE_STATUS (R400). -/
def execSafeStatus (dt : Nat) (r : Req) (s : State) : Res :=
  run dt s (State.command cmdSafeStatus r)

/-! ### HK -/

/-- KIND of a channel record (R416): 0 off, 1 voltage, 2 and 3 RTD. -/
def hkKind (cfg : BitVec 128) : Nat :=
  fld cfg.toNat 6 2

/-- The record of a channel that its next position runs (R417). -/
def HkChan.upcoming (h : HkChan) : BitVec 128 :=
  h.next.getD h.cfg

/-- The first byte of the global word that R415 refuses. -/
def globalBad (l : List Byte) : Option Nat :=
  let out := fun x => x < 200 || 10000 < x
  match firstOf [(out (leAt l 0 2), 0), (1 < leAt l 2 2, 2), (out (leAt l 4 2), 4)] with
  | some i => some i
  | none => notZero l 6 10

/-- A channel is bound as a head RTD, in force or as written for the next MODE.START (R417). -/
def State.boundHead (s : State) (ch : Nat) : Bool :=
  let bound := fun (t : Tab Word) => (List.range 64).any (fun i =>
    let w := (tget 0x00FC4000#32 t i).toNat
    bitN w 0 && fld w 18 6 = ch)
  bound s.emit.strWord || bound s.emit.strSet

/-- The first byte of a channel record that R416 or R417 refuses; `before`: the channels named before it. -/
def State.hkRecBad (s : State) (before : List Nat) (l : List Byte) : Option Nat :=
  let ch := fld (leAt l 0 1) 0 6
  let kind := fld (leAt l 0 1) 6 2
  firstOf [(47 < ch || before.contains ch || (s.boundHead ch && kind < 2), 0), (leAt l 2 2 != 0, 2),
    (leAt l 8 4 < 0x20000000 || 0x80000000 < leAt l 8 4, 8), (leAt l 12 4 != 0, 12)]

/-- The 16-byte records of a data buffer that follow its first 16 bytes. -/
def recordsOf (l : List Byte) : List (List Byte) :=
  (List.range (l.length / 16 - 1)).map (fun i => (l.drop (16 + 16 * i)).take 16)

/-- The first byte of the HK.CONFIG data that is refused. -/
def State.hkConfigBad (s : State) (l : List Byte) : Option Nat :=
  let rs := recordsOf l
  match globalBad l with
  | some i => some i
  | none => (List.range rs.length).findSome? (fun i =>
      (s.hkRecBad ((rs.take i).map (fun x => fld (leAt x 0 1) 0 6)) (rs.getD i [])).map (fun j => 16 + 16 * i + j))

/-- HK.CONFIG (R415 to R417): a record waits for its channel's next position, a changed global word for the next round. -/
def cmdHkConfig : CmdDef :=
  { op := 0x0C01
    critical := true
    sem := fun _ => 7
    states := fun s _ => inIdle s
    data := .inp 784
    act := fun s c =>
      if c.din.length < 16 || c.din.length % 16 != 0 then s.fail stBadArg 20
      else match s.hkConfigBad c.din with
        | some i => s.badD i
        | none =>
          let w := BitVec.ofNat 128 (leAt c.din 0 16)
          let s1 := { s with hk.wordNext := if w = s.hk.word then none else some w }
          ((recordsOf c.din).foldl (fun t x => t.modHkc (fld (leAt x 0 1) 0 6) (fun h =>
            { h with next := some (BitVec.ofNat 128 (leAt x 0 16)) })) s1).ok }

/-- HK_CONFIG (R417). -/
def execHkConfig (dt : Nat) (r : Req) (s : State) : Res :=
  run dt s (State.command cmdHkConfig r)

/-- The first byte of a switch record that R419 refuses. -/
def switchBad (l : List Byte) : Option Nat :=
  let x := leAt l 0 16
  let set := sfld x 32 32
  let clr := sfld x 64 32
  match firstOf [(47 < fld x 0 6, 0), (fld x 12 20 != 0, 1),
      (bitN x 6 && (if bitN x 7 then clr ≤ set else set ≤ clr), 8)] with
  | some i => some i
  | none => notZero l 12 4

/-- A switch record. -/
def State.swRec (s : State) (i : Nat) : Nat :=
  (tget 0#128 s.hk.swCfg i).toNat

/-- The level of HK_SW[i] (R418): high while its switch, enabled and with BALL, is on, or low then with ACT_LOW; otherwise low. -/
def State.hkSw (s : State) (i : Nat) : Bool :=
  let r := s.swRec i
  bitN r 6 && bitN r 8 && (bitN s.hk.swOn.toNat i != bitN r 10)

/-- A switch takes a state; with EVT a change raises EV_HK_SWITCH (R418). -/
def State.switchTo (s : State) (i : Nat) (on : Bool) : State :=
  if on = bitN s.hk.swOn.toNat i then s
  else
    let s1 := { s with hk.swOn := BitVec.ofNat 16 (setFld s.hk.swOn.toNat i 1 (b2n on)) }
    if bitN (s.swRec i) 9 then s1.raise 0x0C02 [BitVec.ofNat 8 i, BitVec.ofNat 8 (b2n on)] else s1

/-- The channel that a switch follows is OPEN (R413, R418). -/
def State.swOpen (s : State) (i : Nat) : Bool :=
  let h := s.hkc (fld (s.swRec i) 0 6)
  h.isOpen || h.openNow

/-- HK.SWITCH (R418, R419): a switch that is enabled, or that follows another channel than before, starts off; one whose channel is OPEN
takes FAIL_ON, and a disabled one is off. -/
def cmdHkSwitch : CmdDef :=
  { op := 0x0C02
    critical := true
    sem := fun _ => 7
    states := fun s _ => inIdle s
    data := .inp 256
    act := fun s c =>
      if c.din.length != 256 then s.fail stBadArg 20
      else match (List.range 16).findSome? (fun i => (switchBad ((c.din.drop (16 * i)).take 16)).map (16 * i + ·)) with
        | some i => s.badD i
        | none =>
          let rec_ := fun i => leAt c.din (16 * i) 16
          let keep := (List.range 16).filter (fun i => bitN s.hk.swOn.toNat i && bitN (rec_ i) 6 && bitN (s.swRec i) 6
            && fld (rec_ i) 0 6 = fld (s.swRec i) 0 6)
          let s1 := { s with hk.swCfg := (List.range 16).foldl (fun t i => tput 0#128 t i (BitVec.ofNat 128 (rec_ i))) [] }
          State.ok ((List.range 16).foldl (fun t i =>
            t.switchTo i (if bitN (rec_ i) 6 && t.swOpen i then bitN (rec_ i) 11 else keep.contains i)) s1) }

/-- HK_SWITCH (R419). -/
def execHkSwitch (dt : Nat) (r : Req) (s : State) : Res :=
  run dt s (State.command cmdHkSwitch r)

/-- The first byte of the limit block that R427 refuses. -/
def limitsBad (l : List Byte) : Option Nat :=
  let v := fun o => sgn 16 (leAt l o 2)
  match firstOf [(v 2 ≤ v 0, 0), (2080 < v 2, 2), (v 4 < 640 || v 6 < v 4, 4), (v 6 < 1536 || 2000 < v 6, 6)] with
  | some i => some i
  | none => notZero l 8 8

/-- The first byte of an extra-channel record that R427 refuses. -/
def State.extraBad (s : State) (before : List Nat) (l : List Byte) : Option Nat :=
  let ch := leAt l 0 1
  let rw := leAt l 6 2
  let rs := leAt l 8 2
  match firstOf [(47 < ch || before.contains ch || hkKind (s.hkc ch).upcoming < 2 || s.headChans.contains ch, 0),
      (3 < leAt l 1 1, 1), (sgn 16 (leAt l 4 2) ≤ sgn 16 (leAt l 2 2), 2), (rw != 0 && rs != 0 && rs ≤ rw, 6)] with
  | some i => some i
  | none => notZero l 10 6

/-- HK.THERM (R427). -/
def cmdHkTherm : CmdDef :=
  { op := 0x0C03
    critical := true
    sem := fun _ => 7
    states := fun s _ => s.life.lcs == .safeHold
    data := .inp 272
    act := fun s c =>
      let rs := recordsOf c.din
      if c.din.length < 16 || c.din.length % 16 != 0 then s.fail stBadArg 20
      else match limitsBad c.din with
        | some i => s.badD i
        | none => match (List.range rs.length).findSome? (fun i =>
            (s.extraBad ((rs.take i).map (fun x => leAt x 0 1)) (rs.getD i [])).map (fun j => 16 + 16 * i + j)) with
          | some i => s.badD i
          | none =>
            let v := fun o => sgn 16 (leAt c.din o 2)
            let s1 := { s with
              hk.tjWarn := v 0, hk.tjStop := v 2, hk.headWarn := v 4, hk.headStop := v 6
              hk.extra := rs.map (fun x => BitVec.ofNat 128 (leAt x 0 16)) }
            s1.pruneTherm.ok }

/-- HK_THERM (R427). -/
def execHkTherm (dt : Nat) (r : Req) (s : State) : Res :=
  run dt s (State.command cmdHkTherm r)

/-- HK.URGENT (R406, R430). -/
def cmdHkUrgent : CmdDef :=
  { op := 0x0C04
    states := fun s _ => inAll s
    plen := 1
    mask := pMask 0 0
    act := fun s c =>
      let ch := c.p 0 1
      if 47 < ch || hkKind (s.hkc ch).cfg = 0 then s.badP 0
      else if s.hk.urgent.isSome || s.hk.pos = 11 then
        { State.fail { s with hk.dropped := sat 32 (s.hk.dropped + 1) } stDropped with detail := 0 }
      else State.ok { s with hk.urgent := some ch } }

/-- HK_URGENT (R406). -/
def execHkUrgent (dt : Nat) (r : Req) (s : State) : Res :=
  run dt s (State.command cmdHkUrgent r)

/-- A result and its flag byte (R414). -/
def hkBytes (r : Option (Int × Nat × Bool × Bool)) : List Byte :=
  match r with
  | some (v, g, op, settling) => bytesOf 4 (uns 32 v) ++ bytesOf 1 (g % 4 + 4 * b2n op + 8 * b2n settling)
  | none => bytesOf 4 0x80000000 ++ bytesOf 1 8

/-- What HK.READ reports of a channel (R414). -/
def State.hkReport (s : State) (ch : Nat) : List Byte :=
  let h := s.hkc ch
  hkBytes (if hkKind h.cfg = 0 then none else h.res)

/-- HK.READ (R414). -/
def cmdHkRead : CmdDef :=
  { op := 0x0C05
    states := fun s _ => inAll s
    plen := 2
    mask := pMask 0 1
    data := .out
    act := fun s c =>
      let first := c.p 0 1
      let n := c.p 1 1
      if 47 < first then s.badP 0
      else if n = 0 || 48 < first + n then s.badP 1
      else s.okData ((List.range n).flatMap (fun i => s.hkReport (first + i) ++ zeros 3)) }

/-- HK_READ (R414). -/
def execHkRead (dt : Nat) (r : Req) (s : State) : Res :=
  run dt s (State.command cmdHkRead r)

end Sys2Proof.Machine
end

