-- ==== Sys2Proof/Machine/Loops.lean ====
section
/-! DEFINITION. Shared operations of the scanner drive (R173 to R201): units and targets, the bridge, opening, braking, locking,
the repetitive controller, the SSI frame. -/

namespace Sys2Proof.Machine

open Sys2Proof

/-! ### Places in the state -/

/-- Axis A changed. -/
def State.modA (s : State) (f : AxisA → AxisA) : State :=
  { s with scan.a := f s.scan.a }

/-- Axis B changed. -/
def State.modB (s : State) (f : AxisB → AxisB) : State :=
  { s with scan.b := f s.scan.b }

/-- A signed field of axis B's coefficient block. -/
def State.bSigned (s : State) (lo n : Nat) : Int :=
  sgn n (s.bCoef lo n)

/-- Counts per revolution: 4 × ENC_LINES (R177). -/
def State.revCounts (s : State) : Nat :=
  4 * s.aCoef 128 16

/-- A schedule set is loaded (R180); a load in progress has withdrawn it (R182, R241). -/
def State.setLoaded (s : State) : Bool :=
  s.sched.sweep != 0 && s.sched.load.isNone

/-- The speed target, rpm: that of the previous set until the result of a load (R180, R241). -/
def State.wTgt (s : State) : Rat :=
  if s.sched.sweep != 0 then (60 * sec 1 : Nat) / ((s.sched.sweep : Rat) * s.coefFacets) else (s.scan.a.set : Rat) / 100

/-- The functions that serve an axis: LE5 serves both (R173). -/
def axisFns : Axis → List Nat
  | .A => [0, 1, 2, 5]
  | .B => [3, 4, 5]

/-- An axis as its number (R478). -/
def axisIdx : Axis → Nat
  | .A => 0
  | .B => 1

/-- The loop is closed in the sense of R178 to R192: CLOSING or CLOSED. -/
def live (l : LoopState) : Bool :=
  l == .closing || l == .closed

/-- An event of a loop: 0x0901 closed, 0x0902 opened, 0x0903 stopped, 0x0904 locked, 0x0905 unlocked (R373). -/
def State.sayLoop (s : State) (k : Nat) (ax : Axis) (e1 : Nat := 0) : State :=
  s.raise (0x0900 + k) [BitVec.ofNat 8 (axisIdx ax), BitVec.ofNat 8 e1]

/-- i_x, mA, of an ISNS input, µV (R176). -/
def State.phaseCurrent (s : State) (uV : Rat) : Rat :=
  (uV - 900000) * s.aCoef 225 16 / 1000000

/-- The input of a 12-bit sample, µV, over the range of 0 to 1.8 V. DEDUCED (log entry 135): the converter is linear over the range. -/
def isnsOf (code : BitVec 12) : Rat :=
  (code.toNat : Rat) * 1800000 / 4096

/-! ### The bridge (R176, R178, R197) -/

/-- The output that waited for its dead time has gone high. -/
def Phase.settle (p : Phase) (clk : Nat) : Phase :=
  match p.next with
  | some (h, t) => if t ≤ clk then { p with hi := h, lo := !h, next := none } else p
  | none => p

/-- A phase switches: one output goes low now, the other high after DEADTIME; a phase already switched or switching that way goes
on as it is (R176). -/
def Phase.switch (p : Phase) (high : Bool) (clk dead : Nat) : Phase :=
  let q := p.settle clk
  if (high && q.hi) || (!high && q.lo) || q.next.any (fun x => x.1 = high) then q
  else { q with hi := false, lo := false, next := some (high, clk + dead), swAt := some clk }

/-- DEADTIME, ticks (R199: units of 2.5 ns). -/
def State.deadTicks (s : State) : Nat :=
  160 * s.aCoef 116 8

/-- MIN_DWELL, ticks. -/
def State.dwellTicks (s : State) : Nat :=
  160 * s.aCoef 108 8

/-- Every phase low side on: the phase short of R197. -/
def State.shortPhases (s : State) : State :=
  s.modA (fun a => { a with ph := (List.range 3).foldl (fun t k => tmod {} t k (fun p => p.switch false s.clk s.deadTicks)) a.ph })

/-- Every PH output low: coast (R197), and what PD_LOOP off leaves (R175). -/
def State.coastPhases (s : State) : State :=
  s.modA (fun a => { a with ph := (List.range 3).foldl (fun t k => tmod {} t k (fun p =>
    { p with hi := false, lo := false, next := none })) a.ph })

/-! ### Opening (R195, R197, R198) -/

/-- The outputs of a brake of axis A as it begins. -/
def State.startBrake (s : State) (b : BrakeA) : State :=
  let s1 := s.modA (fun a => { a with brake := some b, brakeAt := s.clk, slowAt := none, st := .braking })
  match b with
  | .regen => s1
  | .short | .shortTmax => s1.shortPhases
  | .coast => s1.coastPhases

/-- The axis A loop opens (R182, R195, R197): integrator, saturation and conditional integration are cleared; LOCKED ends. -/
def State.openA (s : State) (fault : Bool) (b : BrakeA) : State :=
  if live s.scan.a.st then
    let s1 := s.modA (fun a => { a with
      xi := 0, sat := false, err := 0, istar := 0, locked := false, inTol := 0, outTol := 0, lostAt := none, closeAt := none
      watch := none, alignEnd := none, rep := { a.rep with learnt := false, u := 0 } })
    (s1.startBrake b).sayLoop 2 .A (b2n fault)
  else s

/-- Axis B stands open (R194, R197). -/
def State.stopB (s : State) : State :=
  (s.modB (fun b => { b with st := .open_, parking := false, icmd := 0 })).sayLoop 3 .B

/-- The axis B loop opens: it parks, or icmd goes to 0 at once (R195, R197). -/
def State.openB (s : State) (fault atOnce : Bool) : State :=
  if live s.scan.b.st then
    let s1 := s.modB (fun b => { b with
      xb := 0, sat := false, err := 0, errs := [], overAt := none, st := .braking, parking := !atOnce
      icmd := if atOnce then 0 else b.icmd, rep := { b.rep with learnt := false, u := 0 } })
    let s2 := s1.sayLoop 2 .B (b2n fault)
    if atOnce then s2.stopB else s2
  else s

/-- A feedback fault of axis A makes commutation invalid (R179), and the count no longer one since an index (R177, log entry 161). -/
def State.loseComm (s : State) : State :=
  s.modA (fun a => { a with commOk := false, fbBad := true, stale := true })

/-- The brake that R197 gives a fault of axis A; the encoder is valid while no feedback fault stands against it. -/
def State.brakeOf (s : State) (code : Nat) : BrakeA :=
  if 0x5001 ≤ code && code ≤ 0x5005 then .shortTmax
  else if code = 0x5008 then .coast
  else if code = 0x5009 then (if s.scan.a.fbBad then .shortTmax else .short)
  else .regen

/-- A fault of axis A: it is reported, and its loop opens and brakes (R184, R197, R198). While the axis is OPEN or BRAKING only
0x5003, 0x5008, and 0x5009 in regenerative braking are raised. -/
def State.faultA (s : State) (code : Nat) : State :=
  let st := s.scan.a.st
  let b := s.brakeOf code
  let feedback := 0x5001 ≤ code && code ≤ 0x5005
  if live st then
    let s1 := s.fault code 10 0 (respond := false)
    let s2 := (if feedback then s1.loseComm else s1).openA true b
    if s2.running then s2.safeHold false else s2
  else if code = 0x5003 || code = 0x5008 then
    let s1 := s.fault code 10 0 (respond := false)
    let s2 := if feedback then s1.loseComm else s1
    match s2.scan.a.brake with
    | some .shortTmax | some .coast => s2
    | _ => s2.startBrake b
  else if code = 0x5009 && s.scan.a.brake = some .regen then (s.fault code 10 0 (respond := false)).startBrake b
  else s

/-- A fault of axis B (R185, R188, R189, R197). -/
def State.faultB (s : State) (code : Nat) : State :=
  if live s.scan.b.st then
    let s1 := (s.fault code 10 1 (respond := false)).openB true (code = 0x5006 || code = 0x5007)
    if s1.running then s1.safeHold false else s1
  else s

/-- Both loops open by fault (R424). -/
def State.openBoth (s : State) : State :=
  (s.openA true .regen).openB true false

/-- A lost PD_LOOP leaves both loops open without drive (R175). -/
def State.loopsDead (s : State) : State :=
  let s1 := (s.modA (fun a => { a with
    st := .open_, brake := none, xi := 0, sat := false, err := 0, istar := 0, locked := false, lostAt := none, closeAt := none
    watch := none, alignEnd := none, commOk := false, fbBad := false, indexed := false, stale := false, inTol := 0, outTol := 0
    rep := { a.rep with learnt := false, u := 0 } })).coastPhases
  s1.modB (fun b => { b with st := .open_, parking := false, icmd := 0, xb := 0, sat := false, err := 0, errs := []
                             overAt := none, rep := { b.rep with learnt := false, u := 0 } })

/-! ### Lock (R182, R194) -/

/-- The speed lies within a fraction of the target. -/
def nearSpeed (w tgt : Rat) (num den : Nat) : Bool :=
  absQ (w - tgt) * den ≤ tgt * num

/-- Lock and the end of CLOSING are judged (R182, R184, R194). A loss by speed alone leaves the crossings in tolerance counted. -/
def State.lockCheck (s : State) : State :=
  let a := s.scan.a
  if !live a.st || a.alignEnd.isSome then s
  else if s.setLoaded then
    let near := nearSpeed a.w s.wTgt 1 1000
    if !a.locked && a.commOk && near && 16 ≤ a.inTol then
      let s1 := (s.modA (fun x => { x with locked := true, lostAt := none, closeAt := none, outTol := 0, st := .closed })).sayLoop 4 .A
      if a.st == .closing then s1.sayLoop 1 .A else s1
    else if a.locked && (2 ≤ a.outTol || !nearSpeed a.w s.wTgt 1 100) then
      (s.modA (fun x => { x with locked := false, lostAt := some s.clk })).sayLoop 5 .A
    else s
  else if a.st == .closing && nearSpeed a.w s.wTgt 1 1000 then
    (s.modA (fun x => { x with st := .closed, closeAt := none })).sayLoop 1 .A
  else s

/-- LOCKED ends because SCHED.LOAD withdrew the set: no event, and no 1 s limit starts; one that runs goes on (R182). -/
def State.unlockQuiet (s : State) : State :=
  s.modA (fun a => { a with locked := false, inTol := 0, outTol := 0 })

/-! ### Angles (R177, R186) -/

/-- The interval of the last two edges, ticks. -/
def AxisA.interval (a : AxisA) : Nat :=
  match a.edges with
  | x :: y :: _ => x - y
  | _ => 0

/-- A position in counts since the index, in 2^20 parts of a revolution (R177). -/
def State.angleAt (s : State) (pos : Rat) : Nat :=
  (flr (pos * 2 ^ 20 / s.revCounts) % 2 ^ 20).toNat

/-- ANGLE_A as it is known at this instant: the count since the index, carried on by the last edge interval. DESIGN CHOICE (log entry
133): R177 interpolates between the surrounding edges, and the edge after this instant has not come. -/
def State.angleA (s : State) : Nat :=
  let a := s.scan.a
  let part : Rat := match a.edges with
    | t :: _ => if a.interval = 0 then 0 else clampQ 0 1 (((s.clk - t : Nat) : Rat) / a.interval)
    | [] => 0
  s.angleAt (a.count + (if a.up then part else -part))

/-- The edge after a reference instant has come, in the direction `pos`: ANGLE_A of the column is the position between the edges that
surround the instant (R134, R177). -/
def State.settleAngle (s : State) (pos : Bool) : State :=
  match s.mode.cur with
  | some c =>
    match c.refAt, s.scan.a.edges with
    | some r, e :: _ =>
      let part : Rat := if s.clk = e then 0 else ((r - e : Nat) : Rat) / ((s.clk - e : Nat) : Rat)
      { s with mode.cur := some { c with refAt := none, angleA := s.angleAt (s.scan.a.count + (if pos then part else -part)) } }
    | _, _ => { s with mode.cur := some { c with refAt := none } }
  | none => s

/-- The lag of this instant behind the nearest sweep boundary, µs, positive when late (R33, R181). -/
def State.sweepLag (s : State) : Rat :=
  if s.setLoaded then
    let r := ((s.now : Int) - s.epoch) % s.sched.sweep
    let d := if 2 * r < s.sched.sweep then r else r - s.sched.sweep
    (d : Rat) / 64000
  else 0

/-- The ticks of a frame of the mode in force (R34). DESIGN CHOICE (log entry 134): where no mode has run since boot, those of a frame
of PLATEAU. -/
def State.frameTicks (s : State) : Nat :=
  let p := parOf s.mode.mode
  p.columns / p.lengths.length * tripTicks p

/-- The time since the frame began (R34). -/
def State.framePhase (s : State) : Nat :=
  (((s.now : Int) - s.epoch) % s.frameTicks).toNat

/-- The axis B target before its clamp (R188): the schedule's for the sweep in progress in RUN and DEGRADED RUN, else B_HOLD. -/
def State.bTarget (s : State) : Int :=
  if s.running then
    match s.block s.mode.mode with
    | some b => b.targets.getD (s.framePhase * b.sweeps / s.frameTicks) s.scan.b.hold
    | none => s.scan.b.hold
  else s.scan.b.hold

/-! ### The repetitive controller (R190 to R193, R201) -/

/-- A field of a repetitive block. -/
def repFld (cfg : BitVec 64) (lo n : Nat) : Nat :=
  fld cfg.toNat lo n

/-- Cells of a repetitive memory (R201). -/
def repCells (cfg : BitVec 64) : Nat :=
  512 * 2 ^ repFld cfg 3 2

/-- The index source is valid (R192). -/
def State.repValid (s : State) (cfg : BitVec 64) : Bool :=
  match repFld cfg 1 2 with
  | 0 => s.scan.a.indexed
  | 1 => s.setLoaded
  | 2 => match s.hk.pin, s.hk.pinAt with
    | some p, some t => ms 2 ≤ p && p ≤ sec 2 && s.clk ≤ t + 2 * p
    | _, _ => false
  | _ => false

/-- The cell index (R190). -/
def State.repIndex (s : State) (cfg : BitVec 64) : Nat :=
  let n := repCells cfg
  match repFld cfg 1 2 with
  | 0 => s.angleA * n / 2 ^ 20
  | 1 => s.framePhase * n / s.frameTicks % n
  | _ => match s.hk.pin, s.hk.pinAt with
    | some p, some t => (s.clk - t) * n / p % n
    | _, _ => 0

/-- The cells passed from the one after `i0` to `i`, modulo `n`. -/
def cellsPassed (n i0 i : Nat) : List Nat :=
  (List.range ((i + n - i0 - 1) % n + 1)).map (fun k => (i0 + 1 + k) % n)

/-- One period of a repetitive controller (R191): `d` is the learning step when it learns. A cell is 16 bits, so REP_MAX above 32,767
limits no further (R190). -/
def Rep.step (r : Rep) (cfg : BitVec 64) (i : Nat) (valid : Bool) (d : Option Int) : Rep :=
  let n := repCells cfg
  let u := if bitN cfg.toNat 0 && valid then tget 0 r.m ((i + repFld cfg 14 6) % n) else 0
  match d with
  | some d =>
    let lim : Int := min 32767 (repFld cfg 32 16)
    let cells := if !r.learnt || i = r.iPrev then [i] else cellsPassed n r.iPrev i
    let m := cells.foldl (fun t j =>
      let x : Int := tget 0 t j
      let leak : Int := if repFld cfg 9 5 = 0 then 0 else x / (2 ^ repFld cfg 9 5 : Nat)
      tput (0 : Int) t j (clampI (-lim) lim (x - leak + d))) r.m
    { r with u := u, m := m, iPrev := i, learnt := true }
  | none => { r with u := u, iPrev := i, learnt := false }

/-- An uncorrectable error in a word of the repetitive memory sets its cell to zero and is counted (R193). -/
def Rep.spoil (r : Rep) (cfg : BitVec 64) (i : Nat) : Rep :=
  if i < repCells cfg then { r with m := tput 0 r.m i 0, errors := sat 16 (r.errors + 1) } else r

/-! ### SSI (R185, R186) -/

/-- A frame is invalid under a format: position bits, status bits, parity (R185). -/
def ssiBad (nPos nStat : Nat) (par : Bool) (f : SsiFrame) : Bool :=
  let x := f.bits.toNat
  let np := b2n par
  let total := nPos + nStat + np
  !f.highBefore || !f.lowAfter || (1 ≤ nStat && bitN x (np + nStat - 1)) || (par && popN total x % 2 = 1)

/-- The decoded position of a frame (R186). -/
def ssiPos (nPos nStat : Nat) (par gray : Bool) (f : SsiFrame) : Nat :=
  let raw := fld f.bits.toNat (nStat + b2n par) nPos
  if gray then (List.range nPos).foldl (fun acc k => acc ^^^ (raw / 2 ^ k)) 0 else raw

/-- The measured angle of a position, 1/32,768 ° (R186). -/
def State.angleOf (s : State) (pos : Nat) : Int :=
  rhe ((((pos : Int) - s.bCoef 96 24) * s.bSigned 136 24 : Int) / (2 ^ 16 : Rat))

/-! ### Periods (R173, R174) -/

/-- A braking axis without the function that runs its brake: axis A without LE0's or LE1's function has its phases shorted until
BRAKE_TMAX, axis B without LE3's has icmd = 0 at once. DESIGN CHOICE (log entry 132): R197 gives no brake for a lost function. -/
def State.brakeLost (s : State) : State :=
  let s1 := if s.scan.a.st = .braking && (s.fnLost 0 || s.fnLost 1) && (s.scan.a.brake = some .regen || s.scan.a.brake = some .short)
    then s.startBrake .shortTmax else s
  if s1.scan.b.parking && s1.fnLost 3 then s1.stopB else s1

/-- A function's period has come: PD_LOOP is powered, an engine runs it, and its last period lies a period back (R173). -/
def State.periodDue (s : State) (f ticks : Nat) : Bool :=
  let t := tget 0 s.scan.ran f
  s.domOn 31 && !s.fnLost f && (t = 0 || t - 1 + ticks ≤ s.clk)

/-- A function runs its period. -/
def State.ranNow (s : State) (f : Nat) : State :=
  { s with scan.ran := tput 0 s.scan.ran f (s.clk + 1) }

end Sys2Proof.Machine
end

