-- ==== Sys2Proof/Machine/Housekeep.lean ====
section
/-! DEFINITION. Housekeeping conversion and the thermal manager (R403 to R430): the rows of the slow round, the die monitor, the hard
trip, PMBus, flash writes and health windows. -/

namespace Sys2Proof.Machine

open Sys2Proof

/-! ### Channels -/

/-- HK_CK cycles in ticks: 25 MHz (R20). -/
def hkCk : Nat := 2560

/-- A channel is on. -/
def HkChan.on (h : HkChan) : Bool :=
  hkKind h.cfg != 0

/-- An RTD channel. -/
def HkChan.rtd (h : HkChan) : Bool :=
  2 ≤ hkKind h.cfg

/-- Filter order k (R408). -/
def HkChan.order (h : HkChan) : Nat :=
  fld h.cfg.toNat 8 2 + 1

/-- AUTORANGE (R410). -/
def HkChan.auto (h : HkChan) : Bool :=
  bitN h.cfg.toNat 12

/-- EXC_AUTO (R411). -/
def HkChan.excAuto (h : HkChan) : Bool :=
  bitN h.cfg.toNat 11

/-- Full scale of a gain tag, nanovolts (R410). -/
def fullScale (g : Nat) : Nat :=
  match g with
  | 0 => 2048000000
  | 1 => 512000000
  | 2 => 128000000
  | _ => 32000000

/-- Switches that follow a channel take a state (R418). -/
def State.setSwitches (s : State) (ch : Nat) (f : Nat → Bool → Bool) : State :=
  (List.range 16).foldl (fun t i =>
    let r := t.swRec i
    if bitN r 6 && fld r 0 6 = ch then t.switchTo i (f r (bitN t.hk.swOn.toNat i)) else t) s

/-- A regular result moves the switches of its channel (R418). -/
def State.judgeSwitches (s : State) (ch : Nat) (v : Int) : State :=
  s.setSwitches ch (fun r was =>
    let set := sfld r 32 32
    let clr := sfld r 64 32
    if bitN r 7 then (if v ≤ set then true else if clr ≤ v then false else was)
    else (if set ≤ v then true else if v ≤ clr then false else was))

/-! ### Thermal sources (R421 to R424) -/

/-- The stop of a thermal source has its effect on the state (R424). -/
def State.thermalStop (s : State) : State :=
  match s.life.lcs with
  | .run | .degraded =>
    (match s.mode.stop with
     | some st => { s with mode.stop := some { st with cause := 1, toHold := true } }
     | none => s.acceptStop 1 true)
  | .standby | .service => (s.safeHold false).openBoth
  | _ => s

/-- A warning arises: EV_THERMAL once (R423). `label` is what E1 reports. -/
def State.addWarn (s : State) (w : Therm) (label : Nat) (v : Int) : State :=
  if s.hk.warns.any (fun x => x.1 = w) then s else ({ s with hk.warns := (w, label) :: s.hk.warns }).sayTherm w.kind label v

/-- A stop arises: EV_THERMAL, kind 3 also of an OPEN, its fault, and the orderly stop or SAFE HOLD (R423, R424, R430). -/
def State.addStop (s : State) (w : Therm) (label : Nat) (v : Int) : State :=
  if s.hk.stops.contains w then s
  else
    let s1 := ({ s with hk.stops := w :: s.hk.stops }).sayTherm (if w.kind = 4 then 4 else 3) label v
    (s1.fault w.fault 0 0 (respond := false)).thermalStop

/-- The limits of a channel as a thermal source: level warning and stop, rate warning and stop, OPEN stops (R423, R427). -/
structure Limits where
  /-- Level warning, 1/16 °C. -/
  warn  : Int
  /-- Level stop, if the source has one. -/
  stop  : Option Int
  /-- Rate warning, 1/16 K/s; 0 for none. -/
  rwarn : Nat
  /-- Rate stop; 0 for none. -/
  rstop : Nat
  /-- OPEN stops. -/
  openStop : Bool

/-- The limits of a channel, if it is a source. -/
def State.limitsOf (s : State) (ch : Nat) : Option Limits :=
  if s.headChans.contains ch then some ⟨s.hk.headWarn, some s.hk.headStop, 32, 80, false⟩
  else match s.extraOf ch with
    | some r =>
      let en := bitN r 8
      some ⟨sfld r 16 16, if en then some (sfld r 32 16) else none, fld r 48 16, if en then fld r 64 16 else 0, bitN r 9⟩
    | none => none

/-- The level of a channel is judged (R423). A stop ends where its source no longer has that limit. -/
def State.judgeLevel (s : State) (ch : Nat) (l : Limits) (t : Int) : State :=
  let s1 := if l.warn ≤ t then s.addWarn ⟨ch, 1⟩ ch t else if t ≤ l.warn - 32 then s.clearWarn ⟨ch, 1⟩ else s
  match l.stop with
  | some x => if x ≤ t then s1.addStop ⟨ch, 3⟩ ch t else if t ≤ x - 80 then s1.clearStop ⟨ch, 3⟩ else s1
  | none => s1.clearStop ⟨ch, 3⟩

/-- The rate of rise over five regular results, 1/16 K/s (R422). -/
def HkChan.rate (h : HkChan) : Option Rat :=
  match h.rates with
  | [(t4, v4), _, _, _, (t0, v0)] => if t0 < t4 then some (((v4 - v0 : Int) : Rat) * (sec 1 : Nat) / (t4 - t0 : Nat)) else none
  | _ => none

/-- The rate of a channel is judged (R423). A warning or a stop ends where its source no longer has that limit. -/
def State.judgeRate (s : State) (ch : Nat) (l : Limits) (r : Rat) : State :=
  let v := rhe r
  let w : Rat := l.rwarn
  let st : Rat := l.rstop
  let s1 := if l.rwarn = 0 then s.clearWarn ⟨ch, 2⟩
    else if w ≤ r then s.addWarn ⟨ch, 2⟩ ch v else if 2 * r < w then s.clearWarn ⟨ch, 2⟩ else s
  if l.rstop = 0 then s1.clearStop ⟨ch, 4⟩
  else if st ≤ r then s1.addStop ⟨ch, 4⟩ ch v
  else if (if l.rwarn = 0 then decide (2 * r < st) else decide (r < w)) then s1.clearStop ⟨ch, 4⟩
  else s1

/-- A delivered result of an RTD source is judged; a settling one raises nothing (R421, R423). -/
def State.judgeTherm (s : State) (ch : Nat) (t : Int) (settling : Bool) : State :=
  match s.limitsOf ch with
  | some l =>
    if settling then s
    else
      let s1 := s.judgeLevel ch l t
      match (s1.hkc ch).rate with
      | some r => s1.judgeRate ch l r
      | none => s1
  | none => s

/-- The charge control of the strings bound to a channel (R157, R421). -/
def State.chargeBound (s : State) (ch : Nat) : State :=
  (List.range 64).foldl (fun t i => if t.present i && t.rtdOf i = ch then t.chargeCtl i else t) s

/-- OPEN of a source: its warning, and its stop with OPEN_STOP = 1 (R421, R423). -/
def State.openSource (s : State) (ch : Nat) (settling : Bool) : State :=
  match s.limitsOf ch with
  | some l =>
    if settling then s
    else
      let s1 := s.addWarn ⟨ch, 5⟩ ch 0
      if l.openStop then s1.addStop ⟨ch, 5⟩ ch 0 else s1
  | none => s

/-- OPEN is flagged on a channel: 0x9003 once per episode, charging, the switches, the thermal manager (R413, R418, R421, R430). -/
def State.flagOpen (s : State) (ch : Nat) : State :=
  let h := s.hkc ch
  if h.isOpen || h.openNow then s.modHkc ch (fun h => { h with openNow := true })
  else
    let s1 := (s.modHkc ch (fun h => { h with openNow := true })).fault 0x9003 13 ch
    ((s1.chargeBound ch).setSwitches ch (fun r _ => bitN r 11)).openSource ch (0 < h.settle)

/-- The OPEN condition of a channel ends: the filter restarts, its fault and its OPEN warning end (R409, R413, R421, R423). -/
def State.endOpen (s : State) (ch : Nat) : State :=
  let s1 := s.modHkc ch (fun h => { h with
    isOpen := false, openNow := false, settle := h.order, refill := true, settled := false, rates := [] })
  ((s1.endFaultAt 0x9003 13 ch).clearWarn ⟨ch, 5⟩).clearStop ⟨ch, 5⟩

/-! ### Configuration at a position (R409, R410, R417, R418, R421) -/

/-- A channel's new record takes effect. An OPEN condition goes on to the first conversion without OPEN (R413). -/
def State.reconfigure (s : State) (ch : Nat) (rec_ : BitVec 128) : State :=
  let op := (s.hkc ch).isOpen
  let s1 := s.modHkc ch (fun h =>
    let h1 : HkChan := { h with cfg := rec_, next := none }
    { h1 with
      gain := if h1.auto then 0 else fld rec_.toNat 13 2, exc := bitN rec_.toNat 10, settle := h1.order, refill := true
      res := none, good := none, mem := [], rates := [], settled := false })
  let s2 := (s1.setSwitches ch (fun r _ => op && bitN r 11)).chargeBound ch
  if (s2.extraOf ch).isSome && !(s2.hkc ch).on then s2.openSource ch false
  else if op then s2
  else (s2.clearWarn ⟨ch, 5⟩).clearStop ⟨ch, 5⟩

/-- The channel that converter j converts at a position: the claimed channel in the urgent slot of its converter (R405, R406). -/
def State.convOf (s : State) (j : Nat) : Nat :=
  match s.hk.urgent with
  | some u => if s.hk.pos = 11 && u / 12 = j then u else 12 * j + s.hk.pos
  | none => 12 * j + s.hk.pos

/-- A position begins: waiting records of its channels take effect (R405, R417). -/
def State.beginPos (s : State) (p : Nat) : State :=
  let s1 := { s with hk.pos := p, hk.posAt := s.clk, hk.swapped := false }
  (List.range 4).foldl (fun t j =>
    let ch := 12 * j + p
    match (t.hkc ch).next with
    | some r => if t.convOf j = ch then t.reconfigure ch r else t
    | none => t) s1

/-- T_INT of a round, HK_CK cycles, and whether PERIOD_IN is valid (R404). -/
def State.tIntNow (s : State) : Nat × Bool :=
  let w := s.hk.word.toNat
  let fix := 250 * fld w 0 16
  if !bitN w 16 then (fix, true)
  else match s.hk.pin, s.hk.pinAt with
    | some p, some t =>
      let c := p / hkCk
      if us 50 ≤ p && p ≤ ms 100 && s.clk ≤ t + 2 * p && 0 < c then ((250 * fld w 32 16 + (c - 1)) / c * c, true)
      else (fix, false)
    | _, _ => (fix, false)

/-- A new global word takes effect: a change for every channel that is on, whose filter starts anew (R409, R417, R421). -/
def State.newGlobal (s : State) : State :=
  match s.hk.wordNext with
  | some w =>
    (List.range 48).foldl (fun t ch => if (t.hkc ch).on then (t.modHkc ch (fun h => { h with
      settle := h.order, refill := true, settled := false, rates := [] })).chargeBound ch else t)
      { s with hk.word := w, hk.wordNext := none }
  | none => s

/-- ROUND_START (R404 to R406, R496). -/
def execRoundStart (dt : Nat) (s : State) : Res :=
  run dt s (fun s =>
    if s.hk.pos != 12 || s.life.lcs = .boot then s
    else
      let s1 := ({ s.sample 0x08 48 s.hk.dropped with hk.dropped := 0 }).newGlobal
      let (t, ok) := s1.tIntNow
      let s2 := { s1 with hk.tInt := t }
      let s3 := if ok then { s2 with hk.pinTold := false }
        else if s2.hk.pinTold then s2
        else ({ s2 with hk.pinTold := true }).fault 0x9006 0 0
      s3.beginPos 0)

/-- EXCITATION_SWAP: at T_INT ÷ 2 the 3-wire channels swap their sources (R405, R412). -/
def execExcitationSwap (dt : Nat) (s : State) : Res :=
  run dt s (fun s =>
    if s.hk.pos < 12 && !s.hk.swapped && s.hk.posAt + s.hk.tInt * hkCk / 2 ≤ s.clk then { s with hk.swapped := true } else s)

/-! ### A conversion (R407 to R414) -/

/-- Steps 1 to 3 of R407: nanovolts, or micro-ohms for an RTD channel. `raw` is the integral in 2^−23 of full scale. -/
def HkChan.corrected (h : HkChan) (raw : Int) : Int :=
  let nv : Rat := (raw : Rat) * fullScale h.gain / 8388608
  let v := if h.rtd then (if h.exc then nv else 4 * nv) else nv
  rhe ((v - sfld h.cfg.toNat 32 32) * fld h.cfg.toNat 64 32 / 1073741824)

/-- The filter of order k over the newest conversions (R408). -/
def filterOf (k : Nat) (l : List Int) : Int :=
  let x := fun i => l.getD i 0
  match k with
  | 1 => x 0
  | 2 => rhe (((x 0 + x 1 : Int) : Rat) / 2)
  | 3 => rhe (((x 0 + 2 * x 1 + x 2 : Int) : Rat) / 4)
  | _ => rhe (((x 0 + 3 * x 1 + 3 * x 2 + x 3 : Int) : Rat) / 8)

/-- The resistance of a platinum sensor over its R0 at a temperature in °C (IEC 60751, R407). -/
def platinum (t : Rat) : Rat :=
  let base := 1 + 39083 * t / 10000000 - 5775 * t * t / 10000000000
  if t < 0 then base - 4183 * (t - 100) * t * t * t / 1000000000000000 else base

/-- The largest of the values `n` below `lo + 2 ^ k` whose bound lies at or below a resistance ratio. -/
def rtdSearch : Nat → Int → Rat → Int
  | 0, lo, _ => lo
  | k + 1, lo, q =>
    let mid := lo + (2 ^ k : Nat)
    rtdSearch k (if platinum ((2 * mid - 1 : Int) / 32) ≤ q then mid else lo) q

/-- Step 5 of R407: micro-ohms to 1/16 °C, from −200 °C to +850 °C. -/
def rtdTemp (r0 : Nat) (uohm : Int) : Int :=
  clampI (-3200) 13600 (rtdSearch 15 (-3201) ((uohm : Rat) / (r0 * 1000000 : Nat)))

/-- R0 of a channel, ohms. -/
def HkChan.r0 (h : HkChan) : Nat :=
  if bitN h.cfg.toNat 15 then 1000 else 100

/-- A corrected, filtered value as a result (R407). -/
def HkChan.resultOf (h : HkChan) (x : Int) : Int :=
  if h.rtd then rtdTemp h.r0 x else clampI (-(fullScale h.gain : Int)) (fullScale h.gain) x

/-- The gain or the excitation of the next conversion (R410, R411, R430): a change restarts the settling count. -/
def HkChan.step (h : HkChan) (raw : Int) : HkChan :=
  let a := raw.natAbs
  let high := 9 * 8388608 ≤ 10 * a
  let low := 5 * a < 8388608
  if h.rtd && h.excAuto && h.gain = 0 && h.exc && high then { h with exc := false, settle := h.order }
  else if h.rtd && h.excAuto && h.gain = 3 && !h.exc && low then { h with exc := true, settle := h.order }
  else if h.auto && high && 0 < h.gain then { h with gain := h.gain - 1, settle := h.order }
  else if h.auto && low && h.gain < 3 then { h with gain := h.gain + 1, settle := h.order }
  else h

/-- The gain or the excitation of the first conversion after the end of an OPEN: with AUTORANGE it runs at G0 (R410); only a change of
gain restarts the settling count (R409). -/
def HkChan.afterOpen (h : HkChan) (raw : Int) : HkChan :=
  let n := h.step raw
  if !h.auto || (n.exc != h.exc && n.gain = 0) then n
  else { h with gain := 0, settle := if h.gain = 0 then h.settle else h.order }

/-- The conversion ends over range: OPEN on an RTD channel at G0 and its lowest excitation (R413). -/
def HkChan.overRange (h : HkChan) (raw : Int) : Bool :=
  h.rtd && h.gain = 0 && (!h.excAuto || !h.exc) && 8388608 ≤ raw.natAbs

/-- A regular conversion without OPEN ends (R407 to R411, R414, R422). -/
def State.convGood (s : State) (ch : Nat) (raw : Int) : State :=
  let ended := (s.hkc ch).isOpen
  let s1 := if ended then s.endOpen ch else s
  let h := s1.hkc ch
  let x := h.corrected raw
  let mem := if h.refill then List.replicate 4 x else pushMax 4 x h.mem
  let v := h.resultOf (filterOf h.order mem)
  let settling := 0 < h.settle
  let h1 : HkChan := { h with
    mem := mem, refill := false, settle := h.settle - 1, res := some (v, h.gain, false, settling), good := some v
    settled := h.settled || !settling, rates := if h.rtd then pushMax 5 (s.clk, v) h.rates else [] }
  let s2 := (s1.modHkc ch (fun _ => if ended then h1.afterOpen raw else h1.step raw)).sample 0x08 ch v
  let s3 := if settling then s2 else s2.judgeSwitches ch v
  if h.rtd then (s3.newTemp ch v).judgeTherm ch v settling else s3

/-- A conversion with OPEN ends: it carries the last result that was not OPEN (R413, R418); one that no longer settles warns (R421). -/
def State.convOpen (s : State) (ch : Nat) (raw : Int) : State :=
  let s1 := s.flagOpen ch
  let h := s1.hkc ch
  let v := h.good.getD (-0x80000000)
  let h1 : HkChan := { h with
    isOpen := true, openNow := false, res := some (v, h.gain, true, 0 < h.settle), settle := h.settle - 1, rates := [] }
  let s2 := (s1.modHkc ch (fun _ => h1.step raw)).sample 0x08 ch v
  (s2.setSwitches ch (fun r _ => bitN r 11)).openSource ch (0 < h.settle)

/-- EV_HK_URGENT (R406, R414). -/
def State.sayUrgent (s : State) (ch : Nat) (v : Int) (g : Nat) (op settling : Bool) : State :=
  s.raise 0x0C01 ([BitVec.ofNat 8 ch, BitVec.ofNat 8 (g + 4 * b2n op + 8 * b2n settling), 0, 0] ++ bytesOf 4 (uns 32 v))

/-- An urgent conversion without OPEN ends beside the regular ones: its result moves the switches, the target voltages and the level
limits, but neither the filter nor the rate of rise (R158, R406, R418, R422, R423). -/
def State.urgentGood (s : State) (ch : Nat) (raw : Int) : State :=
  let ended := (s.hkc ch).isOpen
  let s1 := if ended then s.endOpen ch else s
  let h := s1.hkc ch
  let v := h.resultOf (h.corrected raw)
  let settling := 0 < h.settle
  let h1 : HkChan := { h with good := some v, settled := h.settled || !settling }
  let s2 := s1.modHkc ch (fun _ => if ended then h1.afterOpen raw else h1.step raw)
  let s3 := if settling then s2 else s2.judgeSwitches ch v
  if !h.rtd then s3
  else
    let s4 := s3.newTemp ch v
    match s4.limitsOf ch with
    | some l => if settling then s4 else s4.judgeLevel ch l v
    | none => s4

/-- The urgent conversion ends: a single conversion, not filtered (R406, R430). -/
def State.convUrgent (s : State) (ch : Nat) (raw : Int) : State :=
  let h := s.hkc ch
  if !h.on then s
  else
    let isO := h.rtd && (h.openNow || h.overRange raw)
    let v := if isO then h.good.getD (-0x80000000) else h.resultOf (h.corrected raw)
    let settling := 0 < h.settle || (!isO && h.isOpen)
    let regular := ch % 12 = 11
    let s1 := if regular then (if isO then s.convOpen ch raw else s.convGood ch raw)
      else if isO then
        (s.flagOpen ch).modHkc ch (fun h => { h with isOpen := true, openNow := false, rates := [] }.step raw)
      else s.urgentGood ch raw
    let s2 := if isO && !regular then s1.setSwitches ch (fun r _ => bitN r 11) else s1
    s2.sayUrgent ch v h.gain isO settling

/-- One converter's conversion ends. -/
def State.convEnd (s : State) (j : Nat) (raw : Int) : State :=
  let ch := s.convOf j
  let h := s.hkc ch
  if s.hk.pos = 11 && s.hk.urgent = some ch then s.convUrgent ch raw
  else if !h.on then s
  else if h.rtd && (h.openNow || h.overRange raw) then s.convOpen ch raw
  else s.convGood ch raw

/-- CONVERSION_END: `raw`: the integrals of HC0 to HC3, in 2^−23 of full scale (R405, R407). -/
def execConversionEnd (dt : Nat) (raw : List Int) (s : State) : Res :=
  run dt s (fun s =>
    if s.hk.pos < 12 && s.hk.posAt + s.hk.tInt * hkCk ≤ s.clk then
      let s1 := (List.range 4).foldl (fun t j => t.convEnd j (raw.getD j 0)) s
      if s1.hk.pos = 11 then { s1 with hk.pos := 12, hk.urgent := none } else s1.beginPos (s1.hk.pos + 1)
    else s)

/-- OPEN_DETECT: a source of the channel in conversion reaches its compliance limit (R413). -/
def execOpenDetect (dt : Nat) (ch : Fin 48) (s : State) : Res :=
  run dt s (fun s =>
    if s.hk.pos < 12 && (s.hkc ch.val).rtd && s.convOf (ch.val / 12) = ch.val then s.flagOpen ch.val else s)

/-! ### The die (R420, R423, R425) -/

/-- The median of a list of readings: the mean of the middle two of an even number. -/
def medianOf (l : List Int) : Int :=
  let o := sortBy (fun a b : Int => a < b) l
  let n := o.length
  if n % 2 = 1 then o.getD (n / 2) 0 else (o.getD (n / 2 - 1) 0 + o.getD (n / 2) 0) / 2

/-- A reading breaks the conditions of R420. -/
def dieBad (ts : List Int) (k : Nat) : Bool :=
  let t := ts.getD k 0
  let other := if k = 8 then medianOf (ts.take 8) else ts.getD 8 0
  t < -960 || 2560 < t || 240 < (t - other).natAbs

/-- One die sensor is read (R420). -/
def State.readDie (s : State) (ts : List Int) (k : Nat) : State :=
  let d := s.dieS k
  let bad := dieBad ts k
  let back := match d.goodAt with
    | some t => t + sec 1 ≤ s.clk
    | none => false
  let d' : DieSensor :=
    if bad then { t := ts.getD k 0, broken := true, goodAt := none }
    else if d.broken && !back then { t := ts.getD k 0, broken := true, goodAt := some (d.goodAt.getD s.clk) }
    else { t := ts.getD k 0, broken := false, goodAt := none }
  let s1 := ({ s with hk.die := tput {} s.hk.die k d' }).sample 0x07 k d'.t
  if bad && !d.broken then s1.fault 0x9002 0 0 else s1

/-- The Tj warning of a broken die sensor, which stands beside that of the level: each clears by its own condition (R420, R423). -/
def brokenWarn : Therm :=
  { src := 0xFF, kind := 1 }

/-- The Tj source is judged (R420, R423, R424). -/
def State.judgeTj (s : State) : State :=
  let working := (List.range 9).filter (fun k => !(s.dieS k).broken)
  let few := working.length < 5
  let t := s.hk.tj
  let label := 0x80 + (working.find? (fun k => (s.dieS k).t = t)).getD 8
  let s0 := match (List.range 9).find? (fun k => (s.dieS k).broken) with
    | some k => s.addWarn brokenWarn (0x80 + k) (s.dieS k).t
    | none => s.clearWarn brokenWarn
  let s1 := if s.hk.tjWarn ≤ t then s0.addWarn ⟨0x80, 1⟩ label t
    else if t ≤ s.hk.tjWarn - 32 then s0.clearWarn ⟨0x80, 1⟩ else s0
  let s2 := if s.hk.tjStop ≤ t || few then s1.addStop ⟨0x80, 3⟩ label t
    else if t ≤ s.hk.tjStop - 80 then s1.clearStop ⟨0x80, 3⟩ else s1
  let thermal := match s2.mode.stop with
    | some st => st.cause = 1
    | none => false
  if s2.running && thermal && s2.hk.tjStop + 80 ≤ t then (s2.safeHold false).openBoth else s2

/-- The samples of a millisecond and of a second (R496): reservoirs, corrected errors. -/
def State.tickSamples (s : State) (last : Nat) : State :=
  let s1 := if s.domOn 32 then (List.range 64).foldl (fun t i =>
      if t.present i && !t.retired 6 i then t.sample 0x0A i (t.str i).rsv else t) s else s
  if last / sec 1 = s1.clk / sec 1 then s1
  else
    let s2 := (List.range 67).foldl (fun t i =>
      let off := i < 64 && (t.retired 2 i || !t.secOn (i / 8))
      if off then t else t.sample 0x0C i (tget (0 : Nat) t.faults.corrSec i : Nat)) s1
    { s2 with faults.corrSec := [] }

/-- Tj is the highest reading of the working sensors and the die minimum the lowest (R420). -/
def State.takeTj (s : State) : State :=
  match ((List.range 9).filter (fun k => !(s.dieS k).broken)).map (fun k => (s.dieS k).t) with
  | x :: r => { s with hk.tj := r.foldl max x, hk.dieMin := r.foldl min x }
  | [] => s

/-- The flash write in progress stops where the range of R426 has been left. DESIGN CHOICE (log entry 163): it is taken to meet the
check before a 4 KiB sector at every die reading out of range. -/
def State.watchWrite (s : State) : State :=
  match s.jobs with
  | j :: rest => if s.flashAllowed then s else { s with jobs := { j with stopped := true } :: rest }
  | [] => s

/-- DIE_MONITOR_READ: the nine readings, once per millisecond (R420, R496). -/
def execDieMonitorRead (dt : Nat) (ts : List Int) (s : State) : Res :=
  run dt s (fun s =>
    let due := match s.hk.dieAt with
      | some t => t + ms 1 ≤ s.clk
      | none => true
    if !due then s
    else
      let s1 := (List.range 9).foldl (fun t k => t.readDie ts k) s
      let s2 := s1.takeTj.watchWrite
      ((({ s2 with hk.dieAt := some s.clk }).sample 0x07 9 s2.hk.tj).tickSamples (s.hk.dieAt.getD 0)).judgeTj)

/-! ### PMBus (R435, R496) -/

/-- The rail of a PMBus address 0x40 + n (R432, R435, R478 kind 11). -/
def pmbRail (n : Nat) : Nat :=
  match n with
  | 0 | 1 | 2 | 3 => 1
  | 4 => 0
  | 5 => 2
  | 6 => 3
  | 7 => 4
  | 8 => 5
  | 9 => 6
  | 10 => 7
  | _ => 8

/-- STATUS_WORD shows VOUT, IOUT, TEMPERATURE or OFF (R435; the places of the bits are those of PMBus, log entry 22). -/
def pmbBad (w : BitVec 16) : Bool :=
  bitN w.toNat 15 || bitN w.toNat 14 || bitN w.toNat 2 || bitN w.toNat 6

/-- A regulator's answer: bus errors and status bits raise 0xA006 (R435). -/
def State.pmbStatus (s : State) (r : PmbReading) : State :=
  let n := r.addr.val
  if r.err.isSome then
    let k := tget 0 s.power.pmbErr n + 1
    let s1 := { s with power.pmbErr := tput 0 s.power.pmbErr n (k % 3) }
    if k = 3 then s1.fault 0xA006 11 (pmbRail n) else s1
  else
    let s1 := { s with power.pmbErr := tput 0 s.power.pmbErr n 0 }
    if pmbBad r.status then s1.fault 0xA006 11 (pmbRail n) else s1

/-- A power of two with a signed exponent. -/
def pow2 (e : Int) : Rat :=
  if 0 ≤ e then ((2 ^ e.toNat : Nat) : Rat) else 1 / ((2 ^ (-e).toNat : Nat) : Rat)

/-- VOUT_MODE names a linear format (R435; its places are those of PMBus, log entry 22). -/
def pmbLinear (mode : Byte) : Bool :=
  fld mode.toNat 5 3 = 0

/-- A word in LINEAR16, V, with the exponent of VOUT_MODE (R435, log entry 22). -/
def linear16 (mode : Byte) (w : BitVec 16) : Rat :=
  (w.toNat : Rat) * pow2 (sgn 5 (fld mode.toNat 0 5))

/-- A word in LINEAR11 (R435, log entry 22). -/
def linear11 (w : BitVec 16) : Rat :=
  (sgn 11 (fld w.toNat 0 11) : Rat) * pow2 (sgn 5 (fld w.toNat 11 5))

/-- The probe of boot: an address that does not acknowledge STATUS_WORD is absent (R435). -/
def State.pmbProbe (s : State) (l : List PmbReading) : State :=
  let here := (l.filter (fun r => r.err != some .noAck && r.err != some .heldLow)).map (fun r => r.addr.val)
  { s with power.probed := true, power.pmbus := BitVec.ofNat 12 (maskOf here) }

/-- A reading is taken: its status, and its samples, mV and mA, where the bus gave them in a linear format (R435, R496). -/
def State.pmbTake (s : State) (r : PmbReading) : State :=
  let s1 := s.pmbStatus r
  if r.err.isSome || !pmbLinear r.mode then s1
  else (s1.sample 0x05 (pmbRail r.addr.val) (rhe (1000 * linear16 r.mode r.vout))).sample 0x06 (pmbRail r.addr.val)
    (rhe (1000 * linear11 r.iout))

/-- A regulator's STATUS_WORD after an alert: one that reported a fault is sent CLEAR_FAULTS (R435). -/
def State.pmbClear (s : State) (r : PmbReading) : State :=
  let s1 := s.pmbStatus r
  if r.err.isNone && r.status != 0 then s1.say (.clearFaults (0x40 + r.addr.val)) else s1

/-- The eye height of a lane, by 4 × port + lane (R496). -/
def State.eyeSample (s : State) (i : Nat) : State :=
  let p := s.rport (i / 4)
  let out := i % 4 != 0 && s.retired 7 (3 * (i / 4) + p.logical (i % 4 - 1))
  if s.domOn (24 + i / 4) && p.active && !s.retired 8 (i / 4) && !out then s.sample 0x0D i (p.lane (i % 4)).eyeH else s

/-- PMBUS_POLL: the first of a boot is the probe, once PD_APP is powered (DESIGN CHOICE, log entry 162: the table has no row of its
own for it); each later one takes every present regulator, and the samples of 100 ms (R435, R496). -/
def execPmbusPoll (dt : Nat) (readings : List PmbReading) (s : State) : Res :=
  run dt s (fun s =>
    if !s.power.probed then (if s.domOn 33 then s.pmbProbe readings else s)
    else
    let s1 := (readings.filter (fun r => bitN s.power.pmbus.toNat r.addr.val)).foldl State.pmbTake s
    (List.range 16).foldl State.eyeSample s1)

/-- PMB_ALERT: STATUS_WORD of every present regulator, and CLEAR_FAULTS to each that reported a fault (R435). -/
def execPmbAlert (dt : Nat) (words : List PmbReading) (s : State) : Res :=
  run dt s (fun s => (words.filter (fun r => bitN s.power.pmbus.toNat r.addr.val)).foldl State.pmbClear s)

/-! ### Flash writes (R373, R426, R446, R450) -/

/-- FLASH_WRITE_DONE: the oldest write ends, stopped where the die has left the temperature range since it began; EV_FLASH_WRITTEN (R373, R426). -/
def execFlashWriteDone (dt : Nat) (s : State) : Res :=
  run dt s (fun s =>
    match s.jobs with
    | j :: rest =>
      ({ s with jobs := rest, flash := if j.stopped then s.flash.spoil j.obj else s.flash.put j.obj }).flashWritten
        j.opcode.toNat (!j.stopped) j.tag.toNat j.entry
    | [] => s)

/-- HEALTH_WINDOW: a windowed monitor's WINDOW ends (R491, R495). -/
def execHealthWindow (dt : Nat) (m : Fin 64) (s : State) : Res :=
  run dt s (fun s =>
    let x := tget {} s.faults.monitors m.val
    let len := ms (10 * fld x.cfg.toNat 160 16)
    if bitN x.cfg.toNat 32 && bitN x.cfg.toNat 34 && 0 < len && x.start + len ≤ s.clk then
      { s with faults.monitors := tput {} s.faults.monitors m.val { x with
        done := x.run, run := {}, window := sat 32 (x.window + 1), start := x.start + len } }
    else s)

end Sys2Proof.Machine
end

