-- ==== Sys2Proof/Machine/Image.lean ====
section
/-! DEFINITION. Firmware images and the slots that hold them (R450 to R453). -/

namespace Sys2Proof.Machine

open Sys2Proof

/-- The signature at the end of a signed file is valid under the public key at bytes 32 to 95 (R236, R237, R239, R451). -/
def signedOk (l : List Byte) : Bool :=
  let n := l.length
  ecdsaOk (leAt l 32 32) (leAt l 64 32) (ofBytesBE ((l.drop (n - 64)).take 32)) (ofBytesBE ((l.drop (n - 32)).take 32))
    (l.take (n - 64))

/-- A public key's digest is one of the digests set (R239, R452). -/
def keyKnown (slots : Tab DigestSlot) (l : List Byte) : Bool :=
  let d := BitVec.ofNat 256 (sha256 ((l.drop 32).take 64))
  (List.range 2).any (fun i => (tget {} slots i).st == .active && (tget {} slots i).dig == d)

/-- The boot ROM accepts an image (R451, R452). The header's own length says how much of the slot or transfer it fills. -/
def State.imageOk (s : State) (bytes : List Byte) : Bool :=
  let n := leAt bytes 12 4
  let l := bytes.take n
  leAt bytes 0 4 = 0x5A465731 && leAt bytes 5 1 = 0x41 && 3 ≤ leAt bytes 4 1 && 576 ≤ n && n % 16 = 0 && n ≤ 0x200000
    && n ≤ bytes.length && keyKnown s.otp.fw l && signedOk l

/-- The bytes of a firmware slot. -/
def State.fwSlot (s : State) (k : Nat) : List Byte :=
  if k = 0 then s.flash.slotA else s.flash.slotB

/-- starts(s) (R453). -/
def State.fwStarts (s : State) (k : Nat) : Nat :=
  if k = 0 then s.power.boot.startsA else s.power.boot.startsB

/-- A slot the ROM may boot: its image is valid and it has not failed to start twice (R452, R453). -/
def State.slotOk (s : State) (k : Nat) : Bool :=
  s.imageOk (s.fwSlot k) && s.fwStarts k < 2

/-- The slot for the next boot: A when both copies of the boot control record are absent (R453). -/
def State.nextSlot (s : State) : Nat :=
  (s.flash.boot.or s.flash.boot2).getD 0

end Sys2Proof.Machine
end

