-- ==== Sys2Proof/Machine/Island.lean ====
section
/-! DEFINITION. The safety island (R375 to R401): its own view of both axes, the emission gates, zone monitoring, the safe outputs,
the inputs, and the rows of the safety pair. -/

namespace Sys2Proof.Machine

open Sys2Proof

/-! ### The island's copies (R379, R381, R397) -/

/-- The island changed. -/
def State.modSafe (s : State) (f : Safe → Safe) : State :=
  { s with safe := f s.safe }

/-- Counts per revolution by the island's copy of ENC_LINES. -/
def State.islRev (s : State) : Nat :=
  4 * s.safeFld 12 2

/-- The island's copy of FACETS. -/
def State.islFacets (s : State) : Nat :=
  fld (s.safeFld 14 1) 0 4

/-- The island's copy of DIR. -/
def State.islDir (s : State) : Bool :=
  bitN (s.safeFld 14 1) 4

/-- The island's copy of FACET0. -/
def State.islFacet0 (s : State) : Nat :=
  s.safeFld 22 2 + 2 ^ 16 * fld (s.safeFld 17 1) 0 1

/-- w_tgt of the island, rpm (R379). -/
def State.islTgt (s : State) : Rat :=
  if s.setLoaded && 0 < s.islFacets then (60 * sec 1 : Nat) / ((s.sched.sweep : Rat) * s.islFacets) else 0

/-- SLS_BAND as a fraction. -/
def State.slsBand (s : State) : Rat :=
  (s.safeFld 8 2 : Rat) / 1000

/-- 4 × P_lo, ticks (R379). -/
def State.slsLimit (s : State) : Rat :=
  4 * (60 * sec 1 : Nat) / (s.islTgt * (1 - s.slsBand) * s.islRev)

/-! ### Gates (R379, R380, R383) -/

/-- A gate closes; an armed gate trips with its code (R383). -/
def State.tripGate (s : State) (armed : Bool) (code : Nat) : State :=
  if armed then s.fault code 0 0 else s

/-- The SLS gate closes. -/
def State.closeSls (s : State) : State :=
  let g := s.safe.sls
  if g.opened then (s.modSafe (fun x => { x with sls := {}, goodFacets := 0 })).tripGate g.armed 0x8001 else s

/-- The SDI gate closes. -/
def State.closeSdi (s : State) : State :=
  let g := s.safe.sdi
  if g.opened then (s.modSafe (fun x => { x with sdi := {} })).tripGate g.armed 0x8002 else s

/-- The SLP gate closes. -/
def State.closeSlp (s : State) : State :=
  let g := s.safe.slp
  if g.opened then (s.modSafe (fun x => { x with slp := {} })).tripGate g.armed 0x8003 else s

/-- A gate opens and is armed; the fault of its trip ends (R383, R481). -/
def State.openGate (s : State) (g : Gate) (code : Nat) (f : Safe → Safe) : State :=
  if g.opened then s else (s.modSafe f).endFault code

/-- The SLS gate opens while a schedule set is loaded (R380). -/
def State.openSls (s : State) : State :=
  if s.setLoaded then s.openGate s.safe.sls 0x8001 (fun x => { x with sls := ⟨true, true⟩ }) else s

/-- The SDI gate opens. -/
def State.openSdi (s : State) : State :=
  s.openGate s.safe.sdi 0x8002 (fun x => { x with sdi := ⟨true, true⟩ })

/-- The SLP gate opens. -/
def State.openSlp (s : State) : State :=
  s.openGate s.safe.slp 0x8003 (fun x => { x with slp := ⟨true, true⟩ })

/-! ### Axis A (R177, R181, R184, R379) -/

/-- The last edges show a rate above 50 MHz: three intervals in less than 3,840 ticks (R184, R379). -/
def tooFast (edges : List Nat) : Bool :=
  match edges with
  | t :: _ :: _ :: u :: _ => t < u + 3840
  | _ => false

/-- A facet interval of the island ends: its speed is judged against the band (R379). -/
def State.islFacet (s : State) (len : Nat) : State :=
  match s.safe.facetAt with
  | none => s.modSafe (fun x => { x with facetN := 0, facetAt := some s.clk })
  | some t =>
    let rpm : Rat := (len : Rat) * (60 * sec 1 : Nat) / ((s.clk - t : Nat) * s.islRev)
    let s1 := s.modSafe (fun x => { x with facetN := 0, facetAt := some s.clk, speed := (flr (rpm * 100)).toNat })
    if !s.setLoaded then s1
    else if absQ (rpm - s.islTgt) ≤ s.islTgt * s.slsBand then
      (s1.modSafe (fun x => { x with badFacets := 0, goodFacets := x.goodFacets + 1 })).openSls
    else
      let n := s.safe.badFacets + 1
      let s2 := s1.modSafe (fun x => { x with badFacets := n, goodFacets := 0 })
      if 2 ≤ n then s2.closeSls else s2

/-- An edge at the island's decoder: its count, the net count against the direction, the facet interval, the edge rate (R379). -/
def State.islEdge (s : State) (pos : Bool) : State :=
  let rev := s.islRev
  let x := s.safe
  let fwd := if pos then x.fwd + 1 else x.fwd
  let turn := 0 < rev && rev ≤ fwd
  let back := if turn then 0 else if pos then x.back - 1 else x.back + 1
  let s1 := s.modSafe (fun x => { x with
    count := if pos then x.count + 1 else x.count - 1
    edgeAt := some s.clk, edges := pushMax 5 s.clk x.edges
    fwd := if turn then 0 else fwd, back := back
    facetN := if pos then x.facetN + 1 else x.facetN - 1 })
  let s2 := if s1.safeFld 10 1 < back then s1.closeSdi else if turn then s1.openSdi else s1
  let s3 := if tooFast s2.safe.edges then s2.closeSls else s2
  let len := if s3.islFacets = 0 then 0 else rev / s3.islFacets
  if 0 < len && (len ≤ s3.safe.facetN || s3.safe.facetAt.isNone) then s3.islFacet len else s3

/-- An edge at the loop engines' decoder: count, speed and direction checks (R177, R184). DEDUCED (log entry 136): the edge supervision
that starts when alignment ends is 0x5001's; 0x5003 and 0x5005 act during alignment too. -/
def State.loopEdge (s : State) (pos : Bool) : State :=
  let s1 := (s.settleAngle pos).modA (fun a => { a with
    count := if pos then a.count + 1 else a.count - 1
    edges := s.clk :: (a.edges.take 4 ++ (a.edges.drop 4).filter (fun t => s.clk ≤ t + 3200000)), up := pos, crossed := false
    back := if pos then max 0 (a.back - 1) else a.back + 1 })
  if tooFast s1.scan.a.edges then s1.faultA 0x5003
  else if 64 < s1.scan.a.back && live s1.scan.a.st then s1.faultA 0x5005
  else s1

/-- ENCODER_EDGE: `up`: ENC_A leads ENC_B; DIR names the positive direction (R177, R199, R379). -/
def execEncoderEdge (dt : Nat) (up : Bool) (s : State) : Res :=
  run dt s (fun s =>
    let s1 := s.islEdge (up != s.islDir)
    if s1.domOn 31 then s1.loopEdge (up != bitN s1.scan.a.coef.toNat 177) else s1)

/-- The electrical angle that the alignment gives at a count, 1/65,536 turn (R179). -/
def State.alignAngle (s : State) : Int :=
  (s.scan.a.commRef + s.scan.a.count * (s.aCoef 178 4 : Nat) * 65536 / (s.revCounts : Int)) % 65536

/-- The first index after an alignment settles commutation (R179). -/
def State.settleComm (s : State) : State :=
  let a := s.scan.a
  let x := s.alignAngle
  if bitN a.coef.toNat 176 then
    let d := (x - (s.aCoef 160 16 : Nat)) % 65536
    if 8192 < d && d < 65536 - 8192 then s.faultA 0x5004
    else s.modA (fun a => { a with commOk := true, fbBad := false, commRef := (s.aCoef 160 16 : Nat) })
  else s.modA (fun a => { a with commOk := true, fbBad := false, learned := some x.toNat, commRef := x })

/-- An index at the loop engines: the count is checked, unless a feedback fault spoilt it, and starts anew; commutation is settled (R177, R179). -/
def State.loopIndex (s : State) : State :=
  let a := s.scan.a
  let off := a.count - s.revCounts
  let s1 := if a.indexed && !a.stale && 4 < off.natAbs then s.faultA 0x5004 else s
  let restart := fun (s : State) => s.modA (fun a => { a with
    count := 0, indexed := true, angleOk := live a.st, missed := 0, missBase := (0, 0), stale := false, crossed := false })
  if a.commOk then restart s1
  else if live s1.scan.a.st then
    (if s1.scan.a.alignEnd.isNone then restart s1.settleComm else restart s1)
  else if !s1.scan.a.fbBad && (bitN a.coef.toNat 176 || a.learned.isSome) then
    restart (s1.modA (fun a => { a with
      commOk := true, commRef := if bitN a.coef.toNat 176 then (s1.aCoef 160 16 : Nat) else (a.learned.getD 0 : Nat) }))
  else restart s1

/-- ENCODER_INDEX: `abHigh`: it falls while ENC_A and ENC_B are both high (R177, R379). -/
def execEncoderIndex (dt : Nat) (abHigh : Bool) (s : State) : Res :=
  run dt s (fun s =>
    if !abHigh then s
    else
      let both := s.safe.indexed && s.scan.a.indexed && s.domOn 31
      let s1 := if both && 8 < (s.safe.count - s.scan.a.count).natAbs then s.fault 0x8004 0 0 else s
      let s2 := s1.modSafe (fun x => { x with count := 0, indexed := true })
      if s2.domOn 31 then s2.loopIndex else s2)

/-- SLS_EDGE_WATCHDOG: no edge at the island within 4 × P_lo (R379). -/
def execSlsEdgeWatchdog (dt : Nat) (s : State) : Res :=
  run dt s (fun s =>
    match s.safe.edgeAt with
    | some t => if s.safe.sls.opened && s.slsLimit ≤ ((s.clk - t : Nat) : Rat) then s.closeSls else s
    | none => s)

/-! ### Axis B (R381) -/

/-- The dither is on the GALV drive (R189). -/
def State.dithering (s : State) : Bool :=
  s.domOn 31 && live s.scan.b.st

/-- A frame as the island decodes it (R185, R186, R381). -/
def State.islFrame (s : State) (f : SsiFrame) : State :=
  let nPos := s.safeFld 15 1
  let nStat := fld (s.safeFld 16 1) 0 3
  let gray := bitN (s.safeFld 16 1) 3
  let par := bitN (s.safeFld 16 1) 4
  if ssiBad nPos nStat par f then
    let n := s.safe.bad + 1
    let s1 := s.modSafe (fun x => { x with bad := n, frameAt := some s.clk })
    if 2 ≤ n then s1.closeSlp else s1
  else
    let pos := ssiPos nPos nStat par gray f
    let angle := rhe ((((pos : Int) - (s.safeFld 24 3 : Nat)) * sgn 24 (s.safeFld 28 3) : Int) / (2 ^ 16 : Rat))
    let same := if s.dithering then (if s.safe.pos = some pos then s.safe.same + 1 else 1) else 0
    let s1 := s.modSafe (fun x => { x with bad := 0, pos := some pos, same := same, angle := angle, frameAt := some s.clk })
    let inside := 16 * sgn 16 (s.safeFld 18 2) ≤ angle && angle ≤ 16 * sgn 16 (s.safeFld 20 2)
    if !inside || 8 ≤ same then s1.closeSlp else s1.openSlp

/-- SLP_FRAME_TIMEOUT: no frame begins within 50 µs of the last one (R381). -/
def execSlpFrameTimeout (dt : Nat) (s : State) : Res :=
  run dt s (fun s =>
    match s.safe.frameAt with
    | some t => if t + us 50 ≤ s.clk then s.closeSlp else s
    | none => s)

/-! ### Safe outputs (R388, R391, R395) -/

/-- Output k is in use (R397). -/
def State.outUsed (s : State) (k : Nat) : Bool :=
  bitN (s.safeFld 7 1) k

/-- The level driven on an output: low during an OFF-test pulse (R391). -/
def SafeOut.driven (o : SafeOut) : Bool :=
  o.on && o.test.isNone

/-- A demand or a hold switches an output OFF; a test pulse in progress is lost to it (R388, R391). -/
def State.outOff (s : State) (k : Nat) : State :=
  s.modOut k (fun o => o.off s.clk)

/-- A fault holds an output OFF (R388, R395). -/
def State.holdOut (s : State) (k : Nat) : State :=
  (s.outOff k).modOut k (fun o => { o with held := true })

/-- OFF_TEST: once per second an ON output is driven low, the outputs 250 ms apart (R391). -/
def execOffTest (dt : Nat) (k : Fin 4) (s : State) : Res :=
  run dt s (fun s =>
    let o := s.outp k.val
    let after := fun (t : Option Nat) (d : Nat) => match t with
      | some t => t + d ≤ s.clk
      | none => true
    let apart := (List.range 4).all (fun j => j = k.val || after (s.outp j).lastTest (ms 250))
    if o.on && o.test.isNone && after o.lastTest (sec 1) && apart && s.outUsed k.val then
      s.modOut k.val (fun o => { o with test := some s.clk, lastTest := some s.clk, demanded := false })
    else s)

/-- OFF_TEST_END: after 200 µs the output returns ON, unless a demand came during the pulse (R391, R401). -/
def execOffTestEnd (dt : Nat) (k : Fin 4) (s : State) : Res :=
  run dt s (fun s =>
    match (s.outp k.val).test with
    | some t =>
      if t + us 200 ≤ s.clk then
        s.modOut k.val (fun o => { o with
          test := none, changed := if o.on then s.clk else o.changed, demanded := false
          tests := if o.demanded then o.tests else (o.tests + 1) % 2 ^ 32
          discarded := if o.demanded then (o.discarded + 1) % 2 ^ 16 else o.discarded })
      else s
    | none => s)

/-- SAFE_FB_READBACK: the level of SAFE_FB[k] against the driven level, once T_FB has passed since it changed; an
unused output, held OFF, is read back like the others (R391, R395, R397, R401). -/
def execSafeFbReadback (dt : Nat) (k : Fin 4) (level : Bool) (s : State) : Res :=
  run dt s (fun s =>
    let o := s.outp k.val
    let s1 := s.modOut k.val (fun o => { o with fb := level })
    let since := o.test.getD o.changed
    let code := if level then 0x800A else 0x800B
    if level = o.driven || s.clk < since + us (s.safeFld 11 1) || s.isActiveAt code 14 k.val then s1
    else (s1.holdOut k.val).fault code 14 k.val)

/-! ### Zones (R386 to R389) -/

/-- Byte offset of the parameters of a zone of the active set (R397). -/
def zoneOff (set k : Nat) : Nat :=
  64 + 1088 * set + 272 * k

/-- Cell j of a zone, as a 128-bit number (R397, R399). -/
def State.cellOf (s : State) (set k j : Nat) : Nat :=
  s.safeFld (zoneOff set k + 16 + 16 * j) 16

/-- The facet position of a column, 1/65,536 of a facet (R387). -/
def State.facetPos (s : State) (a : Int) : Int :=
  let rev : Int := s.islRev
  if rev = 0 then 0
  else ((a * 2 ^ 20 / rev - (s.islFacet0 : Int) * 2 ^ 20 / rev) * (s.islFacets : Nat)) % 2 ^ 20 / 16

/-- A used cell covers the scanner's position of a column (R387). -/
def inCell (c : Nat) (f b : Int) : Bool :=
  let lo : Int := fld c 0 16
  let hi : Int := fld c 16 16
  fld c 32 10 ≤ fld c 42 10 && (if lo ≤ hi then lo ≤ f && f ≤ hi else lo ≤ f || f ≤ hi)
    && sgn 16 (fld c 96 16) ≤ b && b ≤ sgn 16 (fld c 112 16)

/-- A channel is valid for the comparator in a delivered column (R386). -/
def Result.chanValid (r : Result) (ch : Nat) : Bool :=
  bitN r.valid.toNat ch && bitN r.col.contrib.toNat (secOf ch) && !bitN r.lost.toNat (secOf ch)

/-- A record hits a zone (R387). -/
def hitsZone (mask : Nat) (cells : List Nat) (x : Nat) : Bool :=
  bitN mask (fld x 54 4) && cells.any (fun c =>
    fld c 32 10 ≤ fld x 0 10 && fld x 0 10 ≤ fld c 42 10 && fld c 52 22 ≤ fld x 12 22 && fld x 12 22 ≤ fld c 74 22)

/-- Zone k is occupied in a column (R387). -/
def State.zoneOccupied (s : State) (set k : Nat) (r : Result) : Bool :=
  let f := s.facetPos r.col.islA
  let b := rhe ((r.col.islB : Rat) / 16)
  let cells := ((List.range 16).map (s.cellOf set k)).filter (fun c => inCell c f b)
  let blind := cells.any (fun c => (List.range (fld c 42 10 + 1 - fld c 32 10)).any (fun i => !r.chanValid (fld c 32 10 + i)))
  let par := s.safeFld (zoneOff set k) 3
  let recs := r.recs.flatMap (fun x => if bitN r.lost.toNat x.1 then [] else x.2)
  blind || fld par 8 8 ≤ (recs.filter (fun x => hitsZone (fld par 0 6) cells x.toNat)).length

/-- Between B of a mode change and the first measured column of the new mode every safe output holds its state (R389). -/
def State.outputsHold (s : State) : Bool :=
  match s.mode.change with
  | some c => !c.isStart && c.warm && c.b ≤ s.now
  | none => false

/-- One zone's outcome for a column: the demand, the clear count, the output (R388). A demand that arises while the outputs hold is met
at the first evaluation after it (R52, R389). -/
def State.zoneOutcome (s : State) (k : Nat) (col : Column) (occupied : Bool) : State :=
  let whole := !col.partialFrame && s.mode.cutFrame != some col.frame
  let first := col.col = 0
  let last := col.col + 1 = (parOf col.mode).columns
  let hold := s.outputsHold
  let o := s.outp k
  let frames := match s.safe.zone with
    | some z => s.safeFld (zoneOff z k + 2) 1
    | none => 255
  if occupied || (o.owed && !hold) then
    (if hold then s else s.outOff k).modOut k (fun o => { o with
      demands := if occupied && !o.occupied then (o.demands + 1) % 2 ^ 32 else o.demands
      occupied := occupied, clear := 0, frameOk := false, owed := hold })
  else
    let ok := whole && (first || o.frameOk)
    let n := if !whole then 0 else if last then (if ok then o.clear + 1 else 0) else o.clear
    let on := o.on || (!hold && frames ≤ n && s.running && !o.held && !s.safe.cmpHeld && s.outUsed k && s.safe.zone.isSome)
    s.modOut k (fun o => { o with
      occupied := false, frameOk := ok && !last, clear := n, on := on, changed := if on && !o.on then s.clk else o.changed })

/-- The comparator's test failed: 0x800C, and every output is held OFF (R386, R395). -/
def State.comparatorFault (s : State) : State :=
  ((List.range 4).foldl State.outOff (s.modSafe (fun x => { x with cmpHeld := true }))).fault 0x800C 0 0

/-- Zone k is judged in a delivered column: occupied where the data came late or no set is in force (R387, R388). -/
def State.judgeZone (arrived : Bool) (r : Result) (s : State) (k : Nat) : State :=
  let occupied := match s.safe.zone with
    | some z => s.zoneOccupied z k r
    | none => true
  s.zoneOutcome k r.col (!arrived || occupied)

/-- A result is evaluated; one that is delivered too leaves the list. -/
def State.markEvaluated (s : State) (r : Result) : State :=
  { s with
    front.results := (s.front.results.map (fun x =>
      if x.endCause.isNone && x.col.start = r.col.start then { x with evaluated := true } else x)).filter (fun x =>
      !(x.evaluated && x.delivered)) }

/-- ZONE_EVALUATION: the oldest column not yet evaluated. `testOk`: exactly the first test record was reported; `arrived`: its
records and validity words arrived by the end of the following column (R386 to R388). -/
def execZoneEvaluation (dt : Nat) (testOk : Bool) (arrived : Bool) (s : State) : Res :=
  run dt s (fun s =>
    match s.front.results.find? (fun r => !r.evaluated && r.endCause.isNone) with
    | none => s
    | some r =>
      let s1 := (List.range 4).foldl (State.judgeZone arrived r) (s.markEvaluated r)
      if testOk then s1 else s1.comparatorFault)

/-! ### Faults of the pair and its checks (R377, R394, R395) -/

/-- A fault of the island while it runs: in OFF and before the pair starts there is none. -/
def State.islFault (s : State) (code : Nat) : State :=
  s.fault code 0 0

/-- The lockstep pair mismatches: the safe state in hardware, reset and self-test; the third within 10 s latches (R395). -/
def State.pairMismatch (s : State) (selfTestOk : Bool) : State :=
  let recent := s.clk :: s.safe.mismatch.filter (fun t => s.clk ≤ t + sec 10)
  let s1 := (s.modSafe (fun x => { x with mismatch := recent, latched := x.latched || 3 ≤ recent.length })).islFault 0x8007
  if selfTestOk && !s1.safe.latched then s1.endFault 0x8007 else s1

/-- LOCKSTEP_MISMATCH (R377, R395). -/
def execLockstepMismatch (dt : Nat) (selfTestOk : Bool) (s : State) : Res :=
  run dt s (fun s => s.pairMismatch selfTestOk)

/-- LOCKSTEP_SELF_TEST: the injected mismatch was detected, which ends an unlatched 0x8007, or the pair is faulty (R377, R481). -/
def execLockstepSelfTest (dt : Nat) (detected : Bool) (s : State) : Res :=
  run dt s (fun s => if detected then (if s.safe.latched then s else s.endFault 0x8007) else s.pairMismatch false)

/-- SAFETY_MEM_ECC (R395). -/
def execSafetyMemEcc (dt : Nat) (s : State) : Res :=
  run dt s (fun s => s.islFault 0x800D)

/-- ISLAND_CLOCK (R377, R395). -/
def execIslandClock (dt : Nat) (s : State) : Res :=
  run dt s (fun s => s.islFault 0x800E)

/-- FAULT_N_READBACK (R395). -/
def execFaultNReadback (dt : Nat) (s : State) : Res :=
  run dt s (fun s => s.islFault 0x8010)

/-! ### Inputs (R385, R392, R393) -/

/-- ESTOP_DEMAND: ESTOP_N low for the filter time (R385, R401). -/
def execEstopDemand (dt : Nat) (s : State) : Res :=
  run dt s (fun s =>
    if s.safe.estop then (s.modSafe (fun x => { x with estop := false })).islFault 0x8009 else s)

/-- ESTOP_RELEASE: ESTOP_N high after its filter ends 0x8009 (R481). -/
def execEstopRelease (dt : Nat) (s : State) : Res :=
  run dt s (fun s => (s.modSafe (fun x => { x with estop := true })).endFault 0x8009)

/-- A code is valid: odd parity, and a set of the configuration in force; where none is in force, SETS judges it at the exit from SAFE
HOLD that puts one in force (R385, R394). DESIGN CHOICE (log entry 170): until then parity alone judges it. -/
def State.codeOk (s : State) (code : BitVec 4) : Bool :=
  popN 4 code.toNat % 2 = 1 && (s.safe.cfg.isEmpty || fld code.toNat 0 3 < s.safeFld 6 1)

/-- ZONE_CODE_TAKEN: a code unchanged for 10 ms (R385, R401, R481). Where no column runs the set is in force at once. -/
def execZoneCodeTaken (dt : Nat) (code : BitVec 4) (s : State) : Res :=
  run dt s (fun s =>
    let set := fld code.toNat 0 3
    let s1 := s.modSafe (fun x => { x with zoneRaw := code })
    if s.codeOk code then
      let s2 := ((s1.modSafe (fun x => { x with
        zoneOk := true
        zone := if s.mode.cur.isSome then x.zone else some set
        zoneNext := if s.mode.cur.isSome then some set else none })).endFault 0x8005).endFault 0x8006
      if s.mode.cur.isSome then s2 else (List.range 4).foldl (fun t k => t.modOut k (fun o => { o with clear := 0 })) s2
    else (s1.modSafe (fun x => { x with zoneOk := false })).islFault 0x8005)

/-- ZONE_CODE_UNSTABLE (R385): the row does not show the pins, so their raw code is free until one is taken
(DESIGN CHOICE, log entry 172). -/
def execZoneCodeUnstable (dt : Nat) (s : State) : Res :=
  run dt s (fun s =>
    (s.took.modSafe (fun x => { x with zoneOk := false, zoneRaw := BitVec.ofNat 4 (Config.freeNat s.free) })).islFault 0x8006)

/-- SAFE_RESET_RISING_EDGE: a press begins, and may complete validly if the debounced input was low for 100 ms and the device is
in SAFE HOLD (R392). -/
def execSafeResetRisingEdge (dt : Nat) (s : State) : Res :=
  run dt s (fun s =>
    if s.safe.button then s
    else s.modSafe (fun x => { x with
      button := true, buttonAt := s.clk
      press := if s.life.lcs = .safeHold && x.buttonAt + ms 100 ≤ s.clk then some s.clk else none }))

/-- No cause stands against leaving SAFE HOLD (R26, R27, R395, R481). -/
def State.mayRestart (s : State) : Bool :=
  s.safe.estop && s.safe.zoneOk && !s.safe.stuck && !s.safe.latched && !s.hk.trip
    && !s.faults.active.any (fun a => blocksRestart a.code.toNat) && s.life.holdAt != some (s.clk / fabCk)

/-- The start-up checks repeated at an exit from SAFE HOLD: a check that passes ends its fault and its hold, one that fails raises
it again (R391, R395). -/
def State.exitChecks (s : State) (fb : BitVec 4) (cmpOk : Bool) : State :=
  let s1 := (List.range 4).foldl (fun t k =>
    if bitN fb.toNat k then ((t.modOut k (fun o => { o with fb := true })).holdOut k).fault 0x800A 14 k
    else ((t.modOut k (fun o => { o with fb := false, held := false })).endFaultAt 0x800A 14 k).endFaultAt 0x800B 14 k) s
  if cmpOk then (s1.modSafe (fun x => { x with cmpHeld := false })).endFault 0x800C
  else s1.comparatorFault

/-- The switched domains that the press after a hard trip powers first, but for a failed one (R425, R438, R439, R449). -/
def State.appDomains (s : State) : List Nat :=
  (33 :: (if s.portMode .A = 0 then [] else [28]) ++ (if s.portMode .B = 0 then [] else [29])).filter
    (fun d => !bitN s.power.domDead.toNat d)

/-- The application section can be loaded again: the running image came from a slot that still authenticates (R425, R452). -/
def State.appLoads (s : State) : Bool :=
  !s.power.boot.hostImg && s.imageOk (s.fwSlot s.power.boot.slot)

/-- A valid press completes: it powers a device that a hard trip left dark, and leads to STANDBY where R26 allows it; the safety
configuration accepted last comes into force with the exit, and one without the set of the code taken is 0x8005 (R385, R392, R394, R395,
R397, R401, R425). -/
def State.completePress (s : State) (fb : BitVec 4) (cmpOk : Bool) : State :=
  let ignored := fun (t : State) => t.modSafe (fun x => { x with presses := (x.presses + 1) % 2 ^ 16 })
  if s.hk.trip || (s.hk.dark && !s.appLoads) then ignored s
  else
    let s1 := if s.hk.dark then
        ({ s with hk.dark := false, power.appDown := true, power.afterTrip := true
                  power.toPower := s.power.toPower ++ s.appDomains }).rampNext
      else s
    if !s1.mayRestart then (if s.hk.dark then s1 else ignored s1)
    else
      let s2 := match s1.safe.cfgNext with
        | some (c, p) => s1.modSafe (fun x => { x with cfg := c, period := p, cfgNext := none })
        | none => s1
      let s3 := (s2.exitChecks fb cmpOk).toState .standby
      if s3.codeOk s3.safe.zoneRaw then s3 else (s3.modSafe (fun x => { x with zoneOk := false })).islFault 0x8005

/-- EV_RESET_STUCK with the flag (R373, R393). -/
def State.setStuck (s : State) (v : Bool) : State :=
  (s.modSafe (fun x => { x with stuck := v, press := none })).raise 0x0105 [BitVec.ofNat 8 (b2n v)]

/-- SAFE_RESET_STUCK: high for more than 5 s (R393). -/
def execSafeResetStuck (dt : Nat) (s : State) : Res :=
  run dt s (fun s =>
    if s.safe.button && !s.safe.stuck && s.safe.buttonAt + sec 5 < s.clk && s.life.lcs != .boot then s.setStuck true else s)

/-- RESET_STUCK_CLEAR: low for 100 ms (R393). -/
def execResetStuckClear (dt : Nat) (s : State) : Res :=
  run dt s (fun s =>
    if !s.safe.button && s.safe.stuck && s.safe.buttonAt + ms 100 ≤ s.clk then s.setStuck false else s)

/-! ### Ends of periods (R26, R29, R360, R396) -/

/-- DEGRADED_PERIOD_EXPIRY (R26, R29, R396). -/
def execDegradedPeriodExpiry (dt : Nat) (s : State) : Res :=
  run dt s (fun s =>
    match s.life.degEnd with
    | some t => if s.life.lcs = .degraded && t ≤ s.clk then s.safeHold false else s
    | none => s)

/-- SERVICE_SESSION_TIMEOUT (R26, R360). -/
def execServiceSessionTimeout (dt : Nat) (s : State) : Res :=
  run dt s (fun s =>
    match s.life.session with
    | some x => if s.life.lcs = .service && x.exp ≤ s.clk then s.safeHold false else s
    | none => s)

end Sys2Proof.Machine
end

