-- ==== Sys2Proof/Machine/Wire.lean ====
section
/-! DEFINITION. What a Cornice line carries (R144 to R148): the symbols and how a receiver tells them apart, and the bits of the frames
that the device sends. -/

namespace Sys2Proof.Machine

open Sys2Proof

/-! ### Symbols (R144) -/

/-- A symbol as a receiver classifies it (R144). -/
inductive Symbol where
  | zero | one | start | lineFault
  deriving DecidableEq, Repr

/-- The high time of a symbol that the device sends, ticks: 1, 3 or 6 cycles (R144). A line fault is never sent. -/
def Symbol.high : Symbol → Nat
  | .zero => engCk
  | .one => 3 * engCk
  | .start => 6 * engCk
  | .lineFault => 0

/-- The length of a symbol, ticks: 4 cycles for data, 8 for START (R144). -/
def Symbol.length : Symbol → Nat
  | .zero | .one => 4 * engCk
  | .start => 8 * engCk
  | .lineFault => 0

/-- The symbol that a high time measured at a receiver is, in ticks (R144): 2.5 ns, 5.0 ns and 8.75 ns part the four. -/
def symbolOf (high : Nat) : Symbol :=
  if high < 160 then .zero else if high < 320 then .one else if high ≤ 560 then .start else .lineFault

/-- A line low for 15 ns or longer ends a frame (R144). -/
def frameGap : Nat := 15 * ticksPerNs

/-- A bit as a symbol. -/
def bitSymbol (b : Bool) : Symbol :=
  if b then .one else .zero

/-- A frame on the wire: START and its bits, the first bit most significant (R144, R145). -/
def onWire (bits : List Bool) : List Symbol :=
  .start :: bits.map bitSymbol

/-- The time that a frame takes on the wire, ticks (R144). -/
def wireTicks (bits : List Bool) : Nat :=
  (onWire bits).foldl (fun n x => n + x.length) 0

/-! ### Frames (R145 to R148) -/

/-- A number of `n` bits with a last bit that makes the number of its ones odd (R145, R146). -/
def oddParity (n x : Nat) : Nat :=
  2 * x + (popN n x + 1) % 2

/-- The header of a frame that the device sends: TYPE, POS 0, P (R145). -/
def frameHeader (type : Nat) : List Bool :=
  bitsMsb 8 (oddParity 7 (8 * type))

/-- The field of a head in a SHOT frame: ARM, MEAS, PAT, Q (R146). -/
def shotField (arm measure : Bool) (pat : Nat) : List Bool :=
  bitsMsb 9 (oddParity 8 (128 * b2n arm + 64 * b2n measure + pat % 64))

/-- A HOLD frame (R146). -/
def holdBits : List Bool :=
  frameHeader 1

/-- A SHOT frame with the fields of its heads (R146, R147). -/
def shotBits (fields : List (Bool × Bool × Nat)) : List Bool :=
  frameHeader 3 ++ fields.flatMap (fun f => shotField f.1 f.2.1 f.2.2)

/-- A READ or WRITE frame: TGT, REG, the data of a WRITE, CRC (R146). -/
def accessBits (target : Nat) (reg : Byte) (data : Option Word) : List Bool :=
  match data with
  | none =>
    let x := target % 8 * 2 ^ 13 + reg.toNat
    frameHeader 5 ++ bitsMsb 24 (x * 2 ^ 8 + crc8 (bytesBE 2 x))
  | some w =>
    let x := target % 8 * 2 ^ 45 + reg.toNat * 2 ^ 32 + w.toNat
    frameHeader 6 ++ bitsMsb 56 (x * 2 ^ 8 + crc8 (bytesBE 6 x))

/-- The line stays in reply direction for 480 ns after a READ or WRITE (R148). -/
def replyWindow : Nat := 480 * ticksPerNs

/-- The time that a READ takes on its line with its reply window (R146, R148). -/
def readTicks : Nat := 170 * ticksPerNs + replyWindow

/-- As `readTicks`, a WRITE. -/
def writeTicks : Nat := 330 * ticksPerNs + replyWindow

end Sys2Proof.Machine
end

