-- ==== Sys2Proof/Machine/Ridge.lean ====
section
/-! DEFINITION. Shared operations of the Ridge ports and the Chain (R255 to R321): the lane map and width, the status words, link
up, discovery, and the bodies of control slots. -/

namespace Sys2Proof.Machine

open Sys2Proof

/-! ### Lanes -/

/-- STAGE of a port: 0 off, 9 up, else the lowest incomplete stage (R265, R268, R284); for LINK, that of the data lanes in a
retrain (R299). -/
def RidgePort.stage (r : RidgePort) : Nat :=
  if !r.active then 0
  else if r.up && !r.retrain then 9
  else (r.parts.map (fun m => (r.lane (m + 1)).stage)).foldl min (if r.up then 9 else (r.lane 0).stage)

/-- DRDY: logical receive lanes past stage 5 (R265). -/
def RidgePort.drdy (r : RidgePort) : Nat :=
  maskOf (((List.range 3).filter (fun m => 6 ≤ (r.lane (m + 1)).stage)).map r.logical)

/-- EXCL as announced: a lane excluded at the partner is out of both directions, so this end announces it too (R265, R269). -/
def RidgePort.exclSent (r : RidgePort) : Nat :=
  (r.excl ||| r.pExcl).toNat

/-- RET as announced: each end announces a retired lane (R265, R277). -/
def RidgePort.retSent (r : RidgePort) : Nat :=
  (r.ret ||| r.pRet).toNat

/-- A lane passes to a stage now. -/
def RidgePort.toStage (r : RidgePort) (l stage clk : Nat) : RidgePort :=
  r.modLane l (fun x => { x with stage := stage, since := clk, run := 0, last := 0, late := false })

/-- The credits a port may still charge (R316). -/
def RidgePort.credits (r : RidgePort) : Nat :=
  r.offered - (r.charged + 65536 - r.returned) % 65536

/-! ### Status words (R284, R285) -/

/-- The port status word (R284). LINK_UP is stage 9 alone, so it reads 0 in a retrain. -/
def State.portWord (s : State) (q : Nat) : Nat :=
  let r := s.rport q
  let retired := s.retired 8 q
  let excl := (r.excl ||| r.pExcl).toNat
  let use := if r.active then r.inUse else 0
  (if retired then 0 else r.stage) + 2 ^ 4 * b2n (r.up && !r.retrain) + 2 ^ 5 * b2n r.absent + 2 ^ 6 * popN 3 use + 2 ^ 8 * use
    + 2 ^ 11 * excl + 2 ^ 14 * (r.ret ||| r.pRet ||| r.retDue).toNat + 2 ^ 17 * b2n retired
    + 2 ^ 18 * maskOf ((List.range 4).filter (fun l => (r.lane l).inv)) + 2 ^ 22 * b2n r.rev + 2 ^ 23 * b2n r.txSleep
    + 2 ^ 24 * b2n r.rxSleep + 2 ^ 25 * fld r.test.toNat 0 3

/-- A lane word (R285). The upsets of C are those of its port. -/
def State.laneWord (s : State) (q l : Nat) : Nat :=
  let r := s.rport q
  let x := r.lane l
  let u : UnitId := if l = 0 then ⟨8, q⟩ else ⟨7, 3 * q + r.logical (l - 1)⟩
  x.ctle + 2 ^ 5 * (x.eyeH % 256) + 2 ^ 13 * (x.eyeW % 256) + 2 ^ 21 * min 3 (s.upsetsOf u).length

/-! ### Link up and the reference (R268, R273, R289, R305, R442) -/

/-- The root PLL takes the clock recovered on a port, or REFCLK; a holdover ends (R21, R442). -/
def State.takeRef (s : State) (ref : Option Nat) : State :=
  { s with power.ref := ref, power.holdAt := none, power.refLost := if ref.isSome then none else s.power.refLost }

/-- The root PLL goes back to REFCLK; where that is absent it is lost as the reference (R442, R443). -/
def State.toRefclk (s : State) : State :=
  let s1 := s.takeRef none
  if s1.power.refclk then s1 else ({ s1 with power.refLost := some s1.clk }).fault 0xA003 0 0

/-- Stage 9, or the end of a retrain: EV_RIDGE_UP, or EV_RIDGE_RETRAIN, with the width (R268, R273, R305, R373). At width 0 what waits
for the data class has no route (R306). -/
def State.linkUp (s : State) (q : Nat) : State :=
  let was := (s.rport q).up
  let s1 := s.modRport q (fun r => { r with
    up := true, retrain := false, again := 0, upAt := s.clk, alive := s.clk, idleAt := s.clk, askAt := if was then r.askAt else none
    lanes := (0 :: r.parts.map (· + 1)).foldl (fun t l => tmod {} t l (fun x => { x with stage := 9 })) r.lanes })
  let s2 := if (s1.rport q).allRetired then s1.dropPackets q else s1
  let w := BitVec.ofNat 8 (s2.rport q).width
  if was then s2.raise 0x0E03 [BitVec.ofNat 8 q, w]
  else
    let s3 := s2.raise 0x0E01 [BitVec.ofNat 8 q, w]
    if s3.upPort = some q then s3 else s3.topoChange 3

/-- Every data lane in use stands at a stage from now on. -/
def RidgePort.allTo (r : RidgePort) (stage clk : Nat) : RidgePort :=
  { r with lanes := r.parts.foldl (fun t m => tmod {} t (m + 1) (fun x => { x with stage := stage, since := clk })) r.lanes }

/-- The transmitter switches its data lanes when the partner reports every data lane in DRDY, EXCL or RET (R269). -/
def State.switchCheck (s : State) (q : Nat) : State :=
  let r := s.rport q
  if !r.switched && r.active && (!r.up || r.retrain) && (r.pDrdy ||| r.pExcl ||| r.pRet) == 7#3 then
    s.modRport q (fun r => { r with switched := true, dskAt := none })
  else s

/-- A block of 66 bits at 25.6 Gb/s, ticks (R256). -/
def blockTicks : Nat := 165

/-- The payload of a control block: its type, six bytes, and the CRC-8 of the seven (R311). -/
def controlBlock (type : Nat) (bytes : List Byte) : BitVec 64 :=
  let b := BitVec.ofNat 8 type :: padTo 6 bytes
  BitVec.ofNat 64 (ofBytes (b ++ [BitVec.ofNat 8 (crc8 b)]))

/-- The lane of each block: striping goes on from lane to lane in ascending order of the logical lanes in use (R311). -/
def stripe {α : Type} (lanes : List Nat) (first : Nat) (blocks : List α) : List (Nat × α) :=
  blocks.zipIdx.map (fun b => (lanes.getD ((first + b.2) % lanes.length) 0, b.1))

/-- The place among the lanes in use of the block that goes out now: IDLE blocks have filled the time since the last (R311). DEDUCED (log
entry 166): a lane carries one block in each block period, and those of a DSK period count like the others. -/
def RidgePort.place (r : RidgePort) (clk : Nat) : Nat :=
  if r.width = 0 then 0 else (r.txPos + (clk - r.txAt) * r.width / blockTicks) % r.width

/-- `n` blocks go out from now on: the striping stands after them (R311). -/
def RidgePort.send (r : RidgePort) (clk n : Nat) : RidgePort :=
  if r.width = 0 then r else { r with txPos := (r.place clk + n) % r.width, txAt := max clk r.txAt + n * blockTicks / r.width }

/-- A control block goes out on the lane that the striping has come to (R311). -/
def State.sendBlock (s : State) (q : Nat) (payload : BitVec 64) : State :=
  let r := s.rport q
  let lane := if r.width = 0 then none else (onesOf 3 r.inUse)[r.place s.clk]?
  (s.modRport q (fun r => r.send s.clk 1)).say (.credit q lane payload)

/-- An INIT block goes out: 256 credits, and ACK once the partner's INIT has come (R316). -/
def State.sendInit (s : State) (q : Nat) : State :=
  (s.modRport q (fun r => { r with initAt := s.clk })).sendBlock q
    (controlBlock 0x2D (bytesOf 2 256 ++ [BitVec.ofNat 8 (b2n (s.rport q).gotInit)]))

/-- A port stands in stage 8: every data lane in use, or C alone at width 0 (R268, R269). -/
def RidgePort.inStage8 (r : RidgePort) : Bool :=
  if r.allRetired then !r.up && (r.lane 0).stage = 8
  else r.dataRuns && !r.parts.isEmpty && r.parts.all (fun m => (r.lane (m + 1)).stage = 8)

/-- The INIT block of every 16 blocks in stage 8 goes out where it is due (R316). -/
def State.repeatInit (s : State) (q : Nat) : State :=
  let r := s.rport q
  if r.active && r.inStage8 && r.initAt + 16 * blockTicks ≤ s.clk then s.sendInit q else s

/-- With C through stage 4 and every data lane retired, a bring-up goes on at stage 8, with an INIT block, on the control lane alone; a retrain is over
(R269). -/
def State.widthZero (s : State) (q : Nat) : State :=
  let r := s.rport q
  if !r.active || !r.allRetired then s
  else if r.up then (if r.retrain then s.linkUp q else s)
  else if (r.lane 0).stage = 9 then (s.modRport q (fun r => r.toStage 0 8 s.clk)).sendInit q
  else s

/-- A port-charged failure of a bring-up: the fault, and bring-up from stage 1 after the idle (R268, R278). -/
def State.portFail (s : State) (q code : Nat) : State :=
  let s1 := s.fault code 8 q
  if s1.retired 8 q then s1 else s1.portRestart q 2

/-- A data lane is excluded in this bring-up or retrain (R268, R269); `charge`: stage 2, or a lane that R274 tries again, charges
it 0x6002. Stage 7 of the others starts anew with the lanes that remain. Without a lane in use the port fails, unless all three are
retired. -/
def State.exclude (s : State) (q m : Nat) (charge : Bool) : State :=
  let k := (s.rport q).logical m
  let again := bitN (s.rport q).again.toNat k
  let s1 := (s.countLane q (m + 1)).modRport q (fun r =>
    let r1 := { r with excl := r.excl ||| BitVec.ofNat 3 (2 ^ k) }
    { r1 with lanes := r1.parts.foldl (fun t j => tmod {} t (j + 1) (fun x =>
        if x.stage = 7 then { x with since := s.clk } else x)) r1.lanes })
  let s2 := if charge || again then s1.fault 0x6002 7 (3 * q + k) else s1
  let r := s2.rport q
  if r.inUse = 0 then (if r.allRetired then s2.widthZero q else s2.portFail q 0x6002) else s2

/-! ### Control slots (R290 to R293, R299) -/

/-- CRC-16 of bytes 1 to 13 of a slot (R291). -/
def crc16 (l : List Byte) : Nat :=
  crcBits 16 0x1021 0xFFFF (l.flatMap (fun b => bitsMsb 8 b.toNat))

/-- A received slot's bytes 1 to 15 carry a valid CRC-16 (R291). -/
def slotGood (body : BitVec 120) : Bool :=
  fld body.toNat 104 16 == crc16 (bytesOf 13 (fld body.toNat 0 104))

/-- Bytes 1 to 15 of a slot that goes out: its 13 bytes and their CRC-16 (R291). -/
def slotOf (body : Nat) : BitVec 120 :=
  BitVec.ofNat 120 (body % 2 ^ 104 + 2 ^ 104 * crc16 (bytesOf 13 body))

/-- The SYNC body of a port for a slot that starts at a chain time (R293). -/
def State.syncBody (s : State) (q start : Nat) : Nat :=
  let rho : Nat := match (s.rport q).rho with
    | some x => uns 32 (clampI (-0x7FFFFFFF) 0x7FFFFFFF x)
    | none => 0x80000000
  start % 2 ^ 64 + 2 ^ 64 * rho + 2 ^ 96 * b2n s.chain.aligned + 2 ^ 97 * b2n s.isRoot + 2 ^ 98 * b2n (s.upPort = some q)

/-- The LINK body of a port (R299). -/
def State.linkBody (s : State) (q : Nat) : Nat :=
  let r := s.rport q
  r.stage % 16 + 2 ^ 4 * r.drdy + 2 ^ 7 * r.exclSent + 2 ^ 10 * r.retSent + 2 ^ 13 * lcsCode s.life.lcs
    + 2 ^ 17 * b2n s.isRoot + 2 ^ 24 * s.chain.addr.toNat + 2 ^ 40 * s.chain.gen.toNat + 2 ^ 48 * s.chain.hops.toNat

/-! ### Discovery (R302 to R305) -/

/-- An ASSIGN goes out on a port (R302, R303). -/
def State.sendAssign (s : State) (q a : Nat) (down : Bool) (hops : Nat) : State :=
  s.sendDisc q ([1#8, s.chain.gen] ++ bytesOf 2 a ++ [BitVec.ofNat 8 (b2n down), BitVec.ofNat 8 (min 255 (hops + 1))])

/-- The addresses of a port's range (R303): from `a` to `next` exclusive, upward or downward. -/
def rangeOf (a next : Nat) (down : Bool) : Option (Nat × Nat) :=
  if down then (if next < a then some (next + 1, a) else none) else (if a < next then some (a, next - 1) else none)

/-- The number of devices below the root. A range counts addresses that a lost device has left unused, and no field of R302 carries
the number: it is a free value between one device for each range and one for each address (log entry 142). -/
def State.devicesBelow (s : State) : Nat :=
  let sizes := (List.range 4).filterMap (fun q => (s.rport q).range.map (fun x => x.2 + 1 - x.1))
  sizes.length + Config.freeNat s.free % (sizes.foldl (· + ·) 0 + 1 - sizes.length)

/-- Discovery ends at this device: the root reports it, another device answers its ASSIGN (R303, R304). -/
def State.discEnd (s : State) (d : Disc) : State :=
  match d.up with
  | none =>
    let top := (List.range 4).foldl (fun h q => match (s.rport q).range with
      | some (_, hi) => max h hi
      | none => h) 0
    let s1 := { s.took with chain.disc := none, chain.hi := if s.topo = 0 then s.chain.hi else top, chain.retry := false }
    s1.raise 0x0F01 ([s.chain.gen, 0] ++ bytesOf 2 (1 + s.devicesBelow))
  | some p =>
    let nxt := if !d.down && s.chain.addr = d.old then max d.nxt (d.oldHi + 1) else d.nxt
    let s1 := { s with chain.disc := none, chain.hi := if d.down then s.chain.addr.toNat else nxt - 1 }
    s1.sendDisc p ([2#8, s.chain.gen] ++ bytesOf 2 nxt ++ [BitVec.ofNat 8 (b2n d.down), 0])

/-- The next downstream port is offered its range, or discovery ends here (R303). An address that would reach 0xFFFE is offered to
nobody; the root raises 0x6009 for its own offers, since no DISC field tells it of another device's (R304; log entry 143). In a ring
the root's P0 is offered the highest address of the generation before, downward. -/
def State.discNext (s : State) : Nat → State
  | 0 => s
  | fuel + 1 =>
    match s.chain.disc with
    | none => s
    | some d =>
      match d.left with
      | [] => s.discEnd d
      | q :: rest =>
        let ringDown := d.up.isNone && s.topo = 2 && q = 0
        let d1 : Disc := { d with
          left := rest
          nxt := if ringDown then (if d.oldHi = 0xFFFF then 4095 else d.oldHi) else d.nxt
          down := ringDown || d.down }
        let r := s.rport q
        if !r.up || r.conflict then State.discNext { s with chain.disc := some { d with left := rest } } fuel
        else if 0xFFFE ≤ d1.nxt then
          let s1 := { s with chain.disc := some { d with left := rest } }
          State.discNext (if s.isRoot then s1.fault 0x6009 0 0 else s1) fuel
        else ({ s with chain.disc := some { d1 with wait := some q } }).sendAssign q d1.nxt d1.down d1.hops

/-- The root takes address 0 and the next generation, and offers addresses (R303); a standalone one keeps 0xFFFF (R288). -/
def State.startDiscovery (s : State) : State :=
  let d : Disc := { left := s.downPorts, wait := none, nxt := 1, down := false, hops := 0, old := s.chain.addr
                    oldHi := s.chain.hi, up := none, since := s.clk }
  let old := s.chain.addr
  let a : BitVec 16 := if s.topo = 0 then 0xFFFF else 0
  let s1 := { s with
    chain.gen := s.chain.gen + 1, chain.addr := a, chain.hops := 0, chain.disc := some d, chain.discAt := none }
  let s2 := (List.range 4).foldl (fun t q => t.modRport q (fun r => { r with range := none })) s1
  let s3 := if old = a then s2 else s2.raise 0x0F02 (bytesOf 2 old.toNat ++ bytesOf 2 a.toNat)
  s3.discNext 6

end Sys2Proof.Machine
end

