-- ==== Sys2Proof/Machine/RidgeLanes.lean ====
section
/-! DEFINITION. The lane-level rows of the Ridge ports: bring-up, deskew, credit initialisation, retrain, sleep and wake
(R255 to R287, R316). Each acts where its port stands at the stage the row belongs to; elsewhere only time passes. -/

namespace Sys2Proof.Machine

open Sys2Proof

/-- A port is powered and runs bring-up or is up. -/
def State.portAlive (s : State) (q : Nat) : Bool :=
  (s.rport q).active && s.domOn (24 + q) && (s.rport q).idleTo.isNone

/-- The length of a run of agreeing values after one more value. -/
def runOf (x : Lane) (v : Nat) : Nat :=
  if 0 < x.run && x.last = v then x.run + 1 else 1

/-! ### Adaptation (R260, R275, R279, R281, R285) -/

/-- The peaking and the eye that adaptation has reached: free values (log entry 144). -/
def State.adaptTo (s : State) (q l : Nat) : State :=
  s.took.took.took.modRport q (fun r => r.modLane l (fun x => { x with
    ctle := Config.freeNat s.free % 17
    eyeH := Config.freeNat (s.free + 1) % 256
    eyeW := Config.freeNat (s.free + 2) % 256 }))

/-- A receiver adapts: past stage 2, its direction awake, ADAPT_HOLD 0 (R260, R282). -/
def RidgePort.adapts (r : RidgePort) (l : Nat) : Bool :=
  let x := r.lane l
  r.active && !bitN r.cfg.toNat 7 && (if l = 0 then 3 ≤ x.stage else r.takesPart (l - 1) && 4 ≤ x.stage && !x.asleep)

/-- A receiver that adapts stands at new values; a frozen one keeps its own (R260). -/
def State.adapt (s : State) (q l : Nat) : State :=
  if (s.rport q).adapts l then s.adaptTo q l else s

/-- What a reading finds on a lane: adaptation, and its counts (R260, R279, R281; log entry 144). -/
def State.observeLane (s : State) (q l : Nat) : State :=
  (s.adapt q l).countLane q l

/-- As `observeLane`, every lane of a port. -/
def State.observeLanes (s : State) (q : Nat) : State :=
  (List.range 4).foldl (fun t l => t.observeLane q l) s

/-! ### Stages 1 to 3 -/

/-- SIGNAL_DETECT: stage 1 ends, and stage 2 starts on every lane (R268). -/
def execSignalDetect (dt : Nat) (port : Fin 4) (s : State) : Res :=
  run dt s (fun s =>
    let q := port.val
    let r := s.rport q
    if s.portAlive q && !r.up && (r.lane 0).stage = 1 then
      s.modRport q (fun r => [1, 2, 3].foldl (fun r l => if (r.lane l).stage = 2 then r.toStage l 2 s.clk else r)
        ({ r with absent := false }.toStage 0 2 s.clk))
    else s)

/-- CDR_LOCK: stage 2 ends on a lane; the peaking and the eye it finds are free values (R260, R268, R285). -/
def execCdrLock (dt : Nat) (port : Fin 4) (lane : Fin 4) (s : State) : Res :=
  run dt s (fun s =>
    let q := port.val
    let l := lane.val
    let r := s.rport q
    let can := if l = 0 then !r.up else r.dataRuns && r.takesPart (l - 1)
    if s.portAlive q && can && (r.lane l).stage = 2 then
      (s.adaptTo q l).modRport q (fun r => r.toStage l (if l = 0 then 3 else 4) s.clk)
    else s)

/-- COMMA_ALIGNMENT: stage 3 ends on the control lane; at the upstream port the root PLL takes its clock (R268, R289, R442). -/
def execCommaAlignment (dt : Nat) (port : Fin 4) (s : State) : Res :=
  run dt s (fun s =>
    let q := port.val
    let r := s.rport q
    if s.portAlive q && !r.up && (r.lane 0).stage = 3 then
      let s1 := s.modRport q (fun r => r.toStage 0 4 s.clk)
      if s.upPort = some q then s1.takeRef (some q) else s1
    else s)

/-! ### CTS and DTP (R265, R266, R268 to R270) -/

/-- The XOR of the first five bytes of the symbols of a CTS (R265). -/
def ctsChk (x : Nat) : Nat :=
  (List.range 5).foldl (fun a i => a ^^^ fld x (8 * i) 8) 0

/-- No data lane remains in use, and not all three are retired: the bring-up fails (R269). -/
def State.noLane (s : State) (q : Nat) : State :=
  let r := s.rport q
  if r.active && (!r.up || r.retrain) && r.inUse = 0 && !r.allRetired then s.portFail q 0x6002 else s

/-- The partner calls for a retrain of an up port: its STAGE falls below 9, or it announces a lane retired (R273, R277, R299). -/
def RidgePort.called (r : RidgePort) (stage : Nat) (ret : BitVec 3) : Bool :=
  r.up && !r.retrain && ((r.pStage = 9 && stage < 9) || (ret &&& ~~~(r.ret ||| r.pRet)) != 0)

/-- The partner's fields of a CTS or LINK slot are taken. Its retrain starts one here; DRDY and EXCL of a partner that has not joined the
retrain in progress belong to the time before it and are not taken (R265, R269, R273, R299). The transmitter may switch, and a port of
no lane may end its bring-up. -/
def State.takePartner (s : State) (q stage drdy excl ret lcs : Nat) : State :=
  let pRet := BitVec.ofNat 3 ret
  let s1 := if (s.rport q).called stage pRet then
      (s.modRport q (fun r => { r with pRet := pRet })).portRetrain q
    else s
  let r := s1.rport q
  let old := r.retrain && r.pStage = 9 && stage = 9
  (((s1.modRport q (fun r => { r with
    pStage := stage, pRet := pRet, pLcs := BitVec.ofNat 4 lcs
    pDrdy := if old then r.pDrdy else BitVec.ofNat 3 drdy
    pExcl := if old then r.pExcl else BitVec.ofNat 3 excl })).switchCheck q).widthZero q).noLane q

/-- The CTS that the control lane repeats until the link is up: its eight symbols, K28.5 first, D10.2 last (R265). -/
def State.ctsSent (s : State) (q : Nat) : List Byte :=
  let r := s.rport q
  let b := [q, r.stage % 16, r.drdy + 8 * r.exclSent, r.retSent, lcsCode s.life.lcs]
  ([0xBC] ++ b ++ [b.foldl (· ^^^ ·) 0, 0x4A]).map (BitVec.ofNat 8)

/-- The DTP unit of a transmit lane in wire order: marker, zeros, and LANE, PORT, 12 zeros and parity in Manchester code (R266). -/
def dtpUnit (port lane : Nat) : List Bool :=
  List.replicate 24 true ++ List.replicate 8 false
    ++ (bitsMsb 17 (oddParity 16 (lane * 2 ^ 14 + port * 2 ^ 12))).flatMap (fun b => [b, !b])

/-- CTS_RECEIVED: `sym` holds symbols 1 to 6, symbol 1 lowest; `inverted`: symbol 7 reads D21.5 (R265, R268). -/
def execCtsReceived (dt : Nat) (port : Fin 4) (sym : BitVec 48) (inverted : Bool) (s : State) : Res :=
  run dt s (fun s =>
    let q := port.val
    let x := sym.toNat
    let c := (s.rport q).lane 0
    if s.portAlive q && !(s.rport q).up && 4 ≤ c.stage && ctsChk x = fld x 40 8 then
      let n := runOf c (b2n inverted)
      let take := fun (t : State) => t.takePartner q (fld x 8 4) (fld x 16 3) (fld x 19 3) (fld x 24 3) (fld x 32 4)
      if c.stage = 4 then
        (if 4 ≤ n then
          take (s.modRport q (fun r => (r.toStage 0 9 s.clk).modLane 0 (fun c => { c with inv := inverted })))
         else s.modRport q (fun r => r.modLane 0 (fun c => { c with run := n, last := b2n inverted })))
      else if 8 ≤ c.stage then take s
      else s
    else s)

/-- The map that a physical lane's LANE value asks for (R270): none, any, identity or reversal. -/
def mapOf (phys lane : Nat) : Option (Option Bool) :=
  if phys = 1 then (if lane = 1 then some none else none)
  else if lane = phys then some (some false)
  else if lane = 2 - phys then some (some true)
  else none

/-- The three bits of a lane set in reverse order. -/
def rev3 (x : BitVec 3) : BitVec 3 :=
  BitVec.ofNat 3 (revBits 3 x.toNat)

/-- A data lane has settled on a LANE value: the map is fixed or found invalid (R270). Exclusions follow the physical lane. -/
def State.settleLane (s : State) (q m lane : Nat) : State :=
  let r := s.rport q
  let dup := r.parts.any (fun k => k != m && (r.lane (k + 1)).lane = some lane)
  match mapOf m lane, dup with
  | some want, false =>
    s.modRport q (fun r =>
      let rev := want.getD r.rev
      ({ r with rev := rev, excl := if rev = r.rev then r.excl else rev3 r.excl }.toStage (m + 1) 6 s.clk).modLane (m + 1)
        (fun x => { x with lane := some lane }))
  | _, _ => s.portFail q 0x6005

/-- DTP_RECEIVED: `inverted`: the marker reads zeros; `code`: the 17 Manchester bits after the inversion in force (R266,
R268, R270). -/
def execDtpReceived (dt : Nat) (port : Fin 4) (phys : Fin 3) (inverted : Bool) (code : BitVec 17) (s : State) : Res :=
  run dt s (fun s =>
    let q := port.val
    let m := phys.val
    let r := s.rport q
    let x := r.lane (m + 1)
    if s.portAlive q && r.dataRuns && r.takesPart m then
      if x.stage = 4 then
        let n := runOf x (b2n inverted)
        if 4 ≤ n then
          s.modRport q (fun r => (r.toStage (m + 1) 5 s.clk).modLane (m + 1) (fun x => { x with inv := inverted }))
        else s.modRport q (fun r => r.modLane (m + 1) (fun x => { x with run := n, last := b2n inverted }))
      else if x.stage = 5 then
        let lane := fld code.toNat 15 2
        if popN 17 code.toNat % 2 = 0 then s.modRport q (fun r => r.modLane (m + 1) (fun x => { x with run := 0 }))
        else
          let n := runOf x lane
          if 3 ≤ n then s.settleLane q m lane
          else s.modRport q (fun r => r.modLane (m + 1) (fun x => { x with run := n, last := lane }))
      else s
    else s)

/-- BLOCK_LOCK: 64 valid sync headers in a row end stage 6 on a data lane (R268, R271). -/
def execBlockLock (dt : Nat) (port : Fin 4) (lane : Fin 3) (s : State) : Res :=
  run dt s (fun s =>
    let q := port.val
    let r := s.rport q
    if s.portAlive q && r.dataRuns && r.takesPart lane.val && (r.lane (lane.val + 1)).stage = 6 then
      s.modRport q (fun r => r.toStage (lane.val + 1) 7 s.clk)
    else s)

/-! ### Deskew blocks (R267, R268, R272, R276, R277) -/

/-- A deskew block in stage 7: DSK of one SEQ on every lane in use for two SEQ values that follow one another end it, and stage 8 begins
with an INIT block (R268, R316). -/
def State.deskew (s : State) (q m seq : Nat) : State :=
  let r := s.rport q
  let x := r.lane (m + 1)
  let again := (tget none r.dskSeq m).isSome
  let seqs := tput none (if again then [] else r.dskSeq) m (some (BitVec.ofNat 16 seq))
  let follows := x.run = 0 || (x.last + 1) % 65536 = seq
  let run0 := if again || !follows then 0 else r.dskRun
  let all := r.parts.all (fun k => 7 ≤ (r.lane (k + 1)).stage && tget none seqs k = some (BitVec.ofNat 16 seq))
  let run1 := if all then run0 + 1 else run0
  let s1 := s.modRport q (fun r => { r with dskSeq := if all then [] else seqs, dskRun := run1 }.modLane (m + 1)
    (fun x => { x with last := seq, run := 1 }))
  if 2 ≤ run1 then (s1.modRport q (fun r => r.allTo 8 s.clk)).sendInit q else s1

/-- A data lane of an up port fails: its upset, and one retrain (R273, R287). -/
def State.laneFail (s : State) (q code : Nat) (logical : List Nat) : State :=
  let s1 := logical.foldl (fun t k => t.fault code 7 (3 * q + k)) s
  if (s1.rport q).retrain then s1 else s1.portRetrain q

/-- A deskew block in stage 7: one outside the 40 ns of the others marks its lane, and any but a good one starts the count of SEQ
values again (R268). -/
def State.deskewStage (s : State) (q m seq : Nat) (good inPlace : Bool) : State :=
  let s1 := s.modRport q (fun r => r.modLane (m + 1) (fun x => { x with late := !inPlace }))
  if good && inPlace then s1.deskew q m seq
  else s1.modRport q (fun r => { r with dskSeq := [], dskRun := 0 })

/-- A deskew block in stage 8 is checked against the one before; a wrong one makes the port deskew again, and charges nothing
(R272, R273). -/
def State.deskewCheck (s : State) (q m seq : Nat) (good : Bool) : State :=
  if good then s.modRport q (fun r => r.modLane (m + 1) (fun x => { x with last := seq }))
  else s.modRport q (fun r => { r.allTo 7 s.clk with dskSeq := [], dskRun := 0 })

/-- A deskew block of a sleeping lane: a good one in place with SLEEP 0 wakes the lane, whatever SEQ the receiver missed; a lane retired
in the sleep makes the wake a retrain (R275 to R277). -/
def State.dskWakes (s : State) (q m seq : Nat) (good sleep : Bool) : State :=
  if !good || sleep then s
  else
    let s1 := s.modRport q (fun r => r.modLane (m + 1) (fun x => { x with last := seq, asleep := false }))
    if (s.rport q).retDue != 0 then s1.portRetrain q
    else s1.modRport q (fun r => { r with rxSleep := r.parts.any (fun k => (r.lane (k + 1)).asleep) })

/-- A deskew block of an up port: its place, its CRC and its SEQ are checked; SLEEP freezes the lane's adaptation (R260, R272, R275). -/
def State.dskInService (s : State) (q m seq : Nat) (good sleep : Bool) : State :=
  let r := s.rport q
  let x := r.lane (m + 1)
  if x.asleep then s.dskWakes q m seq good sleep
  else if !good || (x.last + 1) % 65536 != seq then s.laneFail q 0x6004 [r.logical m]
  else
    let s1 := s.modRport q (fun r => r.modLane (m + 1) (fun x => { x with last := seq }))
    if sleep then
      ((s1.adapt q (m + 1)).countLane q (m + 1)).modRport q (fun r => { r.modLane (m + 1) (fun x => { x with asleep := true }) with rxSleep := true })
    else s1

/-- A physical lane of an up port loses its block lock in the block period in progress: of a lock and a deskew that both fail in it the loss
of lock alone is charged (R287). -/
def State.locksGo (s : State) (q m : Nat) : Bool :=
  let r := s.rport q
  (rowsWithin blockTicks s.pending).any (fun c => match c with
    | .dataLockLost _ p loss => p.val = q && bitN loss.lanes.toNat (r.logical m) && (r.lane (m + 1)).asleep == loss.preamble
    | _ => false)

/-- DSK_BLOCK: the payload of a control block of type 0xD5 on a physical lane; `inPlace`: it stands in its place, or within 40 ns
of the other lanes' in stage 7 (R267, R272). -/
def execDskBlock (dt : Nat) (port : Fin 4) (phys : Fin 3) (payload : BitVec 64) (inPlace : Bool) (s : State) : Res :=
  run dt s (fun s =>
    let q := port.val
    let m := phys.val
    let r := s.rport q
    let b := bytesOf 8 payload.toNat
    let good := crc8 (b.take 7) == leAt b 7 1
    let seq := leAt b 2 2
    let stage := (r.lane (m + 1)).stage
    let sleep := bitN payload.toNat 32
    if !(s.portAlive q && r.takesPart m && leAt b 0 1 = 0xD5) then s
    else if r.dataRuns then
      (if stage = 7 then s.deskewStage q m seq good inPlace
       else if stage = 8 then s.deskewCheck q m seq (good && inPlace && ((r.lane (m + 1)).last + 1) % 65536 = seq)
       else s)
    else if r.up then
      (if s.locksGo q m then s else s.dskInService q m seq (good && inPlace) sleep)
    else s)

/-! ### Deskew blocks sent, and sleep (R267, R275 to R277) -/

/-- The windows of a port in a mode's column (R317), as start and end in chain time. -/
def State.windowsOf (s : State) (q m col start : Nat) : List (Nat × Nat) :=
  match s.sched.slice with
  | some x => (x.ridge.filter (fun e => e.port = q && e.mode = m && (e.allCol || e.column = col))).map (fun e =>
      (start + engCk * e.start, start + engCk * (e.start + e.len)))
  | none => []

/-- The columns whose windows count now, as mode, number and start: that in progress and the two after it, which reach past the next 20 µs
in every mode; where warm-up has fixed B and D, those of the new mode from D on (R32, R45, R275, R317). -/
def State.comingCols (s : State) : List (Nat × Nat × Nat) :=
  let now_ := match s.mode.cur with
    | some c =>
      let next := fun k => (c.col + k) % (parOf c.mode).columns
      [(c.mode, c.col, c.start), (c.mode, next 1, c.stop), (c.mode, next 2, c.stop + (c.stop - c.start))]
    | none => []
  match s.mode.change with
  | some ch =>
    if !ch.warm then now_
    else
      let p := parOf ch.mode
      let j := colAtOrAfter p s.epoch ch.d
      now_.filter (fun x => x.2.2 < ch.d)
        ++ (List.range 3).map (fun i => (ch.mode, (j + i) % p.columns, colStart p s.epoch (j + i)))
  | none => now_

/-- The windows of a port in the columns that count now (R275, R276, R317). -/
def State.windows (s : State) (q : Nat) : List (Nat × Nat) :=
  s.comingCols.flatMap (fun x => s.windowsOf q x.1 x.2.1 x.2.2)

/-- The data class of a port has something to send: a packet, a slot report of its own, or credits to return (R275, R276, R316). -/
def State.hasData (s : State) (q : Nat) : Bool :=
  !(s.rport q).txQ.isEmpty || 0 < (s.rport q).pendCr || s.chain.toReport.any (fun x => x.1 = q && x.2.2 ≤ s.now)

/-- The payload of a deskew block (R267). -/
def dskPayload (lane seq : Nat) (sleep : Bool) : BitVec 64 :=
  let b := [0xD5, BitVec.ofNat 8 lane] ++ bytesOf 2 seq ++ [BitVec.ofNat 8 (b2n sleep), 0, 0]
  BitVec.ofNat 64 (ofBytes (b ++ [BitVec.ofNat 8 (crc8 b)]))

/-- DSK blocks go out on all active data lanes in `n` block periods that follow one another (R267, R276). -/
def State.sendDsk (s : State) (q : Nat) (sleep : Bool) (n : Nat) : State :=
  let r := s.rport q
  let blocks := (onesOf 3 r.inUse).map (fun k => (k, dskPayload k r.txSeq.toNat sleep))
  (s.modRport q (fun r => { r with
    txSeq := r.txSeq + BitVec.ofNat 16 n, dskAt := some (s.clk + (n - 1) * blockTicks) })).say (.dsk q blocks n)

/-- A transmit direction is awake and its next DSK is due: none since the switch, or 1,024 blocks since the last (R267). -/
def State.dskDue (s : State) (q : Nat) : Bool :=
  let r := s.rport q
  s.portAlive q && r.switched && !r.txSleep && 0 < r.width && (match r.dskAt with
    | some t => t + 1024 * blockTicks ≤ s.clk
    | none => true)

/-- A direction may sleep: SLEEP_EN, nothing to send for SLEEP_IDLE, and no window within 20 µs (R275). -/
def State.maySleep (s : State) (q : Nat) : Bool :=
  let r := s.rport q
  r.up && !r.retrain && bitN r.cfg.toNat 6 && !s.hasData q && r.idleAt + us (fld r.cfg.toNat 8 8) ≤ s.clk
    && (s.windows q).all (fun w => w.1 < s.now || s.now + us 20 < w.1)

/-- The DSK that is due goes out, with SLEEP where the direction goes to sleep with it (R267, R275). -/
def State.nextDsk (s : State) (q : Nat) : State :=
  if s.maySleep q then (s.sendDsk q true 1).modRport q (fun r => { r with txSleep := true }) else s.sendDsk q false 1

/-- DSK_SEND: the deskew block of every 1,024 blocks, after the switch and while the direction is awake, and in stage 8
the INIT block that is due (R267, R275, R316). -/
def execDskSend (dt : Nat) (port : Fin 4) (s : State) : Res :=
  run dt s (fun s => if s.dskDue port.val then (s.repeatInit port.val).nextDsk port.val else s.repeatInit port.val)

/-- SLEEP_ENTRY: a direction that may sleep does so with its next DSK (R275). -/
def execSleepEntry (dt : Nat) (port : Fin 4) (s : State) : Res :=
  run dt s (fun s => if s.dskDue port.val && s.maySleep port.val then s.nextDsk port.val else s)

/-- A sleeping direction wakes: 582 DSK blocks with SLEEP 0; a lane retired in its sleep makes the wake a retrain (R276, R277). -/
def State.wakePort (s : State) (q : Nat) : State :=
  let s1 := (s.sendDsk q false 582).modRport q (fun r => { r with txSleep := false, idleAt := s.clk })
  if (s.rport q).retDue != 0 then s1.portRetrain q else s1

/-- A window begins within 20 µs, or is open: the preamble of 1.5 µs ends before it where the wake comes in time (R276). -/
def State.windowNear (s : State) (q : Nat) : Bool :=
  (s.windows q).any (fun w => w.1 ≤ s.now + us 20 && s.now < w.2)

/-- WAKE: for data to send, or for a window (R276). -/
def execWake (dt : Nat) (port : Fin 4) (s : State) : Res :=
  run dt s (fun s =>
    let q := port.val
    let r := s.rport q
    if s.portAlive q && r.up && !r.retrain && r.txSleep && (s.hasData q || s.windowNear q) then s.wakePort q else s)

/-! ### Stage 8 and the failures of bring-up -/

/-- A received control block is of a type and its CRC-8 holds (R311). -/
def isBlock (type : Nat) (payload : BitVec 64) : Bool :=
  let b := bytesOf 8 payload.toNat
  leAt b 0 1 = type && crc8 (b.take 7) == leAt b 7 1

/-- A control block with a bad CRC-8 or a reserved type is counted (R311). -/
def State.badBlock (s : State) (q : Nat) : State :=
  s.modRport q (fun r => { r with badBlocks := (r.badBlocks + 1) % 2 ^ 32 })

/-- A control block has a bad CRC-8 or a reserved type (R311). -/
def unknownBlock (b : BitVec 64) : Bool :=
  [0x1E, 0x2D, 0x33, 0x4B, 0x66, 0xD5].all (fun type => !isBlock type b)

/-- A control block that its place gives no effect is ignored, and counted where it is no good one (R311). -/
def State.countBlock (s : State) (q : Nat) (b : BitVec 64) : State :=
  if unknownBlock b then s.badBlock q else s

/-- CREDIT_INITIALISATION: an INIT block of the partner; the reply carries ACK, and ACK both ways ends stage 8 (R268, R311, R316). -/
def execCreditInitialisation (dt : Nat) (port : Fin 4) (type : Byte) (content : BitVec 56) (s : State) : Res :=
  run dt s (fun s =>
    let payload := content ++ type
    let q := port.val
    let r := s.rport q
    if !s.portAlive q || !r.inStage8 then s
    else if isBlock 0x2D payload then
      let ack := r.gotAck || bitN payload.toNat 24
      let s1 := (s.modRport q (fun r => { r with
        gotInit := true, gotAck := ack, offered := fld payload.toNat 8 16 })).sendInit q
      if ack then s1.linkUp q else s1
    else s.countBlock q payload)

/-- The time limit of a stage on a lane, ticks (R268, R273). -/
def stageLimit (retrain : Bool) (lane stage : Nat) : Nat :=
  match stage with
  | 1 => ms 10
  | 2 => if lane = 0 || retrain then us 100 else ms 1
  | 6 => ms 2
  | 8 => us 50
  | _ => us 20

/-- The physical data lanes that a timeout of stage 7 singles out: outside the 40 ns, where another lane is not (R268). -/
def RidgePort.singledOut (r : RidgePort) : List Nat :=
  let late := r.parts.filter (fun m => (r.lane (m + 1)).late)
  if late.length = r.parts.length then [] else late

/-- The instant from which the limit of a lane's stage runs: stage 7 is the port's and begins with the last lane in use (R268). -/
def RidgePort.stageFrom (r : RidgePort) (l : Nat) : Option Nat :=
  let x := r.lane l
  if l != 0 && x.stage = 7 then
    (if r.parts.all (fun m => 7 ≤ (r.lane (m + 1)).stage) then some ((r.parts.map (fun m => (r.lane (m + 1)).since)).foldl max 0)
     else none)
  else some x.since

/-- BRINGUP_TIMEOUT: a stage passes its time limit on a lane (R268). -/
def execBringupTimeout (dt : Nat) (port : Fin 4) (lane : Fin 4) (s : State) : Res :=
  run dt s (fun s =>
    let q := port.val
    let l := lane.val
    let r := s.rport q
    let x := r.lane l
    let runs := if l = 0 then !r.up && (x.stage ≤ 4 || x.stage = 8) else r.dataRuns && r.takesPart (l - 1) && x.stage ≤ 8
    if s.portAlive q && runs && (r.stageFrom l).any (fun t => t + stageLimit r.retrain l x.stage ≤ s.clk) then
      if l = 0 then
        (if x.stage = 1 then s.modRport q (fun r => { r with absent := true }.toStage 0 1 s.clk)
         else s.portFail q 0x6002)
      else if x.stage = 8 then s.portFail q 0x6002
      else if x.stage = 7 then
        (if r.singledOut.isEmpty then s.portFail q 0x6002
         else r.singledOut.foldl (fun t m => t.exclude q m false) s)
      else s.exclude q (l - 1) (x.stage = 2)
    else s)

/-- BRINGUP_RESTART: after 20 µs of electrical idle bring-up starts from stage 1 (R268). -/
def execBringupRestart (dt : Nat) (port : Fin 4) (s : State) : Res :=
  run dt s (fun s =>
    match (s.rport port.val).idleTo with
    | some t => if t ≤ s.clk && s.portRuns port.val then s.portStart port.val else s
    | none => s)

/-- A data lane in stage 7 or 8 loses block lock: it is back in stage 6, and the port deskews again. Bring-up charges nothing for it
(R268, R271). -/
def State.lockAgain (s : State) (q m : Nat) : State :=
  if 7 ≤ ((s.rport q).lane (m + 1)).stage then
    (s.countLane q (m + 1)).modRport q (fun r =>
      let back := if r.parts.any (fun k => (r.lane (k + 1)).stage = 8) then r.parts else []
      let r1 := back.foldl (fun r k => r.toStage (k + 1) 7 s.clk) r
      { r1.toStage (m + 1) 6 s.clk with dskSeq := [], dskRun := 0 })
  else s

/-- The 16 invalid headers that lose block lock are counted (R271, R281). -/
def State.lockHeaders (s : State) (q m : Nat) : State :=
  s.modRport q (fun r => r.modLane (m + 1) (fun x => { x with badHdr := sat 32 (x.badHdr + 16) }))

/-- DATA_LOCK_LOST: logical data lanes lose block lock in one block period; `preamble`: lanes that slept have not regained it by the
end of the wake preamble. A lane that sleeps is not watched (R271, R273, R275, R276, R287). -/
def execDataLockLost (dt : Nat) (port : Fin 4) (loss : LockLoss) (s : State) : Res :=
  run dt s (fun s =>
    let q := port.val
    let r := s.rport q
    let hit := r.parts.filter (fun m => bitN loss.lanes.toNat (r.logical m) && 6 ≤ (r.lane (m + 1)).stage
      && (r.lane (m + 1)).asleep == loss.preamble)
    if !s.portAlive q || hit.isEmpty then s
    else
      let s1 := hit.foldl (fun t m => t.lockHeaders q m) s
      if r.dataRuns then hit.foldl (fun t m => t.lockAgain q m) s1
      else if r.up then s1.laneFail q 0x6003 (hit.map r.logical)
      else s1)

/-- CTL_LANE_LOST: the control lane of an up link is lost, or its signal is lost in bring-up, which charges nothing (R268,
R273, R287). -/
def execCtlLaneLost (dt : Nat) (port : Fin 4) (s : State) : Res :=
  run dt s (fun s =>
    let q := port.val
    let r := s.rport q
    if s.portAlive q && r.up then s.portFail q 0x6001
    else if s.portAlive q && 2 ≤ (r.lane 0).stage then s.portRestart q 2
    else s)

/-- EXCLUDED_LANE_RETRAIN: an excluded lane that is not retired is tried again, 1 s after link up or the last retrain, and not
more often than once in 10 s (R274). -/
def execExcludedLaneRetrain (dt : Nat) (port : Fin 4) (s : State) : Res :=
  run dt s (fun s =>
    let q := port.val
    let r := s.rport q
    let lanes := (r.excl ||| r.pExcl) &&& ~~~(r.ret ||| r.pRet)
    let quiet := match r.askAt with
      | some t => t + sec 10 ≤ s.clk
      | none => true
    if s.portAlive q && r.up && !r.retrain && lanes != 0 && r.upAt + sec 1 ≤ s.clk && quiet then
      (s.portRetrain q).modRport q (fun r => { r with again := lanes, askAt := some s.clk })
    else s)

/-! ### What the transmit lanes carry (R265, R266, R269, R277 to R280) -/

/-- The exponents of a pattern's polynomial: PRBS7, PRBS15, PRBS31 (R279, R283). -/
def prbsTaps (n : Nat) : Nat × Nat :=
  match n with
  | 1 => (7, 6)
  | 2 => (15, 14)
  | _ => (31, 28)

/-- The next bit of a pattern after the bits before it, newest first (R279). -/
def prbsBit (taps : Nat × Nat) (past : List Bool) : Bool :=
  past.getD (taps.1 - 1) false != past.getD (taps.2 - 1) false

/-- What a transmit lane carries. -/
inductive TxLane where
  | idle
  | cts (symbols : List Byte)
  | slots
  | dtp (unit : List Bool)
  | blocks
  | looped
  | pattern (taps : Nat × Nat)
  deriving DecidableEq, Repr

/-- What a transmit lane of a port carries, 0 for C: a test loop or pattern, electrical idle, training, or traffic (R265, R266, R268,
R269, R275, R277 to R280). -/
def State.txLane (s : State) (q l : Nat) : TxLane :=
  let r := s.rport q
  let w := r.test.toNat
  let loop := fld w 0 3
  let sel := bitN w (3 + l)
  if !s.domOn (24 + q) || s.retired 8 q then .idle
  else if sel && loop = 3 then .looped
  else if sel && bitN w 9 && (loop = 0 || loop = 4) then .pattern (prbsTaps (fld w 7 2))
  else if loop != 0 || !s.portAlive q then .idle
  else if l = 0 then (if r.up then .slots else .cts (s.ctsSent q))
  else if bitN r.retSent (l - 1) || r.txSleep then .idle
  else if r.switched then .blocks
  else .dtp (dtpUnit q (l - 1))

end Sys2Proof.Machine
end

