-- ==== Sys2Proof/Machine/CmdChain.lean ====
section
/-! DEFINITION. The commands of the classes RIDGE, CHAIN, HOST and SEM (R281 to R285, R318, R319, R328, R344, R368, R369). -/

namespace Sys2Proof.Machine

open Sys2Proof

/-! ### RIDGE -/

/-- P0 names no port. -/
def portArg (c : Ctx) : Option (Nat × Nat) :=
  if 3 < c.p 0 1 then some (stBadArg, 40) else none

/-- RIDGE.LANE_CFG (R281, R282, R287): the word is in force from the next bring-up or retrain; APPLY retrains at once, and in a
retrain its values wait for the next stage 2. -/
def cmdRidgeLaneCfg : CmdDef :=
  { op := 0x0E01
    critical := true
    sem := fun _ => 3
    states := fun s _ => inIdle s
    plen := 8
    mask := pMask 0 0 + 0x1FFFF * 2 ^ 32
    args := fun _ c => portArg c
    act := fun s c =>
      let q := c.p 0 1
      let w := c.p 4 4
      let apply := bitN w 16
      if 5 < fld w 3 3 then s.badP 4
      else if fld w 8 8 < 10 then s.badP 5
      else if s.retired 8 q then s.fail stRetired
      else if apply && !(s.rport q).up then s.fail stBadState
      else
        let s1 := s.modRport q (fun r => { r with
          cfgSet := BitVec.ofNat 32 (setFld w 16 1 0), cfg := if r.active then r.cfg else BitVec.ofNat 32 (setFld w 16 1 0) })
        (if apply && !(s.rport q).retrain then s1.portRetrain q else s1).ok }

/-- RIDGE_LANE_CFG (R282). -/
def execRidgeLaneCfg (dt : Nat) (r : Req) (s : State) : Res :=
  run dt s (State.command cmdRidgeLaneCfg r)

/-- The PRBS counts of the lanes selected by a test word start at 0 (R283). -/
def RidgePort.clearPrbs (r : RidgePort) (w : Nat) : RidgePort :=
  if bitN w 10 then
    { r with lanes := (onesOf 4 (fld w 3 4)).foldl (fun t l => tmod {} t l (fun x => { x with prbs := 0 })) r.lanes }
  else r

/-- RIDGE.LANE_TEST (R279, R280, R283). -/
def cmdRidgeLaneTest : CmdDef :=
  { op := 0x0E02
    critical := true
    sem := fun _ => 3
    states := fun s _ => s.life.lcs == .service
    plen := 8
    mask := pMask 0 0 + 0x7FF * 2 ^ 32
    args := fun _ c => portArg c
    act := fun s c =>
      let q := c.p 0 1
      let w := c.p 4 4
      if 4 < fld w 0 3 then s.badP 4
      else if s.retired 8 q then s.fail stRetired
      else
        let was := fld (s.rport q).test.toNat 0 3 != 0
        let now_ := fld w 0 3 != 0
        let s1 := (s.countLanes q).modRport q (fun r => { r.clearPrbs w with test := BitVec.ofNat 32 w })
        (if now_ && !was then s1.portStop q 2
         else if was && !now_ && s1.portRuns q then s1.portStart q
         else s1).ok }

/-- RIDGE_LANE_TEST (R280). -/
def execRidgeLaneTest (dt : Nat) (r : Req) (s : State) : Res :=
  run dt s (State.command cmdRidgeLaneTest r)

/-- The 68 bytes of RIDGE.LANE_STATUS: the port word, the lane words, and the counts of each lane (R281, R284, R285, R368). -/
def State.laneStatus (s : State) (q : Nat) : List Byte :=
  bytesOf 4 (s.portWord q) ++ (List.range 4).flatMap (fun l => bytesOf 4 (s.laneWord q l))
    ++ (List.range 4).flatMap (fun l =>
      let x := (s.rport q).lane l
      bytesOf 4 x.badHdr ++ bytesOf 4 x.retrains ++ bytesOf 4 x.prbs)

/-- RIDGE.LANE_STATUS (R281, R284, R285, R368): the lanes as they are found at the reading. -/
def cmdRidgeLaneStatus : CmdDef :=
  { op := 0x0E03
    states := fun s _ => inAll s
    plen := 1
    mask := pMask 0 0
    data := .out
    args := fun _ c => portArg c
    act := fun s c =>
      let t := s.observeLanes (c.p 0 1)
      t.okData (t.laneStatus (c.p 0 1)) }

/-- RIDGE_LANE_STATUS (R284). -/
def execRidgeLaneStatus (dt : Nat) (r : Req) (s : State) : Res :=
  run dt s (State.command cmdRidgeLaneStatus r)

/-! ### CHAIN -/

/-- The six words of CHAIN.CONFIG. -/
def chainWords (l : List Byte) : List Nat :=
  (List.range 6).map (fun i => leAt l (4 * i) 4)

/-- The first byte of the CHAIN.CONFIG data that R318 or R8 refuses. -/
def chainBad (l : List Byte) : Option Nat :=
  let ws := chainWords l
  let topo := fld (ws.getD 0 0) 0 2
  let en := fun q => bitN (ws.getD (2 + q) 0) 24
  let any := en 0 || en 1 || en 2 || en 3
  if (topo = 0 && any) || ((topo = 1 || topo = 2) && (en 2 || en 3)) || (topo = 2 && !(en 0 && en 1)) then some 0
  else if fld (ws.getD 0 0) 5 11 != 0 then some 0
  else if fld (ws.getD 1 0) 16 16 != 0 then some 6
  else ((List.range 4).find? (fun q => fld (ws.getD (2 + q) 0) 25 7 != 0)).map (fun q => 11 + 4 * q)

/-- A Ridge domain follows ENABLE (R318, R367, R438): it is switched on after the firmware has started, or off. -/
def State.followEnable (s : State) (q : Nat) : State :=
  let d := 24 + q
  if s.ridgeEnabled q then
    (if s.domOn d || s.heldOff d || bitN s.power.domDead.toNat d || s.power.toPower.contains d
        || s.power.ramping.any (fun x => x.1 = d) then s
     else ({ s with power.toPower := s.power.toPower ++ [d] }).rampNext)
  else s.domOff d

/-- The words of CHAIN.CONFIG stand in their registers (R318). -/
def State.chainWrite (s : State) (ws : List Nat) : State :=
  let s1 := { s with
    chain.word := BitVec.ofNat 32 (setFld (ws.getD 0 0) 4 1 0), chain.event := BitVec.ofNat 32 (ws.getD 1 0) }
  (List.range 4).foldl (fun t q => t.modRport q (fun r => { r with word := BitVec.ofNat 32 (ws.getD (2 + q) 0) })) s1

/-- The ports that new words take down and back up: every one with a new TOPO, else those whose ENABLE changes (R318). -/
def State.portsHit (s : State) (ws : List Nat) : List Nat :=
  (List.range 4).filter (fun q => fld (ws.getD 0 0) 0 2 != s.topo || bitN (ws.getD (2 + q) 0) 24 != s.ridgeEnabled q)

/-- A port comes back up under the words in force (R268, R318, R367). -/
def State.portBack (s : State) (q : Nat) : State :=
  let s1 := s.followEnable q
  if s1.portRuns q then s1.portStart q else s1

/-- A device becomes standalone: address 0xFFFF, with EV_CHAIN_ADDRESS where it held another, and aligned on its own (R288, R296,
R304). -/
def State.goAlone (s : State) : State :=
  let old := s.chain.addr
  let s1 := (List.range 4).foldl (fun t q => t.modRport q (fun r => { r with range := none })) s
  let s2 := { s1 with
    chain.addr := 0xFFFF, chain.hi := 0xFFFF, chain.hops := 0xFF, chain.aligned := s1.power.pll, chain.discAt := none
    chain.lostUp := none }
  if old = 0xFFFF then s2 else s2.raise 0x0F02 (bytesOf 2 old.toNat ++ bytesOf 2 0xFFFF)

/-- A device takes a new role from TOPO: discovery in progress and the assigned upstream port are forgotten; a changed upstream port
loses alignment; addresses and routes stay until a new ASSIGN (R288, R296, R297, R304). -/
def State.newTopo (s : State) (oldTopo : Nat) (oldUp : Option Nat) : State :=
  let s1 := { s with chain.upstream := none, chain.disc := none }
  if s1.topo = 0 then s1.goAlone
  else if oldTopo = 0 then { s1 with chain.aligned := s1.isRoot && s1.power.pll }
  else if s1.upPort != oldUp then { s1 with chain.aligned := false }
  else s1

/-- The words of CHAIN.CONFIG come into force: the affected ports go down in their old roles and back up in their new ones, which is a
topology change (R305, R318). -/
def State.chainConfig (s : State) (ws : List Nat) : State :=
  let hit := s.portsHit ws
  let s1 := (hit.foldl (fun t q => t.portStop q 2) s).chainWrite ws
  let s2 := if s1.topo != s.topo then s1.newTopo s.topo s.upPort else s1
  let s3 := hit.foldl State.portBack s2
  if hit.isEmpty then s3 else s3.topoChange 2

/-- CHAIN.CONFIG (R318, R319, R426). -/
def cmdChainConfig : CmdDef :=
  { op := 0x0F01
    critical := true
    sem := fun _ => 3
    states := fun s _ => inIdle s
    data := .inp 24
    act := fun s c =>
      let ws := chainWords c.din
      let persist := bitN (ws.getD 0 0) 4
      if c.din.length != 24 then s.fail stBadArg 20
      else match chainBad c.din with
        | some i => s.badD i
        | none =>
          if persist && !s.flashAllowed then s.fail stTemp
          else
            let s1 := s.chainConfig ws
            (if persist then s1.startJob c (.chain (s1.chain.word :: (ws.drop 1).map (BitVec.ofNat 32))) else s1).ok }

/-- CHAIN_CONFIG (R318). -/
def execChainConfig (dt : Nat) (r : Req) (s : State) : Res :=
  run dt s (State.command cmdChainConfig r)

/-- CHAIN.DISCOVER (R303, R304, R319): at the root; a standalone one finds itself alone (log entry 61). -/
def cmdChainDiscover : CmdDef :=
  { op := 0x0F02
    critical := true
    sem := fun _ => 3
    states := fun s _ => inIdle s && s.isRoot
    act := fun s _ =>
      if s.chain.disc.isSome then s.fail stBusy else (State.startDiscovery { s with chain.retry := false }).ok }

/-- CHAIN_DISCOVER (R303). -/
def execChainDiscover (dt : Nat) (r : Req) (s : State) : Res :=
  run dt s (State.command cmdChainDiscover r)

/-- CHAIN.TIME_SET (R296, R319): the step waits for the next control-cycle start. -/
def cmdChainTimeSet : CmdDef :=
  { op := 0x0F03
    critical := true
    sem := fun _ => 3
    states := fun s _ => inIdle s && s.isRoot
    plen := 8
    mask := pMask 0 7
    act := fun s c =>
      if c.p 0 8 % refillTicks != 0 then s.badP 0 else State.ok { s with chain.setTo := some (c.p 0 8) } }

/-- CHAIN_TIME_SET (R319). -/
def execChainTimeSet (dt : Nat) (r : Req) (s : State) : Res :=
  run dt s (State.command cmdChainTimeSet r)

/-- The items of CHAIN.STATUS in the order of R319, with the words that R318 says it reads. -/
def State.chainItems (s : State) : List Int :=
  let up : Int := match s.upPort with
    | some q => q
    | none => -1
  let delay : Int := match s.upPort with
    | some q => (s.rport q).delay
    | none => 0
  [(s.chain.addr.toNat : Int), s.chain.gen.toNat, s.chain.hops.toNat, up]
    ++ (List.range 4).flatMap (fun q => match (s.rport q).range with
      | some (lo, hi) => [(lo : Int), hi]
      | none => [-1, -1])
    ++ [(b2n s.chain.aligned : Int), s.chain.theta, delay, b2n s.isRoot, sumTo 4 (fun q => (s.rport q).badSlots),
      s.chain.badFrags, s.chain.badPkts, s.chain.dups, s.chain.word.toNat, s.chain.event.toNat]
    ++ (List.range 4).map (fun q => ((s.rport q).word.toNat : Int))

/-- CHAIN.STATUS (R318, R319, R368). -/
def cmdChainStatus : CmdDef :=
  { op := 0x0F04
    states := fun s _ => inAll s
    data := .out
    act := fun s _ => s.okData (padTo 256 (Config.chainStatusBytes s.chainItems)) }

/-- CHAIN_STATUS (R319). -/
def execChainStatus (dt : Nat) (r : Req) (s : State) : Res :=
  run dt s (State.command cmdChainStatus r)

/-! ### HOST -/

/-- An address of unicast range: not 0.0.0.0, not multicast, reserved or broadcast, not loopback; the first octet stands in the
highest byte. -/
def unicast (ip : Nat) : Bool :=
  let a := ip / 2 ^ 24
  1 ≤ a && a ≤ 223 && a != 127

/-- The settings that the data of HOST.NET_CONFIG carries (R369). -/
def netOf (l : List Byte) : NetCfg :=
  let ip := fun o => BitVec.ofNat 32 (ofBytesBE ((l.drop o).take 4))
  let dst := fun (o : Nat) => if ip o = 0 then none else some (⟨ip o, BitVec.ofNat 16 (leAt l (o + 4) 2)⟩ : Endpoint)
  { ip := ip 0, mask := ip 4, gw := ip 8, vlan := bitN (leAt l 12 2) 15, pcp := BitVec.ofNat 3 (fld (leAt l 12 2) 12 3)
    vid := BitVec.ofNat 12 (fld (leAt l 12 2) 0 12), rsFec := bitN (leAt l 14 1) 0, mbPort := BitVec.ofNat 16 (leAt l 16 2)
    evDst := dst 20, stDst := dst 28, stUnits := leAt l 18 2, ptp := BitVec.ofNat 2 (fld (leAt l 14 1) 1 2)
    ptpDom := BitVec.ofNat 8 (leAt l 15 1) }

/-- A netmask is a run of ones from the top. -/
def maskOk (m : Nat) : Bool :=
  (List.range 33).any (fun n => m = 2 ^ 32 - 2 ^ n)

/-- The first byte of the HOST.NET_CONFIG data that R328 or R369 refuses; `ten`: the port is 10GBASE-R. -/
def netBad (ten : Bool) (l : List Byte) : Option Nat :=
  let n := netOf l
  match [(!unicast n.ip.toNat, 0), (!maskOk n.mask.toNat, 4), (n.gw != 0 && !unicast n.gw.toNat, 8),
      (n.vlan && (n.vid = 0 || n.vid = 0xFFF), 12), ((n.rsFec && ten) || n.ptp = 3 || fld (leAt l 14 1) 4 4 != 0, 14),
      (127 < n.ptpDom.toNat, 15), (n.mbPort.toNat < 1024, 16), (n.stUnits = 0 || 90 < n.stUnits, 18),
      (leAt l 26 2 != 0, 26), (leAt l 34 6 != 0, 34)].find? (fun x => x.1) with
  | some x => some x.2
  | none => none

/-- HOST.NET_CONFIG (R328, R369, R426): in force 1 ms after OK. -/
def cmdHostNetConfig : CmdDef :=
  { op := 0x1001
    critical := true
    states := fun s c => inAll s && c.e.pair.isNone && !s.isPcie c.e.port
    data := .inp 40
    act := fun s c =>
      let p := c.e.port
      let persist := bitN (leAt c.din 14 1) 3
      if c.din.length != 40 then s.fail stBadArg 20
      else match netBad (s.portMode p = 3) c.din with
        | some i => s.badD i
        | none =>
          if persist && !s.flashAllowed then s.fail stTemp
          else
            let s1 := s.modPort p (fun h => { h with netNew := some (netOf c.din, s.clk + ms 1) })
            (if persist then s1.startJob c (.net p (netOf c.din)) else s1).ok }

/-- HOST_NET_CONFIG (R328). -/
def execHostNetConfig (dt : Nat) (r : Req) (s : State) : Res :=
  run dt s (State.command cmdHostNetConfig r)

/-- The lockouts of a port: its own, and those of the forwarded pairs that entered by it (R307, R350, R368). DEDUCED (log entry 169): a
lockout of a pair is counted at the port letter that its commands name. -/
def State.lockoutsOf (s : State) (p : HostPort) : Nat :=
  (s.auths.filter (fun a => a.1 % 2 = portIdx p)).foldl (fun n a => n + a.2.lockouts) 0

/-- The items of HOST.STATUS in the order of R368. The rate, in Mb/s, is that of the Ethernet mode, or the negotiated one of a PCI
Express lane. -/
def State.hostItems (s : State) (p : HostPort) : List Int :=
  let h := s.port p
  [(s.portMode p : Int), b2n h.linkUp, if s.portMode p = 2 then 25000 else if s.portMode p = 3 then 10000
      else if s.portMode p = 1 && h.linkUp then ([16000, 8000, 5000, 2500] : List Int).getD h.rate 0 else 0,
    b2n h.net.rsFec, h.discards, s.lockoutsOf p, h.points.lost.toNat, h.events.lost.toNat, h.streamSeq.toNat,
    h.streamLost]

/-- HOST.STATUS (R368). -/
def cmdHostStatus : CmdDef :=
  { op := 0x1002
    states := fun s _ => inAll s
    plen := 1
    mask := pMask 0 0
    data := .out
    act := fun s c =>
      if 1 < c.p 0 1 then s.badP 0
      else s.okData (padTo 128 (Config.hostStatusBytes (s.hostItems (if c.p 0 1 = 0 then .A else .B)))) }

/-- HOST_STATUS (R368). -/
def execHostStatus (dt : Nat) (r : Req) (s : State) : Res :=
  run dt s (State.command cmdHostStatus r)

/-! ### SEM -/

/-- P0 names no semaphore. -/
def semArg (c : Ctx) : Option (Nat × Nat) :=
  if 31 < c.p 0 1 then some (stBadArg, 40) else none

/-- SEM.CLAIM (R344, R368). -/
def cmdSemClaim : CmdDef :=
  { op := 0x1101
    states := fun s _ => inAll s
    plen := 1
    mask := pMask 0 0
    args := fun _ c => semArg c
    act := fun s c =>
      let s1 := s.claim c.e (c.p 0 1)
      s1.ok (bytesOf 4 (s1.semWord (some c.e) (c.p 0 1))) }

/-- SEM.RELEASE (R344, R368). -/
def cmdSemRelease : CmdDef :=
  { op := 0x1102
    states := fun s _ => inAll s
    plen := 1
    mask := pMask 0 0
    args := fun _ c => semArg c
    act := fun s c => if s.holds c.e (c.p 0 1) then (s.release c.e (c.p 0 1)).ok else s.fail stNotOwner }

/-- SEM_RELEASE (R344). -/
def execSemRelease (dt : Nat) (r : Req) (s : State) : Res :=
  run dt s (State.command cmdSemRelease r)

/-- SEM.LEASE (R344, R368): the new length counts from now, as any taken command restarts the lease (R345). -/
def cmdSemLease : CmdDef :=
  { op := 0x1103
    states := fun s _ => inAll s
    plen := 2
    mask := pMask 0 1
    args := fun _ c => semArg c
    act := fun s c =>
      let n := c.p 0 1
      let l := BitVec.ofNat 8 (c.p 1 1)
      if l = 0 then s.badP 1
      else if s.holds c.e n then (s.modSem n (fun x => { x with lease := l, exp := s.clk + leaseTicks l })).ok
      else s.fail stNotOwner }

/-- SEM_LEASE (R344). -/
def execSemLease (dt : Nat) (r : Req) (s : State) : Res :=
  run dt s (State.command cmdSemLease r)

/-- SEM.STATUS (R368): the SEM words as SEM_PEEK reads them. -/
def cmdSemStatus : CmdDef :=
  { op := 0x1104
    states := fun s _ => inAll s
    data := .out
    act := fun s c => s.okData ((List.range 32).flatMap (fun n => bytesOf 4 (s.semWord (some c.e) n))) }

/-- SEM_STATUS (R368). -/
def execSemStatus (dt : Nat) (r : Req) (s : State) : Res :=
  run dt s (State.command cmdSemStatus r)

end Sys2Proof.Machine
end

