-- ==== Sys2Proof/Machine/CmdDev.lean ====
section
/-! DEFINITION. The commands of the classes DEV, MODE, SERVICE, FE, POINT and CAL (R359 to R364, R44 to R51, R73 to R78, R115
to R118). -/

namespace Sys2Proof.Machine

open Sys2Proof

/-! ### DEV -/

/-- DEV.IDENTIFY: the identity record (R361). -/
def cmdDevIdentify : CmdDef :=
  { op := 0x0101
    states := fun s _ => inAll s
    act := fun s c => s.ok (bytesOf 8 s.otp.uid.toNat ++ bytesOf 4 s.life.bootId.toNat ++ [0x41]
      ++ bytesOf 1 s.power.boot.ifl ++ [s.otp.grade] ++ bytesOf 1 s.power.boot.slot ++ bytesOf 4 s.power.boot.version.toNat
      ++ bytesOf 2 s.chain.addr.toNat ++ [BitVec.ofNat 8 (portLetter c.e.port), 0]) }

/-- DEV_IDENTIFY (R361). -/
def execDevIdentify (dt : Nat) (r : Req) (s : State) : Res :=
  run dt s (State.command cmdDevIdentify r)

/-- The lowest replace reason set; 0 when none (R488). -/
def State.lowestReason (s : State) : Nat :=
  ((onesOf 16 s.faults.reasons.toNat).head?).getD 0

/-- The SERVICE time left, s (R359, R360). -/
def State.sessionLeft (s : State) : Nat :=
  match s.life.session with
  | some x => (x.exp - s.clk) / sec 1
  | none => 0

/-- DEV.STATUS (R359). -/
def cmdDevStatus : CmdDef :=
  { op := 0x0102
    states := fun s _ => inAll s
    act := fun s c => s.ok (bytesOf 4 (s.stateWord c.e) ++ bytesOf 2 s.degradedLeft ++ bytesOf 2 s.sessionLeft
      ++ bytesOf 2 (uns 16 s.hk.tj) ++ bytesOf 2 s.faults.active.length ++ bytesOf 1 s.lowestReason) }

/-- DEV_STATUS (R359). -/
def execDevStatus (dt : Nat) (r : Req) (s : State) : Res :=
  run dt s (State.command cmdDevStatus r)

/-- DEV.RESET: the reset runs when the response is written (R359, R444). -/
def cmdDevReset : CmdDef :=
  { op := 0x0103
    critical := true
    sem := fun _ => 5
    states := fun s _ => inIdle s
    act := fun s _ => State.ok { s with power.resetAt := some s.clk } }

/-- DEV_RESET (R359). -/
def execDevReset (dt : Nat) (r : Req) (s : State) : Res :=
  run dt s (State.command cmdDevReset r)

/-! ### MODE -/

/-- MODE.START (R44, R48, R50, R183, R254, R297, R359, R384, R439, R457). -/
def cmdModeStart : CmdDef :=
  { op := 0x0201
    critical := true
    sem := fun _ => 0
    states := fun s _ => !s.race.hold && (s.life.lcs == .standby || (s.running && s.mode.stop.isSome))
    plen := 12
    mask := pMask 0 0 ||| pMask 4 11
    act := fun s c =>
      let m := c.p 0 1
      let t := c.p 4 8
      if (modeParams m).isNone then s.badP 0
      else if s.badStart t (ms 5) then s.badP 4
      else if s.mode.stop.isSome then s.fail stBusyStopping
      else if !s.usable m || !s.sliceFits || !s.chain.aligned || !s.scan.a.locked || s.scan.b.st != .closed
          || !s.islandReady || !s.supplyOk || !s.canMeasure m then s.fail stBadState
      else (s.acceptStart m t).ok }

/-- MODE.STOP (R29, R49, R51, R362): in STANDBY, and while a stop runs, it has no effect. -/
def cmdModeStop : CmdDef :=
  { op := 0x0202
    critical := true
    states := fun s _ => s.running || s.life.lcs == .standby
    act := fun s _ =>
      if s.running && s.mode.stop.isNone then (s.acceptStop 0 (s.life.lcs == .degraded)).ok else s.ok }

/-- MODE_STOP (R362). -/
def execModeStop (dt : Nat) (r : Req) (s : State) : Res :=
  run dt s (State.command cmdModeStop r)

/-- MODE.SET (R28, R44, R46, R48, R49, R359). -/
def cmdModeSet : CmdDef :=
  { op := 0x0203
    critical := true
    sem := fun _ => 0
    states := fun s _ => !s.race.hold && (s.life.lcs == .run || (s.running && s.mode.stop.isSome))
    plen := 12
    mask := pMask 0 0 ||| pMask 4 11
    act := fun s c =>
      let m := c.p 0 1
      let t := c.p 4 8
      if (modeParams m).isNone then s.badP 0
      else if s.badStart t (us 2500) then s.badP 4
      else if s.mode.stop.isSome then s.fail stBusyStopping
      else if s.mode.change.isSome then s.fail stBusy
      else if m = s.mode.mode then s.ok
      else if !s.loaded m then s.fail stBadState
      else (s.acceptSet m t).ok }

/-- MODE.STATUS (R359). B and D of a change read 0 until its warm-up fixes them. -/
def cmdModeStatus : CmdDef :=
  { op := 0x0204
    states := fun s _ => inAll s
    act := fun s _ =>
      let b := match s.mode.change with
        | some c => (c.b, c.d)
        | none => (s.mode.lastB, s.mode.lastD)
      s.ok (bytesOf 1 (if s.running || s.mode.change.isSome then s.mode.mode else s.mode.ranMode) ++ bytesOf 1 (b2n s.mode.change.isSome + 2 * b2n s.mode.stop.isSome)
        ++ bytesOf 2 (if s.running then s.mode.variants else s.variantWord).toNat ++ bytesOf 8 b.1 ++ bytesOf 8 b.2
        ++ bytesOf 4 s.mode.lastFrame ++ bytesOf 2 s.mode.lastCol) }

/-- MODE_STATUS (R359). -/
def execModeStatus (dt : Nat) (r : Req) (s : State) : Res :=
  run dt s (State.command cmdModeStatus r)

/-! ### SERVICE -/

/-- SERVICE.ENTER (R359, R360, R374). -/
def cmdServiceEnter : CmdDef :=
  { op := 0x0301
    critical := true
    sem := fun _ => 0
    states := fun s _ => !s.race.hold && (s.life.lcs == .standby || (s.running && s.mode.stop.isSome))
    plen := 2
    mask := pMask 0 1
    act := fun s c =>
      let n := c.p 0 2
      if n != 0 && (n < 10 || 3600 < n) then s.badP 0
      else if s.mode.stop.isSome then s.fail stBusyStopping
      else
        let secs := if n = 0 then 300 else n
        (({ s with life.session := some { entry := c.e, secs := secs, exp := s.clk + sec secs } }).toState .service).ok }

/-- SERVICE.EXIT (R359). -/
def cmdServiceExit : CmdDef :=
  { op := 0x0302
    critical := true
    sem := fun _ => 0
    states := fun s _ => s.life.lcs == .service
    act := fun s _ => (s.safeHold false).ok }

/-- SERVICE_EXIT (R359). -/
def execServiceExit (dt : Nat) (r : Req) (s : State) : Res :=
  run dt s (State.command cmdServiceExit r)

/-- The next free slot of the service grid whose SHOT frame, 600 ns before it, still lies ahead (R360). -/
def State.nextServiceSlot (s : State) : Nat :=
  let from_ := s.now + 600 * ticksPerNs
  let j0 := (from_ - refillTicks / 2 + (refillTicks - 1)) / refillTicks
  let slot := fun i => refillTicks * (j0 + i) + refillTicks / 2
  match (List.range (s.emit.service.length + 1)).find? (fun i => s.emit.service.all (fun p => p.slot != slot i)) with
  | some i => slot i
  | none => slot 0

/-- SERVICE.PROOF (R359, R360, R384). -/
def cmdServiceProof : CmdDef :=
  { op := 0x0303
    critical := true
    sem := fun _ => 0
    states := fun s _ => s.life.lcs == .service
    plen := 3
    mask := pMask 0 2
    act := fun s c =>
      let i := c.p 0 1
      let pat := c.p 1 1
      let m := c.p 2 1
      if 63 < i || (!s.present i && !s.retired 6 i) then s.badP 0
      else if 63 < pat then s.badP 1
      else if (modeParams m).isNone then s.badP 2
      else if s.retired 6 i then s.fail stRetired
      else if !s.usable m || !s.islandReady then s.fail stBadState
      else State.ok { s with emit.service := s.emit.service ++
        [{ str := i, pat := pat, mode := m, slot := s.nextServiceSlot, driven := none }] } }

/-- SERVICE_PROOF (R360). -/
def execServiceProof (dt : Nat) (r : Req) (s : State) : Res :=
  run dt s (State.command cmdServiceProof r)

/-! ### FE -/

/-- The first byte of a front-end configuration word that R74 refuses. -/
def feBad (w : Nat) : Option Nat :=
  let fix := fld w 3 2
  let lo := fld w 5 2
  let hi := fld w 7 2
  let cap := fld w 9 3
  if hi < lo || fix < lo || hi < fix then some 0
  else if 5 ≤ cap || (cap = 4 && fld w 0 1 = 0) then some 1
  else none

/-- FE.CONFIG (R73, R74, R77): at once in SERVICE, else at the next MODE.START. -/
def cmdFeConfig : CmdDef :=
  { op := 0x0401
    critical := true
    sem := fun _ => 0
    states := fun s _ => inSbSv s
    plen := 8
    mask := pMask 0 0 ||| 0x1FFF * 2 ^ 32
    act := fun s c =>
      let w := c.p 4 4
      match feBad w with
      | some i => s.badP (4 + i)
      | none =>
        let put := fun (t : Tab Word) => (onesOf 8 (c.p 0 1)).foldl (fun u k => tput 0x0000039C#32 u k (BitVec.ofNat 32 w)) t
        State.ok { s with
          front.cfgSet := put s.front.cfgSet
          front.cfg := if s.life.lcs = .service then put s.front.cfg else s.front.cfg } }

/-- FE_CONFIG (R74). -/
def execFeConfig (dt : Nat) (r : Req) (s : State) : Res :=
  run dt s (State.command cmdFeConfig r)

/-- The range of channels named by P0–1 and P2–3 is refused (R363). -/
def rangeBad (c : Ctx) : Option (Nat × Nat) :=
  let first := c.p 0 2
  let n := c.p 2 2
  if 1023 < first then some (stBadArg, 40)
  else if n = 0 || 1024 < n || 1024 < first + n then some (stBadArg, 42)
  else none

/-- FE.TRIM (R75, R76, R77, R363). -/
def cmdFeTrim : CmdDef :=
  { op := 0x0402
    critical := true
    sem := fun _ => 0
    states := fun s _ => inSbSv s
    plen := 4
    mask := pMask 0 3
    data := .inp 4096
    args := fun _ c => rangeBad c
    act := fun s c =>
      let first := c.p 0 2
      let n := c.p 2 2
      let w := fun i => leAt c.din (4 * i) 4
      if c.din.length != 4 * n then s.fail stBadArg 20
      else match (List.range n).find? (fun i => 64 ≤ w i) with
        | some i => s.badD (4 * i + (firstBad 4 0x3F (w i)).getD 0)
        | none =>
          match (List.range n).find? (fun i => s.retired 1 (first + i) && !bitN (w i) 5
              && bitN (tget 0#32 s.front.trimSet (first + i)).toNat 5) with
          | some i => s.fail stRetired (first + i)
          | none =>
            let put := fun (t : Tab Word) => (List.range n).foldl (fun u i => tput 0#32 u (first + i) (BitVec.ofNat 32 (w i))) t
            State.ok { s with
          front.trimSet := put s.front.trimSet
          front.trim := if s.life.lcs = .service then put s.front.trim else s.front.trim } }

/-- FE_TRIM (R76). -/
def execFeTrim (dt : Nat) (r : Req) (s : State) : Res :=
  run dt s (State.command cmdFeTrim r)

/-- The front-end status word of a channel: GAIN of the column now running, all else as the last decision instant left it (R78). It
carries no field of the configuration and trim words (log entry 122). -/
def State.feStatus (s : State) (ch : Nat) : Nat :=
  let x := s.chan ch
  x.gain + 2 ^ 2 * x.amb.toNat + 2 ^ 10 * b2n (bitN s.front.seenRet.toNat ch) + 2 ^ 11 * b2n (bitN s.front.seenMask.toNat ch)
    + 2 ^ 12 * min 3 (tget 0 s.front.seenUps ch) + 2 ^ 14 * b2n x.blinded + 2 ^ 16 * sat 16 x.fails

/-- FE.STATUS (R78, R363). -/
def cmdFeStatus : CmdDef :=
  { op := 0x0403
    states := fun s _ => inAll s
    plen := 4
    mask := pMask 0 3
    data := .out
    args := fun _ c => rangeBad c
    act := fun s c => s.okData ((List.range (c.p 2 2)).flatMap (fun i => bytesOf 4 (s.feStatus (c.p 0 2 + i)))) }

/-- FE_STATUS (R78). -/
def execFeStatus (dt : Nat) (r : Req) (s : State) : Res :=
  run dt s (State.command cmdFeStatus r)

/-! ### POINT and CAL -/

/-- POINT.CONFIG (R117, R118): it takes effect at the next MODE.START. -/
def cmdPointConfig : CmdDef :=
  { op := 0x0501
    critical := true
    sem := fun _ => 0
    states := fun s _ => inSbSv s
    plen := 4
    mask := 0x3FFFFF
    act := fun s c =>
      let w := c.p 0 4
      if 1000 < fld w 0 16 then s.badP 0
      else if !bitN w 16 then s.badP 2
      else State.ok { s with front.pointSet := BitVec.ofNat 32 w } }

/-- POINT_CONFIG (R118). -/
def execPointConfig (dt : Nat) (r : Req) (s : State) : Res :=
  run dt s (State.command cmdPointConfig r)

/-- POINT.STATUS (R363). -/
def cmdPointStatus : CmdDef :=
  { op := 0x0502
    states := fun s _ => inAll s
    act := fun s _ => s.ok (bytesOf 4 s.front.point.toNat ++ bytesOf 4 s.front.k) }

/-- POINT_STATUS (R363). -/
def execPointStatus (dt : Nat) (r : Req) (s : State) : Res :=
  run dt s (State.command cmdPointStatus r)

/-- The first byte of a sector's part of a calibration block that R116 refuses, from the sector's first byte. -/
def calSectorBad (l : List Byte) : Option Nat :=
  let amp := fun g k => leAt l (516 + 128 * g + 2 * k) 2
  match (List.range 256).find? (fun i =>
      4095 < amp (i / 64) (i % 64) || (i % 64 != 0 && amp (i / 64) (i % 64) < amp (i / 64) (i % 64 - 1))) with
  | some i => some (516 + 2 * i)
  | none => match (List.range 4).find? (fun j => leAt l (1032 + 8 * j) 4 < leAt l (1028 + 8 * j) 4) with
    | some j => some (1028 + 8 * j)
    | none => none

/-- The first byte of a calibration block of 12,596 bytes that R116 or R364 refuses. -/
def calBad (l : List Byte) : Option Nat :=
  if l.take 4 != [0x5A, 0x43, 0x41, 0x4C] then some 0
  else if leAt l 4 4 != 12596 then some 4
  else if leAt l 8 8 != 0 then some 8
  else match (List.range 8).findSome? (fun k =>
      (calSectorBad ((l.drop (16 + 1060 * k)).take 1060)).map (fun i => 16 + 1060 * k + i)) with
    | some i => some i
    | none => if leAt l 12592 4 != crc32 (l.take 12592) then some 12592 else none

/-- CAL.LOAD (R116, R118, R364, R426). -/
def cmdCalLoad : CmdDef :=
  { op := 0x0601
    critical := true
    sem := fun _ => 0
    states := fun s _ => inSbSv s
    data := .inp 12596
    act := fun s c =>
      if c.din.length != 12596 then s.fail stBadArg 20
      else match calBad c.din with
        | some i => s.badD i
        | none =>
          if !s.flashAllowed then s.fail stTemp
          else (({ s with front.calSet := some c.din }).startJob c (.cal c.din)).ok }

/-- CAL_LOAD (R116). -/
def execCalLoad (dt : Nat) (r : Req) (s : State) : Res :=
  run dt s (State.command cmdCalLoad r)

/-- CAL.STATUS: the block that a MODE.START takes and its CRC-32, 0 without one (R363). -/
def cmdCalStatus : CmdDef :=
  { op := 0x0602
    states := fun s _ => inAll s
    act := fun s _ => s.ok ([BitVec.ofNat 8 (b2n s.front.cal.isSome), 0, 0, 0] ++ bytesOf 4 (match s.front.cal with
      | some l => leAt l 12592 4
      | none => 0)) }

/-- CAL_STATUS (R363). -/
def execCalStatus (dt : Nat) (r : Req) (s : State) : Res :=
  run dt s (State.command cmdCalStatus r)

end Sys2Proof.Machine
end

