-- ==== Sys2Proof/Machine/CmdEmit.lean ====
section
/-! DEFINITION. The commands of the classes EMIT, LEDGER and PWR (R160, R163, R170, R363, R365 to R367). -/

namespace Sys2Proof.Machine

open Sys2Proof

/-! ### EMIT -/

/-- The first byte of an emission word outside its range (R170). -/
def emissionBad (w : Nat) : Option Nat :=
  let within := fun lo hi x => lo ≤ x && x ≤ hi
  if !within 40 90 (fld w 0 8) then some 0
  else if !within 20 100 (fld w 8 7) || bitN w 15 then some 1
  else if !within 50 200 (fld w 16 8) then some 2
  else if !within 1 100 (fld w 24 8) then some 3
  else none

/-- The first byte of a string word outside its range, under an emission word (R170); R8 for its reserved bits. -/
def stringBad (word w : Nat) : Option Nat :=
  let vnom := vnomOf w
  if bitN w 0 && (vnom < 200 || 1800 < vnom || 18 * fld word 16 8 < vnom) then some 0
  else if bitN w 0 && fld w 12 6 = 0 then some 1
  else if bitN w 0 && 47 < fld w 18 6 && fld w 18 6 != 0x3F then some 2
  else if fld w 24 8 != 0 then some 3
  else none

/-- EMIT.CONFIG (R170): at once in SERVICE, else at the next MODE.START. -/
def cmdEmitConfig : CmdDef :=
  { op := 0x0701
    critical := true
    sem := fun _ => 0
    states := fun s _ => inSbSv s
    data := .inp 260
    act := fun s c =>
      let word := leAt c.din 0 4
      let w := fun i => leAt c.din (4 + 4 * i) 4
      if c.din.length != 260 then s.fail stBadArg 20
      else match emissionBad word with
        | some i => s.badD i
        | none => match (List.range 64).findSome? (fun i => (stringBad word (w i)).map (fun j => 4 + 4 * i + j)) with
          | some i => s.badD i
          | none =>
            let words := (List.range 64).foldl (fun t i => tput 0x00FC4000#32 t i (BitVec.ofNat 32 (w i))) []
            let s1 := { s with emit.wordSet := BitVec.ofNat 32 word, emit.strSet := words }
            if s.life.lcs = .service then
              State.ok (({ s1 with emit.word := s1.emit.wordSet, emit.strWord := words }).pruneTherm.chargeAll)
            else s1.ok }

/-- EMIT_CONFIG (R170). -/
def execEmitConfig (dt : Nat) (r : Req) (s : State) : Res :=
  run dt s (State.command cmdEmitConfig r)

/-- The share record of a string, or of the device at 64 (R163). -/
def State.share (s : State) (i : Nat) : Nat :=
  (tget 0#128 s.emit.shares i).toNat

/-- A string's capacities are below the cost that a compiled shot of the loaded set needs (R163). -/
def State.unpayable (s : State) (i : Nat) : Bool :=
  s.sched.modes.any (fun b =>
    let cost := tget 0 b.2.cost i
    let pcost := tget 0 b.2.pcost i
    let lits := b.2.plan.flatMap (fun c => c.slots.filterMap (fun k =>
      if bitN k.fire.toNat i then some (popN 16 (s.presentEm i &&& (0xFFFF ^^^
        (tget 0xFFFF#16 b.2.pats (64 * i + tget 0 k.pat i)).toNat))) else none))
    let plits := b.2.proofs.filterMap (fun p => if p.str = i then some (popN 16 (s.presentEm i &&& (0xFFFF ^^^
        (tget 0xFFFF#16 b.2.pats (64 * i + p.pat)).toNat))) else none)
    let short := fun lit c => 0 < lit && (fld (s.share i) 0 24 < c || fld (s.share i) 64 24 < lit * c
      || fld (s.share 64) 64 24 < lit * c)
    lits.any (fun l => short l cost) || plits.any (fun l => short l pcost))

/-- The diagnosis age of an emitter, ms: 0xFFFF undefined, saturating at 0xFFFE (R166, R365). -/
def State.diagAge (s : State) (e : Nat) : Nat :=
  let t := tget 0 s.emit.diagAt e
  if t = 0 then 0xFFFF else min 0xFFFE ((s.clk - (t - 1)) / ms 1)

/-- The 64-byte record of a string in EMIT.STATUS (R365). -/
def State.emitRecord (s : State) (i : Nat) : List Byte :=
  let t := s.str i
  bytesOf 2 t.rsv ++ bytesOf 2 t.v
    ++ bytesOf 2 (b2n t.chg + 2 * b2n t.suspect + 4 * b2n (s.unpayable i) + 8 * b2n (s.retired 6 i) + 16 * b2n (s.present i)
      + 32 * b2n (s.chargeForbidden i))
    ++ bytesOf 2 t.suspend.toNat ++ bytesOf 2 t.retire.toNat ++ zeros 2 ++ bytesOf 4 t.supTotal ++ bytesOf 4 t.canTotal
    ++ (List.range 16).flatMap (fun k => bytesOf 2 (s.diagAge (16 * i + k))) ++ zeros 12

/-- EMIT.STATUS (R363, R365); the emission word is the one that EMIT.CONFIG wrote (R170). -/
def cmdEmitStatus : CmdDef :=
  { op := 0x0702
    states := fun s _ => inAll s
    data := .out
    act := fun s _ => s.okData (bytesOf 4 s.emit.wordSet.toNat ++ zeros 12 ++ (List.range 64).flatMap s.emitRecord) }

/-- EMIT_STATUS (R365). -/
def execEmitStatus (dt : Nat) (r : Req) (s : State) : Res :=
  run dt s (State.command cmdEmitStatus r)

/-! ### LEDGER -/

/-- The bits of a share record in use (R163). -/
def shareMask : Nat :=
  0x00FFFFFF + 0xFFFF * 2 ^ 32 + 0xFFFFFF * 2 ^ 64 + 0xFFFFFF * 2 ^ 96

/-- The first byte of a share record that R163 refuses. A RATE above its CAP is named at the RATE. -/
def shareBad (r : Nat) : Option Nat :=
  if fld r 24 8 != 0 then some 3
  else if fld r 0 24 < fld r 32 16 then some 4
  else if fld r 48 16 != 0 then some 6
  else if fld r 88 8 != 0 then some 11
  else if fld r 64 24 < fld r 96 24 then some 12
  else if fld r 120 8 != 0 then some 15
  else none

/-- The shares of a 1,040-byte block (R163, R363). -/
def sharesOf (l : List Byte) : Tab (BitVec 128) :=
  (List.range 65).foldl (fun t i => tput 0#128 t i (BitVec.ofNat 128 (leAt l (16 * i) 16))) []

/-- The first byte of a block of shares that R163 refuses. -/
def sharesBad (l : List Byte) : Option Nat :=
  (List.range 65).findSome? (fun i => (shareBad (leAt l (16 * i) 16)).map (fun j => 16 * i + j))

/-- LEDGER.SET (R160, R163, R363): the shares come into force with every level at 0. -/
def cmdLedgerSet : CmdDef :=
  { op := 0x0801
    critical := true
    sem := fun _ => 1
    states := fun s _ => s.life.lcs == .standby
    data := .inp 1040
    act := fun s c =>
      if c.din.length != 1040 then s.fail stBadArg 20
      else match sharesBad c.din with
        | some i => s.badD i
        | none =>
          if !s.flashAllowed then s.fail stTemp
          else
            let s1 := { s with emit.shares := sharesOf c.din, emit.bEm := [], emit.bStr := [], emit.bDev := 0 }
            (s1.startJob c (.shares c.din)).ok }

/-- LEDGER_SET (R163). -/
def execLedgerSet (dt : Nat) (r : Req) (s : State) : Res :=
  run dt s (State.command cmdLedgerSet r)

/-- LEDGER.STATUS (R363). -/
def cmdLedgerStatus : CmdDef :=
  { op := 0x0802
    states := fun s _ => inAll s
    data := .out
    act := fun s _ => s.okData ((List.range 65).flatMap (fun i => bytesOf 16 (s.share i))
      ++ (List.range 1024).flatMap (fun e => bytesOf 4 (tget 0 s.emit.bEm e))
      ++ (List.range 64).flatMap (fun i => bytesOf 4 (tget 0 s.emit.bStr i)) ++ bytesOf 4 s.emit.bDev) }

/-- LEDGER_STATUS (R363). -/
def execLedgerStatus (dt : Nat) (r : Req) (s : State) : Res :=
  run dt s (State.command cmdLedgerStatus r)

/-! ### PWR -/

/-- The domains PWR.SET may name: sector domains, PD_MON, PD_LOOP, PD_EMIT (R367). -/
def nameable (d : Nat) : Bool :=
  d < 24 || (30 ≤ d && d < 33)

/-- The domains in the order of their switching on: each after what it requires (R22, R437). -/
def powerOrder : List Nat :=
  [31, 32, 30] ++ (List.range 8).flatMap (fun k => [k, 16 + k, 8 + k])

/-- The powered set after the OFF mask and the ON mask of PWR.SET, with the domains that are being switched on (R23). -/
def State.domAfter (s : State) (on off : Nat) (d : Nat) : Bool :=
  (s.powering d || bitN on d) && !bitN off d

/-- PWR.SET would break R23, R24, R367 or R439. -/
def State.pwrRefused (s : State) (on off : Nat) : Bool :=
  let after := s.domAfter on off
  (s.running && (List.range 24).any (fun d => bitN (on ||| off) d))
    || (List.range 33).any (fun d => after d && !(requires d).all after)
    || (bitN off 31 && (s.scan.a.st != .open_ || s.scan.b.st != .open_))
    || (bitN off 32 && (s.running || s.life.lcs == .service))
    || (List.range 24).any (fun d => bitN on d && s.retired 3 (d % 8))
    || (List.range 33).any (fun d => (bitN on d || (d = 30 && bitN off d)) && bitN s.power.domDead.toNat d)

/-- PWR.SET (R23, R24, R366, R367, R437): the ON mask in Requires order, the OFF mask in reverse; the switches follow one after
another as DOMAIN_SWITCH and DOMAIN_POWER_GOOD, and the response follows the last of them. -/
def cmdPwrSet : CmdDef :=
  { op := 0x0D01
    critical := true
    sem := fun c => if c.p 0 5 ||| c.p 8 5 = 2 ^ 30 then 4 else 0
    states := fun s c => inIdle s || (s.running && c.p 0 5 ||| c.p 8 5 = 2 ^ 30)
    plen := 13
    mask := (2 ^ 34 - 1) + (2 ^ 34 - 1) * 2 ^ 64
    act := fun s c =>
      let on := c.p 0 5
      let off := c.p 8 5
      match (List.range 34).find? (fun d => bitN on d && (bitN off d || !nameable d)) with
      | some d => s.badP (d / 8)
      | none => match (List.range 34).find? (fun d => bitN off d && !nameable d) with
        | some d => s.badP (8 + d / 8)
        | none =>
          if s.pwrRefused on off then s.fail stBadState
          else
            let s1 := (powerOrder.reverse.filter (fun d => bitN off d)).foldl State.domOff (if bitN off 30 then s.monOff else s)
            let s2 := { s1 with power.toPower := s1.power.toPower
              ++ powerOrder.filter (fun d => bitN on d && !s1.powering d) }
            let wait := maskOf ((List.range 34).filter (fun d => bitN on d && !s1.domOn d))
            { s2.rampNext.ok with pwr := if wait = 0 then none else some wait } }

/-- PWR_SET (R367). -/
def execPwrSet (dt : Nat) (r : Req) (s : State) : Res :=
  run dt s (State.command cmdPwrSet r)

/-- PWR.STATUS (R366). -/
def cmdPwrStatus : CmdDef :=
  { op := 0x0D02
    states := fun s _ => inAll s
    act := fun s _ => s.ok (bytesOf 5 s.power.dom.toNat ++ zeros 3
      ++ bytesOf 5 (maskOf ((List.range 34).filter s.heldOff))) }

/-- PWR_STATUS (R367). -/
def execPwrStatus (dt : Nat) (r : Req) (s : State) : Res :=
  run dt s (State.command cmdPwrStatus r)

end Sys2Proof.Machine
end

