-- ==== Sys2Proof/Machine/MonRegs.lean ====
section
/-! DEFINITION. The monitor's registers (R458, R460, R461, R466, R469, R470): reset values, bits in use, reads and writes. A table of
monitor words holds each word's difference from its reset value, so that an unwritten word is not listed. -/

namespace Sys2Proof.Machine

open Sys2Proof

/-- The reset value of the word at an offset (R460, R469). -/
def monReset (off : Nat) : Nat :=
  if off = 0x000 then 23 * 2 ^ 3
  else if off = 0x010 then 1920 + 2146 * 2 ^ 16
  else if off = 0x014 then 1968 + 2000 * 2 ^ 16
  else if off = 0x018 then 1200 + 1235 * 2 ^ 16
  else if off = 0x01C then 1203 + 1209 * 2 ^ 16
  else if off = 0x140 then 255 * 2 ^ 8
  else if off = 0x158 then 1
  else 0

/-- The RW bits of the word at an offset (R460, R466, R469, R470). -/
def monMask (off : Nat) : Nat :=
  if off = 0x000 then 0x1FF
  else if off = 0x00C then 0xFFFFFF
  else if off = 0x010 || off = 0x018 then 0x0FFF0FFF
  else if off = 0x014 || off = 0x01C then 0x8FFF0FFF
  else if off = 0x100 then 0x7F
  else if 0x104 ≤ off && off ≤ 0x10C then 0x0FFF0FFF
  else if 0x110 ≤ off && off ≤ 0x12C then 0xFFFFFFFF
  else if off = 0x140 then 0x00FFFF7F
  else if off = 0x144 || off = 0x148 then 0x0FFF0FFF
  else if off = 0x14C then 0x3FFFFFFF
  else if off = 0x150 || off = 0x154 then 0x3FFFFF
  else if off = 0x158 then 0x3F
  else if off = 0x180 then 7
  else if off = 0x184 || off = 0x188 then 0x0FFF0FFF
  else if off = 0x18C then 0xFFFF
  else if off = 0x190 || off = 0x198 || off = 0x19C then 0xFFFFFFFF
  else if 0x400 ≤ off && off < 0x800 then 0xFFFFFF
  else 0

/-- The word of a table of monitor words at an offset. -/
def monWord (t : Tab Word) (off : Nat) : Nat :=
  (tget 0#32 t (off / 4)).toNat ^^^ monReset off

/-- A table of monitor words with one word written, in its RW bits (R6, R8). -/
def monPut (t : Tab Word) (off w : Nat) : Tab Word :=
  tput 0#32 t (off / 4) (BitVec.ofNat 32 ((w &&& monMask off) ^^^ monReset off))

/-- A live field of the monitor. -/
def State.monFld (s : State) (off lo n : Nat) : Nat :=
  fld (monWord s.mon.live off) lo n

/-- The output runs: PD_MON is on and ENABLE is live. -/
def State.monOn (s : State) : Bool :=
  s.domOn 30 && s.monFld 0 0 1 = 1

/-- The clock divider K in a MON_CTRL word; a value outside 14 to 40 never passes a commit (R463). -/
def State.monK (s : State) : Nat :=
  s.monFld 0 3 6

/-- Ticks of one line: HTOT pixels of 7 × K ÷ 12.8 GHz each, half of that on a dual link (R459, R461). -/
def State.lineTicks (s : State) : Nat :=
  s.monFld 0x010 16 12 * 35 * s.monK / (if s.monFld 0 1 1 = 1 then 2 else 1)

/-- The line being sent (R460, R461): counted from the last start of vertical blanking, line VACT. -/
def State.monLine (s : State) : Nat :=
  if s.monOn then
    (s.monFld 0x018 0 12 + (s.clk - s.mon.vblankAt) / s.lineTicks) % (max 1 (s.monFld 0x018 16 12))
  else 0

/-- MON_STAT (R460). -/
def State.monStat (s : State) : Nat :=
  let line := s.monLine
  line + 2 ^ 12 * b2n (s.monOn && s.monFld 0x018 0 12 ≤ line) + 2 ^ 13 * b2n s.mon.pend + 2 ^ 14 * s.mon.err
    + 2 ^ 17 * b2n (0 < s.mon.restart) + 2 ^ 24 * (s.mon.frame % 256)

/-- A read of a monitor register: shadows read back as written; while PD_MON is off everything reads 0 (R458, R460). -/
def State.monRead (s : State) (off : Nat) : Nat :=
  if !s.domOn 30 then 0
  else if off = 0x004 then s.monStat
  else if off = 0x008 then s.mon.under0 + 2 ^ 16 * s.mon.under2
  else monWord s.mon.shadow off

/-- A write of a monitor register; COMMIT asks for a commit (R460, R462). -/
def State.monWrite (s : State) (off w : Nat) : State :=
  if !s.domOn 30 || monMask off = 0 then s
  else
    let s1 := { s with mon.shadow := monPut s.mon.shadow off w }
    if off = 0 && bitN w 9 then
      { s1 with mon.pend := true, mon.pendAt := if s1.mon.pend then s1.mon.pendAt else s1.clk }
    else s1

end Sys2Proof.Machine
end

