-- ==== Sys2Proof/Machine/CmdKey.lean ====
section
/-! DEFINITION. The commands of the classes KEY, FW, MON, FAULT, HEALTH and HIST (R347, R370 to R372, R426, R451 to R453, R482, R489,
R491 to R496). -/

namespace Sys2Proof.Machine

open Sys2Proof

/-! ### KEY -/

/-- The lowest BLANK key slot of a port (R347). -/
def State.blankKey (s : State) (p : HostPort) : Option Nat :=
  (List.range 4).find? (fun k => (s.key p k).st == .blank)

/-- A key slot of a port written. -/
def State.setKey (s : State) (p : HostPort) (k : Nat) (x : KeySlot) : State :=
  { s with otp.keys := tput {} s.otp.keys (4 * portIdx p + k) x }

/-- EV_KEY_ROTATED (R373). -/
def State.sayKey (s : State) (p : HostPort) (k : Nat) : State :=
  s.raise 0x1202 [BitVec.ofNat 8 (portLetter p), BitVec.ofNat 8 k]

/-- The key that unwrapped goes into the lowest BLANK slot of the port, and the slot that signed the command is revoked (R347, R371). -/
def State.rotateKey (s : State) (p : HostPort) (old : Nat) (key : Option (BitVec 128)) : Ans :=
  match key with
  | none => s.badP 0
  | some k => match s.blankKey p with
    | none => s.fail stBadState
    | some n =>
      if !s.otpAllowed then s.fail stTemp
      else
        let s1 := (s.setKey p n { st := .active, key := k }).setKey p old { s.key p old with st := .revoked }
        (s1.sayKey p n).ok

/-- KEY.ROTATE (R347, R349, R371, R426). -/
def cmdKeyRotate : CmdDef :=
  { op := 0x1201
    writesOtp := true
    critical := true
    sem := fun _ => 5
    states := fun s _ => inIdle s
    plen := 24
    mask := pMask 0 23
    act := fun s c =>
      s.rotateKey c.e.port (slotKey c.slot) (keyUnwrap (s.key c.e.port (slotKey c.slot)).key (bytesOf 24 (c.p 0 24))) }

/-- KEY_ROTATE (R347). -/
def execKeyRotate (dt : Nat) (r : Req) (s : State) : Res :=
  runOtp dt s (State.command cmdKeyRotate r)

/-- KEY.PROVISION (R370, R371, R426). -/
def cmdKeyProvision : CmdDef :=
  { op := 0x1202
    writesOtp := true
    states := fun s _ => inIdle s
    plen := 16
    mask := pMask 0 15
    act := fun s c =>
      let p := c.e.port
      if c.e.pair.isSome || (List.range 4).any (fun k => (s.key p k).st != .blank) then s.fail stBadState
      else if !s.holds c.e 5 then s.fail stNotOwner
      else if !s.otpAllowed then s.fail stTemp
      else ((s.setKey p 0 { st := .active, key := BitVec.ofNat 128 (ofBytesBE (bytesOf 16 (c.p 0 16))) }).sayKey p 0).ok }

/-- KEY_PROVISION (R371). -/
def execKeyProvision (dt : Nat) (r : Req) (s : State) : Res :=
  runOtp dt s (State.command cmdKeyProvision r)

/-- KEY.SCHED_DIGEST (R370, R371, R426). -/
def cmdKeySchedDigest : CmdDef :=
  { op := 0x1203
    writesOtp := true
    critical := true
    sem := fun _ => 5
    states := fun s _ => inIdle s
    plen := 2
    mask := pMask 0 1
    data := .inp 32
    args := fun _ c => if 1 < c.p 0 1 then some (stBadArg, 40) else if 1 < c.p 1 1 then some (stBadArg, 41) else none
    act := fun s c =>
      let k := c.p 0 1
      let x := tget {} s.otp.sched k
      let write := c.p 1 1 = 0
      let onlySet := (List.range 2).all (fun i => i = k || (tget {} s.otp.sched i).st != .active)
      if (write && c.din.length != 32) || (!write && c.din.length != 0) then s.fail stBadArg 20
      else if (write && x.st != .blank) || (!write && (x.st != .active || onlySet)) then s.fail stBadState
      else if !s.otpAllowed then s.fail stTemp
      else
        let x' : DigestSlot := if write then { st := .active, dig := BitVec.ofNat 256 (ofBytesBE c.din) }
          else { x with st := .revoked }
        State.ok { s with otp.sched := tput {} s.otp.sched k x' } }

/-- KEY_SCHED_DIGEST (R371). -/
def execKeySchedDigest (dt : Nat) (r : Req) (s : State) : Res :=
  runOtp dt s (State.command cmdKeySchedDigest r)

/-- The code of a key or digest slot's state (R370). -/
def otpCode : OtpSt → Nat
  | .blank => 0
  | .active => 1
  | .revoked => 2

/-- KEY.STATUS (R370). -/
def cmdKeyStatus : CmdDef :=
  { op := 0x1204
    states := fun s _ => inAll s
    act := fun s c =>
      let keys := fun (p : HostPort) => bytesOf 1 (sumTo 4 (fun k => otpCode (s.key p k).st * 4 ^ k))
      s.ok (keys .A ++ keys .B ++ bytesOf 1 (sumTo 2 (fun k => otpCode (tget {} s.otp.sched k).st * 4 ^ k)) ++ zeros 1
        ++ (List.range 4).flatMap (fun k => bytesOf 4 (tget 0#32 (s.auth c.e).counters k).toNat)) }

/-- KEY_STATUS (R370). -/
def execKeyStatus (dt : Nat) (r : Req) (s : State) : Res :=
  run dt s (State.command cmdKeyStatus r)

/-! ### FW -/

/-- The conditions of FW.WRITE: its slot, the slot's end over all parts, the running slot, the temperature (R356, R370, R426); a
flash that is not written gives BAD_STATE (R450; DESIGN CHOICE, log entry 164). -/
def State.fwRefused (s : State) (c : Ctx) : Option (Nat × Nat) :=
  let k := c.p 0 1
  let n := if c.p 20 4 = 0 then slotDlen c.slot else c.p 20 4
  if 1 < k then some (stBadArg, 40)
  else if 0x200000 < c.p 4 4 + n then some (stBadArg, 44)
  else if (k = s.power.boot.slot && !s.power.boot.hostImg) || !s.flash.ok then some (stBadState, 0)
  else if !s.flashAllowed then some (stTemp, 0)
  else none

/-- FW.WRITE (R356, R370, R426): the bytes reach the slot when the flash write ends; those of a part that is not final, as it arrives. -/
def cmdFwWrite : CmdDef :=
  { op := 0x1301
    critical := true
    sem := fun _ => 5
    states := fun s _ => inIdle s
    plen := 8
    mask := pMask 0 0 ||| pMask 4 7
    data := .inp 65536
    signed := true
    args := fun s c => s.fwRefused c
    part := fun s c off d => { s with flash := s.flash.put (.fw (c.p 0 1) (c.p 4 4 + off) d) }
    act := fun s c => (s.startJob c (.fw (c.p 0 1) (c.p 4 4) c.din)).ok }

/-- FW_WRITE (R370). -/
def execFwWrite (dt : Nat) (r : Req) (s : State) : Res :=
  run dt s (State.command cmdFwWrite r)

/-- FW.COMMIT (R358, R370, R426, R453): both copies of the boot control record name the slot for the
next reset, and its failed starts are forgotten. -/
def cmdFwCommit : CmdDef :=
  { op := 0x1302
    critical := true
    sem := fun _ => 5
    states := fun s _ => inIdle s
    plen := 1
    mask := pMask 0 0
    args := fun _ c => if 1 < c.p 0 1 then some (stBadArg, 40) else none
    act := fun s c =>
      let k := c.p 0 1
      if !s.imageOk (s.fwSlot k) then s.fail stAuthFail
      else if !s.flash.ok then s.fail stBadState
      else if !s.flashAllowed then s.fail stTemp
      else State.ok { s.flashWritten 0x1302 true (slotTag c.slot) c.e with
        flash.boot := some k, flash.boot2 := some k
        power.boot.startsA := if k = 0 then 0 else s.power.boot.startsA
        power.boot.startsB := if k = 1 then 0 else s.power.boot.startsB } }

/-- FW_COMMIT (R453). -/
def execFwCommit (dt : Nat) (r : Req) (s : State) : Res :=
  run dt s (State.command cmdFwCommit r)

/-- FW.STATUS (R370, R453). -/
def cmdFwStatus : CmdDef :=
  { op := 0x1303
    states := fun s _ => inAll s
    act := fun s _ => s.ok (bytesOf 1 s.power.boot.slot ++ bytesOf 1 s.nextSlot ++ bytesOf 1 (b2n (!s.power.boot.hostImg && s.power.boot.slot != s.nextSlot))
      ++ bytesOf 1 (b2n (s.slotOk 0) + 2 * b2n (s.slotOk 1)) ++ bytesOf 4 (leAt (s.fwSlot 0) 8 4)
      ++ bytesOf 4 (leAt (s.fwSlot 1) 8 4)) }

/-- FW_STATUS (R370). -/
def execFwStatus (dt : Nat) (r : Req) (s : State) : Res :=
  run dt s (State.command cmdFwStatus r)

/-! ### MON -/

/-- P0–1 is no register offset of the monitor block. -/
def monArg (c : Ctx) : Option (Nat × Nat) :=
  if 0xFFC < c.p 0 2 || c.p 0 2 % 4 != 0 then some (stBadArg, 40) else none

/-- MON.WRITE (R370, R372, R460). -/
def cmdMonWrite : CmdDef :=
  { op := 0x1401
    critical := true
    sem := fun _ => 4
    states := fun s _ => inAll s
    plen := 8
    mask := pMask 0 1 ||| pMask 4 7
    args := fun _ c => monArg c
    act := fun s c => (s.monWrite (c.p 0 2) (c.p 4 4)).ok }

/-- MON_WRITE (R372). -/
def execMonWrite (dt : Nat) (r : Req) (s : State) : Res :=
  run dt s (State.command cmdMonWrite r)

/-- MON.READ (R370, R460). -/
def cmdMonRead : CmdDef :=
  { op := 0x1402
    states := fun s _ => inAll s
    plen := 2
    mask := pMask 0 1
    args := fun _ c => monArg c
    act := fun s c => s.ok (bytesOf 4 (s.monRead (c.p 0 2))) }

/-- MON_READ (R370). -/
def execMonRead (dt : Nat) (r : Req) (s : State) : Res :=
  run dt s (State.command cmdMonRead r)

/-! ### FAULT -/

/-- The 16 bytes of a fault log entry; an entry that holds no fault reads 0 (R370, R482). -/
def logBytes (e : Option LogEntry) : List Byte :=
  match e with
  | some x => bytesOf 8 x.ct ++ bytesOf 2 x.code.toNat ++ bytesOf 1 x.sev ++ bytesOf 1 x.unit.kind ++ bytesOf 2 x.unit.idx
      ++ bytesOf 1 x.upsets ++ zeros 1
  | none => zeros 16

/-- FAULT.LOG (R370, R482). -/
def cmdFaultLog : CmdDef :=
  { op := 0x1501
    states := fun s _ => inAll s
    plen := 3
    mask := pMask 0 2
    data := .out
    act := fun s c =>
      if 255 < c.p 0 2 then s.badP 0
      else if c.p 2 1 = 0 || 64 < c.p 2 1 then s.badP 2
      else s.okData ((List.range (c.p 2 1)).flatMap (fun i => logBytes (s.faults.log[c.p 0 2 + i]?))) }

/-- FAULT_LOG (R482). -/
def execFaultLog (dt : Nat) (r : Req) (s : State) : Res :=
  run dt s (State.command cmdFaultLog r)

/-- The retired units of a kind as a bit mask of `n` bits. -/
def State.retiredMask (s : State) (kind n : Nat) : Nat :=
  maskOf ((List.range n).filter (s.retired kind))

/-- The 320 bytes of FAULT.UNITS (R489). -/
def State.unitsMap (s : State) : List Byte :=
  bytesOf 128 (s.retiredMask 1 1024) ++ bytesOf 8 (s.retiredMask 2 64) ++ bytesOf 1 (s.retiredMask 3 8)
    ++ bytesOf 1 (s.retiredMask 8 4) ++ bytesOf 2 (s.retiredMask 7 12) ++ bytesOf 2 (s.retiredMask 9 16)
    ++ bytesOf 2 (maskOf ((List.range 14).filter s.fnLost)) ++ bytesOf 32 (s.retiredMask 4 256)
    ++ bytesOf 128 (s.retiredMask 5 1024) ++ bytesOf 8 (s.retiredMask 6 64) ++ bytesOf 2 s.faults.reasons.toNat
    ++ bytesOf 2 s.chansOut ++ bytesOf 2 s.emsOut ++ zeros 2

/-- FAULT.UNITS (R489). -/
def cmdFaultUnits : CmdDef :=
  { op := 0x1502
    states := fun s _ => inAll s
    data := .out
    act := fun s _ => s.okData s.unitsMap }

/-- FAULT_UNITS (R489). -/
def execFaultUnits (dt : Nat) (r : Req) (s : State) : Res :=
  run dt s (State.command cmdFaultUnits r)

/-! ### HEALTH -/

/-- The indices of a health source; none for a reserved code (R496). -/
def sourceSize : Nat → Option Nat
  | 0x01 => some 2
  | 0x02 => some 3
  | 0x03 => some 4
  | 0x04 => some 8
  | 0x05 => some 9
  | 0x06 => some 9
  | 0x07 => some 10
  | 0x08 => some 49
  | 0x09 => some 8
  | 0x0A => some 64
  | 0x0B => some 64
  | 0x0C => some 67
  | 0x0D => some 16
  | 0x0E => some 1
  | 0x0F => some 2
  | _ => none

/-- The first byte of a health configuration that R492 or R8 refuses. -/
def healthBad (x : Nat) : Option Nat :=
  let win := fld x 160 16
  match [((sourceSize (fld x 0 16)).isNone, 0), ((sourceSize (fld x 0 16)).getD 0 ≤ fld x 16 16, 2), (fld x 37 3 != 0, 4),
      (fld x 45 19 != 0, 5),
      (bitN x 35 && bitN x 36 && sfld x 128 32 < sfld x 96 32, 12), ((bitN x 34 && win = 0) || 6000 < win, 20),
      (fld x 176 80 != 0, 22)].find? (fun y => y.1) with
  | some y => some y.2
  | none => none

/-- HEALTH.CONFIG (R372, R491, R492, R494). -/
def cmdHealthConfig : CmdDef :=
  { op := 0x1601
    states := fun s _ => inAll s
    plen := 1
    mask := pMask 0 0
    data := .inp 32
    args := fun _ c => if 63 < c.p 0 1 then some (stBadArg, 40) else none
    act := fun s c =>
      let x := leAt c.din 0 32
      if c.p 0 1 / 32 != portIdx c.e.port then s.fail stNotOwner
      else if c.din.length != 32 then s.fail stBadArg 20
      else match healthBad x with
        | some i => s.badD i
        | none =>
          let m : Monitor := { cfg := BitVec.ofNat 256 x, start := s.clk, armMin := bitN x 35, armMax := bitN x 36 }
          State.ok { s with faults.monitors := tput {} s.faults.monitors (c.p 0 1) m } }

/-- HEALTH_CONFIG (R492). -/
def execHealthConfig (dt : Nat) (r : Req) (s : State) : Res :=
  run dt s (State.command cmdHealthConfig r)

/-- The 160 bytes of a monitor (R491, R495). -/
def Monitor.bytes (m : Monitor) : List Byte :=
  let c := m.cfg.toNat
  let t := if bitN c 34 then m.done else m.run
  bytesOf 4 (uns 32 t.min) ++ bytesOf 4 (uns 32 t.max) ++ bytesOf 4 t.count ++ bytesOf 8 (uns 64 t.sum)
    ++ bytesOf 4 (if bitN c 34 then m.window else 0) ++ bytesOf 4 t.out ++ bytesOf 2 (fld c 0 16)
    ++ bytesOf 2 (b2n (bitN c 32) + 2 * b2n m.armMin + 4 * b2n m.armMax)
    ++ (List.range 32).flatMap (fun b => bytesOf 4 (tget 0 t.bins b))

/-- HEALTH.READ (R370, R495). -/
def cmdHealthRead : CmdDef :=
  { op := 0x1602
    states := fun s _ => inAll s
    plen := 2
    mask := pMask 0 1
    data := .out
    act := fun s c =>
      let first := c.p 0 1
      let n := c.p 1 1
      if 63 < first then s.badP 0
      else if n = 0 || 64 < first + n then s.badP 1
      else s.okData ((List.range n).flatMap (fun i => (tget {} s.faults.monitors (first + i)).bytes)) }

/-- HEALTH_READ (R495). -/
def execHealthRead (dt : Nat) (r : Req) (s : State) : Res :=
  run dt s (State.command cmdHealthRead r)

/-! ### HIST -/

/-- A channel, or its tile or sector, is retired (R486). -/
def State.chanRetired (s : State) (c : Nat) : Bool :=
  s.retired 1 c || s.retired 2 (tileOf c) || s.retired 3 (secOf c)

/-- HIST.DUMP (R355, R370): the response waits until the last column has been copied. -/
def cmdHistDump : CmdDef :=
  { op := 0x1701
    states := fun s _ => s.running
    plen := 3
    mask := pMask 0 2
    data := .out
    act := fun s c =>
      let ch := c.p 0 2
      let n := c.p 2 1
      if 1023 < ch then s.badP 0
      else if n = 0 || 4 < n then s.badP 2
      else if s.chanRetired ch then s.fail stRetired
      else if slotDlen c.slot < 10248 * n then s.fail stBadArg (10248 * n)
      else { st := s, dump := some { ch := ch, left := n, bytes := [] } } }

/-- HIST_DUMP (R370). -/
def execHistDump (dt : Nat) (r : Req) (s : State) : Res :=
  run dt s (State.command cmdHistDump r)

end Sys2Proof.Machine
end

