-- ==== Sys2Proof/Machine/CmdLoop.lean ====
section
/-! DEFINITION. The commands of the class LOOP (R180, R194 to R201, R366). -/

namespace Sys2Proof.Machine

open Sys2Proof

/-- The axis a LOOP command names, if it names one. -/
def axisOf (n : Nat) : Option Axis :=
  if n = 0 then some .A else if n = 1 then some .B else none

/-- The state of an axis loop as a command meets it (R194); a fault that opens it in the same FAB_CK cycle takes effect first (R196). -/
def State.loopSt (s : State) (ax : Axis) : LoopState :=
  match ax with
  | .A => if s.race.brakeA then .braking else s.scan.a.st
  | .B => if s.race.brakeB then .braking else s.scan.b.st

/-- P0 names no axis. -/
def axisArg (c : Ctx) : Option (Nat × Nat) :=
  if 1 < c.p 0 1 then some (stBadArg, 40) else none

/-- The axis of an accepted LOOP command. -/
def Ctx.axis (c : Ctx) : Axis :=
  if c.p 0 1 = 0 then .A else .B

/-- The revolutions that the count lies in: at most this many up, at least this many down (R184). -/
def State.turns (s : State) : Int × Int :=
  (s.scan.a.count / (s.revCounts : Int), -(-s.scan.a.count / (s.revCounts : Int)))

/-- Axis A closes: alignment first where commutation is not valid (R179, R184, R194, R195). -/
def State.closeA (s : State) : State :=
  let a := s.scan.a
  s.modA (fun x => { x with
    st := .closing, closeAt := some s.clk, angleOk := false, wRef := a.w, missed := 0, missBase := s.turns, back := 0, inTol := 0, outTol := 0
    ephi := 0, brake := none, xi := 0
    watch := if a.commOk then some s.clk else none
    alignEnd := if a.commOk then none else some (s.clk + ms (40 * s.aCoef 182 4))
    istar := if a.commOk then 0 else (s.aCoef 64 16 : Rat) / 2 })

/-- Axis B closes: CLOSED within one period (R194, R195). -/
def State.closeB (s : State) : State :=
  s.modB (fun x => { x with st := .closing, r := x.th, parking := false, same := 0, bad := 0, dith := 0, errs := [], xb := 0 })

/-- LOOP.CLOSE (R174, R194, R196, R374, R439). -/
def cmdLoopClose : CmdDef :=
  { op := 0x0901
    critical := true
    sem := fun _ => 6
    states := fun s _ => inAll s
    plen := 1
    mask := pMask 0 0
    args := fun _ c => axisArg c
    act := fun s c =>
      let ax := c.axis
      if s.loopSt ax = .braking then s.fail stBusyStopping
      else if s.running || live (s.loopSt ax) then s.ok
      else if (axisFns ax).any s.fnLost then s.fail stRetired
      else if !s.domOn 31 || bitN s.power.domDead.toNat 32 then s.fail stBadState
      else match ax with
        | .A => s.closeA.ok
        | .B => s.closeB.ok }

/-- LOOP.OPEN (R194, R197). -/
def cmdLoopOpen : CmdDef :=
  { op := 0x0902
    critical := true
    sem := fun _ => 6
    states := fun s _ => inIdle s
    plen := 1
    mask := pMask 0 0
    args := fun _ c => axisArg c
    act := fun s c =>
      if s.loopSt c.axis = .braking then s.ok
      else match c.axis with
        | .A => (s.openA false .regen).ok
        | .B => (s.openB false false).ok }

/-- A field of a coefficient block with its range: lowest bit, width, least and greatest value. -/
structure Range where
  /-- Lowest bit. -/
  lo  : Nat
  /-- Width. -/
  n   : Nat
  /-- Least value. -/
  min : Int
  /-- Greatest value. -/
  max : Int
  /-- The field is signed. -/
  sgd : Bool := false

/-- The bounded fields of the axis A block, in their order (R199). -/
def rangesA : List Range :=
  [⟨64, 16, 100, 40000, false⟩, ⟨96, 12, 10, 4095, false⟩, ⟨108, 8, 40, 255, false⟩, ⟨116, 8, 8, 255, false⟩,
   ⟨124, 4, 3, 12, false⟩, ⟨128, 16, 256, 32768, false⟩, ⟨144, 16, 10, 20000, false⟩, ⟨178, 4, 1, 15, false⟩,
   ⟨182, 4, 1, 15, false⟩, ⟨186, 6, 1, 63, false⟩, ⟨209, 8, 1, 255, false⟩, ⟨217, 8, 1, 255, false⟩,
   ⟨225, 16, 100, 65535, false⟩, ⟨241, 12, 100, 1750, false⟩, ⟨253, 3, 0, 0, false⟩]

/-- The bounded fields of the axis B block (R200). -/
def rangesB : List Range :=
  [⟨48, 16, 10, 20000, false⟩, ⟨64, 16, 10, 20000, false⟩, ⟨80, 8, 1, 255, false⟩, ⟨88, 8, 1, 255, false⟩,
   ⟨122, 2, 0, 2, false⟩, ⟨124, 5, 12, 24, false⟩, ⟨129, 3, 0, 4, false⟩, ⟨132, 4, 0, 0, false⟩,
   ⟨160, 20, -327680, 524287, true⟩, ⟨180, 12, 1, 4095, false⟩, ⟨192, 20, -524288, 327680, true⟩, ⟨232, 24, 0, 0, false⟩]

/-- The bounded fields of a repetitive block (R201), counted from its own bit 0. -/
def rangesRep : List Range :=
  [⟨1, 2, 0, 2, false⟩, ⟨3, 2, 0, 2, false⟩, ⟨5, 4, 2, 12, false⟩, ⟨20, 12, 0, 0, false⟩]

/-- The lowest bit of the first field outside its range. -/
def rangesBad (l : List Range) (x : Nat) : Option Nat :=
  (l.find? (fun r =>
    let v : Int := if r.sgd then sgn r.n (fld x r.lo r.n) else fld x r.lo r.n
    v < r.min || r.max < v)).map Range.lo

/-- The lower of two places, where there is one (R358). -/
def lowest (a b : Option Nat) : Option Nat :=
  match a, b with
  | some i, some j => some (min i j)
  | some i, none => some i
  | none, b => b

/-- The lowest bit of the first field of an axis A block that R199 or R176 refuses. -/
def coefBadA (x : Nat) : Option Nat :=
  let cross :=
    if 125 * fld x 64 16 > 85 * fld x 225 16 then some 64
    else if fld x 64 16 < fld x 80 16 then some 80
    else if 4 * fld x 128 16 ≤ fld x 192 17 then some 192
    else none
  lowest (rangesBad rangesA x) cross

/-- The lowest bit of the first field of an axis B block that R200 refuses. -/
def coefBadB (x : Nat) : Option Nat :=
  let cross :=
    if fld x 64 16 < fld x 48 16 then some 48
    else if sgn 20 (fld x 192 20) ≤ sgn 20 (fld x 160 20) then some 160
    else if sgn 20 (fld x 212 20) < sgn 20 (fld x 160 20) || sgn 20 (fld x 192 20) < sgn 20 (fld x 212 20) then some 212
    else none
  lowest (rangesBad rangesB x) cross

/-- The lowest bit of the first field of a repetitive block that R190 or R201 refuses, with its axis and current limit. -/
def repBad (ax : Axis) (imax x : Nat) : Option Nat :=
  let cross :=
    if ax = .B && fld x 1 2 = 0 then some 1
    else if fld x 9 5 != 0 && (fld x 9 5 < 8 || 20 < fld x 9 5) then some 9
    else if imax < fld x 32 16 then some 32
    else none
  lowest (rangesBad rangesRep x) cross

/-- The repetitive memory is cleared by a change of REP_SRC or REP_CELLS (R193). -/
def Rep.recfg (r : Rep) (old new : BitVec 64) : Rep :=
  if fld old.toNat 1 4 = fld new.toNat 1 4 then r else { r with m := [], learnt := false, u := 0 }

/-- LOOP.COEF (R193, R194, R199 to R201). -/
def cmdLoopCoef : CmdDef :=
  { op := 0x0903
    critical := true
    sem := fun _ => 6
    states := fun s c => inIdle s || (s.running && s.loopSt c.axis != .open_)
    plen := 1
    mask := pMask 0 0
    data := .inp 40
    args := fun _ c => axisArg c
    act := fun s c =>
      let x := leAt c.din 0 32
      let y := leAt c.din 32 8
      let imax := match c.axis with
        | .A => fld x 64 16
        | .B => fld x 48 16
      let bad := match c.axis with
        | .A => coefBadA x
        | .B => coefBadB x
      if s.loopSt c.axis != .open_ then s.fail stLoopClosed
      else if c.din.length != 40 then s.fail stBadArg 20
      else match bad with
        | some i => s.badD (i / 8)
        | none => match repBad c.axis imax y with
          | some i => s.badD (32 + i / 8)
          | none =>
            let rc := BitVec.ofNat 64 y
            match c.axis with
            | .A =>
              let given := bitN x 176
              State.ok (s.modA (fun a => { a with
                coef := BitVec.ofNat 256 x, repCfg := rc, rep := a.rep.recfg a.repCfg rc
                commOk := a.indexed && !a.fbBad && (given || a.learned.isSome)
                commRef := if given then fld x 160 16 else (a.learned.getD 0 : Nat) }))
            | .B => State.ok (s.modB (fun b => { b with
                coef := BitVec.ofNat 256 x, repCfg := rc, rep := b.rep.recfg b.repCfg rc })) }

/-- LOOP.SET (R180, R194, R366). -/
def cmdLoopSet : CmdDef :=
  { op := 0x0904
    critical := true
    sem := fun _ => 6
    states := fun s _ => inIdle s
    plen := 8
    mask := pMask 0 0 ||| pMask 4 7
    args := fun _ c => axisArg c
    act := fun s c =>
      let v := c.p 4 4
      match c.axis with
      | .A =>
        if 1200000 < v then s.badP 4
        else if s.setLoaded then s.fail stBadState
        else State.ok (s.modA (fun a => { a with set := v }))
      | .B =>
        if sgn 32 v < s.bSigned 160 20 || s.bSigned 192 20 < sgn 32 v then s.badP 4
        else State.ok (s.modB (fun b => { b with hold := sgn 32 v })) }

/-- LOOP_SET (R180). -/
def execLoopSet (dt : Nat) (r : Req) (s : State) : Res :=
  run dt s (State.command cmdLoopSet r)

/-- LOOP.REP_CLEAR (R193, R194). -/
def cmdLoopRepClear : CmdDef :=
  { op := 0x0905
    critical := true
    sem := fun _ => 6
    states := fun s c => inIdle s || (s.running && s.loopSt c.axis != .open_)
    plen := 1
    mask := pMask 0 0
    args := fun _ c => axisArg c
    act := fun s c =>
      if s.loopSt c.axis != .open_ then s.fail stLoopClosed
      else match c.axis with
        | .A => State.ok (s.modA (fun a => { a with rep := { a.rep with m := [], u := 0 } }))
        | .B => State.ok (s.modB (fun b => { b with rep := { b.rep with m := [], u := 0 } })) }

/-- The code of a loop state in LOOP.STATUS (R366). -/
def loopCode : LoopState → Nat
  | .open_ => 0
  | .closing => 1
  | .closed => 2
  | .braking => 3

/-- Upsets within 10 s of the engine that runs a function (R366); 0 for a lost function. -/
def State.engineUpsets (s : State) (f : Nat) : Nat :=
  match s.fnEngine f with
  | some e => (s.upsetsOf ⟨9, e⟩).length
  | none => 0

/-- The result of LOOP.STATUS for axis A (R366). -/
def State.loopStatusA (s : State) : List Byte :=
  let a := s.scan.a
  let flags := b2n a.locked + 2 * b2n a.commOk + 4 * b2n a.sat + 8 * b2n (s.repValid a.repCfg)
    + 16 * b2n ((axisFns .A).any s.fnLost)
  bytesOf 1 (loopCode a.st) ++ bytesOf 1 flags ++ zeros 2 ++ bytesOf 4 (uns 32 (rhe (a.w * 100)))
    ++ bytesOf 4 (uns 32 (if live a.st then rhe (a.err * 100) else 0)) ++ bytesOf 2 (a.learned.getD 0) ++ zeros 2
    ++ bytesOf 2 a.rep.errors ++ bytesOf 1 (s.engineUpsets 1)

/-- The result of LOOP.STATUS for axis B (R366). -/
def State.loopStatusB (s : State) : List Byte :=
  let b := s.scan.b
  let flags := 4 * b2n b.sat + 8 * b2n (s.repValid b.repCfg) + 16 * b2n ((axisFns .B).any s.fnLost)
  bytesOf 1 (loopCode b.st) ++ bytesOf 1 flags ++ zeros 2 ++ bytesOf 4 (uns 32 b.th)
    ++ bytesOf 4 (uns 32 (if live b.st then rhe b.err else 0)) ++ zeros 2 ++ bytesOf 2 b.clamped
    ++ bytesOf 2 b.rep.errors ++ bytesOf 1 (s.engineUpsets 3)

/-- LOOP.STATUS (R366). -/
def cmdLoopStatus : CmdDef :=
  { op := 0x0906
    states := fun s _ => inAll s
    plen := 1
    mask := pMask 0 0
    args := fun _ c => axisArg c
    act := fun s c => match c.axis with
      | .A => s.ok s.loopStatusA
      | .B => s.ok s.loopStatusB }

/-- LOOP_STATUS (R366). -/
def execLoopStatus (dt : Nat) (r : Req) (s : State) : Res :=
  run dt s (State.command cmdLoopStatus r)

end Sys2Proof.Machine
end

