-- ==== Sys2Proof/Machine/CmdSched.lean ====
section
/-! DEFINITION. The commands of the class SCHED (R240, R241, R366). -/

namespace Sys2Proof.Machine

open Sys2Proof

/-- SCHED.LOAD is accepted: the store is cleared and the set in force withdrawn; the SLS gate closes and is disarmed (R182, R240, R241,
R380, R383). -/
def State.beginLoad (s : State) (l : Load) : State :=
  ({ s with
    sched.load := some l, sched.file := [], sched.modes := [], sched.images := [], sched.slice := none, sched.damaged := []
    sched.restore := [], sched.withdrawn := 0, sched.setId := 0, sched.libId := 0
    safe.sls := {}, safe.facetAt := none, safe.badFacets := 0, safe.goodFacets := 0 }).unlockQuiet

/-- A load of its command's own. -/
def loadOf (c : Ctx) (file : List Byte) (whole : Bool) : Load :=
  { persist := bitN (c.p 0 1) 0, file := file, key := xferKey c, tag := BitVec.ofNat 16 (slotTag c.slot)
    entry := c.e, whole := whole }

/-- The conditions of SCHED.LOAD that need no whole file (R240): BUSY while a load runs, unless the command goes on with or replaces the
transfer of its own mailbox that brings it (R356); the flash range, FILE_LEN. -/
def State.loadRefused (s : State) (c : Ctx) : Option (Nat × Nat) :=
  let other := match s.sched.load with
    | some l => l.whole || l.key != xferKey c
    | none => false
  if c.p 16 4 = 0 && 20 ≤ c.din.length && 4194304 < leAt c.din 16 4 then some (stBadArg, 2 ^ 31 + 16)
  else if other then some (stBusy, 0)
  else if bitN (c.p 0 1) 0 && !s.flashAllowed then some (stTemp, 0)
  else none

/-- SCHED.LOAD (R240, R356, R366). -/
def cmdSchedLoad : CmdDef :=
  { op := 0x0A01
    critical := true
    sem := fun _ => 2
    states := fun s _ => inIdle s
    plen := 1
    mask := 1
    data := .inp 4194304
    signed := true
    args := fun s c => s.loadRefused c
    part := fun s c off d =>
      if off = 0 then s.beginLoad (loadOf c d false)
      else match s.sched.load with
        | some l => { s with sched.load := some { l with file := l.file ++ d } }
        | none => s
    act := fun s c => State.ok (s.beginLoad (loadOf c c.din true)) }

/-- SCHED_LOAD (R240). -/
def execSchedLoad (dt : Nat) (r : Req) (s : State) : Res :=
  run dt s (State.command cmdSchedLoad r)

/-- The image in force of a sector: of the mode in force, in the sector's variant (R43, R245). -/
def State.imageInForce (s : State) (k : Nat) : Option SectorImage :=
  s.image (storeIdx s.mode.mode k (if s.running then s.runVariant k else min 2 (s.variantOf k)))

/-- SLOT_END in force; 0 without an image (R245, R366). -/
def State.slotEnd (s : State) (k : Nat) : Nat :=
  match s.imageInForce k with
  | some i => i.slotEnd
  | none => 0

/-- The smallest margin of a sector within the last 1 s (R240); 0 where none was taken. -/
def State.slack (s : State) (k : Nat) : Int :=
  match (s.sector k).margins.filter (fun m => s.clk ≤ m.1 + sec 1) with
  | [] => 0
  | m :: r => r.foldl (fun a x => if x.2 < a then x.2 else a) m.2

/-- SCHED.STATUS (R240, R366). -/
def cmdSchedStatus : CmdDef :=
  { op := 0x0A02
    states := fun s _ => inAll s
    data := .out
    act := fun s _ => s.okData
      ((List.range 8).flatMap (fun k => bytesOf 4 (s.slotEnd k) ++ bytesOf 4 (s.sector k).lastEnd
        ++ bytesOf 4 (uns 32 (s.slack k)) ++ zeros 4))
      (bytesOf 4 s.sched.setId.toNat ++ bytesOf 4 s.sched.libId.toNat
        ++ bytesOf 1 (maskOf ((List.range 8).filter s.loaded)) ++ bytesOf 1 s.sched.result
        ++ bytesOf 1 (b2n s.facetMismatch) ++ zeros 1 ++ bytesOf 4 s.sched.file.length) }

/-- SCHED_STATUS (R240). -/
def execSchedStatus (dt : Nat) (r : Req) (s : State) : Res :=
  run dt s (State.command cmdSchedStatus r)

end Sys2Proof.Machine
end

