-- ==== Sys2Proof/Machine/Monitor.lean ====
section
/-! DEFINITION. The rows of the monitor output (R458 to R475, R480): commits, vertical blanking, underruns, the range image. -/

namespace Sys2Proof.Machine

open Sys2Proof

/-! ### The checks of a commit (R463) -/

/-- A field of a shadow. -/
def State.shFld (s : State) (off lo n : Nat) : Nat :=
  fld (monWord s.mon.shadow off) lo n

/-- The timing fields hold R460 and R461. -/
def State.timingOk (s : State) : Bool :=
  let hact := s.shFld 0x010 0 12
  let htot := s.shFld 0x010 16 12
  let vact := s.shFld 0x018 0 12
  let vtot := s.shFld 0x018 16 12
  let k := s.shFld 0 3 6
  let even := hact % 2 = 0 && htot % 2 = 0 && s.shFld 0x014 0 12 % 2 = 0 && s.shFld 0x014 16 12 % 2 = 0
  64 ≤ hact && hact ≤ 1920 && hact + 32 ≤ htot && 32 ≤ vact && vact ≤ 1200 && vact + 3 ≤ vtot && 14 ≤ k && k ≤ 40
    && (s.shFld 0 1 1 = 0 || even)

/-- A rectangle at X, Y of a position word lies within the picture. -/
def State.rectOk (s : State) (pos w h : Nat) : Bool :=
  s.shFld pos 0 12 + w ≤ s.shFld 0x010 0 12 && s.shFld pos 16 12 + h ≤ s.shFld 0x018 0 12

/-- Every enabled layer lies within the picture. -/
def State.rectsOk (s : State) : Bool :=
  (s.shFld 0x100 0 1 = 0 || s.rectOk 0x104 (s.shFld 0x108 0 12) (s.shFld 0x108 16 12))
    && (s.shFld 0x140 0 1 = 0
      || s.rectOk 0x144 (s.shFld 0x148 0 12 * (s.shFld 0x140 3 2 + 1)) (s.shFld 0x148 16 12 * (s.shFld 0x140 5 2 + 1)))
    && (s.shFld 0x180 0 1 = 0 || s.rectOk 0x184 (s.shFld 0x188 0 12) (s.shFld 0x188 16 12))

/-- The source fields of L0, on or off, hold R466 (R463); the reserved FMT 3 acts as FMT 0 (R9). -/
def State.l0Ok (s : State) : Bool :=
  let fmt := s.shFld 0x100 1 2 % 3
  let w := s.shFld 0x108 0 12
  let h := s.shFld 0x108 16 12
  let sw := s.shFld 0x10C 0 12
  let sh := s.shFld 0x10C 16 12
  let py := s.shFld 0x110 0 16
  let pc := s.shFld 0x110 16 16
  2 ≤ sw && 2 ≤ sh && sw % 2 = 0 && (fmt = 1 || sh % 2 = 0) && sw ≤ w && w ≤ 4 * sw && sh ≤ h && h ≤ 4 * sh
      && s.shFld 0x118 0 6 = 0 && s.shFld 0x120 0 6 = 0 && (fmt != 2 || s.shFld 0x128 0 6 = 0)
      && py % 64 = 0 && pc % 64 = 0 && sw ≤ py && (if fmt = 2 then sw / 2 else sw) ≤ pc

/-- The source fields of L2, on or off, hold R470 (R463). -/
def State.l2Ok (s : State) : Bool :=
  let w := s.shFld 0x188 0 12
  let p := s.shFld 0x18C 0 16
  1 ≤ w && 1 ≤ s.shFld 0x188 16 12 && s.shFld 0x198 0 6 = 0 && p % 64 = 0
      && w * (if s.shFld 0x180 1 1 = 0 then 4 else 2) ≤ p

/-- A port number as a port. -/
def portOf (n : Nat) : HostPort :=
  if n = 0 then .A else .B

/-- Every enabled L0 or L2 names a port strapped for PCI Express (R323). -/
def State.portsOk (s : State) : Bool :=
  (s.shFld 0x100 0 1 = 0 || s.isPcie (portOf (s.shFld 0x100 6 1)))
    && (s.shFld 0x180 0 1 = 0 || s.isPcie (portOf (s.shFld 0x180 2 1)))

/-- The grid and range fields of L1, on or off, hold R469 (R463). -/
def State.l1Ok (s : State) : Bool :=
  let gw := s.shFld 0x148 0 12
  let gh := s.shFld 0x148 16 12
  1 ≤ gw && 1 ≤ gh && gw * gh ≤ 131072 && s.shFld 0x150 0 22 < s.shFld 0x154 0 22

/-- COMMIT_ERR of the shadows (R463): 0 where they pass. -/
def State.commitErr (s : State) : Nat :=
  if !s.timingOk then 1 else if !s.rectsOk then 2 else if !(s.l0Ok && s.l2Ok) then 3 else if !s.portsOk then 4
  else if !s.l1Ok then 5 else 0

/-! ### Taking a commit (R462, R464, R472) -/

/-- The buffer a layer of the live registers leases: BUF_ID while it is on. -/
def State.leaseOf (s : State) (ctrl buf : Nat) : Option Word :=
  if s.monFld ctrl 0 1 = 1 then some (BitVec.ofNat 32 (s.monFld buf 0 32)) else none

/-- The leases follow the live registers; a buffer that is no longer named is released (R472). -/
def State.newLeases (s : State) : State :=
  let n0 := s.leaseOf 0x100 0x114
  let n2 := s.leaseOf 0x180 0x190
  let s1 := if n0 = s.mon.lease0 then s else s.bufDone 0 s.mon.lease0
  let s2 := if n2 = s.mon.lease2 then s1 else s1.bufDone 2 s.mon.lease2
  { s2 with mon.lease0 := n0, mon.lease2 := n2 }

/-- The shadows are copied into the live registers; a change of K, DUAL, MAP, or ENABLE from 0 to 1 restarts the links (R462, R464). Where
ENABLE is set, output starts with line VACT (log entry 23). -/
def State.applyCommit (s : State) : State :=
  let was := monWord s.mon.live 0
  let now := monWord s.mon.shadow 0
  let starts := was % 2 = 0 && now % 2 = 1
  { s with
    mon.pend := false, mon.err := 0, mon.live := s.mon.shadow
    mon.restart := if now % 2 = 0 then 0 else if starts || fld was 1 8 != fld now 1 8 then 2 else s.mon.restart
    mon.vblankAt := if starts then s.clk else s.mon.vblankAt }

/-- A pending commit is judged and taken (R462 to R464). -/
def State.takeCommit (s : State) : State :=
  if s.commitErr != 0 then { s with mon.pend := false, mon.err := s.commitErr }
  else s.applyCommit.newLeases

/-- Layers whose port lost its session are taken off as if by commit (R473). -/
def State.layersOff (s : State) : State :=
  let off := fun (t : Tab Word) (at_ : Nat) => monPut t at_ (setFld (monWord t at_) 0 1 0)
  let l0 := if bitN s.mon.offDue.toNat 0 then off s.mon.live 0x100 else s.mon.live
  let l2 := if bitN s.mon.offDue.toNat 2 then off l0 0x180 else l0
  ({ s with mon.live := l2, mon.offDue := 0 }).newLeases

/-- The grid that was ready before the cycle in which a blanking starts becomes the displayed one (R469, R475). -/
def State.showGrid (s : State) (at_ : Nat) : State :=
  match s.mon.ready with
  | some g => if s.mon.readyAt / fabCk < at_ / fabCk then { s with mon.shown := g, mon.ready := none } else s
  | none => s

/-- A frame has been sent, and the next blanking starts (R460, R461, R464, R471, R496). -/
def State.frameSent (s : State) (next : Nat) : State :=
  let s1 := s.sample 0x02 2 s.mon.underF
  { s1 with
    mon.vblankAt := next, mon.frame := (s1.mon.frame + 1) % 256, mon.restart := s1.mon.restart - 1, mon.skip := 0, mon.underF := 0 }

/-- VERTICAL_BLANKING: one frame has been sent (R461, R462, R464, R469, R471 to R473, R496). -/
def execVerticalBlanking (dt : Nat) (s : State) : Res :=
  run dt s (fun s =>
    let next := s.mon.vblankAt + s.monFld 0x018 16 12 * s.lineTicks
    if !s.monOn || s.clk < next then s
    else
      let s3 := (s.frameSent next).layersOff
      (if s3.mon.pend && s3.mon.pendAt / fabCk < next / fabCk then s3.takeCommit else s3).showGrid next)

/-- IDLE_COMMIT: with ENABLE = 0 a commit is taken 1 µs after COMMIT is written (R462). -/
def execIdleCommit (dt : Nat) (s : State) : Res :=
  run dt s (fun s =>
    if s.domOn 30 && !s.monOn && s.mon.pend && s.mon.pendAt + us 1 ≤ s.clk then s.takeCommit else s)

/-- MON_COMMIT: a port that holds semaphore 4 writes MON_CTRL with COMMIT (R372, R458, R462). -/
def execMonCommit (dt : Nat) (p : HostPort) (w : Word) (s : State) : Res :=
  run dt s (fun s =>
    if s.isPcie p && s.domOn (28 + portIdx p) && s.holds (localEntry p) 4 then
      s.monWrite 0 (setFld w.toNat 9 1 1)
    else s)

/-- LAYER_UNDERRUN: a host layer is skipped for the rest of the frame; a read that timed out is 0x7003 of its port (R471, R480). -/
def execLayerUnderrun (dt : Nat) (layer : Fin 3) (timedOut : Bool) (s : State) : Res :=
  run dt s (fun s =>
    let l := layer.val
    let ctrl := if l = 0 then 0x100 else 0x180
    if !s.monOn || l = 1 || s.monFld ctrl 0 1 = 0 || 0 < s.mon.restart || bitN s.mon.skip.toNat l then s
    else
      let p := portOf (if l = 0 then s.monFld 0x100 6 1 else s.monFld 0x180 2 1)
      let s1 := { s with
        mon.skip := s.mon.skip ||| BitVec.ofNat 3 (2 ^ l), mon.underF := s.mon.underF + 1
        mon.under0 := if l = 0 then sat 16 (s.mon.under0 + 1) else s.mon.under0
        mon.under2 := if l = 2 then sat 16 (s.mon.under2 + 1) else s.mon.under2 }
      if timedOut then s1.fault 0x7003 17 (portIdx p) else s1)

/-- MON_GRID_ECC: the grid being filled is discarded (R480). -/
def execMonGridEcc (dt : Nat) (s : State) : Res :=
  run dt s (fun s =>
    if s.domOn 30 then ({ s with mon.fill := {}, mon.spoilt := true }).fault 0xB001 0 0 else s)

/-- The session or the link of a port is gone: its layers go off at the next blanking, or at once where there is none (R473). -/
def State.monSession (s : State) (p : HostPort) : State :=
  if !s.domOn 30 then s
  else
    let l0 := s.monFld 0x100 0 1 = 1 && portOf (s.monFld 0x100 6 1) = p
    let l2 := s.monFld 0x180 0 1 = 1 && portOf (s.monFld 0x180 2 1) = p
    let s1 := { s with mon.offDue := s.mon.offDue ||| BitVec.ofNat 3 (b2n l0 + 4 * b2n l2) }
    if s1.monOn then s1 else s1.layersOff

/-! ### The range image (R469) -/

/-- The palette index of a record (R469). -/
def State.cellIdx (s : State) (range : Nat) : Nat :=
  let lo := s.monFld 0x150 0 22
  let hi := s.monFld 0x154 0 22
  if range ≤ lo then 1 else if hi ≤ range then 255 else 1 + (range - lo) * 254 / (hi - lo)

/-- The grid position of a column or channel: first, step minus 1, size. -/
def gridPos (x first step size : Nat) : Option Nat :=
  if first ≤ x && (x - first) % (step + 1) = 0 && (x - first) / (step + 1) < size then some ((x - first) / (step + 1)) else none

/-- A record fills its cell (R469). -/
def State.fillCell (s : State) (gx : Nat) (x : Nat) : State :=
  let gw := s.monFld 0x148 0 12
  match gridPos (fld x 0 10) (s.monFld 0x14C 16 10) (s.monFld 0x14C 26 4) (s.monFld 0x148 16 12) with
  | some gy =>
    if fld x 10 2 = s.monFld 0x140 1 2 && bitN (s.monFld 0x158 0 6) (fld x 54 4) then
      let v := BitVec.ofNat 16 (s.cellIdx (fld x 12 22) + 2 ^ 8 * (fld x 34 12 / 16))
      { s with mon.fill.cells := tput 0#16 s.mon.fill.cells (gy * gw + gx) v }
    else s
  | none => s

/-- A column of the stream reaches the range image: a new frame makes the grid being filled ready (R469). -/
def State.gridColumn (s : State) (frame col : Nat) (recs : List (BitVec 128)) : State :=
  if !s.domOn 30 then s
  else
    let s1 := if s.mon.fillOf = some frame then s
      else { s with
        mon.ready := if s.mon.fillOf.isSome && !s.mon.spoilt then some s.mon.fill else s.mon.ready
        mon.readyAt := if s.mon.fillOf.isSome && !s.mon.spoilt then s.clk else s.mon.readyAt
        mon.fill := {}, mon.spoilt := false, mon.fillOf := some frame }
    match gridPos col (s1.monFld 0x14C 0 12) (s1.monFld 0x14C 12 4) (s1.monFld 0x148 0 12) with
    | some gx => recs.foldl (fun t r => t.fillCell gx r.toNat) s1
    | none => s1

end Sys2Proof.Machine
end

