-- ==== Sys2Proof/Machine/Mailbox.lean ====
section
/-! DEFINITION. The mailboxes, semaphores, rings and registers of the host ports (R6, R324, R326, R331 to R345, R350, R351, R370,
R372, R455). -/

namespace Sys2Proof.Machine

open Sys2Proof

/-! ### The commands of interface level 3 (R352) -/

/-- The rows of Command Reference. -/
def commands : List CmdDef :=
  [cmdDevIdentify, cmdDevStatus, cmdDevReset, cmdModeStart, cmdModeStop, cmdModeSet, cmdModeStatus, cmdServiceEnter, cmdServiceExit,
    cmdServiceProof, cmdFeConfig, cmdFeTrim, cmdFeStatus, cmdPointConfig, cmdPointStatus, cmdCalLoad, cmdCalStatus]
  ++ [cmdEmitConfig, cmdEmitStatus, cmdLedgerSet, cmdLedgerStatus, cmdPwrSet, cmdPwrStatus, cmdLoopClose, cmdLoopOpen, cmdLoopCoef,
    cmdLoopSet, cmdLoopRepClear, cmdLoopStatus, cmdSchedLoad, cmdSchedStatus, cmdSafeConfig, cmdSafeStatus]
  ++ [cmdHkConfig, cmdHkSwitch, cmdHkTherm, cmdHkUrgent, cmdHkRead, cmdRidgeLaneCfg, cmdRidgeLaneTest, cmdRidgeLaneStatus,
    cmdChainConfig, cmdChainDiscover, cmdChainTimeSet, cmdChainStatus, cmdHostNetConfig, cmdHostStatus]
  ++ [cmdSemClaim, cmdSemRelease, cmdSemLease, cmdSemStatus, cmdKeyRotate, cmdKeyProvision, cmdKeySchedDigest, cmdKeyStatus,
    cmdFwWrite, cmdFwCommit, cmdFwStatus, cmdMonWrite, cmdMonRead, cmdFaultLog, cmdFaultUnits, cmdHealthConfig, cmdHealthRead,
    cmdHistDump]

/-- The row of an opcode (R339, step 1). -/
def commandOf (op : Nat) : Option CmdDef :=
  commands.find? (fun d => d.op = op)

/-! ### Access to the register window -/

/-- The register window of R332 is there: PCI Express, powered, out of reset and in D0, past BOOT (R323, R325, R448, R455). -/
def State.window (s : State) (p : HostPort) : Bool :=
  s.isPcie p && s.domOn (28 + portIdx p) && !(s.port p).perst && !(s.port p).d3 && s.life.lcs != .boot

/-! ### Doorbells and indices (R335, R336) -/

/-- A valid tail hands over the slots up to it; each keeps the instant of its doorbell (R336, R496). -/
def Mailbox.handOver (b : Mailbox) (clk : Nat) : Mailbox :=
  let more := (List.range (ringCount b.cmdHead b.cmdTail)).drop (ringCount b.cmdHead b.handed)
  { b with
    tailErr := false, handed := b.cmdTail
    rings := more.foldl (fun t i => tput 0 t ((b.cmdHead.toNat + i) % 32) clk) b.rings }

/-- A write to DOORBELL (R336): a valid tail hands over; otherwise TAIL_ERR and 0x7005. -/
def State.ring (s : State) (p : HostPort) (m : Nat) : State :=
  let b := s.mb p m
  if 32 < ringCount b.cmdHead b.cmdTail then
    (s.modMb p m (fun b => { b with tailErr := true })).fault 0x7005 17 (portIdx p)
  else s.modMb p m (fun b => b.handOver s.clk)

/-- A doorbell of the other port waits for the same FAB_CK cycle (R324). -/
def State.meetsBell (s : State) (p : HostPort) : Bool :=
  s.cycleRows.any (fun c => match c with
    | .doorbell _ q _ => q != p && s.window q
    | _ => false)

/-- DOORBELL (R324, R336): a meeting of both ports alternates the priority bit. -/
def execDoorbell (dt : Nat) (p : HostPort) (m : Fin 4) (s : State) : Res :=
  run dt s (fun s =>
    if !s.window p then s
    else if s.meetsBell p then { s.ring p m.val with prio := !s.prio }
    else s.ring p m.val)

/-! ### Taking a command (R336 to R339) -/

/-- A command slot of the ring (R332). -/
def Mailbox.slot (b : Mailbox) (i : Nat) : Nat :=
  (List.range 16).foldl (fun n j => n + (tget 0#32 b.cmdRing (16 * i + j)).toNat * 2 ^ (32 * j)) 0

/-- The device takes the next command of a mailbox (R336 to R338). `din`: the data that its DMA reads at
DATA_ADDR; none: a completion timeout
(R355). -/
def State.take (s : State) (p : HostPort) (m : Fin 4) (din : Option (List Byte)) : State :=
  let b := s.mb p m.val
  if !s.canServe (localEntry p) m.val then s
  else if s.isPcie p then
    (if b.cmdHead = b.handed then s
     else
      let i := fld b.cmdHead.toNat 0 5
      let slot := b.slot i
      let s1 := s.modMb p m.val (fun b => { b with cmdHead := nextIdx b.cmdHead, rangAt := tget 0 b.rings i })
      let s2 := if !slotDir slot && 0 < slotDlen slot then s1.say (.dmaRead p (slotAddr slot) (slotDlen slot)) else s1
      s2.serve (commandOf (slotOp slot)) { entry := localEntry p, mb := m, slot := BitVec.ofNat 512 slot, din := din }
        (cmdByte p m.val i) i none)
  else match b.queue with
    | [] => s
    | c :: rest =>
      let s1 := s.modMb p m.val (fun b => { b with queue := rest, rangAt := c.came })
      s1.serve (commandOf (slotOp c.slot.toNat)) { entry := localEntry p, mb := m, slot := c.slot, din := some c.data }
        (cmdByte p m.val 0) b.fwdSlot.toNat (some c.src)

/-- The slot that a mailbox takes next, where one waits (R336, R338). -/
def State.waiting (s : State) (p : HostPort) (m : Nat) : Option Nat :=
  let b := s.mb p m
  if s.isPcie p then (if b.cmdHead = b.handed then none else some (b.slot (fld b.cmdHead.toNat 0 5)))
  else b.queue.head?.map (fun c => c.slot.toNat)

/-- A mailbox can take a critical command (R324). -/
def State.critWaits (s : State) (p : HostPort) (m : Nat) : Bool :=
  s.canServe (localEntry p) m && (s.waiting p m).any (fun x => (commandOf (slotOp x)).any (fun d => d.critical))

/-- A critical command of the other port that is taken in the same FAB_CK cycle as one of this port (R324). -/
def State.meetsTake (s : State) (p : HostPort) (m : Nat) : Option (HostPort × Fin 4 × Option (List Byte)) :=
  if !s.critWaits p m then none
  else s.cycleRows.findSome? (fun c => match c with
    | .mailboxTake _ q k din => if q != p && s.critWaits q k.val then some (q, k, din) else none
    | _ => none)

/-- The semaphore that the command of a mailbox's next slot claims (R344). -/
def State.claimWaits (s : State) (p : HostPort) (m : Nat) : Option Nat :=
  match s.waiting p m with
  | some x => if s.canServe (localEntry p) m && slotOp x = cmdSemClaim.op && fld x 320 8 < 32 then some (fld x 320 8) else none
  | none => none

/-- The local port and the semaphore of a row that claims one (R324, R344). -/
def State.claimOf (s : State) (c : Instr) : Option (HostPort × Nat) :=
  match c with
  | .semReadClaim _ q n => if s.window q then some (q, n.val) else none
  | .semClaim _ r => if r.entry.pair.isNone && fld r.slot.toNat 320 8 < 32 then some (r.entry.port, fld r.slot.toNat 320 8) else none
  | .mailboxTake _ q m _ => (s.claimWaits q m.val).map (fun n => (q, n))
  | _ => none

/-- A port claims a semaphore: where the other port claims one in the same FAB_CK cycle, the priority bit says which is served first, and
then alternates (R324, R351). -/
def State.claimTurn (s : State) (p : HostPort) (n : Nat) (f : State → State) : State :=
  match (s.cycleRows.filterMap s.claimOf).find? (fun x => x.1 != p) with
  | some (q, k) => { f (if k = n && s.prio = (q == .B) then s.claim (localEntry q) n else s) with prio := !s.prio }
  | none => f s

/-- As `State.take`; where critical commands, or claims of semaphores, of both ports meet, the priority bit says which is evaluated first, and then alternates. The
row whose command went first finds it taken (R324). -/
def State.takeInTurn (s : State) (p : HostPort) (m : Fin 4) (din : Option (List Byte)) : State :=
  if s.early = some (p, m.val) then { s with early := none }
  else match s.meetsTake p m.val with
    | some (q, k, d) =>
      let first := if s.prio = (q == .B) then { s.take q k d with early := some (q, k.val) } else s
      { first.take p m din with prio := !s.prio }
    | none => match s.claimWaits p m.val with
      | some n => s.claimTurn p n (fun s => s.take p m din)
      | none => s.take p m din

/-- A frame or datagram is discarded and counted (R327). -/
def State.dropFrame (s : State) (p : HostPort) : State :=
  s.modPort p (fun h => { h with discards := (h.discards + 1) % 2 ^ 32 })

/-- A well-formed command datagram reaches its mailbox: answered from the keep, with BUSY, or queued (R338). -/
def State.ethCommand (s : State) (p : HostPort) (src : Endpoint) (m slot : Nat) (data : List Byte) : State :=
  let b := s.mb p m
  match b.keep.find? (fun k => k.2.tag.toNat = slotTag slot && k.2.counter.toNat = slotCounter slot) with
  | some k => s.sayRsp p m (some src) k.2
  | none =>
    if 32 ≤ b.queue.length then s.say (.rsp (localEntry p) m (some src) (s.rspOf slot (s.fail stBusy)))
    else s.modMb p m (fun b => { b with
      queue := b.queue ++ [{ src := src, slot := BitVec.ofNat 512 slot, data := data, came := s.clk }] })

/-- The port runs on Ethernet and is powered. -/
def State.ethOn (s : State) (p : HostPort) : Bool :=
  s.isEth p && s.domOn (28 + portIdx p)

/-- ETH_COMMAND_DATAGRAM: a datagram to the mailbox UDP port (R338). -/
def execEthCommandDatagram (dt : Nat) (p : HostPort) (src : Endpoint) (bytes : List Byte) (s : State) : Res :=
  run dt s (fun s =>
    if !s.ethOn p then s
    else
      let slot := leAt bytes 4 64
      let n := bytes.length
      if leAt bytes 0 3 = 0x014D5A && leAt bytes 3 1 < 4 && 68 ≤ n && n = 68 + (if slotDir slot then 0 else slotDlen slot)
        && n ≤ 1468 then
        s.ethCommand p src (leAt bytes 3 1) slot (bytes.drop 68)
      else s.dropFrame p)

/-! ### Commands in execution (R307, R337, R370) -/

/-- A command in execution on a mailbox is answered. -/
def State.answer (s : State) (p : HostPort) (m : Nat) (x : Exec) (a : Ans) : State :=
  let r := a.st.rspOf x.req.slot.toNat a
  (s.modMb p m (fun b => { b with exec := none })).writeRsp p m x.src r

/-- Byte 0 of a CMD names a port and mailbox (R307). -/
def ofMailbox (b0 : Nat) (p : HostPort) (m : Nat) : Bool :=
  fld b0 0 1 = portIdx p && fld b0 1 2 = m

/-- A forwarded pair's command in execution is answered with an RSP. -/
def State.answerRemote (s : State) (x : Nat × Exec) (a : Ans) : State :=
  { s with remote := s.remote.filter (fun y => y != x) }.respond x.2.req.entry x.2.req.mb.val x.1 none
    (a.st.rspOf x.2.req.slot.toNat a)

/-- COMMAND_TIMEOUT: commands in execution whose timeout has expired return TIMEOUT (R307, R337). -/
def execCommandTimeout (dt : Nat) (p : HostPort) (m : Fin 4) (s : State) : Res :=
  run dt s (fun s =>
    let s1 := match (s.mb p m.val).exec with
      | some x => if x.until_ ≤ s.clk then s.answer p m.val x (s.fail stTimeout) else s
      | none => s
    (s.remote.filter (fun x => ofMailbox x.1 p m.val && x.2.until_ ≤ s.clk)).foldl (fun t x =>
      t.answerRemote x (t.fail stTimeout)) s1)

/-- The HIST packets of a dump (R314, R370): per column its chain time and region, cut at 2,032 bytes. -/
def State.histPackets (s : State) (dest : BitVec 16) (d : HistDump) : List Packet :=
  (List.range (d.bytes.length / 10248)).flatMap (fun c =>
    let col := (d.bytes.drop (10248 * c)).take 10248
    (List.range 6).map (fun i =>
      { dest := dest, src := s.chain.addr, ptype := 2
        data := col.take 8 ++ bytesOf 2 d.ch ++ bytesOf 2 (2032 * i) ++ zeros 4 ++ ((col.drop (8 + 2032 * i)).take 2032)
        stomp := false }))

/-- The dump of an execution is complete (R370). -/
def dumpDone (x : Exec) : Option HistDump :=
  match x.dump with
  | some d => if d.left = 0 then some d else none
  | none => none

/-- A forwarded pair's dump is complete: its data goes in HIST packets, the RSP names its length (R307, R370). -/
def State.dumpRemote (s : State) (x : Nat × Exec) : State :=
  match dumpDone x.2, x.2.req.entry.pair with
  | some d, some a =>
    let r := { s.rspOf x.2.req.slot.toNat (s.ok) with rlen := d.bytes.length }
    ({ s with remote := s.remote.filter (fun y => y != x) }.respond x.2.req.entry x.2.req.mb.val x.1 none r).queuePackets
      (s.histPackets a d)
  | _, _ => s

/-- HIST_DUMP_COMPLETE: the last dumped column's set has been handed over (R370). -/
def execHistDumpComplete (dt : Nat) (p : HostPort) (m : Fin 4) (s : State) : Res :=
  run dt s (fun s =>
    let s1 := match (s.mb p m.val).exec with
      | some x => match dumpDone x with
        | some d => s.answer p m.val x (s.okData d.bytes)
        | none => s
      | none => s
    (s.remote.filter (fun x => ofMailbox x.1 p m.val)).foldl State.dumpRemote s1)

/-! ### Semaphores (R324, R344, R345, R351) -/

/-- A read of SEM[n] by a port: it claims a free semaphore (R344). -/
def State.readSem (s : State) (p : HostPort) (n : Nat) : State :=
  let s1 := s.claim (localEntry p) n
  s1.say (.semRead p n (BitVec.ofNat 32 (s1.semWord (some (localEntry p)) n)))

/-- SEM_READ_CLAIM (R324, R344, R351). -/
def execSemReadClaim (dt : Nat) (p : HostPort) (n : Fin 32) (s : State) : Res :=
  run dt s (fun s => if s.window p then s.claimTurn p n.val (fun s => s.readSem p n.val) else s)

/-- SEM_CLAIM (R324, R344, R351). -/
def execSemClaim (dt : Nat) (r : Req) (s : State) : Res :=
  run dt s (fun s =>
    if r.entry.pair.isNone then s.claimTurn r.entry.port (fld r.slot.toNat 320 8) (State.command cmdSemClaim r)
    else State.command cmdSemClaim r s)

/-- A write to SEM[n]: the owner sets LEASE, or frees the semaphore with RELEASE (R344, R345). The reserved LEASE 0 reads back and acts
as 20 (R9). -/
def State.writeSem (s : State) (p : HostPort) (n w : Nat) : State :=
  if (s.sem n).owner != some (localEntry p) then s
  else if bitN w 7 then s.release (localEntry p) n
  else s.modSem n (fun x => { x with lease := BitVec.ofNat 8 (fld w 8 8) })

/-- SEM_WRITE_RELEASE (R344). -/
def execSemWriteRelease (dt : Nat) (p : HostPort) (n : Fin 32) (w : Word) (s : State) : Res :=
  run dt s (fun s => if s.window p then s.writeSem p n.val w.toNat else s)

/-- SEM_LEASE_EXPIRY: the semaphore is freed, with EV_SEM_EXPIRED to both ports (R345). -/
def execSemLeaseExpiry (dt : Nat) (n : Fin 32) (s : State) : Res :=
  run dt s (fun s =>
    match (s.sem n.val).owner with
    | some e =>
      if (s.sem n.val).exp ≤ s.clk then
        (s.modSem n.val (fun _ => {})).raise 0x1102 [BitVec.ofNat 8 n.val, BitVec.ofNat 8 (portIdx e.port + 1)]
      else s
    | none => s)

/-- LOCKOUT_END (R350). -/
def execLockoutEnd (dt : Nat) (who : Entry) (s : State) : Res :=
  run dt s (fun s =>
    match (s.auth who).lockUntil with
    | some t => if t ≤ s.clk then s.modAuth who (fun a => { a with lockUntil := none }) else s
    | none => s)

/-! ### Rings (R341, R343) -/

/-- A ring of a port. -/
def HostSt.ringOf (h : HostSt) : RingKind → Ring
  | .point => h.points
  | .event => h.events

/-- A ring of a port replaced. -/
def HostSt.setRing (h : HostSt) (k : RingKind) (r : Ring) : HostSt :=
  match k with
  | .point => { h with points := r }
  | .event => { h with events := r }

/-- A write to CTRL (R341): SIZE is ignored while ENABLE = 1; setting ENABLE zeroes PROD and CONS, and an event ring's first enabling
opens its path (R343). -/
def State.writeCtrl (s : State) (p : HostPort) (k : RingKind) (w : Nat) : State :=
  let h := s.port p
  let r := h.ringOf k
  let was := bitN r.ctrl.toNat 0
  let w' := setFld (if was then setFld w 2 5 (fld r.ctrl.toNat 2 5) else w) 7 1 0
  let r1 := { r with ctrl := BitVec.ofNat 32 w', live := bitN w 0 }
  let r2 := if bitN w 0 && !was then { r1 with prod := 0, cons := 0, units := 0 } else r1
  let s1 := s.setPort p (h.setRing k r2)
  if k = .event && bitN w 0 then s1.openPath p else s1

/-- RING_ENABLE (R341, R343): a write to CTRL with ENABLE set. -/
def execRingEnable (dt : Nat) (p : HostPort) (k : RingKind) (w : Word) (s : State) : Res :=
  run dt s (fun s => if s.window p then s.writeCtrl p k (setFld w.toNat 0 1 1) else s)

/-- RING_DISABLE (R341, R351): a write to CTRL with ENABLE clear; a column in delivery has been completed. -/
def execRingDisable (dt : Nat) (p : HostPort) (k : RingKind) (w : Word) (s : State) : Res :=
  run dt s (fun s => if s.window p then s.writeCtrl p k (setFld w.toNat 0 1 0) else s)

/-- A write to another register of a ring block (R341). -/
def Ring.write (r : Ring) (off w : Nat) : Ring :=
  let on := bitN r.ctrl.toNat 0
  if off = 0x10 then { r with cons := BitVec.ofNat 32 w }
  else if on then r
  else if off = 0x00 then { r with base := BitVec.ofNat 64 (setFld r.base.toNat 0 32 w) }
  else if off = 0x04 then { r with base := BitVec.ofNat 64 (setFld r.base.toNat 32 32 w) }
  else if off = 0x18 then { r with wb := BitVec.ofNat 64 (setFld r.wb.toNat 0 32 w) }
  else if off = 0x1C then { r with wb := BitVec.ofNat 64 (setFld r.wb.toNat 32 32 w) }
  else r

/-! ### Register writes (R6, R332) -/

/-- CT_LATCH latches chain time (R331). -/
def State.latch (s : State) (p : HostPort) : State :=
  s.modPort p (fun h => { h with ctLatch := BitVec.ofNat 64 s.now })

/-- CT_LATCH (R331). -/
def execCtLatch (dt : Nat) (p : HostPort) (s : State) : Res :=
  run dt s (fun s => if s.window p then s.latch p else s)

/-- A word of the MSI-X table; a vector unmasked while it is pending is sent (R332, log entry 18). -/
def State.writeMsix (s : State) (p : HostPort) (i w : Nat) : State :=
  let v := i / 4
  let s1 := s.modPort p (fun h => { h with msix := tput 0#32 h.msix i (BitVec.ofNat 32 w) })
  if i % 4 = 3 && !bitN w 0 && bitN (s.port p).pba.toNat v then
    (s1.modPort p (fun h => { h with pba := BitVec.ofNat 32 (setFld h.pba.toNat v 1 0) })).say (.msi p v)
  else s1

/-- A write in a mailbox's block of index registers (R335). -/
def State.writeIndex (s : State) (p : HostPort) (m off w : Nat) : State :=
  if off = 0x00 then s.modMb p m (fun b => { b with cmdTail := BitVec.ofNat 6 w })
  else if off = 0x0C then s.modMb p m (fun b => { b with rspHead := BitVec.ofNat 6 w })
  else if off = 0x10 then s.ring p m
  else s

/-- A write in the register window (R6, R332, R335, R340, R341, R344, R372); registers that are read only or reserved ignore it. A
bit of INT_STAT set in the same cycle ends set (R7). -/
def State.writeReg (s : State) (p : HostPort) (off w : Nat) : State :=
  if off = 0x0020 || off = 0x0024 then s.latch p
  else if off = 0x0100 then s.modPort p (fun h => { h with intMap := BitVec.ofNat 32 (fld w 0 30) })
  else if off = 0x0104 then s.modPort p (fun h => { h with intStat := (h.intStat &&& ~~~ (BitVec.ofNat 32 w))
    ||| (if h.intAt = s.clk / fabCk then h.intNew else 0) })
  else if 0x1000 ≤ off && off < 0x1100 then s.writeIndex p ((off - 0x1000) / 0x40) (off % 0x40) w
  else if 0x2000 ≤ off && off < 0x2080 then s.writeSem p ((off - 0x2000) / 4) w
  else if off = 0x3008 then s.writeCtrl p .point w
  else if off = 0x3048 then s.writeCtrl p .event w
  else if 0x3000 ≤ off && off < 0x3024 then s.modPort p (fun h => { h with points := h.points.write (off - 0x3000) w })
  else if 0x3040 ≤ off && off < 0x3064 then s.modPort p (fun h => { h with events := h.events.write (off - 0x3040) w })
  else if 0x4000 ≤ off && off < 0x8000 && off % 0x1000 < 0x800 then
    s.modMb p ((off - 0x4000) / 0x1000) (fun b => { b with cmdRing := tput 0#32 b.cmdRing (off % 0x1000 / 4) (BitVec.ofNat 32 w) })
  else if 0x8000 ≤ off && off < 0x8200 then s.writeMsix p ((off - 0x8000) / 4) w
  else if 0xA000 ≤ off && off < 0xB000 then (if s.holds (localEntry p) 4 then s.monWrite (off - 0xA000) w else s)
  else s

/-- A write in the boot window (R455); a write to BOOT_GO is the row BOOT_GO, which carries what its DMA reads. -/
def State.writeBoot (s : State) (off w : Nat) : State :=
  let b := s.power.boot
  if off = 0x0040 then { s with power.boot.addr := BitVec.ofNat 64 (setFld b.addr.toNat 0 32 w) }
  else if off = 0x0044 then { s with power.boot.addr := BitVec.ofNat 64 (setFld b.addr.toNat 32 32 w) }
  else if off = 0x0048 then { s with power.boot.len := BitVec.ofNat 32 w }
  else s

/-- REGISTER_WRITE: a 32-bit write at an aligned offset of BAR0 (R6, R332, R455). -/
def execRegisterWrite (dt : Nat) (p : HostPort) (off : BitVec 16) (w : Word) (s : State) : Res :=
  run dt s (fun s =>
    let o := off.toNat / 4 * 4
    if s.window p then s.writeReg p o w.toNat
    else if s.isPcie p && s.domOn (28 + portIdx p) && !(s.port p).perst then s.writeBoot o w.toNat
    else s)

/-! ### Register reads (R6, R332) -/

/-- A register of a ring block (R341). -/
def Ring.read (r : Ring) (off : Nat) : Nat :=
  match off with
  | 0x00 => fld r.base.toNat 0 32
  | 0x04 => fld r.base.toNat 32 32
  | 0x08 => r.ctrl.toNat
  | 0x0C => r.prod.toNat
  | 0x10 => r.cons.toNat
  | 0x18 => fld r.wb.toNat 0 32
  | 0x1C => fld r.wb.toNat 32 32
  | 0x20 => r.lost.toNat
  | _ => 0

/-- A register of a mailbox (R335); DOORBELL reads 0. -/
def Mailbox.read (b : Mailbox) (off : Nat) : Nat :=
  match off with
  | 0x00 => b.cmdTail.toNat
  | 0x04 => b.cmdHead.toNat
  | 0x08 => b.rspTail.toNat
  | 0x0C => b.rspHead.toNat
  | 0x14 => b2n b.tailErr + 2 * b2n b.exec.isSome + 2 ^ 8 * ringCount b.cmdHead b.handed
  | _ => 0

/-- A word of TIME_MAP (R332). -/
def State.mapWord (s : State) (off : Nat) : Nat :=
  let secs := (s.map.p0 / 10 ^ 9).toNat % 2 ^ 48
  match off with
  | 0x30 => b2n (s.mapPort.any (fun p => (s.port p).ptp.valid)) + 2 * b2n (s.mapPort == some .B)
  | 0x34 => uns 32 s.map.rate
  | 0x38 => fld s.map.c0 0 32
  | 0x3C => fld s.map.c0 32 32
  | 0x40 => fld secs 0 32
  | 0x44 => fld secs 32 32
  | 0x48 => (s.map.p0 % 10 ^ 9).toNat
  | _ => 0

/-- The registers that stand in the window in BOOT too (R332, R455). -/
def State.readCommon (s : State) (p : HostPort) (off : Nat) : Option Nat :=
  match off with
  | 0x0000 => some (0x1024 + 0x41 * 2 ^ 16 + 2 ^ 24 * s.power.boot.ifl)
  | 0x0004 => some s.bootStatus
  | 0x0008 => some (fld s.otp.uid.toNat 0 32)
  | 0x000C => some (fld s.otp.uid.toNat 32 32)
  | 0x0010 => some (s.stateWord (localEntry p))
  | 0x0014 => some s.life.bootId.toNat
  | _ => none

/-- What a 32-bit read at an aligned offset of BAR0 returns (R6, R8, R332): RO and RW registers their value, WO and reserved ones 0. A read
of SEM[n] claims it besides, which is the row SEM_READ_CLAIM. -/
def State.readReg (s : State) (p : HostPort) (off : Nat) : Nat :=
  let h := s.port p
  match s.readCommon p off with
  | some x => x
  | none =>
    if off = 0x0018 then s.chain.addr.toNat
    else if off = 0x0020 then fld h.ctLatch.toNat 0 32
    else if off = 0x0024 then fld h.ctLatch.toNat 32 32
    else if 0x0030 ≤ off && off < 0x004C then s.mapWord off
    else if off = 0x0100 then h.intMap.toNat
    else if off = 0x0104 then h.intStat.toNat
    else if 0x1000 ≤ off && off < 0x1100 then (s.mb p ((off - 0x1000) / 0x40)).read (off % 0x40)
    else if 0x2000 ≤ off && off < 0x2080 then
      (s.claim (localEntry p) ((off - 0x2000) / 4)).semWord (some (localEntry p)) ((off - 0x2000) / 4)
    else if 0x2080 ≤ off && off < 0x2100 then s.semWord (some (localEntry p)) ((off - 0x2080) / 4)
    else if 0x3000 ≤ off && off < 0x3024 then h.points.read (off - 0x3000)
    else if 0x3040 ≤ off && off < 0x3064 then h.events.read (off - 0x3040)
    else if 0x4000 ≤ off && off < 0x8000 then
      let b := s.mb p ((off - 0x4000) / 0x1000)
      let i := off % 0x1000 / 4
      if i < 512 then (tget 0#32 b.cmdRing i).toNat else if i < 1024 then (tget 0#32 b.rspRing (i - 512)).toNat else 0
    else if 0x8000 ≤ off && off < 0x8200 then (tget 0#32 h.msix ((off - 0x8000) / 4)).toNat
    else if off = 0x8800 then h.pba.toNat
    else if 0xA000 ≤ off && off < 0xB000 then s.monRead (off - 0xA000)
    else 0

/-- What a read in the boot window returns (R455). -/
def State.readBoot (s : State) (p : HostPort) (off : Nat) : Nat :=
  match s.readCommon p off with
  | some x => x
  | none =>
    if off = 0x0040 then fld s.power.boot.addr.toNat 0 32
    else if off = 0x0044 then fld s.power.boot.addr.toNat 32 32
    else if off = 0x0048 then s.power.boot.len.toNat
    else 0

/-- The class code of the configuration space of a port in PCI Express mode (R325). -/
def classCode : Nat := 0x118000

/-- Its Device Serial Number: DEVICE_UID (R325). -/
def State.serialNumber (s : State) : BitVec 64 :=
  s.otp.uid

/-- What a read of BAR0 of a port returns: the register window, or in BOOT the boot window (R332, R455). -/
def State.barRead (s : State) (p : HostPort) (off : BitVec 16) : Nat :=
  let o := off.toNat / 4 * 4
  if s.window p then s.readReg p o else s.readBoot p o

/-! ### Sessions (R326, R448, R473, R480) -/

/-- A port's host session ends, with its effect on the monitor (R326, R473). -/
def State.sessionOver (s : State) (p : HostPort) : State :=
  (s.endSession p).monSession p

/-- A link goes down: 0x7001 where it was up, and the session ends (R326, R473, R480). -/
def State.linkLost (s : State) (p : HostPort) : State :=
  if (s.port p).linkUp then
    ((s.modPort p (fun h => { h with linkUp := false, d3 := false })).fault 0x7001 17 (portIdx p)).sessionOver p
  else s.sessionOver p

/-- A reset of the function returns its configuration space and its MSI-X structures to their values (R325, log entry 167). -/
def State.conventional (s : State) (p : HostPort) : State :=
  s.modPort p (fun h => { h with msix := [], pba := 0, msixOn := true, fnMask := false, d3 := false })

/-- HOST_SESSION_END: FLR, hot reset, entry to D3hot and link down (R325, R326, R480). -/
def execHostSessionEnd (dt : Nat) (p : HostPort) (why : SessionEnd) (s : State) : Res :=
  run dt s (fun s =>
    if s.isPcie p then
      match why with
      | .linkDown => s.linkLost p
      | .d3hot => (s.sessionOver p).modPort p (fun h => { h with d3 := true })
      | _ => (s.sessionOver p).conventional p
    else s)

/-- HOST_LINK_DOWN: 0x7001, and the session ends (R326, R473, R480). -/
def execHostLinkDown (dt : Nat) (p : HostPort) (s : State) : Res :=
  run dt s (fun s =>
    if (s.port p).linkUp then s.linkLost p else s)

/-- HOST_LINK_UP: a powered port that is not held in reset has trained; the rate and width that a PCI Express link
negotiates are free values (R325, R448, R473; log entry 167). -/
def execHostLinkUp (dt : Nat) (p : HostPort) (s : State) : Res :=
  run dt s (fun s =>
    if s.portMode p != 0 && s.domOn (28 + portIdx p) && !(s.isPcie p && (s.port p).perst) then
      (if s.isPcie p then s.took.took.modPort p (fun h => { h with
        linkUp := true, d3 := false, rate := Config.freeNat s.free % 4, width := Config.freeNat (s.free + 1) % 3 })
       else s.modPort p (fun h => { h with linkUp := true }))
    else s)

/-- HOST_PERST: a conventional reset of the port, with the effects of R326 (R448). -/
def execHostPerst (dt : Nat) (p : HostPort) (s : State) : Res :=
  run dt s (fun s =>
    if s.isPcie p then ((s.sessionOver p).conventional p).modPort p (fun h => { h with perst := true, linkUp := false })
    else s.modPort p (fun h => { h with perst := true }))

/-- HOST_PERST_RELEASE: the port may train (R448). -/
def execHostPerstRelease (dt : Nat) (p : HostPort) (s : State) : Res :=
  run dt s (fun s => s.modPort p (fun h => { h with perst := false }))

/-- HOST_AER_FATAL (R480). -/
def execHostAerFatal (dt : Nat) (p : HostPort) (s : State) : Res :=
  run dt s (fun s => if s.isPcie p && s.domOn (28 + portIdx p) then s.fault 0x7002 17 (portIdx p) else s)

/-- HOST_DMA_TIMEOUT: a read of the device met a completion timeout (R325, R480). -/
def execHostDmaTimeout (dt : Nat) (p : HostPort) (s : State) : Res :=
  run dt s (fun s => if s.isPcie p && s.domOn (28 + portIdx p) then s.fault 0x7003 17 (portIdx p) else s)

end Sys2Proof.Machine
end

