-- ==== Sys2Proof/Machine/Stream.lean ====
section
/-! DEFINITION. What a host port carries beside its commands: the point stream (R132, R133, R308, R341, R342), event datagrams (R343), the
protocols of an Ethernet port (R327, R328) and its IEEE 1588 clock (R329, R330); and the service record (R488). -/

namespace Sys2Proof.Machine

open Sys2Proof

/-! ### The point stream -/

/-- A device with no calibration block in force says so in every header (R116, R133). -/
def State.uncal (s : State) : Bool :=
  s.front.cal.isNone

/-- The column header of a result for a stream that carries `k` of its `n` records (R133). DESIGN CHOICE (log entry 33): PARTIAL of an
end header is 0. -/
def State.header (s : State) (x : Result) (k n : Nat) : Nat :=
  let c := x.col
  let cut := c.partialFrame || (x.endCause.isNone && s.mode.cutFrame = some c.frame)
  c.start % 2 ^ 64 + 2 ^ 64 * (c.angleA % 2 ^ 20) + 2 ^ 84 * uns 20 c.angleB + 2 ^ 104 * (c.frame % 2 ^ 32)
    + 2 ^ 136 * (c.col % 2 ^ 12) + 2 ^ 148 * (c.mode % 16) + 2 ^ 152 * c.variants.toNat + 2 ^ 168 * c.contrib.toNat
    + 2 ^ 176 * x.lost.toNat + 2 ^ 184 * x.chanLost.toNat + 2 ^ 192 * k + 2 ^ 205 * b2n cut + 2 ^ 206 * b2n c.settling
    + 2 ^ 207 * b2n x.suppressed + 2 ^ 208 * b2n (c.kind == .listen) + 2 ^ 209 * b2n c.degraded
    + 2 ^ 210 * b2n x.endCause.isSome + 2 ^ 211 * b2n (k < n) + 2 ^ 212 * x.endCause.getD 0 + 2 ^ 214 * b2n s.uncal
    + 2 ^ 216 * s.chain.addr.toNat + 2 ^ 232 * 0x5A

/-- The records of a result in stream order, after the class filter (R126, R132, R133, R136). -/
def State.streamOf (s : State) (x : Result) : List (BitVec 128) :=
  let keep := fun (r : BitVec 128) => bitN s.front.point.toNat (16 + fld r.toNat 54 4)
  ((List.range 8).flatMap (fun k => if bitN x.lost.toNat k then [] else tget [] x.recs k)).filter keep

/-- The records that a stream with some free units carries (R342). -/
def carried (free n : Nat) : Nat :=
  min n (free - 130)

/-- The line rate of an Ethernet port in units of 16 bytes per 8,192 ticks (R323, R342). -/
def State.lineRate (s : State) (p : HostPort) : Nat :=
  if s.portMode p = 2 then 25 else 10

/-- The stream queue is emptied at line rate up to now, but while datagrams of it wait for their next hop (R327, R342). -/
def State.drainStream (s : State) (p : HostPort) : State :=
  let h := s.port p
  let rate := s.lineRate p
  let n := if h.streamWait.isEmpty then (s.clk - h.streamAt) * rate / 8192 else 0
  s.setPort p (if h.streamQ ≤ n then { h with streamQ := 0, streamAt := s.clk }
    else { h with streamQ := h.streamQ - n, streamAt := h.streamAt + n * 8192 / rate })

/-- A column was not delivered on a port; the first after a delivered one raises EV_STREAM_OVERRUN (R342). -/
def State.overrun (s : State) (p : HostPort) : State :=
  let h := s.port p
  let s1 := s.setPort p { h with
    points := if s.isPcie p then h.points.lose else h.points
    streamLost := if s.isPcie p then h.streamLost else h.streamLost + 1
    delivered := false }
  if h.delivered then s1.raise 0x1002 [BitVec.ofNat 8 (portIdx p)] else s1

/-- The delay of a column on a port is sampled as its header goes out (R496). -/
def State.sampleDelivery (s : State) (p : HostPort) (x : Result) : State :=
  s.sample 0x02 (portIdx p) ((s.now - x.col.stop : Nat) / 64)

/-- The 16-byte units of a column: the header and some records (R133, R342). -/
def unitsOf (hdr : Nat) (recs : List (BitVec 128)) : List Nat :=
  fld hdr 0 128 :: fld hdr 128 128 :: recs.map (·.toNat)

/-- The POINTS payloads of a column that starts at `start`: its units, at most `per` in each; `tail`: prefix bytes 12 to 15 (R314,
R342). -/
def pointsPayloads (start per : Nat) (units : List Nat) (tail : Nat → Nat) : List (List Byte) :=
  (List.range ((units.length + per - 1) / per)).map (fun i =>
    let us := (units.drop (per * i)).take per
    bytesOf 8 start ++ bytesOf 2 (per * i - 2) ++ bytesOf 1 us.length ++ bytesOf 1 (b2n (i = 0)) ++ bytesOf 4 (tail i)
      ++ us.flatMap (bytesOf 16))

/-- The host addresses of the next units of a ring: BASE, and the unit at index mod 2^SIZE (R341). -/
def ringAddrs (r : Ring) (k : RingKind) (bytes units : Nat) : List Nat :=
  (List.range units).map (fun i => r.base.toNat + bytes * ((r.prod.toNat + i) % 2 ^ ringLog k r.ctrl))

/-- Delivery on a PCI Express port: the point ring (R341, R342). -/
def State.deliverRing (s : State) (p : HostPort) (x : Result) (recs : List (BitVec 128)) : State :=
  let h := s.port p
  let free := 2 ^ ringLog .point h.points.ctrl - ringUsed h.points
  if !h.points.live then s
  else if free < 2 then s.overrun p
  else
    let k := carried free recs.length
    let units := 2 + k
    let r := { h.points.adv units with
      units := h.points.units + units, first := if h.points.units = 0 then s.clk else h.points.first }
    (((s.setPort p { h with points := r, delivered := true }).say
      (.column p (BitVec.ofNat 256 (s.header x k recs.length)) (recs.take k) (ringAddrs h.points .point 16 units))).sampleDelivery p
        x).writeBack p r

/-- The address that a datagram to `ip` needs resolved: the destination on the own net, else the gateway; without a gateway there is
none (R327, R328). -/
def NetCfg.nextHop (n : NetCfg) (ip : Word) : Option Word :=
  if (ip &&& n.mask) = (n.ip &&& n.mask) then some ip else if n.gw = 0 then none else some n.gw

/-- The next hop of a destination stands in the cache (R327). -/
def State.resolved (s : State) (p : HostPort) (d : Endpoint) : Bool :=
  let h := s.port p
  (h.net.nextHop d.ip).any (fun ip => h.arp.any (fun e => e.ip = ip && s.clk < e.exp))

/-- A next hop without a live cache entry is asked for (R327). -/
def State.resolve (s : State) (p : HostPort) (d : Endpoint) : State :=
  match (s.port p).net.nextHop d.ip with
  | some ip => if s.resolved p d then s else s.say (.arp p false ip)
  | none => s

/-- The stream datagrams that wait go out once their next hop is resolved, in order (R327, R342). -/
def State.flushStream (s : State) (p : HostPort) : State :=
  let h := s.port p
  match h.streamWait with
  | x :: _ =>
    if s.resolved p x.1 then
      h.streamWait.foldl (fun t y => t.say (.points p y.1 y.2)) (s.setPort p { h with streamWait := [], streamAt := s.clk })
    else s
  | [] => s

/-- A stream datagram goes out, or waits until its next hop is resolved (R327, R342). -/
def State.sendStream (s : State) (p : HostPort) (d : Endpoint) (b : List Byte) : State :=
  if s.resolved p d && (s.port p).streamWait.isEmpty then s.say (.points p d b)
  else s.modPort p (fun h => { h with streamWait := h.streamWait ++ [(d, b)] })

/-- Delivery on an Ethernet port: the stream queue of 32,768 units and its datagrams (R342). -/
def State.deliverEth (s : State) (p : HostPort) (x : Result) (recs : List (BitVec 128)) : State :=
  match (s.port p).net.stDst with
  | none => s
  | some d =>
    let s1 := (s.flushStream p).drainStream p
    let h := s1.port p
    let free := 32768 - h.streamQ
    if free < 2 then s1.overrun p
    else
      let k := carried free recs.length
      let ds := pointsPayloads x.col.start h.net.stUnits (unitsOf (s1.header x k recs.length) (recs.take k))
        (fun i => h.streamSeq.toNat + i)
      (ds.foldl (fun t b => t.sendStream p d b) ((s1.setPort p { h with
        streamQ := h.streamQ + 2 + k, streamSeq := h.streamSeq + BitVec.ofNat 32 ds.length, delivered := true }).resolve p d)).sampleDelivery
          p x

/-- The POINTS packets of a column: header first, up to 127 units each (R314). -/
def State.pointsPackets (s : State) (x : Result) (recs : List (BitVec 128)) : List Packet :=
  (pointsPayloads x.col.start 127 (unitsOf (s.header x recs.length recs.length) recs) (fun _ => 0)).map (fun b =>
    { dest := BitVec.ofNat 16 (fld s.chain.word.toNat 16 16), src := s.chain.addr, ptype := 1, data := b, stomp := false })

/-- Delivery to STREAM_DEST (R308). -/
def State.deliverChain (s : State) (x : Result) (recs : List (BitVec 128)) : State :=
  let dest := fld s.chain.word.toNat 16 16
  if dest = 0xFFFF then s else s.queuePackets (s.pointsPackets x recs)

/-- One port receives a column. -/
def State.deliverTo (s : State) (x : Result) (recs : List (BitVec 128)) (p : HostPort) : State :=
  if !s.domOn (28 + portIdx p) then s
  else if s.isPcie p then s.deliverRing p x recs
  else if s.isEth p then s.deliverEth p x recs
  else s

/-- A port takes the stream: its ring is enabled, or it has a stream destination (R341, R342). -/
def State.streams (s : State) (p : HostPort) : Bool :=
  s.domOn (28 + portIdx p) && ((s.isPcie p && (s.port p).points.live) || (s.isEth p && (s.port p).net.stDst.isSome))

/-- The end header of a stop has been written: every present head is told to drain; `delivered`: it reached every enabled ring and queue
(R362). -/
def State.headerWritten (s : State) (delivered : Bool) : State :=
  match s.mode.stop with
  | some st =>
    if st.ended && !st.header then
      ({ s with mode.stop := some { st with header := delivered } } : State).drainAll
    else s
  | none => s

/-- A result is complete: every contributing sector's processing slot has ended. -/
def Result.complete (x : Result) : Bool :=
  x.ended == 0xFF#8

/-- The oldest result that has not been delivered. -/
def nextResult : List Result → Option Result
  | [] => none
  | x :: r => if x.delivered then nextResult r else some x

/-- The oldest undelivered result is marked as delivered; one that the zone comparator is done with leaves the list. -/
def markDelivered : List Result → List Result
  | [] => []
  | x :: r =>
    if x.delivered then x :: markDelivered r
    else if x.evaluated || x.endCause.isSome then r
    else { x with delivered := true } :: r

/-- The oldest column whose processing has ended goes to the range image, to both ports and to the Chain (R132, R308, R342, R469). -/
def State.deliver (s : State) : State :=
  match nextResult s.front.results with
  | some x =>
    if !x.complete then s
    else
      let recs := s.streamOf x
      let s1 := { s with front.results := markDelivered s.front.results }
      let s2 := if x.endCause.isSome then s1 else s1.gridColumn x.col.frame x.col.col recs
      let s3 := ([HostPort.A, HostPort.B].foldl (fun t p => t.deliverTo x recs p) s2).deliverChain x recs
      if x.endCause = some 0 then s3.headerWritten ([HostPort.A, HostPort.B].all (fun p => !s1.streams p || (s3.port p).delivered)) else s3
  | none => s

/-- COLUMN_DELIVERY (R342). -/
def execColumnDelivery (dt : Nat) (s : State) : Res :=
  run dt s State.deliver

/-- POINT_INTERRUPT: the moderation of the point ring signals its vector (R341). -/
def execPointInterrupt (dt : Nat) (p : HostPort) (s : State) : Res :=
  run dt s (fun s =>
    let r := (s.port p).points
    let n := fld r.ctrl.toNat 8 12
    if 0 < r.units && (n = 0 || 64 * n ≤ r.units || r.first + us (fld r.ctrl.toNat 20 12) ≤ s.clk) then
      (s.modPort p (fun h => { h with points := { h.points with units := 0 } })).signal p 5
    else s)

/-! ### ARP, ICMP and discarded frames (R327, R328) -/

/-- EVENT_DATAGRAM: up to 40 waiting records go to the event destination in one datagram, once its next hop is resolved (R327, R338,
R343). -/
def execEventDatagram (dt : Nat) (p : HostPort) (s : State) : Res :=
  run dt s (fun s =>
    let h := s.port p
    match h.net.evDst with
    | some d =>
      if s.ethOn p && !h.evQ.isEmpty then
        (if s.resolved p d then (s.setPort p { h with evQ := h.evQ.drop 40, evAt := s.clk }).say (.evDatagram p d (h.evQ.take 40))
         else s.resolve p d)
      else s
    | none => s)

/-- ARP_REQUEST: a request for the port's own address is answered; another is discarded and counted (R327). -/
def execArpRequest (dt : Nat) (p : HostPort) (senderIp : Word) (_senderMac : BitVec 48) (targetIp : Word) (s : State) : Res :=
  run dt s (fun s =>
    if !s.ethOn p then s
    else if targetIp = (s.port p).net.ip then s.say (.arp p true senderIp)
    else s.dropFrame p)

/-- The addresses a port resolves: the gateway and its configured destinations (R327). -/
def NetCfg.asked (n : NetCfg) : List Word :=
  (if n.gw = 0 then [] else [n.gw]) ++ ([n.evDst, n.stDst].filterMap id).map (·.ip)

/-- ARP_REPLY: a reply for an address the port resolves enters the cache of 16 entries for 60 s; another is discarded and counted
(R327). -/
def execArpReply (dt : Nat) (p : HostPort) (ip : Word) (mac : BitVec 48) (s : State) : Res :=
  run dt s (fun s =>
    let h := s.port p
    if !s.ethOn p then s
    else if h.net.asked.contains ip then
      (s.setPort p { h with arp := pushMax 16 { ip := ip, mac := mac, exp := s.clk + sec 60 } (h.arp.filter (fun e => e.ip != ip)) }).flushStream p
    else s.dropFrame p)

/-- ARP_CACHE_EXPIRY: an entry's 60 s have passed (R327). -/
def execArpCacheExpiry (dt : Nat) (p : HostPort) (ip : Word) (s : State) : Res :=
  run dt s (fun s => s.modPort p (fun h => { h with arp := h.arp.filter (fun e => e.ip != ip || s.clk < e.exp) }))

/-- ICMP_ECHO: a request to the port's address with up to 1,472 bytes of data is answered; another is discarded and counted (R327). -/
def execIcmpEcho (dt : Nat) (p : HostPort) (srcIp dstIp idSeq : Word) (data : List Byte) (s : State) : Res :=
  run dt s (fun s =>
    if !s.ethOn p then s
    else if dstIp = (s.port p).net.ip && data.length ≤ 1472 then s.say (.echo p srcIp idSeq data)
    else s.dropFrame p)

/-- FRAME_DISCARD (R327). -/
def execFrameDiscard (dt : Nat) (p : HostPort) (s : State) : Res :=
  run dt s (fun s => if s.ethOn p then s.dropFrame p else s)

/-! ### IEEE 1588 (R329, R330) -/

/-- The port runs a slave clock (R329). -/
def State.ptpOn (s : State) (p : HostPort) : Bool :=
  s.ethOn p && ((s.port p).net.ptp = 1 || (s.port p).net.ptp = 2)

/-- A port's slave clock changed. -/
def State.modPtp (s : State) (p : HostPort) (f : Ptp → Ptp) : State :=
  s.modPort p (fun h => { h with ptp := f h.ptp })

/-- EV_TIME_MAP (R330, R373). -/
def State.tellMap (s : State) (p : HostPort) (valid : Bool) : State :=
  s.raise 0x1001 [BitVec.ofNat 8 (b2n valid), BitVec.ofNat 8 (portIdx p)]

/-- The time map becomes invalid: EV_TIME_MAP once (R330). -/
def State.mapLost (s : State) (p : HostPort) : State :=
  let was := (s.port p).ptp.valid
  let s1 := s.modPtp p (fun t => { t with valid := false, syncs := 0, sync := none, prev := none, last := none, req := none })
  if was then s1.tellMap p false else s1

/-- 2ⁿ seconds, ticks. -/
def secPow (n : Int) : Nat :=
  if 0 ≤ n then sec 1 * 2 ^ n.toNat else sec 1 / 2 ^ (-n).toNat

/-- The place of a master in the order of the best master algorithm, most significant comparison first (R329; the order is PRESUMED
from IEEE 1588, log entry 28). -/
def annRank (a : PtpAnnounce) : List Nat :=
  [a.priority1.toNat, a.clockClass.toNat, a.accuracy.toNat, a.variance.toNat, a.priority2.toNat, a.identity.toNat,
    a.stepsRemoved.toNat, a.sender.toNat]

/-- One list of numbers stands before another. -/
def lexLt : List Nat → List Nat → Bool
  | x :: xs, y :: ys => x < y || (x = y && lexLt xs ys)
  | _, _ => false

/-- The best of some masters (R329). -/
def bestOf : List PtpMaster → Option PtpMaster
  | [] => none
  | m :: r => match bestOf r with
    | some b => if lexLt (annRank b.ann) (annRank m.ann) then some b else some m
    | none => some m

/-- PTP_ANNOUNCE: a master of the configured domain takes part in the choice of the best one; masters silent for 3 announce
intervals do not (R329, R330). -/
def execPtpAnnounce (dt : Nat) (p : HostPort) (m : PtpAnnounce) (s : State) : Res :=
  run dt s (fun s =>
    let h := s.port p
    if !s.ptpOn p then s
    else if m.domain != h.net.ptpDom then s.dropFrame p
    else
      let live := h.ptp.masters.filter (fun x => x.ann.sender != m.sender && s.clk ≤ x.seen + 3 * secPow x.ann.logInterval)
      let all := { ann := m, seen := s.clk } :: live
      let best := (bestOf all).map (fun x => x.ann.sender)
      let s1 := if best = h.ptp.best then s else s.mapLost p
      s1.modPtp p (fun t => { t with masters := all.take 16, best := best
                                     lastSync := if best = h.ptp.best then t.lastSync else s.clk }))

/-- The map is VALID once 8 Syncs of one master have come and a Follow_Up has set it; it is then the published one (R330, R332). -/
def State.judgeMap (s : State) (p : HostPort) : State :=
  let t := (s.port p).ptp
  if 8 ≤ t.syncs && t.last.isSome then
    { s.modPtp p (fun t => { t with valid := true, told := if t.valid then t.told else s.clk }) with
      mapPort := some p, map := { rate := t.rate, c0 := t.c0, p0 := t.p0 } }
  else s

/-- A Sync and its origin time t1 update the time map (R330): t2 in ticks, rates in 2^−40, times in ns. -/
def State.mapUpdate (s : State) (p : HostPort) (t1 t2 : Nat) : State :=
  (s.modPtp p (fun t =>
    let due := match t.prev with
      | some (_, b) => sec 1 ≤ t2 - b
      | none => false
    let rate := match t.prev with
      | some (a, b) =>
        if due then
          let r : Rat := (((t1 : Int) - a : Int) : Rat) * 64 / ((t2 - b : Nat) : Rat) - 1
          rhe ((t.rate : Rat) + (r * 2 ^ 40 - t.rate) / 8)
        else t.rate
      | none => t.rate
    { t with
      rate := rate
      prev := if due || t.prev.isNone then some (t1, t2) else t.prev
      c0 := t2, p0 := (t1 : Int) + t.delay, last := some (t1, t2), sync := none })).judgeMap p

/-- PTP_SYNC: a Sync of the best master is timestamped in chain time; a one-step Sync carries its own origin (R329, R330). -/
def execPtpSync (dt : Nat) (p : HostPort) (m : PtpSync) (s : State) : Res :=
  run dt s (fun s =>
    if s.ptpOn p && (s.port p).ptp.best = some m.master then
      let s1 := (s.modPtp p (fun t => { t with
        syncs := min 8 (t.syncs + 1), lastSync := s.clk, sync := if m.twoStep then some (m.seq, s.now) else none })).judgeMap p
      if m.twoStep then s1 else s1.mapUpdate p m.origin s.now
    else s)

/-- PTP_FOLLOW_UP: the origin time of the Sync of its sequence number (R329, R330). -/
def execPtpFollowUp (dt : Nat) (p : HostPort) (master : BitVec 80) (seq : BitVec 16) (t1 : Nat) (s : State) : Res :=
  run dt s (fun s =>
    if s.ptpOn p && (s.port p).ptp.best = some master then
      match (s.port p).ptp.sync with
      | some (q, t2) => if q = seq then s.mapUpdate p t1 t2 else s
      | none => s
    else s)

/-- PTP_DELAY_REQ: sent at the interval that the master gives (R329). -/
def execPtpDelayReq (dt : Nat) (p : HostPort) (s : State) : Res :=
  run dt s (fun s =>
    let t := (s.port p).ptp
    if s.ptpOn p && t.best.isSome && t.reqDue ≤ s.clk then
      (s.modPtp p (fun t => { t with
        req := some (t.reqSeq, s.now), reqSeq := t.reqSeq + 1, reqDue := s.clk + secPow t.logReq })).say (.delayReq p t.reqSeq)
    else s)

/-- PTP_DELAY_RESP: the mean path delay of the exchange, in ns of PTP time (R329, R330). -/
def execPtpDelayResp (dt : Nat) (p : HostPort) (master : BitVec 80) (seq : BitVec 16) (t4 : Nat) (logMinInterval : Int) (s : State) :
    Res :=
  run dt s (fun s =>
    let t := (s.port p).ptp
    match t.req, t.last with
    | some (q, t3), some (t1, t2) =>
      if s.ptpOn p && t.best = some master && q = seq then
        let turn : Rat := (((t3 : Int) - t2 : Int) : Rat) / 64 * (1 + (t.rate : Rat) / 2 ^ 40)
        s.modPtp p (fun t => { t with
          delay := rhe (((((t4 : Int) - t1 : Int) : Rat) - turn) / 2), req := none, logReq := logMinInterval })
      else s
    | _, _ => s)

/-- The announce interval of the best master, ticks. -/
def Ptp.interval (t : Ptp) : Nat :=
  match t.masters.find? (fun x => t.best = some x.ann.sender) with
  | some x => secPow x.ann.logInterval
  | none => sec 1

/-- TIME_MAP_TIMEOUT: no Sync for 3 announce intervals (R330). -/
def execTimeMapTimeout (dt : Nat) (p : HostPort) (s : State) : Res :=
  run dt s (fun s =>
    let t := (s.port p).ptp
    if t.valid && t.lastSync + 3 * t.interval ≤ s.clk then s.mapLost p else s)

/-- TIME_MAP_REPORT: once per second while the map is valid (R330). -/
def execTimeMapReport (dt : Nat) (p : HostPort) (s : State) : Res :=
  run dt s (fun s =>
    let t := (s.port p).ptp
    if t.valid && t.told + sec 1 ≤ s.clk then (s.modPtp p (fun t => { t with told := s.clk })).tellMap p true else s)

/-- NET_CONFIG_APPLY: the settings act 1 ms after OK (R328). A changed IEEE 1588 setting starts its clock anew; a first event
destination opens the event path while the mailboxes take commands (R343). -/
def execNetConfigApply (dt : Nat) (p : HostPort) (s : State) : Res :=
  run dt s (fun s =>
    let h := s.port p
    match h.netNew with
    | some (n, t) =>
      if t ≤ s.clk then
        let anew := n.ptp != h.net.ptp || n.ptpDom != h.net.ptpDom
        let s1 := if anew then (s.mapLost p).modPtp p (fun _ => {}) else s
        let s2 := s1.modPort p (fun h => { h with net := n, netNew := none })
        if s2.life.open_ && n.evDst.isSome && s2.ethOn p then s2.openPath p else s2
      else s
    | none => s)

/-! ### The service record (R488) -/

/-- SERVICE_RECORD_APPEND: reasons not yet in flash are appended where flash writing is allowed; a record of another device is
replaced (R426, R488). -/
def execServiceRecordAppend (dt : Nat) (s : State) : Res :=
  run dt s (fun s =>
    if s.faults.toRecord.isEmpty || !s.flashAllowed || !s.flash.ok then s
    else
      let old := match s.flash.service with
        | some (u, l) => if u = s.otp.uid then l else []
        | none => []
      { s with flash.service := some (s.otp.uid, old ++ s.faults.toRecord), faults.toRecord := [] })

end Sys2Proof.Machine
end

