-- ==== Sys2Proof/Machine/Tap.lean ====
section
/-! DEFINITION. The test access port (R504, R505): the controller of IEEE 1149.1, its registers, and the clocks it takes while PORST_N is
low. The codes of the instructions, the boundary cells and what they capture are the implementation's (log entry 173). -/

namespace Sys2Proof.Machine

open Sys2Proof

/-- The next state of the controller on a rising edge of TCK, by TMS. -/
def TapState.next (st : TapState) (tms : Bool) : TapState :=
  match st with
  | .reset => if tms then .reset else .idle
  | .idle | .updateDr | .updateIr => if tms then .selectDr else .idle
  | .selectDr => if tms then .selectIr else .captureDr
  | .captureDr | .shiftDr => if tms then .exit1Dr else .shiftDr
  | .exit1Dr => if tms then .updateDr else .pauseDr
  | .pauseDr => if tms then .exit2Dr else .pauseDr
  | .exit2Dr => if tms then .updateDr else .shiftDr
  | .selectIr => if tms then .reset else .captureIr
  | .captureIr | .shiftIr => if tms then .exit1Ir else .shiftIr
  | .exit1Ir => if tms then .updateIr else .pauseIr
  | .pauseIr => if tms then .exit2Ir else .pauseIr
  | .exit2Ir => if tms then .updateIr else .shiftIr

/-- IDCODE (R505). -/
def tapIdcode : Nat := 0x1024D0B3

/-- The number that bits make, the least significant first. -/
def ofBitsLsb (l : List Bool) : Nat :=
  maskOf ((List.range l.length).filter (fun i => l.getD i false))

/-- What the register of an instruction captures; `free`, `k`: the fresh number and the clock that pick the levels of the balls. -/
def tapCapture (i : TapInstr) (free k : Nat) : List Bool :=
  match i with
  | .bypass => [false]
  | .idcode => bitsLsb 32 tapIdcode
  | .sample | .extest | .acExtest => (List.range Config.tapCells.length).map (Config.tapPin free k)

/-- The instruction of a code; all ones is BYPASS (IEEE 1149.1, log entry 173). -/
def tapDecode (ir : List Bool) : TapInstr :=
  if ir.all id then .bypass else Config.tapInstrOf (ofBitsLsb ir)

/-- A shift by one bit toward TDO. -/
def shiftIn (l : List Bool) (tdi : Bool) : List Bool :=
  (l ++ [tdi]).drop 1

/-- A rising edge of TCK and the falling edge after it; TRST_N low resets the controller. -/
def Tap.clock (t : Tap) (free k : Nat) (c : TapClock) : Tap :=
  if t.held || !c.trst then { t with st := .reset, instr := .idcode }
  else
    let t1 := match t.st with
      | .captureDr => { t with dr := tapCapture t.instr free k }
      | .shiftDr => { t with dr := shiftIn t.dr c.tdi }
      | .captureIr => { t with ir := bitsLsb Config.tapIrBits 1 }
      | .shiftIr => { t with ir := shiftIn t.ir c.tdi }
      | _ => t
    let st := t1.st.next c.tms
    match st with
    | .reset => { t1 with st := st, instr := .idcode }
    | .updateIr => { t1 with st := st, instr := tapDecode t1.ir }
    | .updateDr => { t1 with
        st := st, cells := if t1.instr = TapInstr.sample || t1.instr = TapInstr.extest || t1.instr = TapInstr.acExtest then t1.dr else t1.cells }
    | _ => { t1 with st := st }

/-- TDO after a clock: the bit nearest to it of the register that shifts; none: not driven. -/
def Tap.tdo (t : Tap) : Option Bool :=
  match t.st with
  | .shiftDr => t.dr.head?
  | .shiftIr => t.ir.head?
  | _ => none

/-- The cells that the instruction in force drives: EXTEST every cell that is not observe-only, AC EXTEST those of the pairs (R505). -/
def Tap.drives (t : Tap) : List (Nat × Bool) :=
  let of := fun (p : CellBall → Bool) => ((Config.tapCells.zip t.cells).zipIdx.filter (fun x => p x.1.1)).map (fun x => (x.2, x.1.2))
  match t.instr with
  | .extest => of (fun b => b != .observed)
  | .acExtest => of (fun b => b = .pair)
  | _ => []

/-- One clock of the port, what it shifts out, and what it drives after an update (R505). -/
def State.tapClock (s : State) (k : Nat) (c : TapClock) : State × List Bool :=
  let t := s.power.tap.clock s.free k c
  let s1 := { s with power.tap := t }
  let upd := t.st = .updateDr || t.st = .updateIr
  (if upd && !t.drives.isEmpty then s1.say (.extest (t.instr = .acExtest) t.drives) else s1, t.tdo.toList)

/-- The clocks of the port while PORST_N is low, and the TDO that they give (R505). -/
def State.tapRun (s : State) (l : List TapClock) : State :=
  let r := l.zipIdx.foldl (fun (x : State × List Bool) c =>
    let y := x.1.tapClock c.2 c.1
    (y.1, x.2 ++ y.2)) (s, [])
  if l.isEmpty then s else (r.1.took).say (.tdo r.2)

end Sys2Proof.Machine
end

