-- ==== Sys2Proof/Machine/Boot.lean ====
section
/-! DEFINITION. Power, clocks, reset and boot (R20 to R26, R394, R425, R432 to R456, R488, R502): the rails and switched domains, the
boot ROM and its images, the reset causes, the root PLL and its reference, the watchdogs, and the analogue hard trip. -/

namespace Sys2Proof.Machine

open Sys2Proof

/-! ### The start of BOOT (R26, R438, R444, R454 to R456) -/

/-- A boot record changed. -/
def State.modBoot (s : State) (f : BootSt → BootSt) : State :=
  { s with power.boot := f s.power.boot }

/-- A rail is enabled: RAIL_EN goes high (R433). -/
def State.enableRail (s : State) (i : Nat) : State :=
  { s with power.railEn := s.power.railEn ||| BitVec.ofNat 6 (2 ^ i), power.railAt := tput 0 s.power.railAt i s.clk }

/-- BOOT starts from the rail enables: BOOT_ID is drawn, the network settings are read, VDD_SRAM is enabled first (R328, R348,
R438, R444). A hard trip that has not released holds it back (R456). -/
def State.startBoot (s : State) : State :=
  let s1 := s.modBoot (fun b => { b with
    causes := [], phase := 0, tried := [], image := [], total := 0, started := none, hostImg := false, fallback := false
    fault := if b.fault = 7 then 7 else 0 })
  let s2 := { s1 with power.railEn := 0, power.railPg := 0 }
  if s.hk.trip then s2
  else
    let s3 := { s2.took with
      life.bootId := Config.bootId s.free
      hostA := { s2.hostA with net := s.flash.netA.getD {} }
      hostB := { s2.hostB with net := s.flash.netB.getD { ip := 0xA9FE5A0B } } }
    s3.enableRail 0

/-- A reset cause has ended (R444): power-on with PORST_N, an instant after 12 ms, a level with its condition and not before that. -/
def State.causeOver (s : State) (c : Nat × Nat) : Bool :=
  if c.1 = 1 then !s.power.boot.porst
  else c.2 + ms 12 ≤ s.clk && (if c.1 = 2 then !s.power.boot.porst else if c.1 = 4 then !s.power.boot.vddLow
    else if c.1 = 6 then s.power.refclk else true)

/-- Causes that have ended are struck out; with the last one BOOT starts (R26, R444). -/
def State.endCauses (s : State) : State :=
  let left := s.power.boot.causes.filter (fun c => !s.causeOver c)
  if s.power.boot.causes.isEmpty then s
  else if left.isEmpty then s.startBoot
  else s.modBoot (fun b => { b with causes := left })

/-- RESET_CAUSE_END (R444): VDD_IO stands again, for which the table has no row of its own (DESIGN CHOICE, log entry 45). -/
def execResetCauseEnd (dt : Nat) (s : State) : Res :=
  run dt s (fun s =>
    if s.life.lcs = .boot then
      (if s.power.boot.causes.any (fun c => c.1 = 4 && s.clk < c.2 + ms 12) then s else s.modBoot (fun b => { b with vddLow := false })).endCauses
    else s)

/-! ### Images (R451 to R456) -/

/-- The ROM reads a slot (R453, R456). -/
def State.trySlot (s : State) (k : Nat) : State :=
  s.modBoot (fun b => { b with phase := 3, slot := k, tried := k :: b.tried })

/-- No slot starts: the boot fault, and the wait for a host image where BOOT_SRC allows it (R453, R454, R456). -/
def State.noSlot (s : State) (fault : Nat) : State :=
  s.modBoot (fun b => { b with fault := fault, phase := if b.straps.bootSrc = 0 then 8 else b.phase })

/-- PD_APP is on: the ROM turns to the source that BOOT_SRC names (R454, R456). -/
def State.imageStage (s : State) : State :=
  if !s.otp.readable then s.modBoot (fun b => { b with phase := 1, fault := 2 })
  else match s.power.boot.straps.bootSrc.toNat with
    | 1 => s.modBoot (fun b => { b with phase := 8 })
    | 3 => s.modBoot (fun b => { b with fault := 0x0B })
    | _ => if s.flash.fitted then s.trySlot s.nextSlot else (s.modBoot (fun b => { b with phase := 2 })).noSlot 3

/-- The stored safety configuration, with its degraded period, where its CRC-32 holds (R394, R397). -/
def State.storedSafe (s : State) : Option (List Byte × Nat) :=
  s.flash.safe.filter (fun x => 4 ≤ x.1.length && leAt x.1 (x.1.length - 4) 4 = crc32 (x.1.take (x.1.length - 4)))

/-- The configuration in flash is read (R116, R163, R318, R397, R450); a TOPO of 0 makes the device standalone, aligned on the terms of
a root (R296). -/
def State.readConfig (s : State) : State :=
  let s1 := match s.flash.chain with
    | some (w :: e :: ps) => (List.range 4).foldl (fun (t : State) q =>
        t.modRport q (fun r => { r with word := ps.getD q r.word })) { s with chain.word := w, chain.event := e }
    | _ => s
  { s1 with
    chain.aligned := s1.power.pll && (s1.isRoot || s1.topo = 0)
    front.calSet := s.flash.cal
    emit.shares := (s.flash.shares.map sharesOf).getD s1.emit.shares
    safe.cfg := (s.storedSafe.map Prod.fst).getD s1.safe.cfg
    safe.period := (s.storedSafe.map Prod.snd).getD s1.safe.period }

/-- The domains that follow the start of the firmware: PD_LOOP, PD_EMIT and the enabled Ridge ports that are off (R425, R438). -/
def State.fwDomains (s : State) : List Nat :=
  [31, 32, 24, 25, 26, 27].filter (fun d =>
    (31 ≤ d || s.ridgeEnabled (d - 24)) && !s.domOn d && !s.heldOff d && !bitN s.power.domDead.toNat d
      && !s.power.toPower.contains d)

/-- An image is started (R438, R444, R453, R456). -/
def State.startImage (s : State) (image : List Byte) (host : Bool) : State :=
  let s1 := (s.modBoot (fun b => { b with
    phase := 5, fault := 0, hostImg := host, fallback := !host && b.slot != s.nextSlot, started := some s.clk
    ifl := leAt image 4 1, version := BitVec.ofNat 32 (leAt image 8 4), image := [] })).readConfig
  ({ s1 with power.toPower := s1.power.toPower ++ s1.fwDomains }).rampNext

/-- A start failure of a slot is noted (R453, R456). -/
def State.noteFailure (s : State) (k : Nat) : State :=
  s.modBoot (fun b => { b with noted := (k, s.clk) :: b.noted })

/-- IMAGE_LOADED: the image that was read is authenticated and started, or rejected: 0xA008 and the other slot, or another host
image (R452, R453, R455, R456). -/
def execImageLoaded (dt : Nat) (s : State) : Res :=
  run dt s (fun s =>
    let b := s.power.boot
    if s.life.lcs != .boot then s
    else if b.phase = 4 then
      (if s.imageOk b.image then s.startImage b.image true
       else s.modBoot (fun b => { b with fault := 0x0A, phase := 8, image := [], total := 0 }))
    else if b.phase = 3 && b.fault != 6 then
      let k := b.slot
      if s.slotOk k then s.startImage (s.fwSlot k) false
      else
        let s1 := if s.imageOk (s.fwSlot k) then s.noteFailure k else s.fault 0xA008 15 k
        if b.tried.contains (1 - k) then s1.noSlot 6
        else (s1.modBoot (fun b => { b with fault := 4 + k })).trySlot (1 - k)
    else s)

/-- BOOT_GO: a write to BOOT_GO reads BOOT_LEN bytes by DMA; none: the read timed out (R455, R480). -/
def execBootGo (dt : Nat) (p : HostPort) (image : Option (List Byte)) (s : State) : Res :=
  run dt s (fun s =>
    if s.life.lcs = .boot && s.power.boot.phase = 8 && s.isPcie p && s.domOn (28 + portIdx p) && !(s.port p).perst then
      match image with
      | some l => (s.say (.dmaRead p s.power.boot.addr.toNat s.power.boot.len.toNat)).modBoot (fun b => { b with image := l.take b.len.toNat, total := b.len.toNat, phase := 4 })
      | none => (s.fault 0x7003 17 (portIdx p)).modBoot (fun b => { b with fault := 0x0A })
    else s)

/-- Image bytes at the next expected offset are kept (R455). -/
def State.keepImage (s : State) (off total : Nat) (d : List Byte) : State :=
  let b := s.power.boot
  let len := if b.image.isEmpty then total else b.total
  if b.phase = 8 && off = b.image.length && total = len && off + d.length ≤ len then
    s.modBoot (fun b => { b with
      image := b.image ++ d, total := len, phase := if off + d.length = len then 4 else 8 })
  else s

/-- BOOT_DATAGRAM: a datagram of KIND 4 is answered with the next expected offset and BOOT_STATUS (R455). -/
def execBootDatagram (dt : Nat) (p : HostPort) (src : Endpoint) (bytes : List Byte) (s : State) : Res :=
  run dt s (fun s =>
    if !s.ethOn p then s
    else if s.life.lcs = .boot && leAt bytes 0 4 = 0x00044D5A && 13 ≤ bytes.length && bytes.length ≤ 1412 then
      let s1 := s.keepImage (leAt bytes 4 4) (leAt bytes 8 4) (bytes.drop 12)
      s1.say (.bootReply p src s1.power.boot.image.length (BitVec.ofNat 32 s1.bootStatus))
    else s.dropFrame p)

/-! ### Rails (R432, R433, R438, R449) -/

/-- A rail is up, or will not come up in this boot (R449). -/
def State.railSettled (s : State) (i : Nat) : Bool :=
  bitN s.power.railPg.toNat i || bitN s.power.railDead.toNat i

/-- With every rail settled, PD_APP and the strapped host ports are switched on (R438). -/
def State.railsDone (s : State) : State :=
  if (List.range 6).all s.railSettled && s.life.lcs = .boot && s.power.boot.phase = 0 && s.power.boot.fault != 1
      && s.power.toPower.isEmpty && s.power.ramping.isEmpty && !s.domOn 33 then
    ({ s with power.toPower := s.appDomains }).rampNext
  else s

/-- RAIL_PG_GOOD: VDD_SRAM, then VDD_CORE, then VDD_TDC, VDD_AFE and VDD_LANE, then VDDH_LANE (R433, R438; the order of the worked
example, log entry 29). -/
def execRailPgGood (dt : Nat) (rail : Fin 6) (s : State) : Res :=
  run dt s (fun s =>
    let i := rail.val
    if !bitN s.power.railEn.toNat i || s.railSettled i then s
    else
      let s1 := { s with power.railPg := s.power.railPg ||| BitVec.ofNat 6 (2 ^ i) }
      let s2 := match i with
        | 0 => s1.enableRail 1
        | 1 => ((s1.enableRail 2).enableRail 3).enableRail 4
        | 4 => s1.enableRail 5
        | _ => s1
      s2.railsDone)

/-- RAIL_PG_TIMEOUT: a rail has not come up within the 8 ms of R433; without VDD_TDC or VDD_AFE no sector can be powered (R449). -/
def execRailPgTimeout (dt : Nat) (rail : Fin 6) (s : State) : Res :=
  run dt s (fun s =>
    let i := rail.val
    if !bitN s.power.railEn.toNat i || s.railSettled i || s.clk < tget 0 s.power.railAt i + ms 8 then s
    else
      let s1 := s.fault 0xA001 11 i
      let s2 := { s1 with
        power.railDead := s1.power.railDead ||| BitVec.ofNat 6 (2 ^ i)
        power.domDead := BitVec.ofNat 34 (s1.power.domDead.toNat ||| (if i = 2 || i = 3 then 2 ^ 24 - 1 else 0)) }
      if i = 2 || i = 3 then s2.railsDone else s2.modBoot (fun b => { b with fault := 1 }))

/-- A domain goes off with what depends on the outside of it: a Ridge port stops, a host session ends (R22, R278, R326). -/
def State.domLost (s : State) (d : Nat) : State :=
  let s1 := if 24 ≤ d && d < 28 then s.portStop (d - 24) 2
    else if d = 28 then (s.sessionOver .A).modPort .A (fun h => { h with linkUp := false })
    else if d = 29 then (s.sessionOver .B).modPort .B (fun h => { h with linkUp := false })
    else s
  s1.domOff d

/-- The domains that a rail feeds beside VDD_CORE, in the order they are removed (R22). -/
def fedBy (rail : Nat) : List Nat :=
  let afe := (List.range 8).map (8 + ·)
  if rail = 2 then afe ++ (List.range 8).map (16 + ·)
  else if rail = 3 then afe
  else if rail = 4 || rail = 5 then [24, 25, 26, 27, 28, 29]
  else []

/-- RAIL_PG_LOST: VDD_SRAM and VDD_CORE reset the device; another rail and its domains stay off until the next reset (R449). -/
def execRailPgLost (dt : Nat) (rail : Fin 6) (s : State) : Res :=
  run dt s (fun s =>
    let i := rail.val
    if !bitN s.power.railPg.toNat i then s
    else if i ≤ 1 then (s.fault 0xA002 11 i).resetNow 5
    else
      let s1 := { s with
        power.railEn := BitVec.ofNat 6 (setFld s.power.railEn.toNat i 1 0)
        power.railPg := BitVec.ofNat 6 (setFld s.power.railPg.toNat i 1 0)
        power.railDead := s.power.railDead ||| BitVec.ofNat 6 (2 ^ i)
        power.domDead := BitVec.ofNat 34 (s.power.domDead.toNat ||| maskOf (fedBy i)) }
      (((fedBy i).foldl State.domLost s1).rampNext).fault 0xA002 11 i)

/-! ### Domains (R22, R60, R87, R102, R268, R436 to R439) -/

/-- The tiles of a sector start anew (R99, R111); a retired tile's sets stay parked. -/
def State.freshTiles (s : State) (k : Nat) : State :=
  (List.range 8).foldl (fun t i =>
    let n := 8 * k + i
    t.modTile n (fun _ => if t.retired 2 n then { set0 := { owner := .parked }, set1 := { owner := .parked } } else {})) s

/-- The channels of a sector start at their start gain, with nominal interpolator tables (R60, R85, R87, R437). -/
def State.freshChans (s : State) (k : Nat) : State :=
  (List.range 128).foldl (fun t i =>
    let c := 128 * k + i
    t.modChan c (fun x => { x with
      gain := t.startGain c, gainNext := t.startGain c, settling := false, evs := [], hs := [], lastL := none
      lastH := none, lostL := false, lostH := false, openL := false, openH := false, intL := {}, intH := {} })) s

/-- What a domain does when it reports power-good. -/
def State.domStarts (s : State) (d : Nat) : State :=
  if d < 8 then (s.freshTiles d).pulsers
  else if d < 16 then (s.freshChans (d - 8)).pulsers
  else if d < 24 then
    ((List.range 8).foldl (fun t i => t.modTile (8 * (d - 16) + i) (fun x => { x with locked := true })) s).pulsers
  else if d < 28 then (if s.portRuns (d - 24) then s.portStart (d - 24) else s)
  else s

/-- Every domain that BOOT waits for has settled: the ROM turns to the image, or the self-test begins (R394, R438, R456). -/
def State.bootNext (s : State) : State :=
  if s.life.lcs != .boot || !s.power.ramping.isEmpty || !s.power.toPower.isEmpty then s
  else if s.power.boot.phase = 0 && s.domOn 33 && s.power.boot.fault != 9 then s.imageStage
  else if s.power.boot.phase = 5 then s.modBoot (fun b => { b with phase := 6 })
  else s

/-- A PWR.SET that waits for its domains is done: none of them is on its way (R366). -/
def State.pwrDone (s : State) (x : Exec) : Bool :=
  x.pwr.any (fun mask => (List.range 34).all (fun d => !bitN mask d || s.domOn d || !s.powering d))

/-- The responses of every PWR.SET whose domains have settled (R366). DESIGN CHOICE (log entry 168): a domain whose switch failed does not
change the OK that the command was evaluated to. -/
def State.answerPwr (s : State) : State :=
  let s1 := [HostPort.A, HostPort.B].foldl (fun t p => (List.range 4).foldl (fun t m =>
    match (t.mb p m).exec with
    | some x => if t.pwrDone x then t.answer p m x t.ok else t
    | none => t) t) s
  (s1.remote.filter (fun x => s1.pwrDone x.2)).foldl (fun t x => t.answerRemote x t.ok) s1

/-- DOMAIN_POWER_GOOD; a domain that lost what it requires while it ramped stays off (R22, R436 to R438). -/
def execDomainPowerGood (dt : Nat) (d : Fin 34) (s : State) : Res :=
  run dt s (fun s =>
    if s.power.ramping.any (fun x => x.1 = d.val) then
      let s1 := { s with power.ramping := s.power.ramping.filter (fun x => x.1 != d.val) }
      if s.mayPower d.val then
        ((({ s1 with power.dom := BitVec.ofNat 34 (setFld s1.power.dom.toNat d.val 1 1) }.domStarts d.val).rampNext).bootNext).answerPwr
      else s1.rampNext.bootNext.answerPwr
    else s)

/-- The unit that a failed switch charges, and the response (R439, R478). -/
def State.switchFailed (s : State) (d : Nat) : State :=
  if d < 24 then
    let k := d % 8
    (((s.domOff (8 + k)).domOff (16 + k)).domOff k).fault 0xA005 3 k
  else if d < 28 then s.fault 0xA005 8 (d - 24)
  else
    let s1 := ({ s with power.domDead := BitVec.ofNat 34 (setFld s.power.domDead.toNat d 1 1) }).fault 0xA005 12 d
    if d = 33 && s1.life.lcs = .boot then s1.modBoot (fun b => { b with fault := 9 }) else s1

/-- DOMAIN_SWITCH: a domain without power-good 500 µs after it was switched on is switched off again (R436, R439). -/
def execDomainSwitch (dt : Nat) (d : Fin 34) (s : State) : Res :=
  run dt s (fun s =>
    if s.power.ramping.any (fun x => x.1 = d.val && x.2 + us 500 ≤ s.clk) then
      let s1 := { s with power.ramping := s.power.ramping.filter (fun x => x.1 != d.val) }
      ((s1.switchFailed d.val).rampNext).bootNext.answerPwr
    else s)

/-! ### The end of BOOT (R26, R305, R354, R394, R453, R479, R488) -/

/-- A fault of BOOT is reported with its own chain time (R343, R479). -/
def State.reportHeld (s : State) (e : LogEntry) : State :=
  let t := ({ s with ct := e.ct * 256 }).raise 0x0102
    ([BitVec.ofNat 8 e.unit.kind, 0] ++ bytesOf 2 e.unit.idx ++ [BitVec.ofNat 8 e.upsets]) e.code.toNat e.sev
  { t with ct := s.ct }

/-- The replace reasons of this device's own service record are set again (R488). -/
def State.readService (s : State) : State :=
  match s.flash.service with
  | some (u, l) =>
    if u = s.otp.uid then
      l.foldl (fun t x => ({ t with
        faults.reasons := t.faults.reasons ||| BitVec.ofNat 16 (2 ^ x.1), faults.svcReq := true }).raise 0x0104
          ([BitVec.ofNat 8 x.1, 0] ++ bytesOf 2 x.2)) s
    else s
  | none => s

/-- The persisted schedule set is read as SCHED.LOAD reads one, without a flash copy (R240). -/
def State.readSet (s : State) : State :=
  match s.flash.sched with
  | some f => { s with sched.load := some { persist := false, file := f, key := 0, tag := 0, entry := localEntry .A, whole := true } }
  | none => s

/-- BOOT passes to SAFE HOLD: the mailboxes open, what BOOT held enters the hold of every port, the event paths of the Ethernet ports open, and a
press that is held counts from here (R393). -/
def State.enterHold (s : State) : State :=
  let s1 := s.modBoot (fun b => { b with
    phase := 7, started := none
    startsA := if !b.hostImg && b.slot = 0 then 0 else b.startsA
    startsB := if !b.hostImg && b.slot = 1 then 0 else b.startsB })
  let held := s1.faults.bootHeld
  let s2 := { s1 with
    life.open_ := true, faults.bootHeld := [], power.appAt := s.clk
    safe.buttonAt := if s.safe.button then s.clk else s.safe.buttonAt
    chain.discAt := if s1.isRoot && s1.topo != 0 then some (s.clk + ms 100) else none }
  let s3 := [HostPort.A, HostPort.B].foldl (fun t p =>
    if t.ethOn p && (t.port p).net.evDst.isSome then t.openPath p else t) (held.foldl State.reportHeld s2)
  (s3.toState .safeHold).readService.readSet

/-- SELF_TEST_COMPLETE: a failed item keeps the device in BOOT with 0x800F; a stored safety configuration whose
CRC-32 fails, or none, is 0x8011 (R394). -/
def execSelfTestComplete (dt : Nat) (res : SelfTest) (s : State) : Res :=
  run dt s (fun s =>
    if s.life.lcs != .boot || s.power.boot.phase != 6 || s.power.boot.fault = 8 then s
    else if res.comparator && res.secded && res.oscillator && res.gateLow && res.safeFbOff && res.faultN then
      (if s.storedSafe.isNone then s.fault 0x8011 0 0 else s).enterHold
    else (s.fault 0x800F 0 0).modBoot (fun b => { b with fault := 8 }))

/-! ### Reset causes (R26, R434, R444 to R446, R502) -/

/-- A device with its rails good leaves OFF for BOOT once PORST_N is released, which ends the power-on cause (R26, R444). -/
def State.leaveOff (s : State) : State :=
  if s.life.lcs = .off && s.power.boot.aon && !s.power.boot.porst then { s with life.lcs := .boot }.endCauses else s

/-- POWER_ON: VDD_AON and VDD_HK come up; nothing was kept (R26, R444, R445). -/
def execPowerOn (dt : Nat) (s : State) : Res :=
  runAlways dt s (fun s =>
    if s.life.lcs = .off && !s.power.boot.aon then
      { s with power.boot.aon := true, power.boot.cause := 1, power.boot.causes := [(1, s.clk)] }.leaveOff
    else s)

/-- POWER_LOSS: VDD_AON or VDD_HK is lost (R26, R445). -/
def execPowerLoss (dt : Nat) (s : State) : Res :=
  runAlways dt s State.powerOff

/-- PORST_ASSERT: PORST_N low for at least 10 µs (R444, R446); the TAP may leave its reset state (R505). -/
def execPorstAssert (dt : Nat) (s : State) : Res :=
  runAlways dt s (fun s =>
    if s.power.boot.porst then s
    else
      let s1 := { s.modBoot (fun b => { b with porst := true }) with power.tap.held := false }
      if s.life.lcs = .off then s1 else s1.resetNow 2)

/-- PORST_RELEASE: what the test access port did while PORST_N was low is told, and it is reset and held (R505); the straps are sampled;
BOOT starts once no cause remains (R26, R444, R502). -/
def execPorstRelease (dt : Nat) (low : PorstLow) (s : State) : Res :=
  runAlways dt s (fun s =>
    if !s.power.boot.porst then s
    else
      let s1 := { (s.tapRun low.jtag).modBoot (fun b => { b with porst := false, straps := low.straps }) with
        power.tap := { held := true } }
      if s.life.lcs = .boot then s1.endCauses else s1.leaveOff)

/-- VDD_IO_LOW (R444). -/
def execVddIoLow (dt : Nat) (s : State) : Res :=
  run dt s (fun s => (s.resetNow 4).modBoot (fun b => { b with vddLow := true }))

/-! ### The root PLL and its reference (R21, R294, R296, R440 to R443) -/

/-- ROOT_PLL_LOCK: chain time starts at 0, and the root of a chain or a standalone device is aligned (R296, R440). -/
def execRootPllLock (dt : Nat) (s : State) : Res :=
  run dt s (fun s =>
    if s.power.pll || s.power.boot.porst || !s.power.refclk then s
    else { s with power.pll := true, ct := 0, slew := (0, 0), chain.aligned := s.isRoot || s.topo = 0 })

/-- ROOT_PLL_UNLOCK (R440, R444, R449). -/
def execRootPllUnlock (dt : Nat) (s : State) : Res :=
  run dt s (fun s => if s.power.pll then (s.fault 0xA004 0 0).resetNow 7 else s)

/-- REFCLK_LOST: 0xA003; as the reference it starts a holdover of 1 ms (R443). -/
def execRefclkLost (dt : Nat) (s : State) : Res :=
  run dt s (fun s =>
    if s.power.refclk then
      ({ s with power.refclk := false, power.refLost := if s.power.ref.isNone then some s.clk else none }).fault 0xA003 0 0
    else s)

/-- REFCLK_RETURN: within the holdover it stays the reference (R443). -/
def execRefclkReturn (dt : Nat) (s : State) : Res :=
  run dt s (fun s => { s with power.refclk := true, power.refLost := none })

/-- REFCLK_HOLDOVER_EXPIRED: reset cause 0x6 (R443, R444). -/
def execRefclkHoldoverExpired (dt : Nat) (s : State) : Res :=
  run dt s (fun s =>
    match s.power.refLost with
    | some t => if t + ms 1 ≤ s.clk then s.resetNow 6 else s
    | none => s)

/-- REFERENCE_HOLDOVER_END: 10 ms after the loss of the upstream lane the PLL goes back to REFCLK (R289, R442). -/
def execReferenceHoldoverEnd (dt : Nat) (s : State) : Res :=
  run dt s (fun s =>
    match s.power.holdAt with
    | some t => if t + ms 10 ≤ s.clk then s.toRefclk else s
    | none => s)

/-! ### Watchdogs (R444, R447) -/

/-- SAFETY_WATCHDOG: not served for 2 ms (R444). -/
def execSafetyWatchdog (dt : Nat) (s : State) : Res :=
  run dt s (fun s => if s.power.boot.causes.isEmpty then s.resetNow 8 else s)

/-- START_WATCHDOG: firmware has not reached SAFE HOLD within 3 s of its start; the failed start counts against its slot (R444, R453,
R456). -/
def execStartWatchdog (dt : Nat) (s : State) : Res :=
  run dt s (fun s =>
    match s.power.boot.started with
    | some t =>
      if s.life.lcs = .boot && t + sec 3 ≤ s.clk then
        let s1 := s.modBoot (fun b => { b with
          startsA := if !b.hostImg && b.slot = 0 then b.startsA + 1 else b.startsA
          startsB := if !b.hostImg && b.slot = 1 then b.startsB + 1 else b.startsB })
        ((if s.power.boot.hostImg then s1 else s1.noteFailure s.power.boot.slot).resetNow 0xA).modBoot (fun b => { b with fault := 7 })
      else s
    | none => s)

/-- APP_WATCHDOG: 0xA007; the application pair alone restarts and both host sessions end; the third expiry in 10 s is reset cause
0x9 (R326, R447). -/
def execAppWatchdog (dt : Nat) (s : State) : Res :=
  run dt s (fun s =>
    if s.life.lcs = .boot || !s.domOn 33 || s.power.appDown then s
    else
      let hits := s.clk :: s.power.appHits.filter (fun t => s.clk ≤ t + sec 10)
      let s1 := ({ s with power.appHits := hits, power.appAt := s.clk }).fault 0xA007 0 0
      if 3 ≤ hits.length then s1.resetNow 9
      else ({ s1 with power.appDown := true }).sessionOver .A |>.sessionOver .B)

/-- APP_RESTART_DONE: commands are served again; after a hard trip the other domains of R438 follow (R425, R447). -/
def execAppRestartDone (dt : Nat) (s : State) : Res :=
  run dt s (fun s =>
    if !s.power.appDown || !s.domOn 33 then s
    else
      let s1 := { s with power.appDown := false, power.afterTrip := false, power.appAt := s.clk }
      if s.power.afterTrip then ({ s1 with power.toPower := s1.power.toPower ++ s1.fwDomains }).rampNext else s1)

/-! ### The analogue hard trip (R26, R425, R456) -/

/-- Every switched domain goes off, and with it what ran in it (R22, R425). -/
def State.domainsOff (s : State) : State :=
  let s1 := (List.range 4).foldl (fun t q => t.portStop q 2) s
  let s2 := ((s1.endSession .A).endSession .B).loopsDead
  let s3 := (s2.modPort .A (fun h => { h with linkUp := false })).modPort .B (fun h => { h with linkUp := false })
  { s3 with power.dom := 0, power.ramping := [], power.toPower := [], power.appDown := true, mon := {}, front.results := [] }

/-- HARD_TRIP: every switched domain goes off; BOOT is held at PHASE 0 (R26, R425, R445, R456). -/
def execHardTrip (dt : Nat) (s : State) : Res :=
  run dt s (fun s =>
    if s.hk.trip then s
    else
      let s1 := (s.fault 0x9001 0 0 (respond := false)).safeHold false (endHdr := false)
      let s2 := s1.domainsOff.chargeOff
      let s3 := { s2 with hk.trip := true, power.tripRec := true }
      if s.life.lcs = .boot then
        { s3.modBoot (fun b => { b with phase := 0, started := none, image := [], total := 0 }) with
          power.railEn := 0, power.railPg := 0, power.appDown := false }
      else { s3 with hk.dark := true })

/-- HARD_TRIP_RELEASE: a BOOT that the trip held starts again from the rail enables (R425, R456, R481). -/
def execHardTripRelease (dt : Nat) (s : State) : Res :=
  run dt s (fun s =>
    let s1 := ({ s with hk.trip := false }).endFault 0x9001
    if s.hk.trip && s.life.lcs = .boot && s.power.boot.causes.isEmpty then s1.startBoot else s1)

end Sys2Proof.Machine
end

