-- ==== Sys2Proof/Machine/Chain.lean ====
section
/-! DEFINITION. The rows of the Ridge link and the Chain (R288 to R321): control slots, chain time, keep-alive, safety broadcasts,
messages, discovery, packets and credits. -/

namespace Sys2Proof.Machine

open Sys2Proof

/-- A port whose link is up and whose domain is powered. -/
def State.linkOn (s : State) (q : Nat) : Bool :=
  (s.rport q).up && s.domOn (24 + q)

/-- The data class of a port runs (R273, R300). -/
def State.dataOn (s : State) (q : Nat) : Bool :=
  s.linkOn q && !(s.rport q).retrain && !(s.rport q).conflict

/-! ### Control slots sent (R290, R291) -/

/-- A SYNC slot goes out for the control cycle in progress (R290, R293). -/
def State.sendSync (s : State) (q : Nat) : State :=
  let start := s.now - s.now % refillTicks
  (s.modRport q (fun r => { r with stale := r.stale - 1 })).say (.slot q 0xBC (slotOf (s.syncBody q start)))

/-- The slot in progress of a port: SYNC in slot 0; SAFETY before LINK, MSG and IDLE; LINK in every 250th; a fragment, or IDLE (R290,
R291). -/
def State.sendSlot (s : State) (q : Nat) : State :=
  let j := s.now % refillTicks / 1600
  let r := s.rport q
  if j = 0 then s.sendSync q
  else match r.safety with
    | x :: rest => (s.modRport q (fun r => { r with safety := rest })).say (.slot q 0x3C (slotOf x.toNat))
    | [] =>
      if j % 250 = 1 then s.say (.slot q 0x1C (slotOf (s.linkBody q)))
      else match r.msgs with
        | f :: rest =>
          if r.conflict then s.say (.slot q 0x9C 0)
          else (s.modRport q (fun r => { r with msgs := rest })).say (.slot q 0x5C (slotOf f.body.toNat))
        | [] => s.say (.slot q 0x9C 0)

/-- CONTROL_SLOT_SEND; in stage 8 the INIT block that is due goes with it, and a forwarded DEV.RESET acts once its response
has left (R290, R291, R316, R359). -/
def execControlSlotSend (dt : Nat) (port : Fin 4) (s : State) : Res :=
  run dt s (fun s => if s.linkOn port.val then ((s.repeatInit port.val).sendSlot port.val).resetDue else s.repeatInit port.val)

/-- Chain time steps: the measurements that span the step are void, and the next refill falls at the first multiple reached after it
(R160, R295). -/
def State.stepTime (s : State) (ct : Nat) : State :=
  let s1 := (List.range 4).foldl (fun t q => t.modRport q (fun r => { r with rho := none, stale := 2 })) s
  { s1 with ct := ct, slew := (0, 0), emit.tick := ct / 256 / refillTicks, emit.refilled := ct / 256 / refillTicks }

/-- CONTROL_CYCLE_START: a step that CHAIN.TIME_SET ordered at the root, then SYNC on every up port (R290, R293, R296, R319). -/
def execControlCycleStart (dt : Nat) (s : State) : Res :=
  run dt s (fun s =>
    if 1600 ≤ s.now % refillTicks then s
    else
      let s1 := match s.chain.setTo with
        | some v => { s.stepTime ((v + s.now % refillTicks) % 2 ^ 64 * 256) with chain.setTo := none }
        | none => s
      (List.range 4).foldl (fun t q => if t.linkOn q then t.sendSync q else t) s1)

/-! ### Control slots received (R291, R293 to R300) -/

/-- A slot whose CRC fails, or with a code violation, which gives its bytes no CRC that holds, is discarded and counted (R291). -/
def State.badSlot (s : State) (q : Nat) : State :=
  s.modRport q (fun r => { r with badSlots := (r.badSlots + 1) % 2 ^ 32 })

/-- A valid SYNC or LINK slot: keep-alive, and at a root the conflict with another root (R300). -/
def State.slotAlive (s : State) (q : Nat) (root : Bool) : State :=
  let was := (s.rport q).conflict
  let now_ := s.isRoot && root
  let s1 := s.modRport q (fun r => { r with alive := s.clk, conflict := now_ })
  if now_ && !was then s1.fault 0x6008 0 0 else s1

/-- θ of a valid upstream SYNC (R295). `rhoD`, `rhoU`: the two measurements; `full`: `rhoU` is saturated. -/
def thetaOf (rhoD rhoU asym : Int) (full : Bool) : Int :=
  if full then rhoD else rhe (((rhoD - rhoU - asym : Int) : Rat) / 2)

/-- A device that is not the root follows its upstream partner: a step while it is not aligned, outside RUN and DEGRADED RUN, else a
slew over the next 100 µs; |θ| above 512 at 4 SYNCs in a row loses alignment (R295, R297). -/
def State.follow (s : State) (theta : Int) (aligned : Bool) : State :=
  let s1 := ({ s with chain.theta := theta }).sample 0x0E 0 theta
  let slewBy := fun (t : State) => { t with slew := (-(clampI (-64) 64 (rhe ((theta : Rat) / 4))), refillTicks) }
  if !s1.chain.aligned && !s1.running then
    (if aligned then
      { s1.stepTime (((s1.ct : Int) - theta) % (2 ^ 72 : Nat)).toNat with chain.aligned := true, chain.thetaRun := 0 }
     else s1)
  else if !s1.chain.aligned then slewBy s1
  else
    let n := if 512 < theta.natAbs then s1.chain.thetaRun + 1 else 0
    if 4 ≤ n then ({ slewBy s1 with chain.aligned := false, chain.thetaRun := 0 }).fault 0x6007 0 0
    else { slewBy s1 with chain.thetaRun := n }

/-- A valid SYNC slot (R293 to R297, R300, R496): the arrival is the chain time in ticks with the fraction that the port measured. -/
def State.takeSync (s : State) (q body frac : Nat) : State :=
  let s1 := s.slotAlive q (bitN body 97)
  let rhoD : Int := ((s1.now * 256 + frac : Nat) : Int) - (fld body 0 64 * 256 : Nat)
  let raw := fld body 64 32
  let rhoU := sgn 32 raw
  let has := raw != 0x80000000
  let full := raw = 0x7FFFFFFF || raw = 0x80000001
  let spans := 0 < (s1.rport q).stale
  let s2 := s1.modRport q (fun r => { r with rho := some rhoD })
  let s3 := if has && !full && !spans then
      let d := rhe (((rhoD + rhoU : Int) : Rat) / 2)
      (s2.modRport q (fun r => { r with delay := d })).sample 0x03 q (rhe ((d : Rat) * 15625 / 256000))
    else s2
  if s3.isRoot || s3.upPort != some q || !has || spans then s3
  else s3.follow (thetaOf rhoD rhoU (sgn 24 (fld (s3.rport q).word.toNat 0 24)) full) (bitN body 96)

/-- SYNC_SLOT: `body` holds bytes 1 to 15 of the slot; `frac`: the arrival's fraction of a tick, 1/256 (R291, R293, R294). -/
def execSyncSlot (dt : Nat) (port : Fin 4) (body : BitVec 120) (frac : Byte) (s : State) : Res :=
  run dt s (fun s =>
    if !s.linkOn port.val then s
    else if slotGood body then s.takeSync port.val body.toNat frac.toNat
    else s.badSlot port.val)

/-- LINK_SLOT (R291, R299, R300). -/
def execLinkSlot (dt : Nat) (port : Fin 4) (body : BitVec 120) (s : State) : Res :=
  run dt s (fun s =>
    let q := port.val
    let x := body.toNat
    if !s.linkOn q then s
    else if slotGood body then
      let s1 := (s.slotAlive q (bitN x 17)).modRport q (fun r => { r with
        pAddr := BitVec.ofNat 16 (fld x 24 16), pGen := BitVec.ofNat 8 (fld x 40 8), pHops := BitVec.ofNat 8 (fld x 48 8) })
      s1.takePartner q (fld x 0 4) (fld x 4 3) (fld x 7 3) (fld x 10 3) (fld x 13 4)
    else s.badSlot q)

/-- KEEPALIVE_LOST: no valid SYNC or LINK slot for 100 µs (R300). -/
def execKeepaliveLost (dt : Nat) (port : Fin 4) (s : State) : Res :=
  run dt s (fun s =>
    let q := port.val
    if s.linkOn q && (s.rport q).alive + us 100 ≤ s.clk then (s.fault 0x6006 8 q).portRestart q 1 else s)

/-! ### Safety broadcasts (R309, R310) -/

/-- STOP_HOLD_RECEIVED: a copy of which none was seen within 10 ms is forwarded in two consecutive slots on every other up port; with
SAFE_ACCEPT it is a cause of SAFE HOLD (R26, R310). -/
def execStopHoldReceived (dt : Nat) (port : Fin 4) (body : BitVec 120) (s : State) : Res :=
  run dt s (fun s =>
    let q := port.val
    let x := body.toNat
    if !s.linkOn q then s
    else if !slotGood body then s.badSlot q
    else if fld x 0 8 != 1 then s
    else
      let origin := BitVec.ofNat 16 (fld x 8 16)
      let seq := BitVec.ofNat 8 (fld x 24 8)
      let live := s.chain.stops.filter (fun c => s.clk ≤ c.2.2 + ms 10)
      let same := fun (c : BitVec 16 × Byte × Nat) => c.1 = origin && c.2.1 = seq
      if live.any same then
        { s with
          chain.dups := (s.chain.dups + 1) % 2 ^ 32
          chain.stops := (origin, seq, s.clk) :: live.filter (fun c => !same c) }
      else
        let copy := BitVec.ofNat 104 (fld x 0 104)
        let s1 := (List.range 4).foldl (fun t o => if o != q && t.linkOn o then
          t.modRport o (fun r => { r with safety := r.safety ++ [copy, copy] }) else t)
            { s with chain.stops := (origin, seq, s.clk) :: live }
        if bitN s.chain.word.toNat 3 then s1.safeHold false else s1)

/-! ### Discovery (R302 to R305) -/

/-- A generation is newer than another (R302). -/
def newer (g h : Byte) : Bool :=
  let d := (g - h).toNat
  1 ≤ d && d ≤ 127

/-- The upstream port is the one that an ASSIGN came from; a change of it loses alignment, and the reference moves to its lane, or back
to it after a loss (R289, R297, R305). -/
def State.newUpstream (s : State) (q : Nat) : State :=
  let s1 := if s.topo = 2 && s.chain.upstream != some q then
      { s with chain.upstream := some q, chain.aligned := false, chain.thetaRun := 0 }
    else s
  if s1.upPort = some q && (s1.power.ref != some q || s1.power.holdAt.isSome) then s1.takeRef (some q) else s1

/-- ASSIGN (R303): an older generation, or the root, refuses; otherwise the address is taken and the downstream ports are offered theirs. -/
def State.onAssign (s : State) (q : Nat) (gen : Byte) (a : BitVec 16) (down : Bool) (hops : Byte) : State :=
  if s.isRoot || !newer gen s.chain.gen then
    s.sendDisc q ([2#8, gen] ++ bytesOf 2 0 ++ [BitVec.ofNat 8 (b2n down + 2), 0])
  else
    let old := s.chain.addr
    let s1 := { s with chain.gen := gen, chain.addr := a, chain.hops := hops, chain.lostUp := none }
    let s2 := s1.newUpstream q
    let s3 := (List.range 4).foldl (fun t p => t.modRport p (fun r => { r with range := none })) s2
    let s4 := if old = a then s3 else s3.raise 0x0F02 (bytesOf 2 old.toNat ++ bytesOf 2 a.toNat)
    let d : Disc := { left := s4.downPorts.filter (· != q), wait := none, nxt := if down then (a - 1).toNat else a.toNat + 1
                      down := down, hops := hops.toNat, old := old, oldHi := s.chain.hi, up := some q, since := s.clk }
    ({ s4 with chain.disc := some d }).discNext 6

/-- DONE (R303): the range of the port that answered, and the next port. -/
def State.onDone (s : State) (q : Nat) (gen : Byte) (next : Nat) (refused : Bool) : State :=
  match s.chain.disc with
  | some d =>
    if d.wait = some q && gen = s.chain.gen then
      let s1 := if refused then s else s.modRport q (fun r => { r with range := rangeOf d.nxt next d.down })
      ({ s1 with chain.disc := some { d with wait := none, nxt := if refused then d.nxt else next } }).discNext 6
    else s
  | none => s

/-- CHANGE (R305): relayed upstream; the root starts discovery within 1 ms. -/
def State.onChange (s : State) (data : List Byte) : State :=
  if s.topo = 0 then s
  else if s.isRoot then s.topoChange 0
  else match s.upPort with
    | some u => if (s.rport u).up then s.sendDisc u data else s
    | none => s

/-- A port that carries discovery (R300). -/
def State.discOn (s : State) (q : Nat) : Bool :=
  s.linkOn q && !(s.rport q).conflict && s.topo != 0

/-- DISC_ASSIGN (R303). -/
def execDiscAssign (dt : Nat) (port : Fin 4) (gen : Byte) (addr : BitVec 16) (down : Bool) (hops : Byte) (s : State) : Res :=
  run dt s (fun s => if s.discOn port.val then s.onAssign port.val gen addr down hops else s)

/-- DISC_DONE (R303, R304); DOWN of a DONE repeats that of the offer. -/
def execDiscDone (dt : Nat) (port : Fin 4) (gen : Byte) (next : BitVec 16) (_down : Bool) (refused : Bool) (s : State) : Res :=
  run dt s (fun s => if s.discOn port.val then s.onDone port.val gen next.toNat refused else s)

/-- DISC_CHANGE (R305). -/
def execDiscChange (dt : Nat) (port : Fin 4) (gen : Byte) (addr : BitVec 16) (cause : Byte) (s : State) : Res :=
  run dt s (fun s =>
    if s.discOn port.val then s.onChange ([3#8, gen] ++ bytesOf 2 addr.toNat ++ [cause]) else s)

/-- The instant at which the root starts discovery has come. -/
def State.discDue (s : State) : Bool :=
  s.isRoot && s.topo != 0 && (match s.chain.discAt with
    | some t => t ≤ s.clk
    | none => false)

/-- DISCOVERY_START: 100 ms after BOOT, or within 1 ms of a topology change (R303, R305). -/
def execDiscoveryStart (dt : Nat) (s : State) : Res :=
  run dt s (fun s => if s.discDue && !s.chain.retry then s.startDiscovery else s)

/-- DISCOVERY_RETRY: 10 ms after a failure, once (R304). -/
def execDiscoveryRetry (dt : Nat) (s : State) : Res :=
  run dt s (fun s => if s.discDue && s.chain.retry then s.startDiscovery else s)

/-- DISCOVERY_FAILED: not complete within 500 ms (R304). -/
def execDiscoveryFailed (dt : Nat) (s : State) : Res :=
  run dt s (fun s =>
    match s.chain.disc with
    | some d =>
      if s.isRoot && d.since + ms 500 ≤ s.clk then
        let again := !s.chain.retry
        ({ s with chain.disc := none, chain.retry := again
                  chain.discAt := if again then some (s.clk + ms 10) else none }).fault 0x6009 0 0
      else s
    | none => s)

/-- ADDRESS_LOSS: no ASSIGN within 10 ms of losing the upstream port (R304, R305). -/
def execAddressLoss (dt : Nat) (s : State) : Res :=
  run dt s (fun s =>
    match s.chain.lostUp with
    | some t =>
      if s.isRoot || s.clk < t + ms 10 then s
      else
        let old := s.chain.addr
        let s1 := (List.range 4).foldl (fun u p => u.modRport p (fun r => { r with range := none })) s
        let s2 := { s1 with
          chain.addr := 0xFFFF, chain.hi := 0xFFFF, chain.hops := 0xFF, chain.upstream := none, chain.lostUp := none
          chain.disc := none, chain.aligned := false }
        let s3 := s2.toRefclk
        if old = 0xFFFF then s3 else s3.raise 0x0F02 (bytesOf 2 old.toNat ++ bytesOf 2 0xFFFF)
    | none => s)

/-! ### Messages (R301, R306 to R308) -/

/-- The response that a message or its packets carry (R307, R334). -/
def rspFrom (slot : Nat) (dout : List Byte) : Rsp :=
  { opcode := BitVec.ofNat 16 (fld slot 0 16), tag := BitVec.ofNat 16 (fld slot 16 16), status := BitVec.ofNat 8 (fld slot 32 8)
    lcs := BitVec.ofNat 4 (fld slot 40 4), fwd := true, src := BitVec.ofNat 16 (fld slot 48 16)
    counter := BitVec.ofNat 32 (fld slot 64 32), rlen := fld slot 96 32, detail := fld slot 128 32
    result := bytesOf 44 (fld slot 160 352), dout := dout.take (fld slot 96 32) }

/-- A complete CMD is served as a command of the pair of its source and entry port (R31, R307). -/
def State.takeCmd (s : State) (src : BitVec 16) (b0 : Byte) (slot : BitVec 512) (data : List Byte) : State :=
  let e : Entry := ⟨if bitN b0.toNat 0 then .B else .A, some src⟩
  let mb : Fin 4 := ⟨fld b0.toNat 1 2, Nat.mod_lt _ (by decide)⟩
  if s.canServe e mb.val then
    s.serve (commandOf (slotOp slot.toNat)) { entry := e, mb := mb, slot := slot, din := some data } b0.toNat 0 none
  else s

/-- A complete RSP answers the command that waits for it: its source, byte 0, OPCODE and TAG are those of the command; a late one is
discarded (R307). -/
def State.takeRsp (s : State) (src : BitVec 16) (b0 : Byte) (slot : BitVec 512) (data : List Byte) : State :=
  let p : HostPort := if bitN b0.toNat 0 then .B else .A
  let m := fld b0.toNat 1 2
  match (s.mb p m).exec with
  | some x =>
    if x.dump.isNone && x.pwr.isNone && x.b0 = b0.toNat && slotDest x.req.slot.toNat = src.toNat
        && fld x.req.slot.toNat 0 32 = fld slot.toNat 0 32 then
      (s.modMb p m (fun b => { b with exec := none })).writeRsp p m x.src { rspFrom slot.toNat data with addr := slotAddr x.req.slot.toNat }
    else s
  | none => s

/-- The data bytes that a message announces: DATA_LEN of a command that carries data, RLEN of a response. -/
def announced (isRsp : Bool) (slot : Nat) : Nat :=
  if isRsp then fld slot 96 32 else if slotDir slot then 0 else slotDlen slot

/-- The response belongs to a histogram dump, whose data comes in HIST packets (R314, R370). -/
def isDump (isRsp : Bool) (slot : Nat) : Bool :=
  isRsp && fld slot 0 16 = 0x1701

/-- The data of a message that has arrived: in the message itself, then in its packets. -/
def BulkMsg.all (x : BulkMsg) : List Byte :=
  match x.msg with
  | some (_, _, d) => d ++ x.data
  | none => x.data

/-- A waiting message whose data is complete is acted on (R307, R314). -/
def State.tryBulk (s : State) (src : BitVec 16) (id : Option Byte) : State :=
  match s.chain.bulk.find? (fun x => x.src = src && x.id = id) with
  | some x =>
    match x.msg with
    | some (isRsp, slot, _) =>
      if announced isRsp slot.toNat ≤ x.all.length then
        let s1 := { s with chain.bulk := s.chain.bulk.filter (fun y => !(y.src = src && y.id = id)) }
        if isRsp then s1.takeRsp src x.b0 slot x.all
        else s1.takeCmd src x.b0 slot x.all
      else s
    | none => s
  | none => s

/-- A message that waits for packets is noted beside what they have brought already. -/
def State.noteBulk (s : State) (src : BitVec 16) (id : Option Byte) (b0 : Byte)
    (msg : Option (Bool × BitVec 512 × List Byte)) (d : List Byte) : State :=
  let upd := fun (x : BulkMsg) => { x with
    b0 := if msg.isSome then b0 else x.b0, msg := if msg.isSome then msg else x.msg, data := x.data ++ d }
  let has := s.chain.bulk.any (fun x => x.src = src && x.id = id)
  let new : BulkMsg := { src := src, id := id, b0 := b0, msg := msg, data := d, since := s.clk }
  let s1 := { s with chain.bulk :=
    if has then s.chain.bulk.map (fun (x : BulkMsg) => if x.src = src && x.id = id then upd x else x) else s.chain.bulk ++ [new] }
  s1.tryBulk src id

/-- A complete CMD or RSP message: byte 0, the slot, and the data that fits (R307). -/
def State.takeMsg (s : State) (src : BitVec 16) (id : Byte) (isRsp : Bool) (data : List Byte) : State :=
  let b0 := BitVec.ofNat 8 (leAt data 0 1)
  let slot := BitVec.ofNat 512 (leAt data 1 64)
  let n := announced isRsp slot.toNat
  let own := (data.drop 65).take (min n 1471)
  if isDump isRsp slot.toNat && 0 < n then s.noteBulk src none b0 (some (isRsp, slot, [])) []
  else if 1471 < n then s.noteBulk src (some id) b0 (some (isRsp, slot, own)) []
  else if isRsp then s.takeRsp src b0 slot own
  else s.takeCmd src b0 slot own

/-- A received EVT goes to both host ports (R308). -/
def State.takeEvt (s : State) (src : BitVec 16) (data : List Byte) : State :=
  let r := eventOf data src.toNat
  (s.toPort .A r).toPort .B r

/-- A reassembled message (R301). -/
def State.takeWhole (s : State) (x : Partial) : State :=
  if x.mtype = 1 then s.takeMsg x.src x.id false x.data
  else if x.mtype = 2 then s.takeMsg x.src x.id true x.data
  else if x.mtype = 3 then s.takeEvt x.src x.data
  else s.dropFrag

/-- A DISC message of one fragment (R302). -/
def State.takeDisc (s : State) (q : Nat) (d : List Byte) : State :=
  let sub := leAt d 0 1
  let gen := BitVec.ofNat 8 (leAt d 1 1)
  let flags := leAt d 4 1
  if sub = 1 then s.onAssign q gen (BitVec.ofNat 16 (leAt d 2 2)) (bitN flags 0) (BitVec.ofNat 8 (leAt d 5 1))
  else if sub = 2 then s.onDone q gen (leAt d 2 2) (bitN flags 1)
  else if sub = 3 then s.onChange (d.take 5)
  else s.dropFrag

/-- A fragment for this device is reassembled by SRC and MSGID (R301). -/
def State.reassemble (s : State) (src : BitVec 16) (id : Byte) (mtype : BitVec 4) (first last : Bool) (frag : Nat) (d : List Byte) :
    State :=
  let rest := s.chain.partials.filter (fun (x : Partial) => !(x.src = src && x.id = id))
  let x : Option Partial :=
    if first then (if frag = 0 then some { src := src, id := id, mtype := mtype, data := d, next := 1, since := s.clk } else none)
    else match s.chain.partials.find? (fun x => x.src = src && x.id = id) with
      | some x => if x.next = frag && x.mtype = mtype then some { x with data := x.data ++ d, next := frag + 1 } else none
      | none => none
  let s1 := { s with chain.partials := rest }
  match x with
  | none => s1.dropFrag
  | some x => if last then s1.takeWhole x else { s1 with chain.partials := rest ++ [x] }

/-- A valid fragment (R301, R302, R306). -/
def State.takeFrag (s : State) (q x : Nat) : State :=
  let mtype := BitVec.ofNat 4 (fld x 0 4)
  let dest := fld x 8 16
  let d := bytesOf 6 (fld x 56 48)
  if mtype = 4 then (if s.discOn q then s.takeDisc q d else s)
  else if dest = s.chain.addr.toNat && dest != 0xFFFF then
    s.reassemble (BitVec.ofNat 16 (fld x 24 16)) (BitVec.ofNat 8 (fld x 40 8)) mtype (bitN x 4) (bitN x 5) (fld x 48 8) d
  else match s.route dest with
    | some o => s.queueFrags o [⟨BitVec.ofNat 104 (fld x 0 104)⟩]
    | none => s.dropFrag

/-- MSG_FRAGMENT (R291, R301, R306 to R308). A message can be a CMD that reaches the one-time memory. -/
def execMsgFragment (dt : Nat) (port : Fin 4) (body : BitVec 120) (s : State) : Res :=
  runOtp dt s (fun s =>
    if !s.linkOn port.val then s
    else if !slotGood body then s.badSlot port.val
    else if (s.rport port.val).conflict then s
    else s.takeFrag port.val body.toNat)

/-- REASSEMBLY_TIMEOUT: a message incomplete 10 ms after its first part is discarded (R301). -/
def execReassemblyTimeout (dt : Nat) (src : BitVec 16) (id : Byte) (s : State) : Res :=
  run dt s (fun s =>
    let late := fun (a : BitVec 16) (i : Byte) (t : Nat) => a = src && i = id && t + ms 10 ≤ s.clk
    let lateB := fun (x : BulkMsg) => late x.src (x.id.getD id) x.since
    if s.chain.partials.any (fun x => late x.src x.id x.since) || s.chain.bulk.any lateB then
      { s.dropFrag with
        chain.partials := s.chain.partials.filter (fun x => !late x.src x.id x.since)
        chain.bulk := s.chain.bulk.filter (fun x => !lateB x) }
    else s)

/-! ### Packets (R311 to R317) -/

/-- A slot report of this device's chain plan is noted for its column (R130, R254, R315). -/
def State.takeReport (s : State) (d : List Byte) : State :=
  match s.sched.slice with
  | some x =>
    if leAt d 0 4 = x.planId.toNat then
      { s with front.reports :=
          pushMax 8 { start := leAt d 4 8, mode := fld (leAt d 12 2) 0 4, suppressed := popN 32 (leAt d 16 4) } s.front.reports }
    else s
  | none => s

/-- A packet reaches its destination (R314, R315). The rules give a POINTS packet no further effect at its destination. -/
def State.takePacket (s : State) (p : Packet) : State :=
  let d := p.data
  match p.ptype.toNat with
  | 1 => s
  | 2 => s.noteBulk p.src none 0xFF none ((if leAt d 10 2 = 0 then d.take 8 else []) ++ d.drop 16)
  | 3 => s.noteBulk p.src (some (BitVec.ofNat 8 (leAt d 1 1))) (BitVec.ofNat 8 (leAt d 0 1)) none (d.drop 16)
  | 4 => s.takeReport d
  | _ => s.dropPkt

/-- The receive buffer of a port has room for a packet beside those it holds: 256 units of 256 bytes (R316). -/
def RidgePort.hasRoom (r : RidgePort) (p : Packet) : Bool :=
  r.held + packetCost p ≤ 256

/-- A control block inside a packet stomps it: one that is neither CREDIT nor DSK (R311, R312). -/
def stomps (inside : Option (BitVec 64)) : Bool :=
  inside.any (fun b => !isBlock 0x33 b && !isBlock 0xD5 b)

/-- DATA_PACKET: `crc`: the CRC-32 that its EOP carries, STOMP of which stands in the packet; `inside`: a control block between its blocks
(R306, R311, R312, R313, R316). -/
def execDataPacket (dt : Nat) (port : Fin 4) (pkt : Packet) (crc : Word) (inside : Option (BitVec 64)) (s : State) : Res :=
  run dt s (fun s =>
    let q := port.val
    if !s.dataOn q || (s.rport q).width = 0 then s
    else if !(s.rport q).hasRoom pkt then ((s.fault 0x600B 8 q).portRetrain q).dropPkt
    else
      let crcOk := crc.toNat == crc32 pkt.data && !stomps inside
      let n := packetCost pkt
      let s1 := (inside.elim s (s.countBlock q)).modRport q (fun r => { r with held := r.held + n })
      let s2 := if crcOk then s1 else s1.fault 0x600A 8 q
      let dest := pkt.dest.toNat
      if dest = s2.chain.addr.toNat && dest != 0xFFFF then
        (if crcOk && !pkt.stomp then (s2.takePacket pkt).freeCredits q n else (s2.dropPkt).freeCredits q n)
      else match s2.route dest with
        | some o =>
          if (s2.rport o).allRetired then (s2.dropPkt).freeCredits q n
          else s2.modRport o (fun r => { r with txQ := r.txQ ++ [({ pkt with stomp := pkt.stomp || !crcOk }, some q)] })
        | none => (s2.dropPkt).freeCredits q n)

/-- The time a packet takes at a width: its data blocks, SOP and EOP, of 66 bits at 24.80 Gb/s for each lane (R256, R312, R322), ticks. -/
def packetTicks (p : Packet) (width : Nat) : Nat :=
  (((p.data.length + 7) / 8 + 2) * 66 * 80 + 31 * width - 1) / (31 * width)

/-- A reserved window of the port is open (R317). -/
def State.inWindow (s : State) (q : Nat) : Bool :=
  (s.windows q).any (fun w => w.1 ≤ s.now && s.now < w.2)

/-- A packet may start now: a SLOTREP in a window, else one that ends before the next window opens (R316, R317). -/
def State.mayStart (s : State) (q : Nat) (p : Packet) : Bool :=
  let r := s.rport q
  let fits := (s.windows q).all (fun w => w.1 ≤ s.now || s.now + packetTicks p r.width ≤ w.1)
  packetCost p ≤ r.credits && (if s.inWindow q then p.ptype == 4 else fits)

/-- The blocks of a packet: SOP, its data blocks, and EOP with its CRC-32 and STOMP; each is a control block or not, with its payload
(R311, R312). The data of a packet fill whole blocks, the last padded with zeros. -/
def packetBlocks (p : Packet) : List (Bool × BitVec 64) :=
  let n := (p.data.length + 7) / 8
  let data := padTo (8 * n) p.data
  [(true, controlBlock 0x4B (bytesOf 2 p.dest.toNat ++ bytesOf 2 p.src.toNat ++ [p.ptype, BitVec.ofNat 8 (n - 1)]))]
    ++ (List.range n).map (fun i => (false, BitVec.ofNat 64 (leAt data (8 * i) 8)))
    ++ [(true, controlBlock 0x66 (bytesOf 4 (crc32 data) ++ [BitVec.ofNat 8 (b2n p.stomp)]))]

/-- A packet goes out, striped over the lanes in use: its credits are charged (R311, R316). -/
def State.startPacket (s : State) (q : Nat) (p : Packet) : State :=
  let b := packetBlocks p
  let r := s.rport q
  (s.modRport q (fun r => { r.send s.clk b.length with
    charged := (r.charged + packetCost p) % 65536, idleAt := if r.txQ.isEmpty then s.clk else r.idleAt })).say
      (.packet q p (stripe (onesOf 3 r.inUse) (r.place s.clk) b))

/-- The packet that goes next: in a window the first SLOTREP, else the oldest. -/
def nextPacket (inWindow : Bool) (l : List (Packet × Option Nat)) : Option (Packet × Option Nat) :=
  if inWindow then l.find? (fun x => x.1.ptype == 4) else l.head?

/-- PACKET_SEND: a sleeping direction wakes; a packet that a buffer holds frees its credits there (R276, R313, R316, R317). -/
def execPacketSend (dt : Nat) (port : Fin 4) (s : State) : Res :=
  run dt s (fun s =>
    let q := port.val
    let r := s.rport q
    match nextPacket (s.inWindow q) r.txQ with
    | some x =>
      if !s.dataOn q || r.width = 0 then s
      else if r.txSleep then s.wakePort q
      else if s.mayStart q x.1 then
        let s1 := (s.modRport q (fun r => { r with txQ := r.txQ.erase x })).startPacket q x.1
        match x.2 with
        | some i => s1.freeCredits i (packetCost x.1)
        | none => s1
      else s
    | none => s)

/-- CREDIT_BLOCK: a control block between packets; any other is ignored, and counted where it is no good block (R311, R316). -/
def execCreditBlock (dt : Nat) (port : Fin 4) (payload : BitVec 64) (s : State) : Res :=
  run dt s (fun s =>
    if !s.dataOn port.val then s
    else if isBlock 0x33 payload then s.modRport port.val (fun r => { r with returned := fld payload.toNat 8 16 })
    else s.countBlock port.val payload)

/-- CREDIT_RETURN: 16 pending credits, or 500 ns after the first; a sleeping direction wakes for them (R276, R311, R316). -/
def execCreditReturn (dt : Nat) (port : Fin 4) (s : State) : Res :=
  run dt s (fun s =>
    let q := port.val
    let r := s.rport q
    if s.dataOn q && 0 < r.pendCr && (16 ≤ r.pendCr || r.pendAt + 32000 ≤ s.clk) then
      if r.txSleep then s.wakePort q
      else
        let n := (r.freed + r.pendCr) % 65536
        (s.modRport q (fun r => { r with freed := n, pendCr := 0, idleAt := s.clk })).sendBlock q (controlBlock 0x33 (bytesOf 2 n))
    else s)

/-- SLOT_REPORT_SEND: the first report of the port whose window has begun; at a port of width 0 it has no route (R306, R315, R317). -/
def execSlotReportSend (dt : Nat) (port : Fin 4) (s : State) : Res :=
  run dt s (fun s =>
    let q := port.val
    match s.chain.toReport.find? (fun x => x.1 = q && x.2.2 ≤ s.now) with
    | some x =>
      if !s.dataOn q then s
      else if (s.rport q).allRetired then ({ s with chain.toReport := s.chain.toReport.erase x } : State).dropPkt
      else if (s.rport q).txSleep then s.wakePort q
      else if s.mayStart q x.2.1 then
        ({ s with chain.toReport := s.chain.toReport.erase x }).startPacket q x.2.1
      else s
    | none => s)

end Sys2Proof.Machine
end

