-- ==== Sys2Proof/Machine/Tiles.lean ====
section
/-! DEFINITION. The front end and the tiles (R57 to R111): crossings, the matched filter, the histograms, the pre-detector, the
decision instant and the checks of cycle −1. The hand-off at a boundary stands in Columns.lean. -/

namespace Sys2Proof.Machine

open Sys2Proof

/-! ### The buffer sets (R99 to R103) -/

/-- The set that the tile fills (R103). -/
def Tile.own (t : Tile) : BufSet :=
  if t.set0.owner = .tile then t.set0 else t.set1

/-- The set that the sector holds (R103); a tile whose sets are parked hands none, and nothing of a parked set is read (R108). -/
def Tile.handed (t : Tile) : BufSet :=
  if t.set0.owner = .sector then t.set0 else if t.set1.owner = .sector then t.set1 else {}

/-- The set that the tile fills, changed; a tile that owns none is unchanged. -/
def Tile.modOwn (t : Tile) (f : BufSet → BufSet) : Tile :=
  if t.set0.owner = .tile then { t with set0 := f t.set0 }
  else if t.set1.owner = .tile then { t with set1 := f t.set1 }
  else t

/-- The set that the sector holds, changed. -/
def Tile.modHanded (t : Tile) (f : BufSet → BufSet) : Tile :=
  if t.set0.owner = .sector then { t with set0 := f t.set0 }
  else if t.set1.owner = .sector then { t with set1 := f t.set1 }
  else t

/-- Offset of a channel's region in a set (R99). -/
def regionOf (c : Nat) : Nat :=
  c % 16 * 0x2800

/-- Offset of a channel record (R99, R101). -/
def recOf (c : Nat) : Nat :=
  regionOf c + 0x2580

/-- Offset of a window descriptor (R99, R100). -/
def descOf (c w : Nat) : Nat :=
  regionOf c + 0x2500 + 32 * w

/-- The channel's set being filled, changed. -/
def State.modFill (s : State) (c : Nat) (f : List Host.Cell → List Host.Cell) : State :=
  s.modTile (tileOf c) (fun t => t.modOwn (fun b => { b with mem := f b.mem }))

/-- A field of a memory raised by an amount, saturating. -/
def bump (m : List Host.Cell) (a lo n k : Nat) : List Host.Cell :=
  msetFld m a lo n (min (2 ^ n - 1) (mfld m a lo n + k))

/-- The sector of a channel is on, and the channel is neither masked nor retired (R71, R75). -/
def State.chanOn (s : State) (c : Nat) : Bool :=
  s.secOn (secOf c) && !s.masked c && !(s.chan c).down && !s.retired 2 (tileOf c)

/-! ### The listening window (R36, R38, R90) -/

/-- A column in which shots or listen slots run. -/
def Column.active (c : Column) : Bool :=
  c.kind == .home || c.kind == .listen

/-- A slot report of a listen column has arrived, but of another mode than its own: the pair is not in the same mode (R48, R131, R315). -/
def State.otherMode (s : State) (c : Column) : Bool :=
  c.kind == .listen && (match s.front.reports.find? (fun r => r.start = c.start) with
    | some r => r.mode != c.mode
    | none => false)

/-- Shots or listen slots run in a column: a listen slot runs only while both devices are in the plan's mode (R48, R107). -/
def State.slotsRun (s : State) (c : Column) : Bool :=
  c.active && !s.otherMode c

/-- The dither of a slot of a column: the device's own, or the partner's in a listen column (R36, R90, R143). -/
def State.slotDither (s : State) (c : Column) (k : Nat) : Nat :=
  let seed := match s.sched.slice with
    | some x => if c.kind = .listen then (match s.listenAt c.mode c.col with
        | some l => l.seed.toNat
        | none => x.seed.toNat) else x.seed.toNat
    | none => 0
  ditherOf seed (slotStart c k) (parOf c.mode).dither

/-- σ of a column: the device's own signature, or the partner's in a listen column (R90, R142). -/
def State.colSigma (s : State) (c : Column) : Nat :=
  match c.kind, s.listenAt c.mode c.col with
  | .listen, some l => sigmaOf l.sig
  | _, _ => sigmaOf (s.sigOf c.mode c.index)

/-- The time of flight of a timestamp in the open listening window of a tile, if it lies in one (R36, R38, R82, R129). -/
def State.flightOf (s : State) (tile ts : Nat) : Option Nat :=
  match s.mode.cur, s.emit.shotAt with
  | some c, some (at_, _) =>
    if c.active && at_ ≤ ts && ts < at_ + (parOf c.mode).window && !(c.kind = .home && bitN s.emit.shut.toNat tile) then
      some (ts - at_) else none
  | _, _ => none

/-! ### The matched filter (R91) -/

/-- The fall of an event, at the window close where none has come (R84). -/
def Event.fallAt (e : Event) (w : Nat) : Nat :=
  min w (e.fall.getD w)

/-- Time-over-threshold, saturating (R84). -/
def Event.tot (e : Event) (w : Nat) : Nat :=
  min 4095 (e.fallAt w - e.t)

/-- An H-path rise lies within the pulse (R91). -/
def Event.strong (e : Event) (w : Nat) (hs : List Nat) : Bool :=
  hs.any (fun h => e.t ≤ h && h ≤ e.fallAt w)

/-- The qualified events of a window, each with whether it meets the depth-2 condition (R91, R98). `used`: rises that completed an
earlier event's pair. -/
def qualified (sigma q w : Nat) (hs : List Nat) (all : List Event) : List Event → List Nat → List (Event × Bool)
  | [], _ => []
  | e :: rest, used =>
    if used.contains e.t then qualified sigma q w hs all rest used
    else
      let edge := w ≤ e.t + sigma + 16
      let mate := all.find? (fun x => x.t != e.t && e.t + sigma ≤ x.t + 16 && x.t ≤ e.t + sigma + 16)
      let first := e.strong w hs
      let second := !edge && (match mate with
        | some x => x.strong w hs
        | none => false)
      let deep := first || second
      let ok := (edge || mate.isSome) && (q ≤ 1 || (q = 2 && deep) || (q = 3 && first && (edge || second)))
      let tail := qualified sigma q w hs all rest (match mate with
        | some x => x.t :: used
        | none => used)
      if ok then (e, deep) :: tail else tail

/-! ### Accumulation (R92, R98, R101) -/

/-- A qualified event of a coarse shot (R92, R101). -/
def addCoarse (c : Nat) (m : List Host.Cell) (x : Event × Bool) : List Host.Cell :=
  bump (bump m (regionOf c + x.1.t / 80) 0 8 1) (recOf c) 80 16 1

/-- The fine windows of a region: number and start of each valid one (R97, R100). -/
def windowsIn (m : List Host.Cell) (c : Nat) : List (Nat × Nat) :=
  ((List.range 4).filter (fun w => mfld m (descOf c w) 19 1 = 1)).map (fun w => (w, mfld m (descOf c w) 0 19))

/-- The valid window that takes an event of a fine shot. DESIGN CHOICE (log entry 121): where windows clamped at an end of the range
overlap (R97), an event that lies in two counts in the lower-numbered one. -/
def windowOf (m : List Host.Cell) (c t : Nat) : Option (Nat × Nat) :=
  (windowsIn m c).find? (fun y => y.2 ≤ t && t < y.2 + 256)

/-- A qualified event of a fine shot, in the valid window that holds it (R98). -/
def addFine (c w : Nat) (m : List Host.Cell) (x : Event × Bool) : List Host.Cell :=
  match windowOf m c x.1.t with
  | none => m
  | some (n, start) =>
    let i := x.1.t - start
    let t := x.1.tot w
    let d := descOf c n
    let m1 := bump m (regionOf c + 0x2000 + 256 * n + i) 0 8 1
    let m2 := bump m1 (regionOf c + 0x2400 + 64 * n + 4 * (i / 16)) 0 32 t
    let m3 := bump (bump m2 d 44 8 1) d 52 8 (b2n x.2)
    let m4 := bump (bump m3 d 64 20 t) d 96 32 (t * t)
    msetFld m4 d 84 12 (max t (mfld m4 d 84 12))

/-- A write meets an uncorrectable word of a region (R109): the word is poisoned, the region fails, and the tile is charged. -/
def State.tileEcc (s : State) (c a : Nat) : State :=
  let s1 := s.modTile (tileOf c) (fun t => t.modOwn (fun b => { b with
    poison := a / 8 * 8 :: b.poison
    mem := msetFld b.mem (recOf c) 13 2 3 }))
  s1.fault 0x2002 2 (tileOf c)

/-- What the error code shows at the tile's read-modify-write of a word of a region (R109): a correctable error is corrected and counted. -/
def State.tileWord (s : State) (c a : Nat) (ecc : EccHit) : State :=
  match ecc with
  | .clean => s
  | .corrected => s.corrected (tileOf c) 1
  | .bad => s.tileEcc c a

/-- The words that a qualified event adds to, each with what the error code shows there: in a coarse shot of the matched plane and of the
channel record, in a fine one of its window's bins, sub-band sums and descriptor; none where no window holds it (R92, R98, R101, R109). -/
def wordsAdded (m : List Host.Cell) (c : Nat) (coarse : Bool) (e : Event) : List (Nat × EccHit) :=
  if coarse then [(regionOf c + e.t / 80, e.ecc.hist), (recOf c + 8, e.ecc.qual)]
  else match windowOf m c e.t with
    | some (n, start) =>
      let i := e.t - start
      [(regionOf c + 0x2000 + 256 * n + i, e.ecc.hist), (regionOf c + 0x2400 + 64 * n + 4 * (i / 16), e.ecc.sum)
       , (descOf c n, e.ecc.low), (descOf c n + 8, e.ecc.high)]
    | none => []

/-- The error code of the words that a window's qualified events added to (R109). -/
def State.foldEcc (s : State) (c : Nat) (coarse : Bool) (qs : List (Event × Bool)) : State :=
  let words := qs.flatMap (fun x => wordsAdded (s.tile (tileOf c)).own.mem c coarse x.1)
  words.foldl (fun t w => t.tileWord c w.1 w.2) s

/-- The events that a channel gathered in the last listening window enter its region (R91, R92, R98, R109). -/
def State.foldChan (s : State) (col : Column) (slot c : Nat) : State :=
  let x := s.chan c
  if x.evs.isEmpty && x.hs.isEmpty then s
  else
    let p := parOf col.mode
    let qs := qualified (s.colSigma col) p.depth p.window x.hs x.evs x.evs []
    let coarse : Bool := slot < p.coarse
    let add := if coarse then addCoarse c else addFine c p.window
    ((s.modFill c (fun m => qs.foldl add m)).modChan c (fun y => { y with evs := [], hs := [] })).foldEcc c coarse qs

/-- The last window's events enter the histograms: at the next shot, the pre-detector, the decision instant, or the boundary. -/
def State.foldShot (s : State) : State :=
  match s.mode.cur, s.emit.shotAt with
  | some c, some (_, slot) => (s.front.chans.map Prod.fst).foldl (fun t ch => t.foldChan c slot ch) s
  | _, _ => s

/-! ### Crossings (R82 to R86) -/

/-- The correction an interpolator stage has in force; the nominal table until one is installed (R85). -/
def Interp.step (i : Interp) (stage : Nat) : Nat :=
  i.table.getD stage stage

/-- One hit of the code density (R85). -/
def Interp.hit (i : Interp) (stage : Nat) : Interp :=
  { i with hits := tmod 0 i.hits stage (· + 1) }

/-- The timestamp of a crossing (R82). -/
def State.stamp (s : State) (i : Interp) (stage : Nat) : Nat :=
  40 * (s.now / 40) + i.step stage

/-- A timestamp lies in the window that a suppressed shot closes for a tile (R38). -/
def State.inShut (s : State) (tile ts : Nat) : Bool :=
  match s.mode.cur, s.emit.shotAt with
  | some c, some (at_, _) =>
    c.kind = .home && bitN s.emit.shut.toNat tile && at_ ≤ ts && ts < at_ + (parOf c.mode).window
  | _, _ => false

/-- A rise lost to the dead time counts in LOST but in the window that a suppressed shot closes (R38, R83, R109). -/
def State.loseRise (s : State) (c ts : Nat) (ecc : EccHit) : State :=
  if s.inShut (tileOf c) ts then s else (s.modFill c (fun m => bump m (recOf c) 64 16 1)).tileWord c (recOf c + 8) ecc

/-- A rise of the L path that is in a window: the raw plane, EVENTS, and the event (R92, R101, R109). -/
def State.addRise (s : State) (c t : Nat) (ecc : RiseEcc) : State :=
  let a := regionOf c + 0x1000 + t / 80
  let s1 := (s.modFill c (fun m => bump (bump m a 0 8 1) (recOf c) 48 16 1)).modChan c (fun x =>
    { x with evs := x.evs ++ [{ t := t, fall := none, ecc := ecc.add }] })
  (s1.tileWord c a ecc.raw).tileWord c (recOf c) ecc.count

/-- A rise falls within 80 ticks of the last one accepted (R83). -/
def tooSoon (last : Option Nat) (ts : Nat) : Bool :=
  match last with
  | some l => ts < l + 80
  | none => false

/-- A rising crossing (R83). -/
def State.rise (s : State) (c : Nat) (path : TdcPath) (stage : Nat) (ecc : RiseEcc) : State :=
  let x := s.chan c
  match path with
  | .L =>
    let ts := s.stamp x.intL stage
    if tooSoon x.lastL ts then (s.modChan c (fun x => { x with lostL := true })).loseRise c ts ecc.count
    else
      let s1 := s.modChan c (fun x => { x with lastL := some ts, lostL := false, openL := true, intL := x.intL.hit stage })
      match s.flightOf (tileOf c) ts with
      | some t => s1.addRise c t ecc
      | none => s1
  | .H =>
    let ts := s.stamp x.intH stage
    if tooSoon x.lastH ts then (s.modChan c (fun x => { x with lostH := true })).loseRise c ts ecc.count
    else
      let s1 := s.modChan c (fun x => { x with lastH := some ts, lostH := false, openH := true, intH := x.intH.hit stage })
      match s.flightOf (tileOf c) ts with
      | some t => s1.modChan c (fun x => { x with hs := x.hs ++ [t] })
      | none => s1

/-- The last event of a list takes its fall. -/
def closeLast (t : Nat) : List Event → List Event
  | [] => []
  | [e] => [if e.fall.isNone then { e with fall := some t } else e]
  | e :: r => e :: closeLast t r

/-- A falling crossing: ignored after a lost rise, else the fall of the accepted rise (R83, R84). -/
def State.fall (s : State) (c : Nat) (path : TdcPath) (stage : Nat) : State :=
  let x := s.chan c
  match path with
  | .L =>
    if x.lostL then s.modChan c (fun x => { x with lostL := false })
    else if !x.openL then s
    else
      let ts := s.stamp x.intL stage
      let at_ := match s.emit.shotAt with
        | some y => y.1
        | none => 0
      s.modChan c (fun x => { x with openL := false, intL := x.intL.hit stage, evs := closeLast (ts - at_) x.evs })
  | .H =>
    if x.lostH then s.modChan c (fun x => { x with lostH := false })
    else if !x.openH then s
    else s.modChan c (fun x => { x with openH := false, intH := x.intH.hit stage })

/-- COMPARATOR_CROSSING (R81 to R85, R92, R109). `stage`: the interpolator stage it hits; `ecc`: what the error code shows at the words
that it adds to. -/
def execComparatorCrossing (dt : Nat) (ch : Fin 1024) (path : TdcPath) (edge : TdcEdge) (stage : Fin 40) (ecc : RiseEcc)
    (s : State) : Res :=
  run dt s (fun s =>
    if !s.chanOn ch.val then s
    else match edge with
      | .rise => s.rise ch.val path stage.val ecc
      | .fall => s.fall ch.val path stage.val)

/-! ### Interpolator calibration (R85 to R87) -/

/-- The hits an interpolator needs (R85). -/
def hitGoal : Nat := 65536

/-- The hits of an interpolator. -/
def Interp.total (i : Interp) : Nat :=
  sumTo 40 (fun k => tget 0 i.hits k)

/-- The time that the calibration pulsers of a sector's tiles have run, ticks (R87). -/
def State.pulseTime (s : State) (k : Nat) : Nat :=
  let x := s.sector k
  x.pulsed + (match x.pulseAt with
    | some t => s.clk - t
    | none => 0)

/-- The hits that some time of the pulser gives an interpolator: at least 65,536 in 200 µs; their number is the pulser's own (R87, log
entry 3). -/
def pulserHits (free time : Nat) : Nat :=
  Config.freeNat free + (if us 200 ≤ time then 65536 else 0)

/-- The pulser's hits that fill a count to its goal: how they fall over the stages is the interpolator's own (R85, log entry 3). -/
def pulserFill (free : Nat) : Nat → Nat → Tab Nat → Tab Nat
  | 0, _, t => t
  | k + 1, left, t =>
    let n := if k = 0 then left else min left (Config.freeNat (free + k))
    pulserFill free k (left - n) (tmod 0 t k (· + n))

/-- The edges of the stages, 1/16 tick (R85). -/
def edgeOf (h : Tab Nat) (n k : Nat) : Rat :=
  (640 * sumTo k (fun j => tget 0 h j) : Rat) / n

/-- The correction table of a count (R85). -/
def newTable (h : Tab Nat) (n : Nat) : List Nat :=
  (List.range 40).map (fun k => (rhe ((edgeOf h n k + edgeOf h n (k + 1)) / 32)).toNat)

/-- A stage's share is out of 0.25 to 1.75 (R86). -/
def stageBad (h : Tab Nat) (n : Nat) : Bool :=
  (List.range 40).any (fun k => let x := 160 * tget 0 h k; x < n || 7 * n < x)

/-- A channel's interpolator of a path changed. -/
def Chan.modInt (x : Chan) (path : TdcPath) (f : Interp → Interp) : Chan :=
  match path with
  | .L => { x with intL := f x.intL }
  | .H => { x with intH := f x.intH }

/-- The hits of a channel's interpolator with those that the pulser has added since its count restarted, as far as they fill it (R85,
R87). -/
def State.gathered (s : State) (c : Nat) (i : Interp) : Tab Nat :=
  let time := s.pulseTime (secOf c) - i.mark
  if i.total < hitGoal && 0 < time then
    pulserFill (s.free + 1) 40 (min (hitGoal - i.total) (pulserHits s.free time)) i.hits
  else i.hits

/-- The count of an interpolator restarts (R85). -/
def Interp.restart (i : Interp) (mark : Nat) (next : Option (List Nat)) : Interp :=
  { i with hits := [], mark := mark, next := next.or i.next }

/-- CAL_TABLE_COMPUTE (R85 to R87): acts at 65,536 hits, those of the calibration pulser among them. -/
def execCalTableCompute (dt : Nat) (ch : Fin 1024) (path : TdcPath) (s : State) : Res :=
  run dt s (fun s =>
    let c := ch.val
    let i := match path with
      | .L => (s.chan c).intL
      | .H => (s.chan c).intH
    let h := s.gathered c i
    let n := sumTo 40 (fun k => tget 0 h k)
    if !s.secOn (secOf c) || n < hitGoal then s
    else
      let s1 := { s with free := s.free + 41 }
      let mark := s.pulseTime (secOf c)
      if stageBad h n then (s1.modChan c (fun x => x.modInt path (fun i => i.restart mark none))).fault 0x2003 1 c
      else s1.modChan c (fun x => x.modInt path (fun i => i.restart mark (some (newTable h n)))))

/-- TILE_DLL_UNLOCK (R89). -/
def execTileDllUnlock (dt : Nat) (tile : Fin 64) (s : State) : Res :=
  run dt s (fun s =>
    if s.secOn (tile.val / 8) && !s.retired 2 tile.val && (s.tile tile.val).locked then
      (s.modTile tile.val (fun t => { t with locked := false, discard := true })).fault 0x2004 2 tile.val
    else s)

/-! ### The pre-detector (R94 to R97) -/

/-- The smoothed score of a bin (R94). -/
def scoreOf (m : List Host.Cell) (c n b : Nat) : Nat :=
  let at_ := fun i => if i < n then (mget m (regionOf c + i)).toNat else 0
  (if b = 0 then 0 else at_ (b - 1)) + 2 * at_ b + at_ (b + 1)

/-- The peaks of a channel, by score descending and then bin ascending (R94). -/
def peaksOf (m : List Host.Cell) (c n pdMin : Nat) : List Nat :=
  let hot := ((m.filter (fun x => regionOf c ≤ x.1 && x.1 < regionOf c + n)).map (fun x => x.1 - regionOf c))
  let near := (hot.flatMap (fun b => [b - 1, b, b + 1])).eraseDups
  let ps := near.filter (fun b => b < n && pdMin ≤ scoreOf m c n b && (b = 0 || scoreOf m c n (b - 1) < scoreOf m c n b)
    && scoreOf m c n (b + 1) ≤ scoreOf m c n b && 0 < scoreOf m c n b)
  sortBy (fun a b => scoreOf m c n b < scoreOf m c n a || (scoreOf m c n a = scoreOf m c n b && a < b)) ps

/-- A bin lies at least 4 bins from every bin kept (R94). -/
def apart (keep : List Nat) (b : Nat) : Bool :=
  keep.all (fun k => b + 4 ≤ k || k + 4 ≤ b)

/-- The candidates of a channel: the bins kept, and STORM's reserved one (R94). -/
def candidates (storm : Bool) (f : Nat) (peaks : List Nat) : List Nat × Option Nat :=
  let main := if storm then f - 1 else f
  let keep := peaks.foldl (fun k b => if k.length < main && apart k b then k ++ [b] else k) []
  let far := if storm then peaks.filter (apart keep) else []
  match far with
  | [] => (keep, none)
  | x :: r => let b := r.foldl max x; (keep ++ [b], some b)

/-- The start of a candidate's fine window (R97). -/
def windowStart (n b : Nat) : Nat :=
  min (80 * n - 256) (80 * b - 88)

/-- One window descriptor is written (R97, R100). -/
def putWindow (m : List Host.Cell) (c w n sigma score b : Nat) (far : Bool) : List Host.Cell :=
  let start := windowStart n b
  let d := descOf c w
  let edge := 80 * n ≤ start + 255 + sigma + 16
  let m1 := msetFld m d 0 24 (start + 2 ^ 19 + 2 ^ 20 * b2n edge + 2 ^ 21 * b2n far)
  msetFld (msetFld m1 d 24 12 b) d 36 8 (min 255 score)

/-- The candidate windows of a channel come into force (R94, R97, R101). -/
def chooseWindows (m : List Host.Cell) (c n sigma f pdMin : Nat) (storm : Bool) : List Host.Cell :=
  let (keep, far) := candidates storm f (peaksOf m c n pdMin)
  let ordered := sortBy (fun a b => windowStart n a < windowStart n b) keep
  let m1 := (ordered.zipIdx).foldl (fun t x => putWindow t c x.2 n sigma (scoreOf m c n x.1) x.1 (far = some x.1)) m
  msetFld m1 (recOf c) 16 3 keep.length

/-- PRE_DETECTOR: after the last coarse window has closed (R94 to R97). -/
def execPreDetector (dt : Nat) (s : State) : Res :=
  run dt s (fun s =>
    match s.mode.cur with
    | some col =>
      let p := parOf col.mode
      if col.active && slotStart col (p.coarse - 1) + s.slotDither col (p.coarse - 1) + p.window ≤ s.now then
        let s1 := s.foldShot
        let pd := fun k => match s.block col.mode with
          | some b => max 1 (tget 0 b.pdMin k)
          | none => 1
        let tiles := (List.range 64).filter (fun t => s1.secOn (t / 8) && !(s1.tile t).chosen && !s1.retired 2 t)
        tiles.foldl (fun u t =>
          let s2 := (List.range 16).foldl (fun v i =>
            v.modFill (16 * t + i) (fun m => chooseWindows m (16 * t + i) p.bins (v.colSigma col) p.fine (pd (t / 8)) (col.mode = 4))) u
          s2.modTile t (fun x => { x with chosen := true })) s1
      else s
    | none => s)

/-! ### The decision instant (R57 to R72) -/

/-- The decision instant of a column (R66). -/
def State.decisionAt (s : State) (c : Column) : Nat :=
  let p := parOf c.mode
  if s.slotsRun c then slotStart c (p.shots - 1) + s.slotDither c (p.shots - 1) + p.window
  else c.stop - 15 * ticksPerNs

/-- The gain of the next column (R58, R59). -/
def nextGain (w n g h l : Nat) : Nat :=
  if !bitN w 2 then fld w 3 2
  else if (n + 3) / 4 ≤ h && fld w 5 2 < g then g - 1
  else if l = 0 && g < fld w 7 2 then g + 1
  else g

/-- A region's record gets DISCARD (R101). -/
def State.discard (s : State) (c : Nat) : State :=
  s.modFill c (fun m => msetFld m (recOf c) 13 1 1)

/-- The check of a channel due for it: passed with both paths' rises, else failed; two in a row are 0x1001 (R69, R70). -/
def State.judgeCheck (s : State) (c : Nat) (o : ChanObs) : State :=
  let amp := max 102 (5 * (s.chan c).th / 4)
  let s0 := s.say (.check c amp)
  match o.chkL, o.chkH with
  | some d, true =>
    (s0.modChan c (fun x => { x with failRun := 0 })).modFill c (fun m =>
      msetFld (msetFld m (recOf c) 19 2 3) (recOf c) 96 16 (min 0xFFFF d))
  | _, _ =>
    let s1 := (s0.modChan c (fun x => { x with failRun := x.failRun + 1, fails := sat 16 (x.fails + 1) })).modFill c (fun m =>
      msetFld m (recOf c) 19 2 1)
    if 2 ≤ (s1.chan c).failRun then
      ((s1.modChan c (fun x => { x with failRun := 0 })).discard c).fault 0x1001 1 c
    else s1

/-- The slots of a column whose listening window opens for a tile, bit per slot (R36, R38, R129). -/
def State.heard (s : State) (col : Column) (tile : Nat) : BitVec 32 :=
  let all := if s.slotsRun col then BitVec.ofNat 32 (2 ^ (parOf col.mode).shots - 1) else 0#32
  if col.kind = .home then all &&& ~~~ tget 0#32 s.emit.supCol tile else all

/-- What a channel shows that the operand does not name: its AMB as before and no detector fired; the outcome of a check pulse is the
outside's (log entry 3). -/
def State.unnamed (s : State) (c : Nat) (h : c < 1024) : ChanObs :=
  let k := s.free + 2 * c
  { ch := ⟨c, h⟩, hi := 0, lo := 0, amb := (s.chan c).amb
    chkL := if Config.freeBool k then some (Config.freeNat k) else none, chkH := Config.freeBool (k + 1) }

/-- One channel at the decision instant: the detectors' counts, AMB, the gain of the next column, and its check where it is due (R57, R58,
R65 to R69, R101). DESIGN CHOICE (log entry 151): a channel that is out of service keeps the AMB and BLINDED it latched last. -/
def State.observe (s : State) (col : Column) (o : ChanObs) : State :=
  let c := o.ch.val
  if !s.chanOn c then s
  else
    let blind := o.amb = 255#8
    let hi := o.hi &&& s.heard col (tileOf c)
    let lo := o.lo &&& s.heard col (tileOf c)
    let h := popN 32 hi.toNat
    let l := popN 32 lo.toNat
    let s1 := s.modChan c (fun x => { x with
      amb := o.amb, blinded := blind, rdHi := hi, rdLo := lo, h := h, l := l
      gainNext := if s.slotsRun col then nextGain (s.feWord (secOf c)) (parOf col.mode).shots x.gain h l else x.gainNext })
    let s2 := s1.modFill c (fun m => msetFld (msetFld m (recOf c) 0 8 o.amb.toNat) (recOf c) 11 1 (b2n blind))
    if col.active && c % 16 = s.mode.count % 16 then s2.judgeCheck c o else s2

/-- The status words of the channels latch what the decision instant finds (R78). -/
def State.latchStatus (s : State) : State :=
  let all := List.range 1024
  { s with
    front.seenRet := BitVec.ofNat 1024 (maskOf (all.filter (s.retired 1)))
    front.seenMask := BitVec.ofNat 1024 (maskOf (all.filter s.masked))
    front.seenUps := all.foldl (fun t c => tput 0 t c (min 3 (s.upsetsOf ⟨1, c⟩).length)) [] }

/-- Every channel at the decision instant of a column: as named, or as one that is not named (R66, R68). -/
def State.decide (s : State) (col : Column) (obs : List ChanObs) : State :=
  let s1 := (List.finRange 1024).foldl (fun t c =>
    t.observe col ((obs.find? (fun o => o.ch = c)).getD (s.unnamed c.val c.isLt))) s
  ({ s1 with free := s1.free + 2048 }).latchStatus

/-- DECISION_INSTANT: the last window has closed, or a column without shots is about to end, outside RUN too (R18, R66, R68). `obs`: what
the channels show. -/
def execDecisionInstant (dt : Nat) (obs : List ChanObs) (s : State) : Res :=
  run dt s (fun s =>
    match s.columnNow with
    | some col =>
      if s.mode.decided || s.now < s.decisionAt col then s
      else State.decide { s.foldShot with mode.decided := true } col obs
    | none => s)

/-! ### Cycle −1 (R70, R104 to R106) -/

/-- A tile's write pipeline is not empty at cycle −1 (R106). -/
def State.handoffTimeout (s : State) (t : Nat) : State :=
  let s1 := (List.range 16).foldl (fun u i => u.modFill (16 * t + i) (fun m =>
    msetFld (msetFld m (recOf (16 * t + i)) 13 1 1) (recOf (16 * t + i)) 15 1 1)) s
  s1.fault 0x2001 2 t

/-- The stuck-active sample of a channel; one that is out of service shows no output active, and its count starts anew (R70). -/
def State.stuckSample (s : State) (c : Nat) (high : Bool) : State :=
  if !high then (if (s.chan c).stuckRun = 0 then s else s.modChan c (fun x => { x with stuckRun := 0 }))
  else if (s.chan c).stuckRun + 1 < 2 then s.modChan c (fun x => { x with stuckRun := x.stuckRun + 1 })
  else ((s.modChan c (fun x => { x with stuckRun := 0 })).discard c).fault 0x1002 1 c

/-- WRITE_PIPELINE_CHECK: cycle −1 of the column. `notEmpty`: tiles whose write pipeline is not empty; `active`: channels with a
comparator output active (R70, R104, R106). -/
def execWritePipelineCheck (dt : Nat) (notEmpty : List (Fin 64)) (active : List (Fin 1024)) (s : State) : Res :=
  run dt s (fun s =>
    match s.columnNow with
    | some col =>
      if s.mode.checked || s.now + engCk < col.stop then s
      else
        let tiles := (List.range 64).filter (fun t => notEmpty.any (fun x => x.val = t) && s.secOn (t / 8) && !s.retired 2 t)
        let s1 := tiles.foldl State.handoffTimeout { s with mode.checked := true }
        let chans := if col.active then List.range 1024 else []
        chans.foldl (fun u c => u.stuckSample c (u.chanOn c && active.any (fun x => x.val = c))) s1
    | none => s)

end Sys2Proof.Machine
end

