-- ==== Sys2Proof/Machine/Kernels.lean ====
section
/-! DEFINITION. The standard kernels (R113 to R128, R135, R517): from a channel's region to its return records. Fractions are exact;
a root is compared by its square (log entry 25). -/

namespace Sys2Proof.Machine

open Sys2Proof

/-! ### The calibration block (R115, R116, R364) -/

/-- Byte offset of a sector's part of the block (R364). -/
def calOff (k : Nat) : Nat :=
  16 + 1060 * k

/-- T_SYS of a sector, 1/256 tick (R115, R116). -/
def tSys (cal : Option (List Byte)) (k : Nat) : Int :=
  match cal with
  | some l => sgn 32 (leAt l (calOff k) 4)
  | none => 0

/-- WALK[g][k] of a sector (R115, R116). -/
def walkAt (cal : Option (List Byte)) (sec g k : Nat) : Int :=
  match cal with
  | some l => sgn 16 (leAt l (calOff sec + 4 + 128 * g + 2 * k) 2)
  | none => 0

/-- AMP[g][k] of a sector (R115, R116). -/
def ampAt (cal : Option (List Byte)) (sec g k : Nat) : Nat :=
  match cal with
  | some l => leAt l (calOff sec + 516 + 128 * g + 2 * k) 2
  | none => min 4095 (64 * k)

/-- A time of flight lies in a GHOST interval of its sector. DESIGN CHOICE (log entry 127): R127 says 'within', and both ends of an
interval count as within (R115, R127). -/
def inGhost (cal : Option (List Byte)) (sec : Nat) (tq : Int) : Bool :=
  match cal with
  | some l => (List.range 4).any (fun j =>
      let a := leAt l (calOff sec + 1028 + 8 * j) 4
      let b := leAt l (calOff sec + 1032 + 8 * j) 4
      !(a = 0 && b = 0) && 256 * (a : Int) ≤ tq && tq ≤ 256 * (b : Int))
  | none => false

/-- CHK0 of a channel: of the block, or learnt (R116, R517). -/
def State.chk0Of (s : State) (c : Nat) : Option Int :=
  match s.front.cal with
  | some l => some (leAt l (8496 + 4 * c) 4 : Nat)
  | none => (tget none s.front.chk0 c).map (fun (x : Nat) => (x : Int))

/-! ### A region as the kernels read it -/

/-- A field of a region's channel record (R101). -/
def BufSet.rec_ (b : BufSet) (c lo n : Nat) : Nat :=
  mfld b.mem (recOf c) lo n

/-- A field of a window descriptor (R100). -/
def BufSet.desc (b : BufSet) (c w lo n : Nat) : Nat :=
  mfld b.mem (descOf c w) lo n

/-- Shots suppressed: the record's own, and in a listen column the partner's (R101, R130). -/
def supOf (b : BufSet) (c extra : Nat) : Nat :=
  min 63 (b.rec_ c 32 6 + extra)

/-- nf (R114). -/
def fineShots (p : ModeParams) (sup : Nat) : Nat :=
  (p.shots - p.coarse) - min sup (p.shots - p.coarse)

/-- The region passes the gate (R114). -/
def gateOk (b : BufSet) (p : ModeParams) (c sup : Nat) : Bool :=
  b.rec_ c 11 3 = 0 && b.rec_ c 16 3 != 0 && fineShots p sup != 0

/-- A region counts in the ambient source: it passes the gate, but for being blinded (R67, R114, R119, log entry 125). -/
def countsAmbient (b : BufSet) (p : ModeParams) (c sup : Nat) : Bool :=
  b.rec_ c 12 2 = 0 && b.rec_ c 16 3 != 0 && fineShots p sup != 0

/-- The valid windows of a region (R97). -/
def validWindows (b : BufSet) (c : Nat) : List Nat :=
  (List.range 4).filter (fun w => b.desc c w 19 1 = 1)

/-- λ of a region, Q0.16 (R119). -/
def lambda (b : BufSet) (p : ModeParams) (c : Nat) : Nat :=
  let cands := (validWindows b c).map (fun w => b.desc c w 24 12)
  let out := fun (i : Nat) => i ≤ 2 || cands.any (fun k => i ≤ k + 4 && k ≤ i + 4)
  let kept := (List.range p.bins).filter (fun i => !out i)
  let sum := kept.foldl (fun a i => a + (mget b.mem (regionOf c + 0x1000 + i)).toNat) 0
  (rhe ((65536 * sum : Rat) / (kept.length * b.rec_ c 24 6))).toNat

/-! ### Peak and interpolation (R120, R121) -/

/-- A return as the kernels carry it. -/
structure Ret where
  /-- Window number. -/
  win   : Nat
  /-- t_q, 1/256 tick. -/
  tq    : Int
  /-- e, events. -/
  e     : Rat
  /-- snr². -/
  snr2  : Rat
  /-- w_rms², ticks². -/
  wid2  : Rat
  /-- Hits in the span. -/
  hits  : Nat
  /-- tau_q, 1/256 tick. -/
  tau   : Int
  /-- range_q, quarter-millimetres. -/
  range : Nat
  /-- Mean time-over-threshold, ticks. -/
  tot   : Nat
  /-- SPLIT. -/
  split : Bool

/-- The fine count of a bin of a window; outside 0 to 255 it reads 0 (R120). -/
def BufSet.fine (b : BufSet) (c w : Nat) (i : Int) : Nat :=
  if 0 ≤ i ∧ i ≤ 255 then (mget b.mem (regionOf c + 0x2000 + 256 * w + i.toNat)).toNat else 0

/-- The smoothed count (R120). -/
def BufSet.smooth (b : BufSet) (c w : Nat) (i : Nat) : Nat :=
  b.fine c w (i - 1) + 2 * b.fine c w i + b.fine c w (i + 1)

/-- The lowest bin of the greatest smoothed count (R120). -/
def BufSet.peak (b : BufSet) (c w : Nat) : Nat :=
  (List.range 256).foldl (fun k i => if b.smooth c w k < b.smooth c w i then i else k) 0

/-- The bins within a distance of another. -/
def around (k d : Nat) : List Nat :=
  (List.range 256).filter (fun i => i ≤ k + d && k ≤ i + d)

/-- The window's ambient per fine bin (R120). -/
def BufSet.floorOf (b : BufSet) (c w pk : Nat) : Rat :=
  let out := (List.range 256).filter (fun i => pk + 16 < i || i + 16 < pk)
  (out.foldl (fun a i => a + b.fine c w i) 0 : Nat) / (out.length : Rat)

/-- A sum of fractions over bins. -/
def sumQ (l : List Nat) (f : Nat → Rat) : Rat :=
  l.foldl (fun a i => a + f i) 0

/-- The return of one window, if it yields one, before walk and range (R120, R121, R125 step 4). -/
def BufSet.peakReturn (b : BufSet) (c w : Nat) (par : ClassParams) : Option Ret :=
  let pk := b.peak c w
  let a := b.floorOf c w pk
  let net : Nat → Rat := fun i => max 0 ((b.fine c w i : Rat) - a)
  let span := around pk 4
  let e := sumQ span net
  if e = 0 then none
  else
    let off := sumQ span (fun i => ((i : Rat) - pk) * net i)
    let cq : Int := 256 * pk + rhe (256 * off / e)
    let wide := around pk 16
    let wid2 := sumQ wide (fun i => ((i : Rat) - cq / 256) * ((i : Rat) - cq / 256) * net i) / sumQ wide net
    let snr2 := e * e / (9 * a + 1)
    let eMin : Rat := par.eMin / 16
    let snrMin : Rat := par.snrMin / 16
    if e < eMin || snr2 < snrMin * snrMin then none
    else some {
      win := w, tq := 256 * b.desc c w 0 19 + cq, e := e, snr2 := snr2, wid2 := wid2
      hits := span.foldl (fun n i => n + b.fine c w i) 0, tau := 0, range := 0
      tot := (rhe ((b.desc c w 64 20 : Rat) / b.desc c w 44 8)).toNat
      split := (List.range 256).any (fun j => (pk + 12 ≤ j || j + 12 ≤ pk) && eMin ≤ sumQ (around j 4) net) }

/-! ### Walk, skew, range (R122, R123, R124) -/

/-- k and f of R122. -/
def walkIdx (tot : Nat) : Nat × Nat :=
  let k := min (tot / 64) 62
  (k, min (tot - 64 * k) 64)

/-- The walk correction (R122). -/
def walkOf (cal : Option (List Byte)) (sec g tot : Nat) : Int :=
  let (k, f) := walkIdx tot
  let w0 := walkAt cal sec g k
  w0 + rhe (((walkAt cal sec g (k + 1) - w0) * f : Rat) / 64)

/-- The amplitude (R124). -/
def ampOf (cal : Option (List Byte)) (sec g tot : Nat) : Nat :=
  let (k, f) := walkIdx tot
  let a0 := ampAt cal sec g k
  ((a0 : Int) + rhe ((((ampAt cal sec g (k + 1) : Int) - a0) * f : Rat) / 64)).toNat

/-- range_q of a corrected time (R123). -/
def rangeOfTau (k : Nat) (tau : Int) : Nat :=
  if tau < 0 then 0 else (rhe ((tau * k : Rat) / 2 ^ 24)).toNat

/-- rhe(256 × log2 x) for x = a ÷ d ≥ 1, by x^512 between powers of two (R124). -/
def log2x256 (a d : Nat) : Nat :=
  (Nat.log2 (a ^ 512 / d ^ 512) + 1) / 2

/-- INTENSITY, to within the ±1 that R124 leaves (log entry 16). -/
def intensity (free amp gf : Nat) : Nat :=
  let x := log2x256 (gf + amp * 64) gf
  (clampI 0 4095 ((x : Int) + clampI (-1) 1 (Config.lsbError free))).toNat

/-- The nearest integer to the root of a fraction, halves to even (R5, R124). -/
def rootNear (q : Rat) : Nat :=
  let n := isqrt q.floor.toNat
  let h : Rat := ((n : Rat) + 1 / 2) * ((n : Rat) + 1 / 2)
  if q < h then n else if h < q then n + 1 else if n % 2 = 0 then n else n + 1

/-- CONFIDENCE (R124). -/
def confidence (snr2 : Rat) (settling nb edge : Bool) : Nat :=
  let c0 := min 255 (rootNear (256 * snr2))
  let c1 := if settling then (rhe ((c0 : Rat) / 2)).toNat else c0
  let c2 := if nb then (rhe ((c1 * 3 : Rat) / 4)).toNat else c1
  if edge then (rhe ((c2 * 3 : Rat) / 4)).toNat else c2

/-! ### Separation (R125) -/

/-- The first adjacent pair that lies too close is merged (R125 step 1). -/
def mergeStep (lim : Int) : List Ret → List Ret
  | a :: b :: r =>
    if b.tq - a.tq < lim then (if a.e < b.e then b :: r else a :: r) else a :: mergeStep lim (b :: r)
  | l => l

/-- The returns of a channel after separation, in the order of their RETURN index (R125). -/
def separate (lim : Int) (glare : Bool) (l : List Ret) : List Ret :=
  let sorted := sortBy (fun a b => a.tq < b.tq) l
  let merged := mergeStep lim (mergeStep lim (mergeStep lim sorted))
  let kept := if glare then merged.filter (fun r => r.range ≤ 1024000) else merged
  sortBy (fun a b => a.range < b.range || (a.range = b.range && a.win < b.win)) kept

/-! ### Classification (R127) -/

/-- The class of a return (R127). `unstated` answers the test of cv where the mean time-over-threshold is 0. DESIGN CHOICE (log entry
128): of raw[b−2] to raw[b+2], bins outside 0 to N−1 are no bins and leave the dust count as it is. -/
def classOf (b : BufSet) (p : ModeParams) (par : ClassParams) (cal : Option (List Byte)) (c nf lam : Nat) (unstated : Bool)
    (r : Ret) : Nat :=
  let has := fun k => bitN p.classes.toNat k
  let far := b.desc c r.win 21 1 = 1
  let nEv : Rat := b.desc c r.win 44 8
  let mean : Rat := b.desc c r.win 64 20 / nEv
  let var : Rat := b.desc c r.win 96 32 / nEv - mean * mean
  let dustW : Rat := par.dustW / 16
  let forW : Rat := par.foreignW / 16
  let cv : Rat := par.cvDrizzle / 256
  let pf : Rat := (r.hits : Rat) / nf
  let cand := b.desc c r.win 24 12
  let level : Rat := 2 * (lam : Rat) / 65536 * b.rec_ c 24 6 + 2
  let thick := ((List.range 5).filter (fun j => 2 ≤ cand + j && cand + j - 2 < p.bins
    && level ≤ (mget b.mem (regionOf c + 0x1000 + (cand + j - 2))).toNat)).length
  let cvHigh := if mean = 0 then unstated else cv * cv * (mean * mean) ≤ var
  let snrG : Rat := par.snrGlare / 16
  if has 5 && (r.tq < 256 * par.ghostNear || inGhost cal (secOf c) r.tq || r.tau < 0) then 5
  else if has 2 && !far && r.range ≤ 4000 * par.dustMax && dustW * dustW ≤ r.wid2 && 3 ≤ thick then 2
  else if has 1 && !far && r.range ≤ 4000 * par.drizzleMax && pf < (par.pDrizzle : Rat) / 256 && cvHigh
      && r.wid2 < dustW * dustW then 1
  else if has 4 && (forW * forW ≤ r.wid2 || (pf < (par.pForeign : Rat) / 256
      && (par.hForeign : Rat) / 256 ≤ (b.desc c r.win 52 8 : Rat) / nEv)) then 4
  else if has 3 && par.glareAmb ≤ b.rec_ c 0 8 && r.snr2 < snrG * snrG then 3
  else 0

/-! ### The channel's records (R124, R135) -/

/-- What the kernels take beside the region. -/
structure KernelIn where
  /-- The column. -/
  col     : Column
  /-- Parameters of R128. -/
  par     : ClassParams
  /-- The calibration block in force. -/
  cal     : Option (List Byte)
  /-- K (R123). -/
  k       : Nat
  /-- Delay that a listen column takes in place of T_SYS (R131). -/
  pair    : Option Int
  /-- The partner's suppressed shots (R130). -/
  extra   : Nat
  /-- Channels retired while the column ran. -/
  retired : Nat
  /-- Where the column's free values begin. -/
  free    : Nat

/-- One return record (R135). -/
def recordOf (b : BufSet) (q : KernelIn) (c idx cls : Nat) (r : Ret) : BitVec 128 :=
  let g := b.rec_ c 8 2
  let settling := b.rec_ c 10 1 = 1
  let edge := b.desc c r.win 20 1 = 1
  let nb := (c % 16 != 0 && bitN q.retired (c - 1)) || (c % 16 != 15 && bitN q.retired (c + 1))
  let inten := intensity (q.free + 4 * c + idx) (ampOf q.cal (secOf c) g r.tot) (4 ^ g)
  let range := if r.range < 2 ^ 22 then r.range else Config.freeNat (q.free + 4 * c + idx) % 2 ^ 22
  let listen := q.col.kind = .listen
  BitVec.ofNat 128 (c + 2 ^ 10 * idx + 2 ^ 12 * range + 2 ^ 34 * inten + 2 ^ 46 * min 255 (rhe ((r.tot : Rat) / 16)).toNat
    + 2 ^ 54 * cls + 2 ^ 58 * confidence r.snr2 settling nb edge + 2 ^ 66 * g + 2 ^ 68 * b2n settling + 2 ^ 69 * b2n nb
    + 2 ^ 70 * b2n (0 < supOf b c q.extra) + 2 ^ 71 * b2n listen + 2 ^ 72 * b.desc c r.win 21 1 + 2 ^ 73 * b2n edge
    + 2 ^ 74 * b2n r.split + 2 ^ 75 * b2n (1000 ≤ b.rec_ c 112 16) + 2 ^ 76 * b2n (inten = 4095 || r.tot = 4095)
    + 2 ^ 80 * min 255 r.hits + 2 ^ 88 * (if listen then q.col.partner.toNat else 0))

/-- The return records of a channel, with its drift (R113 to R127). -/
def channelRecords (b : BufSet) (q : KernelIn) (c : Nat) (drift : Int) : List (BitVec 128) :=
  let p := parOf q.col.mode
  let sup := supOf b c q.extra
  if !gateOk b p c sup then []
  else
    let g := b.rec_ c 8 2
    let sys := match q.pair with
      | some d => d
      | none => tSys q.cal (secOf c)
    let found := (validWindows b c).filterMap (fun w => (b.peakReturn c w q.par).map (fun r =>
      let tau := r.tq - walkOf q.cal (secOf c) g r.tot - sys - drift
      { r with tau := tau, range := rangeOfTau q.k tau }))
    let kept := separate (256 * q.par.mergeT) (q.col.mode = 5) found
    let lam := lambda b p c
    (kept.zipIdx).map (fun x =>
      recordOf b q c x.2 (classOf b p q.par q.cal c (fineShots p sup) lam (Config.freeBool (q.free + 4 * c + x.2)) x.1) x.1)

/-- The skew state of a channel after a column: CHK0 is learnt from the first record with CHK_PASS = 1, whatever its DISCARD, and m follows
a record with DISCARD = 0 (R116, R122, R517). -/
def State.trackSkew (s : State) (b : BufSet) (c : Nat) : State :=
  if b.rec_ c 20 1 = 1 then
    let d := 256 * b.rec_ c 96 16
    let s1 := if s.front.cal.isNone && (tget none s.front.chk0 c).isNone then
      { s with front.chk0 := tput none s.front.chk0 c (some d) } else s
    match if b.rec_ c 13 1 = 0 then s1.chk0Of c else none with
    | some k0 =>
      let m := (tget none s1.front.skew c).getD k0
      let m' := m + rhe (((d : Int) - m : Rat) / 8)
      { s1 with front.skew := tput none s1.front.skew c (some m') }
    | none => s1
  else s

/-- The drift of a channel, 1/256 tick (R122). DESIGN CHOICE (log entry 129): a channel without a calibration block whose CHK0 has not been
learnt (R116) has no m, and its drift is 0. -/
def State.driftOf (s : State) (c : Nat) : Int :=
  match s.chk0Of c with
  | some k0 => clampI (-2048) 2047 ((tget none s.front.skew c).getD k0 - k0)
  | none => 0

end Sys2Proof.Machine
end

