-- ==== Sys2Proof/Machine/Engines.lean ====
section
/-! DEFINITION. The shared operations of the sector engines (R203 to R233, R244 to R248): which engine runs which program, a run and its
end, results in flight, registers, addresses, memories, bank tokens, and their faults. The operations themselves stand in EngL, EngA
and EngM. -/

namespace Sys2Proof.Machine

open Sys2Proof

/-! ### Engines and programs (R203, R213) -/

/-- One retirement in a sector's map from logical to physical engines (R203). -/
def spareStep (a : List Nat × List Nat) (e : Nat) : List Nat × List Nat :=
  let ret := e :: a.2
  match a.1.findIdx? (fun x => x = e), [30, 31].find? (fun x => !a.1.contains x && !ret.contains x) with
  | some l, some sp => (a.1.set l sp, ret)
  | _, _ => (a.1, ret)

/-- The physical engine of each logical engine of a sector (R203). -/
def State.engMap (s : State) (k : Nat) : List Nat :=
  let gone := (s.faults.retired.filter (fun u => u.kind = 4 && u.idx / 32 = k)).map (fun u => u.idx % 32)
  (gone.foldl spareStep (List.range 30, [])).1

/-- The logical engine that a physical engine of a sector runs (R203). -/
def State.logicalOf (s : State) (e : Nat) : Option Nat :=
  (s.engMap (e / 32)).findIdx? (fun x => x = e % 32)

/-- The scheduled physical engines of a sector, as 32 × sector + engine: neither spare nor retired (R205). -/
def State.scheduled (s : State) (k : Nat) : List Nat :=
  ((s.engMap k).map (fun x => 32 * k + x)).filter (fun e => !s.retired 4 e)

/-- The program of a logical engine in an image (R238). -/
def programOf (i : SectorImage) (l : Nat) : List (BitVec 128) :=
  i.programs.getD (i.map.getD l 0) []

/-- The active bank (R213). -/
def Eng.active (x : Eng) : List (BitVec 128) :=
  if x.ibank then x.bank1 else x.bank0

/-- The active bank replaced. -/
def Eng.setActive (x : Eng) (p : List (BitVec 128)) : Eng :=
  if x.ibank then { x with bank1 := p } else { x with bank0 := p }

/-- The staged bank replaced. -/
def Eng.setStaged (x : Eng) (p : List (BitVec 128)) : Eng :=
  if x.ibank then { x with bank0 := p } else { x with bank1 := p }

/-- Every scheduled engine of a sector with one of its banks filled from an image (R213). -/
def State.fillBanks (s : State) (k : Nat) (staged : Bool) (i : SectorImage) : State :=
  (s.engMap k).zipIdx.foldl (fun t x => t.modEng (32 * k + x.1) (fun e =>
    if staged then e.setStaged (programOf i x.2) else e.setActive (programOf i x.2))) s

/-- The image that the staged banks of a sector hold when staging is complete: the next variant (R213). -/
def State.nextImage (s : State) (k : Nat) : Option SectorImage :=
  if s.runVariant k < 2 then s.image (storeIdx s.mode.mode k (s.runVariant k + 1)) else none

/-- Every engine of a sector takes its other bank, which holds the program of the sector's image; its staging starts (R213). -/
def State.switchBanks (s : State) (k : Nat) : State :=
  let s1 := (List.range 32).foldl (fun t e => t.modEng (32 * k + e) (fun x => { x with ibank := !x.ibank })) s
  let s2 := match s1.imageInForce k with
    | some i => s1.fillBanks k false i
    | none => s1
  s2.modSector k (fun x => { x with staged := false })

/-- The staged banks of a sector hold the next variant (R213). -/
def State.stageDone (s : State) (k : Nat) : State :=
  let s1 := match s.nextImage k with
    | some i => s.fillBanks k true i
    | none => s
  s1.modSector k (fun x => { x with staged := true, unstaged := false })

/-- An on-die memory from a list of bytes by address, in canonical form. -/
def memOf (l : List (Nat × Byte)) : List Host.Cell :=
  l.foldl (fun m x => mput m x.1 x.2) []

/-- A byte of the calibration block in force; without one, of the block that R116 puts in its place: AMP alone is not zero. -/
def calByte (cal : Option (List Byte)) (off : Nat) : Byte :=
  match cal with
  | some l => l.getD off 0
  | none =>
    let i := (off - 16) % 1060
    if 16 ≤ off && off < 8496 && 516 ≤ i && i < 1028 then BitVec.ofNat 8 (min 4095 (64 * ((i - 516) % 128 / 2)) / 256 ^ (i % 2)) else 0

/-- The skew states of a sector's channels stand in its state memory where the image places them (R122, R211). -/
def State.placeSkew (s : State) (k : Nat) (i : SectorImage) (m : List Host.Cell) : List Host.Cell :=
  match i.skewAt with
  | some a => (List.range 128).foldl (fun t n =>
      mwrite t (a + 4 * n) 4 (uns 32 ((tget none s.front.skew (128 * k + n)).getD ((s.chk0Of (128 * k + n)).getD 0)))) m
  | none => m

/-- The state memory of a sector as its image loads it: the initial contents, the calibration items, the parameters of R128 and the
skew states, each where the image places it (R211, R238). -/
def State.firstState (s : State) (k : Nat) : List Host.Cell :=
  match s.imageInForce k with
  | some i =>
    let m1 := i.calAt.foldl (fun t p => (List.range p.2.1).foldl (fun u n => mput u (p.2.2 + n) (calByte s.front.cal (p.1 + n))) t)
      (memOf i.init)
    let m2 := (i.params.all.zip i.parAt).foldl (fun t p => mwrite t p.2 4 p.1) m1
    s.placeSkew k i m2
  | none => []

/-- The state memory of a sector is cleared and loaded from its image (R211). -/
def State.loadState (s : State) (k : Nat) : State :=
  s.modSector k (fun x => { x with reload := [], mem := s.firstState k })

/-- The skew states that the kernels keep are written back to the state memory (R122, R211). -/
def State.keepSkew (s : State) (k : Nat) : State :=
  match s.imageInForce k with
  | some i => s.modSector k (fun x => { x with mem := s.placeSkew k i x.mem })
  | none => s

/-- The new mode's programs are written to the staged banks of its powered sectors during warm-up (R213). -/
def State.stageMode (s : State) (m : Nat) : State :=
  ((List.range 8).filter (fun k => bitN (parOf m).sectors.toNat k && s.secOn k)).foldl (fun t k =>
    match t.image (storeIdx m k (min 2 (t.variantOf k))) with
    | some i => t.fillBanks k true i
    | none => t) s

/-- The skew states of a sector whose words are reloaded start at CHK0 again (R211, R212, R517). -/
def State.resetSkew (s : State) (k : Nat) : State :=
  match (s.imageInForce k).bind SectorImage.skewAt with
  | some a =>
    let hit := (List.range 128).filter (fun n => (s.sector k).reload.contains ((a + 4 * n) / 8 * 8))
    hit.foldl (fun t n => { t with front.skew := tput none t.front.skew (128 * k + n) none }) s
  | none => s

/-- Damaged words of the state memory are reloaded from the image (R212). -/
def State.reloadWords (s : State) (k : Nat) : State :=
  let s1 := s.resetSkew k
  let init := s1.firstState k
  s1.modSector k (fun x => { x with reload := [], mem := x.reload.foldl (fun m a => mwrite m a 8 (mread init a 8)) x.mem })

/-! ### Control flow of a program, for the END that validation fixes (R226, R240) -/

/-- The bundle after one, with the loop counters and bodies: (pc, lc0, lc1, body0, body1) (R226). -/
def ctlStep (c : Nat) (x : Nat × Nat × Nat × Nat × Nat) : Nat × Nat × Nat × Nat × Nat :=
  let (pc, l0, l1, b0, b1) := x
  match fld c 0 4 with
  | 1 => (pc + 1, fld c 4 12, l1, pc + 1, b1)
  | 2 => (pc + 1, l0, fld c 4 12, b0, pc + 1)
  | 3 => if l0 = 0 then (pc + 1, l0, l1, b0, b1) else (b0, l0 - 1, l1, b0, b1)
  | 4 => if l1 = 0 then (pc + 1, l0, l1, b0, b1) else (b1, l0, l1 - 1, b0, b1)
  | _ => (pc + 1, l0, l1, b0, b1)

/-- The number of bundles a program issues up to and with END, at most `fuel` (R226). -/
def endGo (prog : List (BitVec 128)) : Nat → Nat → Nat × Nat × Nat × Nat × Nat → Option Nat
  | 0, _, _ => none
  | fuel + 1, n, x =>
    match prog[x.1]? with
    | none => none
    | some b =>
      let c := fld b.toNat 112 16
      if fld c 0 4 = 5 then some (n + 1) else endGo prog fuel (n + 1) (ctlStep c x)

/-- The cycle after the boundary in which a program issues END: it starts in cycle 2 (R205, R245). -/
def endCycle (prog : List (BitVec 128)) (slotEnd : Nat) : Option Nat :=
  (endGo prog (slotEnd + 1) 0 (0, 0, 0, 0, 0)).map (· + 1)

/-! ### Faults of engines (R233, R248) -/

/-- The sector's records of the column in processing are withheld (R233, R248). -/
def State.loseSector (s : State) (k : Nat) : State :=
  s.modSector k (fun x => { x with lost := true })

/-- An engine fault (R233). -/
def State.engFault (s : State) (code e : Nat) : State :=
  (s.loseSector (e / 32)).fault code 4 e

/-- An engine meets an uncorrectable word of the state memory: 0x3005 on its sector, an upset where it is the engine's first of the
run (R212, R233). -/
def State.stateFault (s : State) (e : Nat) : State :=
  let s1 := s.fault 0x3005 3 (e / 32) (count := !s.faults.colUpsets.contains ⟨4, e⟩)
  { s1 with faults.colUpsets := ⟨4, e⟩ :: s1.faults.colUpsets }

/-- The image in force becomes suspect (R248, R479): its sector withholds until the device leaves RUN, its mode is withdrawn. -/
def State.suspectImage (s : State) (k l : Nat) : State :=
  let m := s.mode.mode
  let s1 := s.modSector k (fun x => { x with suspect := l :: x.suspect, lostRun := true, lost := true })
  ({ s1 with sched.withdrawn := s1.sched.withdrawn ||| BitVec.ofNat 8 (2 ^ m) }).fault 0x300A 16 (storeIdx m k (s.runVariant k))

/-- A guard fault of an engine: one of two engines that ran one logical engine within 10 s makes the image suspect (R246 to R248). -/
def State.guardFault (s : State) (code e : Nat) : State :=
  let k := e / 32
  let l := (s.logicalOf e).getD 0
  let old := (s.sector k).guard.filter (fun g => s.clk ≤ g.2.2 + sec 10)
  let known := (s.sector k).suspect.contains l
  let s1 := (s.loseSector k).modSector k (fun x => { x with guard := (l, e, s.clk) :: old })
  let s2 := s1.fault code 4 e (count := !known)
  if !known && old.any (fun g => g.1 = l && g.2.1 != e) then s2.suspectImage k l else s2

/-! ### Results in flight (R221) -/

/-- A value is written in an engine; X0 and P0 discard it (R207). -/
def Eng.put (x : Eng) (dst : Dest) (v : Nat) : Eng :=
  match dst with
  | .x r => if r = 0 then x else { x with x := tput 0#32 x.x r (BitVec.ofNat 32 v) }
  | .a k => { x with a := tput 0#48 x.a k (BitVec.ofNat 48 v) }
  | .ar k => { x with ar := tput 0#48 x.ar k (BitVec.ofNat 48 v) }
  | .p k => if k = 0 then x else { x with p := BitVec.ofNat 8 (setFld x.p.toNat k 1 v) }
  | .gb n => { x with gb := tput 0#23 x.gb n (BitVec.ofNat 23 v) }
  | .gi n => { x with gi := tput 0#16 x.gi n (BitVec.ofNat 16 v) }
  | .gm n => { x with gm := tput 0#16 x.gm n (BitVec.ofNat 16 v) }
  | .gl n => { x with gl := tput 1#16 x.gl n (BitVec.ofNat 16 v) }
  | .gd n => { x with gd := tput 0#2 x.gd n (BitVec.ofNat 2 v) }
  | .bx => { x with bx := BitVec.ofNat 6 v }
  | .mem a => { x with mem := mput x.mem a (BitVec.ofNat 8 v) }
  | .state _ => x

/-- One result lands. -/
def State.landOne (s : State) (e : Nat) (f : Flight) : State :=
  match f.dst with
  | .state a => s.modSector (e / 32) (fun x => { x with mem := mput x.mem a (BitVec.ofNat 8 f.val.toNat) })
  | d => s.modEng e (fun x => x.put d f.val.toNat)

/-- The results due by a cycle land, by cycle and then by issue (R221). -/
def State.settle (s : State) (e cyc : Nat) : State :=
  let fl := (s.eng e).fly
  let due := sortBy (fun a b => a.land < b.land) (fl.filter (fun f => f.land ≤ cyc))
  due.foldl (fun t f => t.landOne e f) (s.modEng e (fun x => { x with fly := x.fly.filter (fun f => cyc < f.land) }))

/-- A result in flight to the sector state memory. -/
def Flight.far (f : Flight) : Bool :=
  match f.dst with
  | .state _ => true
  | _ => false

/-- The stores of every engine of a sector to its state memory that are due by a cycle land, by cycle (R221, R222). -/
def State.settleState (s : State) (k cyc : Nat) : State :=
  let due := (List.range 32).flatMap (fun i =>
    ((s.eng (32 * k + i)).fly.filter (fun f => f.far && f.land ≤ cyc)).map (fun f => (32 * k + i, f)))
  let s1 := (due.map Prod.fst).eraseDups.foldl (fun t e =>
    t.modEng e (fun x => { x with fly := x.fly.filter (fun f => !(f.far && f.land ≤ cyc)) })) s
  (sortBy (fun a b => a.2.land < b.2.land) due).foldl (fun t x => t.landOne x.1 x.2) s1

/-- A result is sent on its way. -/
def State.send (s : State) (e land : Nat) (dst : Dest) (v : Nat) : State :=
  s.modEng e (fun x => { x with fly := x.fly ++ [⟨land, dst, BitVec.ofNat 64 v⟩] })

/-- The cycle after the boundary that started a sector's run (R205). -/
def State.runCycle (s : State) (k : Nat) : Option Nat :=
  (s.sector k).runFrom.bind (fun b => if b + 2 * engCk ≤ s.now then some ((s.now - b) / engCk) else none)

/-- An engine issues an operation in the cycle in hand, where it runs and SLOT_END has not passed (R205, R221, R226, R247): results that
are due land first, with the stores of the sector's other engines, and the bundle index follows the cycles that have passed. -/
def State.issue (s : State) (e : Nat) (f : State → Nat → State) : State :=
  match s.runCycle (e / 32) with
  | some cyc =>
    if (s.eng e).run && cyc ≤ s.slotEnd (e / 32) then
      f (((s.settleState (e / 32) cyc).settle e cyc).modEng e (fun x => { x with
        stepped := true, pc := x.pc + (cyc - x.pcAt), pcAt := max cyc x.pcAt })) cyc
    else s
  | none => s

/-! ### Registers (R207, R228) -/

/-- A general register; X0 reads 0 (R207). -/
def Eng.rx (x : Eng) (r : Nat) : Nat :=
  if r = 0 then 0 else (tget 0#32 x.x r).toNat

/-- A general register as a signed number. -/
def Eng.sx (x : Eng) (r : Nat) : Int :=
  sgn 32 (x.rx r)

/-- A predicate; P0 reads 1 (R207). -/
def Eng.rp (x : Eng) (k : Nat) : Bool :=
  k = 0 || bitN x.p.toNat k

/-- The guard of a predicated operation (R216 to R218, R221). -/
def Eng.pass (x : Eng) (pred : BitVec 3) (pneg : BitVec 1) : Bool :=
  x.rp pred.toNat != (pneg == 1#1)

/-- Sticky flags of ENG_STAT set: 1 SAT, 2 PSN, 4 DIVZ, 8 ECC_CORR (R208). -/
def State.setStat (s : State) (e flags : Nat) : State :=
  let cyc := (s.runCycle (e / 32)).getD 0
  let f := BitVec.ofNat 4 flags
  s.modEng e (fun x => { x with stat := x.stat ||| f, statAt := cyc, statNew := if x.statAt = cyc then x.statNew ||| f else f })

/-- A value saturated to `n` bits, and whether it was out of range (R228). -/
def satI (n : Nat) (v : Int) : Int × Bool :=
  let hi : Int := 2 ^ (n - 1) - 1
  let lo : Int := -2 ^ (n - 1)
  if v < lo then (lo, true) else if hi < v then (hi, true) else (v, false)

/-- A saturated result, with SAT where it saturated (R228). -/
def State.satStat (s : State) (e : Nat) (sat : Bool) : State :=
  if sat then s.setStat e 1 else s

/-- Redundant sign bits of an `n`-bit value (R229). -/
def normOf (n : Nat) (v : Int) : Nat :=
  let m := if v < 0 then (-v - 1).toNat else v.toNat
  n - 1 - bitLen m

/-- ENG_STAT (R208). -/
def State.engStat (s : State) (e : Nat) : Nat :=
  let x := s.eng e
  x.stat.toNat + 2 ^ 8 * (s.logicalOf e).getD 0 + 2 ^ 13 * (e % 32) + 2 ^ 18 * (e / 32) + 2 ^ 21 * s.runVariant (e / 32)
    + 2 ^ 23 * b2n x.ibank

/-! ### Address generators (R230) -/

/-- log2 of a power of two, if it is one. -/
def exactLog (n : Nat) : Option Nat :=
  if n != 0 && 2 ^ Nat.log2 n = n then some (Nat.log2 n) else none

/-- An index walked by a step in a generator's mode (R230); the reserved mode acts as linear, its reset value (R9). A length outside the
stated ones gives an open value (log entry 3). -/
def walkIndex (free mode gi gl : Nat) (step : Int) : Nat :=
  match mode with
  | 1 => if gl = 0 then Config.freeNat free % 2 ^ 16 else (((gi : Int) + step) % (gl : Int)).toNat
  | 2 => match exactLog gl with
    | some b => revBits b ((revBits b gi + revBits b (uns b step)) % 2 ^ b)
    | none => Config.freeNat free % 2 ^ 16
  | _ => uns 16 ((gi : Int) + step)

/-- The effective address of an L operation of element size `z` (R230). -/
def Eng.ea (x : Eng) (free : Nat) (op : LSlot) (z : Nat) : Nat :=
  let n := op.ag.toNat
  let i : Int := ((tget 0#16 x.gi n).toNat : Int) + sgn 14 op.offs.toNat
  let gl := (tget 1#16 x.gl n).toNat
  let el : Int := match (tget 0#2 x.gd n).toNat with
    | 1 => if gl = 0 then Config.freeInt free else i % (gl : Int)
    | _ => i
  uns 23 (((tget 0#23 x.gb n).toNat : Int) + el * z)

/-- The index after an L operation with POST (R230); it lands a cycle later. -/
def State.postMod (s : State) (e cyc : Nat) (op : LSlot) : State :=
  if op.post then
    let x := s.eng e
    let n := op.ag.toNat
    s.send e (cyc + 1) (.gi n) (walkIndex s.free (tget 0#2 x.gd n).toNat (tget 0#16 x.gi n).toNat (tget 1#16 x.gl n).toNat
      (sgn 16 (tget 0#16 x.gm n).toNat))
  else s

/-! ### Memories and tokens (R209, R210, R244, R246) -/

/-- What an address names (R209). -/
inductive Area where
  /-- Local data memory. -/
  | loc
  /-- The sector histogram window: tile within the sector and offset. -/
  | hist (tile off : Nat)
  /-- The sector state memory: offset. -/
  | state (off : Nat)
  /-- The output port: the record word or the summary word. -/
  | port (summary : Bool)
  /-- Unmapped. -/
  | none
  deriving DecidableEq, Repr

/-- The area of an effective address (R209). -/
def areaOf (ea : Nat) : Area :=
  if ea < 0x10000 then .loc
  else if 0x100000 ≤ ea ∧ ea < 0x240000 then .hist ((ea - 0x100000) / 0x28000) ((ea - 0x100000) % 0x28000)
  else if 0x300000 ≤ ea ∧ ea < 0x304000 then .state (ea - 0x300000)
  else if ea = 0x400000 then .port false
  else if ea = 0x400008 then .port true
  else .none

/-- The bank an access claims (R210, R244). -/
def bankOf : Area → Option Nat
  | .loc => Option.none
  | .hist t off => some (8 * t + off / 0x2800 / 2)
  | .state off => some (64 + off / 8 % 4)
  | .port _ => some 68
  | .none => Option.none

/-- A token grants a bank to a logical engine in a cycle (R244). -/
def grants (t : BitVec 64) (bank l cyc : Nat) : Bool :=
  let n := t.toNat
  let start := fld n 12 18
  let period := fld n 42 14
  let d := cyc - start
  let j := if period = 0 then 0 else min (fld n 56 8) (d / period)
  fld n 0 7 = bank && fld n 7 5 = l && start ≤ cyc && d - j * period < fld n 30 12

/-- The guard finds the claim of an access in its issue cycle plus 1 covered by a token (R210, R246). -/
def State.tokenOk (s : State) (e cyc : Nat) (ar : Area) : Bool :=
  match bankOf ar, s.imageInForce (e / 32) with
  | some b, some i => i.tokens.any (fun t => grants t b ((s.logicalOf e).getD 31) (cyc + 1))
  | some _, Option.none => false
  | Option.none, _ => true

/-- The tile of a histogram access. -/
def histTile (e tile : Nat) : Nat :=
  8 * (e / 32) + tile

/-- Latency of a load (R222). -/
def loadLat (v : Nat) : Area → Nat
  | .hist _ _ => 6 + 2 * v
  | .state _ => 4 + 2 * v
  | _ => 3

/-- `n` bytes of an area at offsets given, as an engine reads them. -/
def State.readArea (s : State) (e ea : Nat) (ar : Area) (n : Nat) : Nat :=
  match ar with
  | .loc => mread (s.eng e).mem ea n
  | .hist t off => mread (s.tile (histTile e t)).handed.mem off n
  | .state off => mread (s.sector (e / 32)).mem off n
  | _ => 0

/-- A channel's region is found with DISCARD after its sector has begun on it: its records leave the column that the sectors work on, as
long as that is not delivered, and CHANNEL_LOST is set, but not for a masked or retired channel (R109, R111, R136). -/
def State.withdraw (s : State) (c : Nat) : State :=
  let k := secOf c
  let bit := BitVec.ofNat 8 (2 ^ k)
  let open_ := fun (r : Result) => !r.delivered && r.endCause.isNone && s.mode.prev.any (fun p => p.start = r.col.start)
  let quiet := fun (r : Result) => s.masked c || bitN r.retired.toNat c || !bitN r.col.contrib.toNat k
  let take := fun (r : Result) =>
    if open_ r && !quiet r then
      { r with
        recs := tput [] r.recs k ((tget [] r.recs k).filter (fun x => fld x.toNat 0 10 != c))
        chanLost := if (s.sector k).runFrom.isSome then r.chanLost else r.chanLost ||| bit
        valid := r.valid &&& ~~~ BitVec.ofNat 1024 (2 ^ c) }
    else r
  let s1 := { s with front.results := s.front.results.map take }
  if s.front.results.any (fun r => open_ r && !quiet r) && (s.sector k).runFrom.isSome then
    s1.modSector k (fun x => { x with kern := x.kern ||| 1 })
  else s1

/-- The offsets of the 64-bit words that a load reads: of an aligned access one, of the four bytes of an LDB4 those of its line (R222). -/
def wordsRead (off : Nat) (line : Bool) : List Nat :=
  if line then (List.range 4).map (fun i => (off / 16 * 16 + (off + i) % 16) / 8 * 8) else [off / 8 * 8]

/-- The effects of the error code on a load; `line`: the load is an LDB4 (R109, R212, R246). -/
def State.loadEcc (s : State) (e : Nat) (ar : Area) (ecc : EccHit) (line : Bool) : State :=
  let k := e / 32
  match ar with
  | .hist t off =>
    let tl := histTile e t
    let h := (s.tile tl).handed
    let own := (wordsRead off line).any h.poison.contains
    if own || ecc = .bad then
      let s1 := (s.setStat e 2).modTile tl (fun x => x.modHanded (fun b => { b with
        mem := msetFld b.mem (off / 0x2800 * 0x2800 + 0x2580) 13 1 1 }))
      let s1 := s1.withdraw (16 * tl + off / 0x2800)
      if own then s1 else s1.fault 0x2002 2 tl
    else if ecc = .corrected then (s.setStat e 8).corrected tl 1 else s
  | .state off =>
    if ecc = .bad then
      ((s.loseSector k).modSector k (fun x => { x with reload := wordsRead off line ++ x.reload })).stateFault e
    else if ecc = .corrected then (s.setStat e 8).corrected 64 1 else s
  | .loc =>
    if ecc = .bad then s.engFault 0x3002 e
    else if ecc = .corrected then (s.setStat e 8).corrected 64 1 else s
  | _ => s

/-- A load may read an area (R209, R222). -/
def Area.readable (a : Area) : Bool :=
  match a with
  | .loc | .hist _ _ | .state _ => true
  | _ => false

/-- A histogram access whose claim comes at SLOT_END or later reaches no handed set (R104, R247). -/
def State.tooLate (s : State) (e cyc : Nat) (a : Area) : Bool :=
  match a with
  | .hist _ _ => s.slotEnd (e / 32) ≤ cyc + 1
  | _ => false

/-- An operation's read of memory: the words read and the state with the effects of the access (R222, R246). The size and the bytes'
addresses stand in `read`; `line`: the load is an LDB4. -/
def State.loadAt (s : State) (e cyc ea : Nat) (ecc : EccHit) (line : Bool) (read : State → Area → List Nat) : State × List Nat :=
  let ar := areaOf ea
  if !ar.readable then (s.engFault 0x3004 e, [])
  else if !s.tokenOk e cyc ar then (s.guardFault 0x3007 e, [])
  else if s.tooLate e cyc ar then (s, [])
  else (s.loadEcc e ar ecc line, read s ar)

/-! ### A run and its end (R205, R206, R231, R247) -/

/-- An engine at the start of a run (R206). -/
def Eng.start (x : Eng) : Eng :=
  { bank0 := x.bank0, bank1 := x.bank1, ibank := x.ibank, run := true, pcAt := 2 }

/-- The record words of a run, paired into records, in the order they entered the port (R231). -/
def pairWords : List (Nat × Nat × BitVec 64) → List (Nat × BitVec 64) → List (BitVec 128)
  | [], _ => []
  | (_, l, w) :: r, half =>
    match half.find? (fun h => h.1 = l) with
    | some h => BitVec.ofNat 128 (h.2.toNat + 2 ^ 64 * w.toNat) :: pairWords r (half.filter (fun h => h.1 != l))
    | none => pairWords r ((l, w) :: half)

/-- The records that the words of a sector's run make (R231). -/
def Sector.portRecords (x : Sector) : List (BitVec 128) :=
  pairWords (sortBy (fun a b => a.1 < b.1 || (a.1 = b.1 && a.2.1 < b.2.1)) x.words) []

/-- END of an engine's run, in a cycle: issued by an operation row, or where the program that validation passed has it (R226, R240,
log entry 24). -/
def State.endOf (s : State) (e slotEnd : Nat) : Option Nat :=
  let x := s.eng e
  if x.stepped then (if x.ended then some x.endAt else none) else endCycle x.active slotEnd

/-- Everything an engine has in flight lands, whatever its cycle. -/
def State.settleAll (s : State) (e : Nat) : State :=
  s.settle e ((s.eng e).fly.foldl (fun n f => max n f.land) 0)

/-- SLOT_END of one engine: an overrun stops it, its far-port accesses in flight are discarded, and what else is in flight lands (R247). -/
def State.slotEndEng (s : State) (slotEnd e : Nat) : State :=
  let s1 := s.settle e slotEnd
  let late : Bool := match s1.endOf e slotEnd with
    | some n => slotEnd < n
    | none => true
  if late then
    ((s1.modEng e (fun x => { x with run := false, cut := true, fly := x.fly.filter (fun f => !f.far) })).settleAll e).guardFault 0x3008 e
  else (s1.modEng e (fun x => { x with run := false })).settleAll e

/-- A running sector runs or stages a part (R242). -/
def State.needsPart (s : State) (idx k : Nat) : Bool :=
  let v := s.runVariant k
  s.running && s.secOn k && (idx = storeIdx s.mode.mode k v || (v < 2 && idx = storeIdx s.mode.mode k (v + 1)))

/-- A sector needs a part that is damaged and has no copy in flash (R242). -/
def State.partGone (s : State) (k : Nat) : Bool :=
  s.sched.damaged.any (fun i => s.needsPart i k)

/-- A sector needs a part that is being restored from flash (R242). -/
def State.partAwaited (s : State) (k : Nat) : Bool :=
  s.sched.restore.any (fun r => s.needsPart r.1 k)

/-- Rows of single operations drive a sector in its run: its records and its summary are what the port has received, and nothing of the
standard kernels (R231, R232, log entry 24). -/
def State.rowDriven (s : State) (k : Nat) : Bool :=
  (List.range 32).any (fun e => (s.eng (32 * k + e)).stepped)

/-- What a sector's run adds to the result of its column: the records and the summary that entered the port by SLOT_END, or those of the
standard kernels where no row drives its engines; SECTOR_LOST (R133, R231, R232, R247). -/
def Result.close (r : Result) (x : Sector) (k slotEnd : Nat) (rows lost : Bool) : Result :=
  let bit := BitVec.ofNat 8 (2 ^ k)
  let sum := if rows then (x.sums.filter (fun y => y.1 ≤ slotEnd)).foldl (fun a y => a ||| y.2) 0#2 else x.kern
  { r with
    ended := r.ended ||| bit
    recs := if rows then tput [] r.recs k { x with words := x.words.filter (fun w => w.1 ≤ slotEnd) }.portRecords else r.recs
    chanLost := if bitN sum.toNat 0 then r.chanLost ||| bit else r.chanLost
    suppressed := r.suppressed || bitN sum.toNat 1
    lost := if lost then r.lost ||| bit else r.lost }

/-- The end of a sector's processing slot (R19, R104, R231 to R233, R240, R247, R496). A sector that has lost its power withholds its
records (R132, R136). -/
def State.endSlot (s : State) (k : Nat) : State :=
  match s.mode.prev with
  | some col =>
    let se := s.slotEnd k
    let engs := s.scheduled k
    let s1 := engs.foldl (fun t e => t.slotEndEng se e) (s.settleState k se)
    let last := engs.foldl (fun n e => max n ((s1.endOf e se).getD se)) 0
    let len := (col.stop - col.start) / engCk
    let x := s1.sector k
    let rows := s1.rowDriven k
    let lost := x.lost || x.lostRun || !s1.secOn k
    let s2 := { s1 with front.results := s1.front.results.map (fun (r : Result) =>
      if r.endCause.isNone && r.col.start = col.start then r.close x k se rows lost else r) }
    let s3 := (if rows then s2 else s2.keepSkew k).modSector k (fun y => { y with
      runFrom := none, lastEnd := last
      margins := (s.clk, (se : Int) - last) :: y.margins.filter (fun m => s.clk ≤ m.1 + sec 1) })
    let s4 := (List.range 8).foldl (fun t i => if t.retired 2 (8 * k + i) then
      t.modTile (8 * k + i) (fun y => { y with
        set0 := { y.set0 with owner := .parked }, set1 := { y.set1 with owner := .parked } }) else t) s3
    s4.sample 0x04 k ((len : Int) - last)
  | none => s

/-! ### ENGINE_RUN_START: the standard kernels on the handed sets (R113 to R131, R205) -/

/-- The slot report of a listen column, if it has arrived (R130, R131, R254). -/
def State.reportOf (s : State) (c : Column) : Option Nat :=
  (s.front.reports.find? (fun r => r.start = c.start && r.mode = c.mode)).map SlotReport.suppressed

/-- What the kernels of a sector take (R113). -/
def State.kernelIn (s : State) (c : Column) (k : Nat) (retired : Nat) : KernelIn :=
  let par : ClassParams := match s.imageInForce k with
    | some i => i.params
    | none => {}
  { col := c, par := par, cal := s.front.cal, k := s.front.k
    pair := if c.kind = .listen then (s.listenAt c.mode c.col).map Listen.delay else none
    extra := if c.kind = .listen then (s.reportOf c).getD 0 else 0, retired := retired, free := s.free }

/-- A channel of a delivered column is valid for the zone comparator (R386). -/
def chanOk (b : BufSet) (q : KernelIn) (c : Nat) : Bool :=
  let p := parOf q.col.mode
  let sup := supOf b c q.extra
  b.rec_ c 11 3 = 0 && fineShots p sup != 0 && sup < p.coarse

/-- The kernels of one sector on a measured column: its records, CHANNEL_LOST, SUPPRESSED, validity, and the ambient source
(R113 to R136, R496). A blinded region that meets every other condition of the gate counts in the ambient source, as R67 says against
R119 (log entry 125). DESIGN CHOICE (log entry 126): where no region counts, R119 states no mean, and the source samples 0. DESIGN CHOICE
(log entry 156): the mean λ is rounded, half to even, to its Q0.16 before it is multiplied by 800. -/
def State.runKernels (s : State) (r : Result) (k : Nat) : State × Result :=
  let q := s.kernelIn r.col k r.retired.toNat
  let p := parOf r.col.mode
  let chans := (List.range 128).map (fun i => 128 * k + i)
  let set := fun c => (s.tile (tileOf c)).handed
  let out := fun c => bitN r.retired.toNat c || s.masked c
  let s1 := chans.foldl (fun t c => if out c then t else t.trackSkew (set c) c) s
  let recs := chans.flatMap (fun c => if out c then [] else channelRecords (set c) q c (s1.driftOf c))
  let gated := chans.filter (fun c => !out c && countsAmbient (set c) p c (supOf (set c) c q.extra))
  let lamSum := gated.foldl (fun a c => a + lambda (set c) p c) 0
  let mean := if gated.isEmpty then 0 else (rhe ((lamSum : Rat) / gated.length)).toNat
  let kern := b2n (s.slotsRun r.col && chans.any (fun c => !out c && (set c).rec_ c 13 1 = 1)) + 2 * b2n (chans.any (fun c => 0 < supOf (set c) c q.extra))
  let s2 := s1.modSector k (fun x => { x with ambient := mean, kern := BitVec.ofNat 2 kern })
  let noReport := r.col.kind = .listen && !s.otherMode r.col && (s.reportOf r.col).isNone
  let bit := BitVec.ofNat 8 (2 ^ k)
  (s2.sample 0x09 k (800 * mean),
   { r with
     recs := tput [] r.recs k recs
     lost := if noReport then r.lost ||| bit else r.lost
     valid := r.valid ||| BitVec.ofNat 1024 (maskOf (chans.filter (fun c => !out c && chanOk (set c) q c))) })

/-- A sector's run begins (R205, R206): its engines start, and the records of the column in processing start to be withheld where its
staging is incomplete. -/
def State.startRun (s : State) (b k : Nat) : State :=
  let s1 := (s.scheduled k).foldl (fun t e => t.modEng e Eng.start) s
  let s2 := s1.modSector k (fun x => { x with
    runFrom := some b, words := [], sums := [], kern := 0, lostRun := x.lostRun || s.partGone k
    lost := x.unstaged || x.lostRun || s.partGone k || s.partAwaited k })
  { s2 with faults.colUpsets := s2.faults.colUpsets.filter (fun u => !(u.kind = 4 && u.idx / 32 = k)) }

/-- A sector that contributed to a column and cannot run on it any more, retired or without power since, has lost it (R19, R132, R136). -/
def Result.gone (r : Result) (ks : List Nat) : Result :=
  let out := BitVec.ofNat 8 (maskOf ((List.range 8).filter (fun k => bitN r.col.contrib.toNat k && !ks.contains k)))
  { r with ended := r.ended ||| out, lost := r.lost ||| out }

/-- A listen column whose pair is found in another mode ran no listen slot: the records of the sets of a sector carry SHOTLESS and
DISCARD, and yield nothing (R48, R107, R131). -/
def State.barSets (s : State) (k : Nat) : State :=
  (List.range 8).foldl (fun t i => t.modTile (8 * k + i) (fun x => x.modHanded (fun b => { b with
    mem := (List.range 16).foldl (fun m c => msetFld m (recOf c) 12 2 3) b.mem }))) s

/-- A mode's images are active in a sector: its scheduled engines hold programs (R205). -/
def State.programmed (s : State) (k : Nat) : Bool :=
  (s.scheduled k).any (fun e => !(s.eng e).active.isEmpty)

/-- The sectors begin their runs on the sets of the previous column, and the standard kernels take the column (R113, R205). -/
def State.beginRuns (s : State) : State :=
  match s.mode.prev with
  | some col =>
    let ks := (List.range 8).filter (fun k => s.secOn k && !s.retired 3 k && (s.imageInForce k).isSome && s.programmed k)
    let s0 := ks.foldl (fun t k => t.startRun col.stop k) { s with mode.ran := true }
    let s1 := if s.otherMode col then ks.foldl State.barSets s0 else s0
    match s1.front.results.find? (fun r => r.endCause.isNone && r.col.start = col.start) with
    | some r =>
      let work := ks.filter (fun k => bitN r.col.contrib.toNat k)
      let (s2, r') := work.foldl (fun a k => a.1.runKernels a.2 k) (s1, r.gone ks)
      { s2 with
        free := s2.free + 4096
        front.results := s2.front.results.map (fun x => if x.endCause.isNone && x.col.start = col.start then r' else x) }
    | none => s1
  | none => s

/-- ENGINE_RUN_START: the arrival cycle of the boundary that handed over the sets of the previous column (R104, R113, R205). -/
def execEngineRunStart (dt : Nat) (s : State) : Res :=
  run dt s (fun s =>
    match s.mode.prev with
    | some col => if s.mode.ran || s.now < col.stop + 2 * engCk then s else s.beginRuns
    | none => s)

/-- RESULT_LANDING: an engine's results that are due land (R221, R222, R224). -/
def execResultLanding (dt : Nat) (e : Fin 256) (s : State) : Res :=
  run dt s (fun s =>
    match s.runCycle (e.val / 32) with
    | some cyc => (s.settleState (e.val / 32) cyc).settle e.val cyc
    | none => s)

/-- GUARD_SLOT_END (R247): acts from cycle SLOT_END of the run. -/
def execGuardSlotEnd (dt : Nat) (sector : Fin 8) (s : State) : Res :=
  run dt s (fun s =>
    match s.runCycle sector.val with
    | some cyc => if s.slotEnd sector.val ≤ cyc then s.endSlot sector.val else s
    | none => s)

/-! ### The schedule store (R242) -/

/-- The mode of a part of the store: sector images by store index, mode blocks as 192 + mode (R42, log entry 26). -/
def partMode (idx : Nat) : Nat :=
  if idx < 192 then idx / 24 else idx - 192

/-- Flash holds a persisted set with the SET_ID of the set in force (R242). -/
def State.hasCopy (s : State) : Bool :=
  match s.flash.sched with
  | some f => leAt f 8 4 = s.sched.setId.toNat
  | none => false

/-- An uncorrectable word of a part of the store is met (R242, R479): 0x3009, and the part is restored from flash within 50 ms, or else
it is damaged. The sectors that need it lose the column in processing, and go on losing while they need it. -/
def State.storeDamage (s : State) (idx : Nat) : State :=
  let needing := (List.range 8).filter (s.needsPart idx)
  let s0 := needing.foldl State.loseSector s
  if s.hasCopy then
    (if s.sched.restore.any (fun r => r.1 = idx) then s0
     else { s0 with sched.restore := s.sched.restore ++ [(idx, s.clk + ms 50)] }).fault 0x3009 0 0
  else
    let s1 := { s0 with sched.damaged := if s.sched.damaged.contains idx then s.sched.damaged else idx :: s.sched.damaged }
    (needing.foldl (fun t k => t.modSector k (fun x => { x with lostRun := true })) s1).fault 0x3009 0 0
      (noCopy := s.running && partMode idx = s.mode.mode)

/-- STORE_SCRUB (R242): the errors that its code corrected are counted, and the parts with an uncorrectable word are damaged (R487,
R496). -/
def execStoreScrub (dt : Nat) (found : StoreScrub) (s : State) : Res :=
  run dt s (fun s => if s.sched.file.isEmpty then s else found.bad.foldl State.storeDamage (s.corrected 65 found.fixed))

/-- STORE_RESTORE_DONE (R242). -/
def execStoreRestoreDone (dt : Nat) (idx : Nat) (s : State) : Res :=
  run dt s (fun s =>
    { s with sched.restore := s.sched.restore.filter (fun r => r.1 != idx) })

/-- STAGING_COMPLETE (R213): the staged banks of a sector hold the next variant; `eccBad`: the staging meets an uncorrectable word of
the store (R242). -/
def execStagingComplete (dt : Nat) (sector : Fin 8) (eccBad : Bool) (s : State) : Res :=
  run dt s (fun s =>
    let k := sector.val
    let idx := storeIdx s.mode.mode k (min 2 (s.runVariant k + 1))
    if !s.secOn k || (s.sector k).staged then s
    else if eccBad then s.storeDamage idx
    else if s.sched.damaged.contains idx || s.sched.restore.any (fun r => r.1 = idx) then s
    else s.stageDone k)

end Sys2Proof.Machine
end

