-- ==== Sys2Proof/Machine/Columns.lean ====
section
/-! DEFINITION. The column boundary (R18, R43, R46 to R51, R59 to R63, R85, R102 to R111, R132, R362, R380, R388, R485) and the ends of
warm-up and of an orderly stop. -/

namespace Sys2Proof.Machine

open Sys2Proof

/-! ### The column that ends -/

/-- The fields of a channel record that the column's end fixes (R101, R105, R107, R108). -/
def State.closeRegion (s : State) (col : Column) (c : Nat) : State :=
  let x := s.chan c
  let t := tileOf c
  let ran := if s.slotsRun col then s.emit.shots else 0
  let sup := if col.kind = .home then popN 32 (tget 0#32 s.emit.supCol t).toNat else 0
  let shotless := ran = 0 && sup = 0
  let bad := shotless || (s.tile t).discard || !s.chanOn c
  let age := min 0xFFFF ((s.clk - x.intL.since) / ms 1)
  s.modFill c (fun m =>
    let m1 := msetFld m (recOf c) 8 3 (x.gain + 4 * b2n (x.settling || col.settling))
    let m2 := msetFld m1 (recOf c) 12 1 (b2n shotless)
    let m3 := if bad then msetFld m2 (recOf c) 13 1 1 else m2
    let m4 := msetFld (msetFld m3 (recOf c) 24 6 (min 63 (ran - sup))) (recOf c) 32 6 (min 63 sup)
    msetFld m4 (recOf c) 112 16 age)

/-- A measured column's result waits for the kernels and the ports (R132, R133). DESIGN CHOICE (log entry 155): a retired channel sets its
neighbours' flag, masked or not (R71 against R76). -/
def State.pushResult (s : State) (col : Column) : State :=
  let gone := (List.range 1024).filter (fun c => s.retired 1 c || s.retired 2 (tileOf c))
  { s with front.results := s.front.results ++
    [{ col := col, recs := [], lost := 0, chanLost := 0, suppressed := false, ended := ~~~ col.contrib, endCause := none
       retired := BitVec.ofNat 1024 (maskOf gone) }] }

/-- The column in progress ends at its boundary (R105, R107, R132). -/
def State.closeColumn (s : State) (col : Column) : State :=
  let s1 := (List.range 1024).foldl (fun t c => if t.secOn (secOf c) then t.closeRegion col c else t) s.foldShot
  let measured := col.active && col.permitted && s1.permitted
  let s2 := if measured then
      { s1.pushResult col with mode.measured := true, mode.lastFrame := col.frame, mode.lastCol := col.col, mode.lastMode := col.mode
                               mode.lastEnd := col.stop
                               mode.count := s1.mode.count + 1 }
    else s1
  { s2 with mode.prev := some col, mode.ran := false, mode.decided := false, mode.checked := false }

/-! ### The hand-off (R102 to R111) -/

/-- A set taken by the tile: a new epoch, empty (R102). -/
def BufSet.taken (b : BufSet) : BufSet :=
  { owner := .tile, epoch := b.epoch + 1 }

/-- Every record of a set gets DISCARD (R111). -/
def BufSet.spoil (b : BufSet) : BufSet :=
  { b with mem := (List.range 16).foldl (fun m i => msetFld m (recOf i) 13 1 1) b.mem }

/-- A tile's sets change owner (R103); after a wrong ownership set 0 goes to the tile and set 1 to the sector (R111). -/
def Tile.swap (t : Tile) (wrong : Bool) : Tile :=
  if wrong then { t with set0 := t.set0.taken, set1 := { t.set1 with owner := .sector } }
  else
    let turn := fun (b : BufSet) => match b.owner with
      | .tile => { b with owner := .sector }
      | .sector => b.taken
      | _ => b
    { t with set0 := turn t.set0, set1 := turn t.set1 }

/-- The boundary of one tile: hand-off, and the lock of its DLL, which is the outside's (R89, R103, log entry 3). -/
def State.turnTile (s : State) (wrong : Bool) (i : Nat) : State :=
  let locked := (s.tile i).locked || Config.freeBool s.free
  s.took.modTile i (fun t => { t.swap wrong with locked := locked, discard := !locked, chosen := false })

/-- A tile is found with a set of two owners or of none (R111). -/
def State.wrongOwner (s : State) (badOwner : List (Fin 64)) (t : Nat) : Bool :=
  badOwner.any (fun x => x.val = t) && !s.retired 2 t

/-- A tile with a wrong ownership raises 0x2005, and both its sets get DISCARD: the column that the sector works on loses the tile's
channels (R111, R136). -/
def State.spoilTile (s : State) (t : Nat) : State :=
  let s1 := s.modTile t (fun x => { x with set0 := x.set0.spoil, set1 := x.set1.spoil })
  ((List.range 16).foldl (fun u i => u.withdraw (16 * t + i)) s1).fault 0x2005 2 t

/-- The tiles of the powered sectors. -/
def State.tilesOn (s : State) : List Nat :=
  (List.range 64).filter (fun t => s.secOn (t / 8))

/-- The hand-off of every tile of the powered sectors (R103, R104). -/
def State.handOff (s : State) (badOwner : List (Fin 64)) : State :=
  s.tilesOn.foldl (fun u t => u.turnTile (u.wrongOwner badOwner t) t) s

/-- A column ends: runs on the sets of the column before it end, wrong ownerships are found, its records close, and the sets change
owner (R103 to R111, R205, R247). -/
def State.handOver (s : State) (badOwner : List (Fin 64)) (c : Column) : State :=
  let s0 := if s.mode.ran then s else s.beginRuns
  let s1 := (s0.tilesOn.filter (s0.wrongOwner badOwner)).foldl State.spoilTile s0
  let s2 := (List.range 8).foldl (fun t k => if (t.sector k).runFrom.isSome then t.endSlot k else t) s1
  (s2.closeColumn c).handOff badOwner

/-! ### Histogram dumps (R370) -/

/-- The 10,240 bytes of a channel's region as the sector receives it (R99, R370). -/
def State.handedRegion (s : State) (c : Nat) : List Byte :=
  let near := (s.tile (tileOf c)).handed.mem.filter (fun x => regionOf c ≤ x.1 && x.1 < regionOf c + 0x2800)
  (List.range 0x2800).map (fun i => mget near (regionOf c + i))

/-- A dump in execution takes the column that has been handed over: its chain time and the channel's region (R370). -/
def State.feedDump (s : State) (c : Column) (x : Exec) : Exec :=
  match x.dump with
  | some d =>
    let d' : HistDump := { d with left := d.left - 1, bytes := d.bytes ++ bytesOf 8 c.start ++ s.handedRegion d.ch }
    if d.left = 0 then x else { x with dump := some d' }
  | none => x

/-- Every dump in execution takes the column (R370). -/
def State.feedDumps (s : State) (c : Column) : State :=
  let s1 := [HostPort.A, HostPort.B].foldl (fun t p => [0, 1, 2, 3].foldl (fun t m => t.modMb p m (fun b =>
    { b with exec := b.exec.map (s.feedDump c) })) t) s
  { s1 with remote := s1.remote.map (fun x => (x.1, s.feedDump c x.2)) }

/-! ### The column that begins -/

/-- The gain and thresholds of a channel for the coming column (R59, R62, R63). -/
def State.setThresholds (s : State) (m : Nat) (c : Nat) : State :=
  let k := secOf c
  let thr : Thr := match s.imageInForce k with
    | some i => tget {} i.thr (c % 128)
    | none => {}
  let x := s.chan c
  let g := x.gainNext
  let amb := isqrt (x.amb.toNat * 256)
  let trim := sgn 5 (s.trimWord c)
  let use := if (parOf m).adaptive then 1 else 0
  let tl := clampI 8 752 ((thr.tl : Int) + thr.kl * use * amb * 4 ^ g / 1024 + trim)
  let th := clampI (tl + 16) 768 ((thr.th : Int) + thr.kh * use * amb * 4 ^ g / 1024 + trim)
  s.modChan c (fun y => { y with gain := g, settling := g != y.gain, tl := tl.toNat, th := th.toNat })

/-- A new correction table is installed (R85). -/
def Interp.install (i : Interp) (clk : Nat) : Interp :=
  match i.next with
  | some t => { i with table := t, next := none, since := clk }
  | none => i

/-- The correction tables that wait are installed (R85). -/
def State.turnTables (s : State) : State :=
  (s.front.chans.map Prod.fst).foldl (fun t c => t.modChan c (fun x =>
    { x with intL := x.intL.install t.clk, intH := x.intH.install t.clk })) s

/-- The channels at a boundary: gains and thresholds (R59, R63). -/
def State.turnChannels (s : State) (m : Nat) : State :=
  ((List.range 1024).filter (fun c => s.secOn (secOf c))).foldl (fun t c => t.setThresholds m c) s

/-- The variants of the sectors change at a boundary: a sector whose staged banks do not hold the variant that it comes to, its staging
incomplete or the variant not the next one, withholds (R43, R213). -/
def State.turnVariants (s : State) : State :=
  let old := s.mode.variants.toNat
  let new := s.variantWord
  let moved := (List.range 8).filter (fun k => fld old (2 * k) 2 != fld new.toNat (2 * k) 2 && !s.retired 3 k && s.programmed k)
  moved.foldl (fun t k =>
    (t.switchBanks k).modSector k (fun x => { x with
      unstaged := x.unstaged || !(s.sector k).staged || fld old (2 * k) 2 + 1 != fld new.toNat (2 * k) 2 })) { s with mode.variants := new }

/-- The sequencer's preparation of the next column's slot 0 is kept where it exists, and otherwise what was debited counts as cancelled
(R154, R155, R362). -/
def State.turnSequencer (s : State) (keep : Bool) : State :=
  let s1 := if keep then s else { s.cutEmission with
    emit.framed := false, emit.decided := false, emit.supSlot := 0, emit.proofs := 0, emit.pats := [] }
  { s1 with emit.slot := 0, emit.supCol := [], emit.shots := 0, emit.shotAt := none, emit.shut := 0 }

/-- The chargers held in a column are released at its boundary; where none runs, the next refill tick releases them (R159, R174). -/
def State.turnHeld (s : State) : State :=
  if s.mode.cur.isNone then s
  else (s.emit.strs.map Prod.fst).foldl (fun t i =>
    if (t.str i).chgHeld then (t.modStr i (fun x => { x with chgHeld := false })).chargeCtl i else t) s

/-- What every boundary does beside the columns: the correction tables, the held chargers, the zone set, the upset limits, the damaged
words (R85, R110, R159, R212, R385). -/
def State.turnRest (s : State) : State :=
  let s1 := s.turnTables.turnHeld
  let s2 := match s1.safe.zoneNext with
    | some z => (List.range 4).foldl (fun (t : State) k => t.modOut k (fun o => { o with clear := 0, frameOk := false }))
        { s1 with safe.zone := some z, safe.zoneNext := none }
    | none => s1
  let s3 := (List.range 8).foldl (fun t k => if (t.sector k).reload.isEmpty then t else t.reloadWords k) s2
  { s3 with faults.colUpsets := s3.faults.colUpsets.filter (fun u => u.kind = 4) }

/-- A measured or listen column begins; the first one of a mode raises EV_MODE_CHANGED and ends the change (R46, R47, R49, R50). -/
def State.startColumn (s : State) (m j : Nat) (cut first : Bool) : State :=
  let p := parOf m
  let newFrame := j % p.columns = 0
  let frame := if newFrame then (s.mode.frame + 1) % 2 ^ 32 else s.mode.frame
  let s1 := { s with mode.frame := frame }
  let c := s1.newColumn .home m j frame (cut && !newFrame) first
  let s2 := { s1 with mode.cur := some c, mode.ranMode := m, mode.change := if first then none else s1.mode.change }
  if first then s2.raise 0x0201 (bytesOf 1 m ++ bytesOf 2 s2.mode.variants.toNat) else s2

/-- The prime column begins: the new mode's sectors, images, state memory, gains and thresholds are in force, and for a MODE.START the
gate is tested (R46, R50, R60, R211, R213, R380, R517). -/
def State.startPrime (s : State) (ch : Change) (gateTestOk : Bool) : State :=
  let m := ch.mode
  let p := parOf m
  let offs := (List.range 8).filter (fun k => !bitN p.sectors.toNat k)
  let s1 := offs.foldl (fun t k => ((t.domOff k).domOff (8 + k)).domOff (16 + k)) s
  let frame := (s1.mode.frame + 1) % 2 ^ 32
  let s2 := { s1 with mode.mode := m, mode.frame := frame, mode.variants := s1.variantWord, front.skew := [], front.chk0 := [] }
  let on := (List.range 8).filter (fun k => bitN p.sectors.toNat k && s2.secOn k)
  let s3 := on.foldl (fun t k =>
    let t1 := ((t.switchBanks k).loadState k).modSector k (fun x => { x with guard := [], suspect := [], unstaged := false })
    if ch.isStart then t1.stageDone k else t1) s2
  let j := colAtOrAfter p s3.epoch ch.d
  let cut := j % p.columns != 0
  let s4 := (s3.turnChannels m)
  let s5 := { s4 with mode.cur := some (s4.newColumn .prime m j frame cut false) }
  if ch.isStart then
    let s6 := { s5 with safe.testOk := gateTestOk }
    if gateTestOk then s6 else s6.fault 0x8008 0 0
  else s5

/-- The drain begins: the old mode's last column is being processed and no shot is fired (R46). -/
def State.startDrain (s : State) (c : Column) (ch : Change) : State :=
  { s with mode.cur := some { s.newColumn .drain c.mode (c.index + 1) c.frame c.partialFrame false with
                              kind := .drain, start := c.stop, stop := ch.d } }

/-- What begins at the boundary that ends a column (R46 to R51, R362). -/
def State.nextColumn (s : State) (c : Column) (gateTestOk : Bool) : State :=
  if s.mode.stop.isSome then s.stopEnded
  else match s.mode.change with
    | some ch =>
      match c.kind with
      | .drain => s.startPrime ch gateTestOk
      | .prime => (s.turnVariants.turnChannels c.mode).startColumn c.mode (c.index + 1) c.partialFrame true
      | _ =>
        if ch.warm && ch.b ≤ c.stop then s.turnVariants.startDrain c ch
        else (s.turnVariants.turnChannels c.mode).startColumn c.mode (c.index + 1) c.partialFrame false
    | none =>
      if c.active then (s.turnVariants.turnChannels c.mode).startColumn c.mode (c.index + 1) c.partialFrame false
      else { s with mode.cur := none, mode.idleAt := c.stop }

/-- The sequencer has finished a column's slots and worked on the next column's slot 0 (R154). -/
def State.ahead (s : State) (c : Column) : Bool :=
  s.mode.stop.isNone && (c.kind = .prime || (c.active && (parOf c.mode).shots ≤ s.emit.slot && (match s.mode.change with
    | some ch => !(ch.warm && ch.b ≤ c.stop)
    | none => true)))

/-- A boundary of the active schedule while no column runs (R18): the sets pass as those of a column without shots (R107), and the
powered sectors run on them unless a start waits for its own images (R205). -/
def State.idleBoundary (s : State) (badOwner : List (Fin 64)) : State :=
  match s.block s.mode.mode, s.idleColumn s.mode.mode with
  | some _, some c =>
    if c.stop ≤ s.mode.idleAt then s
    else
      let s1 := (((s.handOver badOwner c).applyDue).turnRest.turnVariants).pulsers
      { s1 with mode.idleAt := c.stop, mode.prev := if s1.mode.change.isSome then none else s1.mode.prev }
  | _, _ => s

/-- B of a MODE.START: the column that the sets pass for, which ends there (R50, R107, R205). -/
def State.beforeStart (s : State) (ch : Change) : Column :=
  let j := colAtOrAfter (parOf ch.mode) s.epoch ch.b
  { s.newColumn .prime ch.mode (j - 1) s.mode.frame false false with contrib := 0, permitted := false, stop := ch.b }

/-- COLUMN_BOUNDARY: the boundary at which the column in progress ends, B of a MODE.START, or a boundary while no column runs (R18, R50,
R103, R107). `gateTestOk`: the forced-low test of R380 passes; `badOwner`: tiles found with a set of two owners or none (R111). -/
def execColumnBoundary (dt : Nat) (gateTestOk : Bool) (badOwner : List (Fin 64)) (s : State) : Res :=
  run dt s (fun s =>
    match s.mode.cur with
    | some c =>
      if s.now < c.stop then s
      else
        let s2 := ((s.handOver badOwner c).feedDumps c).applyDue
        ((s2.turnSequencer (s.ahead c)).turnRest.nextColumn c gateTestOk).pulsers
    | none =>
      match s.mode.change with
      | some ch =>
        if ch.isStart && ch.warm && ch.b ≤ s.now then
          (((((s.handOver badOwner (s.beforeStart ch)).applyDue).turnSequencer false).turnRest).startPrime ch gateTestOk).pulsers
        else s.idleBoundary badOwner
      | none => s.idleBoundary badOwner)

/-- WARM_UP_END (R45): every domain that the change needs is powered, and the new mode's programs are staged (R213). -/
def execWarmUpEnd (dt : Nat) (s : State) : Res :=
  run dt s (fun s =>
    let s1 := s.endWarmUp
    match s1.mode.change with
    | some c => if c.warm then s1.stageMode c.mode else s1
    | none => s1)

/-- The end of a stop; after a thermal one the loops open (R362, R424). -/
def State.finishStop (s : State) (timeout : Bool) : State :=
  match s.mode.stop with
  | some st =>
    let s1 := s.completeStop timeout
    if st.cause = 1 then s1.openBoth else s1
  | none => s

/-- DEGRADED RUN was entered in this FAB_CK cycle: a stop that completes in it loses, and is not held over (R27, log entry 130). -/
def State.degradedNow (s : State) : Bool :=
  s.life.degEnd.any (fun t => (t - sec s.safe.period) / fabCk = s.clk / fabCk)

end Sys2Proof.Machine
end

