-- ==== Sys2Proof/Machine/Drive.lean ====
section
/-! DEFINITION. The rows of the scanner drive (R173 to R201): the periods of the loop engines, the bridge comparators, facet crossings,
the sampling of the axis angles, and the supervision of both axes. A row acts when its instant has come; before it only time
passes. -/

namespace Sys2Proof.Machine

open Sys2Proof

/-- The shape of a period row: a retirement due gives the function to a spare first, then the period runs if it is due (R173,
R174). -/
def State.period (s : State) (f ticks : Nat) (body : State → State) : State :=
  let s1 := (s.loopDue f).brakeLost
  if s1.periodDue f ticks then body (s1.ranNow f) else s1

/-- The bridge of axis A drives torque: the loop is closed, or it brakes regeneratively (R178, R184, R197). -/
def AxisA.driving (a : AxisA) : Bool :=
  live a.st || a.brake == some .regen

/-! ### LE0 and the bridge (R176, R178, R179) -/

/-- The electrical angle of R178, 1/65,536 turn; 0 during alignment (R179). -/
def State.elecAngle (s : State) : Int :=
  if s.scan.a.alignEnd.isSome then 0 else s.alignAngle

/-- The sine of x, 0 to π/2, to within 10^-9: seven terms of its series. -/
def sinSeries (x : Rat) : Rat :=
  let y := x * x
  x * (1 - y / 6 * (1 - y / 20 * (1 - y / 42 * (1 - y / 72 * (1 - y / 110 * (1 - y / 156))))))

/-- sin of an electrical angle, in 1/196,608 turn, by its quarter wave (R178): a value within 10^-9 of the sine. DEDUCED (log entry
15): which value of that width the engine computes is a free value. -/
def sinAt (theta3 : Int) : Rat :=
  let n := (theta3 % 196608).toNat
  let m := n % 98304
  let x : Rat := (min m (98304 - m) : Nat) * (3141592653589793 / 1000000000000000) / 98304
  let v := if n < 98304 then sinSeries x else -sinSeries x
  clampQ (v - 1 / 1000000000) (v + 1 / 1000000000) (Config.sine n)

/-- A phase's current as its ISNS input, µV, gives it (R176). -/
def State.readPhase (s : State) (k : Nat) (uV : Rat) : State :=
  s.modA (fun a => { a with ph := tmod {} a.ph k (fun p => { p with i := s.phaseCurrent uV }) })

/-- LE0_PERIOD: the phase currents as sampled, and the references (R176, R178). -/
def execLe0Period (dt : Nat) (ia : BitVec 12) (ib : BitVec 12) (ic : BitVec 12) (s : State) : Res :=
  run dt s (fun s => s.period 0 160000 (fun s =>
    let s1 := ((s.readPhase 0 (isnsOf ia)).readPhase 1 (isnsOf ib)).readPhase 2 (isnsOf ic)
    if s1.scan.a.driving then
      let t := 3 * s1.elecAngle
      let istar := s1.scan.a.istar
      let ra := istar * sinAt t
      let rb := istar * sinAt (t - 65536)
      s1.modA (fun a => { a with iref := tput (0 : Rat) (tput (0 : Rat) (tput (0 : Rat) a.iref 0 ra) 1 rb) 2 (-ra - rb) })
    else s1))

/-- PHASE_CURRENT_COMPARATOR: a phase current outside its band switches the phase, unless it switched within MIN_DWELL (R178). -/
def execPhaseCurrentComparator (dt : Nat) (ph : Fin 3) (uV : Nat) (s : State) : Res :=
  run dt s (fun s =>
    if !s.domOn 31 then s
    else
      let s1 := s.readPhase ph.val uV
      let p := tget {} s1.scan.a.ph ph.val
      let ref := tget 0 s1.scan.a.iref ph.val
      let band : Rat := (s1.aCoef 96 12 : Nat)
      let free := match p.swAt with
        | some t => t + s1.dwellTicks ≤ s1.clk
        | none => true
      let put := fun (high : Bool) => s1.modA (fun a => { a with
        ph := tmod {} a.ph ph.val (fun p => p.switch high s1.clk s1.deadTicks) })
      if !s1.scan.a.driving || !free then s1
      else if band < p.i - ref then put false
      else if band < ref - p.i then put true
      else s1)

/-! ### LE1: speed and phase (R181, R197) -/

/-- The speed estimate, rpm: the mean interval of the edges within the period, or of the last two, never shorter than the time
since the last edge (R181). -/
def State.speedNow (s : State) : Rat :=
  let a := s.scan.a
  let near := a.edges.filter (fun t => s.clk ≤ t + 3200000)
  let es := if 2 ≤ near.length then near else a.edges.take 2
  match es with
  | first :: rest =>
    if rest.isEmpty then 0
    else
      let last := rest.getLastD first
      let mean : Rat := ((first - last : Nat) : Rat) / rest.length
      let since : Rat := (s.clk - first : Nat)
      let iv := if mean < since then since else mean
      if iv = 0 then a.w
      else
        let w : Rat := (60 * sec 1 : Nat) / (iv * s.revCounts)
        if a.up then w else -w
  | [] => 0

/-- The signs of two exact fractions differ (R181, R187). -/
def signsDiffer (x y : Rat) : Bool :=
  (if x < 0 then -1 else if 0 < x then 1 else 0 : Int) != (if y < 0 then -1 else if 0 < y then 1 else 0 : Int)

/-- The law of LE1 (R181); e_phi is 0 while no schedule set is loaded. -/
def State.speedLaw (s : State) : State :=
  let a := s.scan.a
  let trim : Rat := clampQ (-((s.aCoef 48 16 : Nat) : Rat) / 100) (((s.aCoef 48 16 : Nat) : Rat) / 100)
    (if s.setLoaded then ((s.aCoef 32 16 : Nat) : Rat) / 4096 * a.ephi else 0)
  let target := s.wTgt + trim
  let step : Rat := ((s.aCoef 144 16 : Nat) : Rat) * 50 / 1000000
  let wRef := clampQ (a.wRef - step) (a.wRef + step) target
  let e := wRef - a.w
  let imax : Rat := (s.aCoef 64 16 : Nat)
  let u := ((s.aCoef 0 16 : Nat) : Rat) / 256 * e + a.xi + a.rep.u
  let istar := clampQ (-imax) imax u
  let xi := if u = istar || signsDiffer e u then a.xi + ((s.aCoef 16 16 : Nat) : Rat) * 50 / 1000000 * e else a.xi
  s.modA (fun a => { a with wRef := wRef, err := e, xi := xi, istar := istar, sat := u != istar })

/-- The brake of axis A through a period (R197): regenerative until w < 60 rpm, then the phase short; the time below 60 rpm. -/
def State.brakeLaw (s : State) : State :=
  let a := s.scan.a
  let slow : Bool := a.w < 60
  let s1 := s.modA (fun a => { a with slowAt := if slow then (match a.slowAt with
      | some t => some t
      | none => some s.clk) else none })
  if a.brake = some .regen then
    (if slow then (s1.modA (fun a => { a with brake := some .short, istar := 0 })).shortPhases
     else s1.modA (fun a => { a with istar := -((s.aCoef 80 16 : Nat) : Rat) }))
  else s1

/-- LE1_PERIOD (R181, R182, R197, R496). -/
def execLe1Period (dt : Nat) (s : State) : Res :=
  run dt s (fun s => s.period 1 3200000 (fun s =>
    let s1 := s.modA (fun a => { a with w := s.speedNow })
    if live s1.scan.a.st then
      (if s1.scan.a.alignEnd.isSome then s1
       else
        let s2 := s1.speedLaw
        (s2.sample 0x0F 0 (rhe (s2.scan.a.err * 100))).lockCheck)
    else if s1.scan.a.st = .braking then s1.brakeLaw
    else s1))

/-! ### LE2 and LE4: the repetitive controllers (R190 to R192) -/

/-- Axis A learns in this period (R192). -/
def State.learnsA (s : State) : Bool :=
  let a := s.scan.a
  bitN a.repCfg.toNat 0 && live a.st && a.alignEnd.isNone && !a.sat && absQ a.err * 10 ≤ ((repFld a.repCfg 48 16 : Nat) : Rat)
    && s.repValid a.repCfg && (a.locked || repFld a.repCfg 1 2 = 2)

/-- LE2_PERIOD (R191). -/
def execLe2Period (dt : Nat) (s : State) : Res :=
  run dt s (fun s => s.period 2 3200000 (fun s =>
    let a := s.scan.a
    let d := if s.learnsA then
        some (flr (((s.aCoef 0 16 : Nat) : Rat) / 256 * a.err / ((2 ^ repFld a.repCfg 5 4 : Nat) : Rat)))
      else none
    s.modA (fun x => { x with rep := x.rep.step a.repCfg (s.repIndex a.repCfg) (s.repValid a.repCfg && live a.st) d })))

/-- Axis B learns in this period (R192). -/
def State.learnsB (s : State) : Bool :=
  let b := s.scan.b
  bitN b.repCfg.toNat 0 && live b.st && !b.sat && absQ b.err ≤ ((repFld b.repCfg 48 16 : Nat) : Rat) && s.repValid b.repCfg

/-- The mean loop error of the last 8 periods, degrees (R191). DESIGN CHOICE (log entry 138): until 8 periods have run since the loop
closed, of those that have. -/
def AxisB.meanErr (b : AxisB) : Rat :=
  if b.errs.isEmpty then 0 else b.errs.foldl (· + ·) 0 / b.errs.length / 32768

/-- LE4_PERIOD (R191). -/
def execLe4Period (dt : Nat) (s : State) : Res :=
  run dt s (fun s => s.period 4 1600000 (fun s =>
    let b := s.scan.b
    let d := if s.learnsB then
        some (flr (((s.bCoef 0 16 : Nat) : Rat) / 16 * b.meanErr / ((2 ^ repFld b.repCfg 5 4 : Nat) : Rat)))
      else none
    s.modB (fun x => { x with rep := x.rep.step b.repCfg (s.repIndex b.repCfg) (s.repValid b.repCfg && live b.st) d })))

/-! ### LE3: axis B (R185 to R189, R197) -/

/-- The frame of a period as LE3 takes it: an invalid one leaves the last position; supervision acts while the loop is closed
(R185, R189). -/
def State.takeFrame (s : State) (f : SsiFrame) : State :=
  let nPos := s.bCoef 124 5
  let nStat := s.bCoef 129 3
  let par := bitN (s.bCoef 121 1) 0
  let closed := live s.scan.b.st
  if ssiBad nPos nStat par f then
    let n := s.scan.b.bad + 1
    let s1 := s.modB (fun b => { b with bad := n })
    if 2 ≤ n && closed then s1.faultB 0x5007 else s1
  else
    let pos := ssiPos nPos nStat par (bitN (s.bCoef 120 1) 0) f
    let same := if !closed then 0 else if s.scan.b.pos = some pos then s.scan.b.same + 1 else 1
    let s1 := s.modB (fun b => { b with bad := 0, pos := some pos, same := same, th := s.angleOf pos })
    if 8 ≤ same then s1.faultB 0x5006 else s1

/-- The position law of LE3 (R187 to R189); the park slew runs it too (R197). -/
def State.positionLaw (s : State) : State :=
  let b := s.scan.b
  let raw : Int := if b.parking then s.bSigned 212 20 else s.bTarget
  let lo := s.bSigned 160 20
  let hi := s.bSigned 192 20
  let tgt := clampI lo hi raw
  let fresh := !b.parking && b.tgt != some raw
  let step : Rat := (s.bCoef 88 8 : Nat) * 8192 / 100
  let r := clampQ (b.r - step) (b.r + step) tgt
  let e := r - b.th
  let v : Rat := ((b.th - b.thPrev : Int) : Rat) * 40000 / 32768
  let dith : Rat := if live b.st then (if b.dith < 4 then (s.bCoef 80 8 : Nat) else -((s.bCoef 80 8 : Nat) : Rat)) else 0
  let u := ((s.bCoef 0 16 : Nat) : Rat) / 16 * e / 32768 + b.xb - ((s.bCoef 32 16 : Nat) : Rat) / 4096 * v + b.rep.u + dith
  let imax : Rat := (s.bCoef 48 16 : Nat)
  let icmd := clampQ (-imax) imax u
  let xb := if u = icmd || signsDiffer e u then b.xb + ((s.bCoef 16 16 : Nat) : Rat) * 25 / 1000000 * e / 32768 else b.xb
  let beyond := ((16 * s.bCoef 180 12 : Nat) : Rat) < absQ e
  s.modB (fun b => { b with
    r := r, err := e, errs := pushMax 8 e b.errs, xb := xb, icmd := icmd, sat := u != icmd, dith := (b.dith + 1) % 8
    overAt := if beyond && live b.st then (match b.overAt with
      | some t => some t
      | none => some s.clk) else none
    tgt := if b.parking then b.tgt else some raw
    clamped := if fresh && tgt != raw then (b.clamped + 1) % 65536 else b.clamped })

/-- V(GALV_P) − V(GALV_N), volts (R187); 0 while PD_LOOP is off (R175). -/
def State.galvVolts (s : State) : Rat :=
  if s.domOn 31 then s.scan.b.icmd / s.bCoef 64 16 else 0

/-- Position values differ by more than 1 LSB between LE3 and the island (R381). -/
def State.framesDisagree (s : State) (f g : SsiFrame) : Bool :=
  let p := ssiPos (s.bCoef 124 5) (s.bCoef 129 3) (bitN (s.bCoef 121 1) 0) (bitN (s.bCoef 120 1) 0) f
  let st := fld (s.safeFld 16 1) 0 3
  let q := ssiPos (s.safeFld 15 1) st (bitN (s.safeFld 16 1) 4) (bitN (s.safeFld 16 1) 3) g
  !ssiBad (s.bCoef 124 5) (s.bCoef 129 3) (bitN (s.bCoef 121 1) 0) f && !ssiBad (s.safeFld 15 1) st (bitN (s.safeFld 16 1) 4) g
    && 1 < ((p : Int) - q).natAbs

/-- LE3_PERIOD: the frame as the loop and as the island receive it (R185, R187, R381, R496). -/
def execLe3Period (dt : Nat) (frame : SsiFrame) (island : SsiFrame) (s : State) : Res :=
  run dt s (fun s => s.period 3 1600000 (fun s =>
    let s1 := (s.modB (fun b => { b with thPrev := b.th })).takeFrame frame
    let s2 := if s1.framesDisagree frame island then s1.fault 0x8004 0 0 else s1
    let s3 := s2.islFrame island
    if live s3.scan.b.st || s3.scan.b.parking then
      let s4 := s3.positionLaw
      let s5 := s4.sample 0x0F 1 (rhe s4.scan.b.err)
      if s5.scan.b.st = .closing then (s5.modB (fun b => { b with st := .closed })).sayLoop 1 .B else s5
    else s3))

/-! ### LE5: supervision, crossings, sampling (R134, R181, R184) -/

/-- LE5_PERIOD: revolutions without an index (R184), during alignment too (log entry 136). -/
def execLe5Period (dt : Nat) (s : State) : Res :=
  run dt s (fun s => s.period 5 160000 (fun s =>
    let a := s.scan.a
    let n : Int := a.missed + 1
    let rev : Int := s.revCounts
    if live a.st && a.indexed && ((a.missBase.1 + n) * rev + 8 < a.count || a.count < (a.missBase.2 - n) * rev - 8) then
      let s1 := s.modA (fun a => { a with missed := a.missed + 1 })
      if 2 ≤ s1.scan.a.missed then s1.faultA 0x5002 else s1
    else s))

/-- REFERENCE_INSTANT: both axis angles are sampled for the header and the comparator; in a measured column the two counts are
compared (R134, R387). -/
def execReferenceInstant (dt : Nat) (s : State) : Res :=
  run dt s (fun s =>
    match s.mode.cur with
    | some c =>
      if c.sampled || s.now < refInstant c then s
      else
        let s1 := { s with
          mode.cur := some { c with sampled := true, refAt := some s.clk, angleA := s.angleA, angleB := s.scan.b.th, islA := s.safe.count
                                    islB := s.safe.angle } }
        if (c.kind = .home || c.kind = .listen) && 8 < (s.safe.count - s.scan.a.count).natAbs then s1.fault 0x8004 0 0 else s1
    | none => s)

/-- FACET_CROSSING: facet k reaches its boundary (R181, R182). -/
def execFacetCrossing (dt : Nat) (k : Fin 12) (s : State) : Res :=
  run dt s (fun s =>
    let a := s.scan.a
    let rev := s.revCounts
    let at_ := s.aCoef 192 17 + k.val * rev / s.coefFacets
    if s.domOn 31 && !s.fnLost 5 && a.indexed && !a.crossed && k.val < s.coefFacets && (a.count - at_) % (rev : Int) = 0 then
      let lag := s.sweepLag
      let tol : Rat := (s.aCoef 209 8 : Nat)
      (s.modA (fun a => { a with
        crossed := true, ephi := lag
        inTol := if absQ lag * 10 ≤ tol then min 16 (a.inTol + 1) else 0
        outTol := if 4 * tol < absQ lag * 10 then a.outTol + 1 else 0 })).lockCheck
    else s)

/-- ALIGNMENT_END: comm_ref from the count, edge supervision, and the ramp (R179, R184, R195). -/
def execAlignmentEnd (dt : Nat) (s : State) : Res :=
  run dt s (fun s =>
    match s.scan.a.alignEnd with
    | some t =>
      if t ≤ s.clk && live s.scan.a.st then
        s.modA (fun a => { a with
          alignEnd := none, watch := some s.clk, wRef := a.w, istar := 0
          commRef := (-(a.count * (s.aCoef 178 4 : Nat) * 65536 / (s.revCounts : Int))) % 65536 })
      else s
    | none => s)

/-- The expected count period P, ticks: at the speed estimate, never longer than at 60 rpm (R184). -/
def State.countPeriod (s : State) : Rat :=
  let slow : Rat := (sec 1 : Nat) / (s.revCounts : Rat)
  let w := absQ s.scan.a.w
  if w ≤ 60 then slow else (60 * sec 1 : Nat) / (w * s.revCounts)

/-- ENC_EDGE_TIMEOUT: no edge within 4 × P while edge supervision runs (R184). -/
def execEncEdgeTimeout (dt : Nat) (s : State) : Res :=
  run dt s (fun s =>
    match s.scan.a.watch with
    | some t =>
      let last := match s.scan.a.edges with
        | e :: _ => max t e
        | [] => t
      if s.domOn 31 && live s.scan.a.st && 4 * s.countPeriod ≤ ((s.clk - last : Nat) : Rat) then s.faultA 0x5001 else s
    | none => s)

/-- OVERCURRENT_A: |i| above 1.25 × IMAX_A (R184). -/
def execOvercurrentA (dt : Nat) (ph : Fin 3) (uV : Nat) (s : State) : Res :=
  run dt s (fun s =>
    let s1 := s.readPhase ph.val uV
    if s.domOn 31 && ((5 * s.aCoef 64 16 : Nat) : Rat) < 4 * absQ (s.phaseCurrent uV) then s1.faultA 0x5008 else s1)

/-- BUS_OVERVOLT: VBUS_SNS above VBUS_TRIP while the bridge drives torque (R184, R197, R198). -/
def execBusOvervolt (dt : Nat) (mV : Nat) (s : State) : Res :=
  run dt s (fun s =>
    let s1 := s.modA (fun a => { a with vbus := mV })
    if s.domOn 31 && s.aCoef 241 12 < mV && s.scan.a.driving then s1.faultA 0x5009 else s1)

/-- SPINUP_TIMEOUT (R184). -/
def execSpinupTimeout (dt : Nat) (s : State) : Res :=
  run dt s (fun s =>
    match s.scan.a.closeAt with
    | some t => if t + sec (s.aCoef 186 6) ≤ s.clk then s.faultA 0x500A else s
    | none => s)

/-- LOCK_REGAIN_TIMEOUT (R182). -/
def execLockRegainTimeout (dt : Nat) (s : State) : Res :=
  run dt s (fun s =>
    match s.scan.a.lostAt with
    | some t => if t + sec 1 ≤ s.clk then s.faultA 0x500B else s
    | none => s)

/-- TRACKING_ERROR_LIMIT (R188). -/
def execTrackingErrorLimit (dt : Nat) (s : State) : Res :=
  run dt s (fun s =>
    match s.scan.b.overAt with
    | some t => if t + ms 1 ≤ s.clk then s.faultB 0x500D else s
    | none => s)

/-- CHG is held low for the eight strings of a charge function (R174). -/
def State.holdCharge (s : State) (f : Nat) : State :=
  (List.range 8).foldl (fun t i => t.modStr (8 * (f - 6) + i) (fun x => { x with chg := false, chgHeld := true })) s

/-- An upset of a loop engine: 0x500C against it; the axis it serves opens, or its strings are held (R174, R198). -/
def State.engineUpset (s : State) (le : Nat) : State :=
  let s1 := s.fault 0x500C 9 le
  match (List.range 14).find? (fun f => s.fnEngine f = some le) with
  | none => s1
  | some f =>
    if 6 ≤ f then s1.holdCharge f
    else
      let s2 := if (axisFns .A).contains f then s1.openA true .regen else s1
      let s3 := if (axisFns .B).contains f then s2.openB true false else s2
      let was := ((axisFns .A).contains f && live s.scan.a.st) || ((axisFns .B).contains f && live s.scan.b.st)
      if was && s3.running then s3.safeHold false else s3

/-- A cell of the repetitive memory of an axis shows an uncorrectable error: it is zeroed and counted, and is no upset (R193). -/
def State.spoilCell (s : State) (ax : Axis) (i : Nat) : State :=
  match ax with
  | .A => s.modA (fun a => { a with rep := a.rep.spoil a.repCfg i })
  | .B => s.modB (fun b => { b with rep := b.rep.spoil b.repCfg i })

/-- LOOP_ENGINE_UPSET (R174, R193, R198). -/
def execLoopEngineUpset (dt : Nat) (hit : LoopUpset) (s : State) : Res :=
  run dt s (fun s =>
    if !s.domOn 31 then s
    else match hit with
      | .engine le => if s.retired 9 le.val then s else s.engineUpset le.val
      | .cell ax i => s.spoilCell ax i.val)

/-- Axis A stands open: EV_LOOP_STOPPED, and every PH output low (R194, R197). -/
def State.stopA (s : State) : State :=
  ((s.modA (fun a => { a with st := .open_, brake := none, istar := 0, slowAt := none })).coastPhases).sayLoop 3 .A

/-- BRAKE_STOP_CONDITION (R197). -/
def execBrakeStopCondition (dt : Nat) (axis : Axis) (s : State) : Res :=
  run dt s (fun s =>
    match axis with
    | .A =>
      if s.scan.a.st != .braking then s
      else match s.scan.a.brake with
        | some .shortTmax | some .coast => if s.scan.a.brakeAt + sec (s.aCoef 217 8) ≤ s.clk then s.stopA else s
        | _ => match s.scan.a.slowAt with
          | some t => if t + ms 100 ≤ s.clk then s.stopA else s
          | none => s
    | .B =>
      if s.scan.b.st = .braking && s.scan.b.parking && s.scan.b.r = (clampI (s.bSigned 160 20) (s.bSigned 192 20) (s.bSigned 212 20) : Int)
      then s.stopB else s)

/-- PERIOD_IN_EDGE: a rising edge measures the machine period (R190, R404). -/
def execPeriodInEdge (dt : Nat) (s : State) : Res :=
  run dt s (fun s => { s with
    hk.pin := match s.hk.pinAt with
      | some t => some (s.clk - t)
      | none => none
    hk.pinAt := some s.clk })

end Sys2Proof.Machine
end

