-- ==== Sys2Proof/Machine/EngL.lean ====
section
/-! DEFINITION. The L slot: loads and stores of a sector engine (R216, R222, R230 to R232), and NOP (R215). -/

namespace Sys2Proof.Machine

open Sys2Proof

/-- The predicate bit of a slot as `Eng.pass` takes it. -/
def negBit (b : Bool) : BitVec 1 :=
  if b then 1#1 else 0#1

/-- An L operation whose predicate is false claims its bank exactly as if it executed; `claims`: executed, it would (R221, R222,
R246). -/
def State.claimOnly (s : State) (e cyc : Nat) (claims : Area → Bool) (ar : Area) : State :=
  if !claims ar || s.tokenOk e cyc ar then s else s.guardFault 0x3007 e

/-- A store of a size claims the state memory, and an STD the output port (R209, R222). -/
def Area.writable (z : Nat) (a : Area) : Bool :=
  match a with
  | .state _ => true
  | .port _ => z = 8
  | _ => false

/-! ### Loads -/

/-- A load: `z` is the element size of the address generator, `read` the words for the destination registers in ascending order, and
`wide` their number (R222). The words of a blocked or unmapped access read 0. -/
def State.loadOp (s : State) (e : Nat) (op : LSlot) (ecc : EccHit) (z wide : Nat) (read : State → Nat → Area → List Nat) : State :=
  s.issue e (fun s cyc =>
    let x := s.eng e
    if x.pass op.pred (negBit op.pneg) then
      let ea := x.ea s.free op z / z * z
      let lat := loadLat (s.runVariant (e / 32)) (areaOf ea)
      let (s1, ws) := s.loadAt e cyc ea ecc (wide = 4) (fun t ar => read t ea ar)
      let s2 := (List.range wide).foldl (fun t i => t.send e (cyc + lat) (.x (op.xreg.toNat + i)) (ws.getD i 0)) s1
      (s2.postMod e cyc op).took
    else s.claimOnly e cyc Area.readable (areaOf (x.ea s.free op z / z * z)))

/-- LDB (R222). -/
def execEngLdb (dt : Nat) (e : Fin 256) (op : LSlot) (ecc : EccHit) (s : State) : Res :=
  run dt s (fun s => s.loadOp e.val op ecc 1 1 (fun t ea ar => [t.readArea e.val ea ar 1]))

/-- LDH (R222). -/
def execEngLdh (dt : Nat) (e : Fin 256) (op : LSlot) (ecc : EccHit) (s : State) : Res :=
  run dt s (fun s => s.loadOp e.val op ecc 2 1 (fun t ea ar => [t.readArea e.val ea ar 2]))

/-- LDW (R222). -/
def execEngLdw (dt : Nat) (e : Fin 256) (op : LSlot) (ecc : EccHit) (s : State) : Res :=
  run dt s (fun s => s.loadOp e.val op ecc 4 1 (fun t ea ar => [t.readArea e.val ea ar 4]))

/-- LDD: bits 31:0 to XREG, bits 63:32 to XREG + 1 (R222). -/
def execEngLdd (dt : Nat) (e : Fin 256) (op : LSlot) (ecc : EccHit) (s : State) : Res :=
  run dt s (fun s => s.loadOp e.val op ecc 8 2 (fun t ea ar =>
    let w := t.readArea e.val ea ar 8
    [w % 2 ^ 32, w / 2 ^ 32]))

/-- An area with its offset moved within an aligned 16-byte line (R222). -/
def lineArea (ar : Area) (i : Nat) : Area :=
  let turn := fun (a : Nat) => a / 16 * 16 + (a + i) % 16
  match ar with
  | .hist t off => .hist t (turn off)
  | .state off => .state (turn off)
  | a => a

/-- LDB4: four bytes of one aligned 16-byte line, past its end from its start (R222). -/
def execEngLdb4 (dt : Nat) (e : Fin 256) (op : LSlot) (ecc : EccHit) (s : State) : Res :=
  run dt s (fun s => s.loadOp e.val op ecc 1 4 (fun t ea ar =>
    (List.range 4).map (fun i => t.readArea e.val (ea / 16 * 16 + (ea + i) % 16) (lineArea ar i) 1)))

/-! ### Stores -/

/-- A word goes to the output port, which it enters 2 + 2v cycles later: a record word, or bits of the header by the summary word (R222,
R231, R232). -/
def State.portWord64 (s : State) (e cyc : Nat) (summary : Bool) (w : Nat) : State :=
  let k := e / 32
  let at_ := cyc + 2 + 2 * s.runVariant k
  if summary then s.modSector k (fun x => { x with sums := x.sums ++ [(at_, BitVec.ofNat 2 w)] })
  else
    let entry := (at_, (s.logicalOf e).getD 0, BitVec.ofNat 64 w)
    (s.modSector k (fun x => { x with words := x.words ++ [entry] })).modEng e (fun x =>
      { x with half := if x.half.isNone then some (BitVec.ofNat 64 w) else none })

/-- A store of `z` bytes of a value; only STD reaches the output port (R222). -/
def State.storeOp (s : State) (e : Nat) (op : LSlot) (z : Nat) (val : Eng → Nat) : State :=
  s.issue e (fun s cyc =>
    let x := s.eng e
    if x.pass op.pred (negBit op.pneg) then
      let ea := x.ea s.free op z / z * z
      let ar := areaOf ea
      let v := val x
      let put := fun (lat : Nat) (dst : Nat → Dest) => (List.range z).foldl (fun t i =>
        t.send e (cyc + lat) (dst i) (fld v (8 * i) 8)) s
      let s1 := match ar with
        | .loc => put 2 (fun i => .mem (ea + i))
        | .state off =>
          if s.tokenOk e cyc ar then put (3 + 2 * s.runVariant (e / 32)) (fun i => .state (off + i)) else s.guardFault 0x3007 e
        | .port sm =>
          if z != 8 then s.engFault 0x3004 e
          else if s.tokenOk e cyc ar then s.portWord64 e cyc sm v
          else s.guardFault 0x3007 e
        | _ => s.engFault 0x3004 e
      (s1.postMod e cyc op).took
    else s.claimOnly e cyc (Area.writable z) (areaOf (x.ea s.free op z / z * z)))

/-- STB (R222). -/
def execEngStb (dt : Nat) (e : Fin 256) (op : LSlot) (s : State) : Res :=
  run dt s (fun s => s.storeOp e.val op 1 (fun x => x.rx op.xreg.toNat))

/-- STH (R222). -/
def execEngSth (dt : Nat) (e : Fin 256) (op : LSlot) (s : State) : Res :=
  run dt s (fun s => s.storeOp e.val op 2 (fun x => x.rx op.xreg.toNat))

/-- STW (R222). -/
def execEngStw (dt : Nat) (e : Fin 256) (op : LSlot) (s : State) : Res :=
  run dt s (fun s => s.storeOp e.val op 4 (fun x => x.rx op.xreg.toNat))

/-- STD: XREG and XREG + 1 as 64 bits (R222, R231). -/
def execEngStd (dt : Nat) (e : Fin 256) (op : LSlot) (s : State) : Res :=
  run dt s (fun s => s.storeOp e.val op 8 (fun x => x.rx op.xreg.toNat + 2 ^ 32 * x.rx ((op.xreg.toNat + 1) % 32)))

/-! ### NOP (R215) -/

/-- The operation code that a slot of a bundle holds (R214, R216 to R220). -/
def slotOpc (b : Nat) (k : SlotKind) : Nat :=
  match k with
  | .L => fld b 4 4
  | .A => fld b 34 6
  | .M => fld b 64 4
  | .X => fld b 90 4
  | .C => fld b 112 4

/-- A code is reserved in its slot (R220, R222 to R225). -/
def reservedOpc (k : SlotKind) (c : Nat) : Bool :=
  match k with
  | .L => c = 6 || c = 7 || 12 ≤ c
  | .A => c = 0x11 || c = 0x17 || c = 0x1F || (0x23 ≤ c && c ≤ 0x27) || 0x2A ≤ c
  | .M => 9 ≤ c
  | .X => 8 ≤ c
  | .C => 6 ≤ c

/-- NOP of a slot: the cycle passes (R215). Where the bundle that the engine's bank holds there has a reserved encoding in the slot,
0x3003 is raised; `ecc` bad: the bundle's fetch met an uncorrectable word, the whole bundle runs as NOP, and the bank is reloaded
(R212). -/
def execEngNop (dt : Nat) (e : Fin 256) (slot : SlotKind) (ecc : EccHit) (s : State) : Res :=
  run dt s (fun s => s.issue e.val (fun s _ =>
    let x := s.eng e.val
    let held := (x.active.getD x.pc 0).toNat
    let reload := match s.imageInForce (e.val / 32), s.logicalOf e.val with
      | some i, some l => fun (y : Eng) => y.setActive (programOf i l)
      | _, _ => fun (y : Eng) => y
    if ecc = .bad then (s.modEng e.val reload).engFault 0x3001 e.val
    else
      let s1 := if ecc = .corrected then (s.setStat e.val 8).corrected 64 1 else s
      if reservedOpc slot (slotOpc held slot) then s1.engFault 0x3003 e.val else s1))

end Sys2Proof.Machine
end

