-- ==== Sys2Proof/Machine/EngA.lean ====
section
/-! DEFINITION. The A slot: arithmetic, logic, comparison and predicate operations of a sector engine (R217, R223, R227 to R229). -/

namespace Sys2Proof.Machine

open Sys2Proof

/-- The signed 9-bit immediate in the place of SB and SH (R217). -/
def immOf (op : ASlot) : Int :=
  sgn 9 (op.sb.toNat + 32 * op.sh.toNat)

/-- SA as a signed number. -/
def opA (x : Eng) (op : ASlot) : Int :=
  x.sx op.sa.toNat

/-- B as a signed number: SB or the immediate (R223). -/
def opB (x : Eng) (op : ASlot) : Int :=
  if op.immf then immOf op else x.sx op.sb.toNat

/-- The fraction count SH; an immediate stands in its place (R217). -/
def shOf (op : ASlot) : Nat :=
  if op.immf then 0 else op.sh.toNat

/-- An A operation that writes DST: the value, and whether it saturated (R221, R223, R228). -/
def State.aluOp (s : State) (e : Nat) (op : ASlot) (lat : Nat) (f : State → Eng → Int × Bool) : State :=
  s.issue e (fun s cyc =>
    let x := s.eng e
    if x.pass op.pred (negBit op.pneg) then
      let r := f s x
      (s.send e (cyc + lat) (.x op.dst.toNat) (uns 32 r.1)).satStat e r.2
    else s)

/-- A compare or a predicate operation: Pd (R217, R223). -/
def State.predOp (s : State) (e : Nat) (op : ASlot) (f : Eng → Bool) : State :=
  s.issue e (fun s cyc =>
    let x := s.eng e
    if x.pass op.pred (negBit op.pneg) then s.send e (cyc + 1) (.p (op.dst.toNat % 8)) (b2n (f x)) else s)

/-- A shift right by s with convergent rounding (R227). -/
def rheShift (x : Int) (n : Nat) : Int :=
  let q := x / (2 ^ n : Nat)
  let r := x - q * (2 ^ n : Nat)
  if n = 0 then x
  else if (2 ^ (n - 1) : Nat) < r || (r = (2 ^ (n - 1) : Nat) && q % 2 = 1) then q + 1 else q

/-- ADD (R223). -/
def execEngAdd (dt : Nat) (e : Fin 256) (op : ASlot) (s : State) : Res :=
  run dt s (fun s => s.aluOp e.val op 1 (fun _ x => (opA x op + opB x op, false)))

/-- ADDS (R223, R228). -/
def execEngAdds (dt : Nat) (e : Fin 256) (op : ASlot) (s : State) : Res :=
  run dt s (fun s => s.aluOp e.val op 1 (fun _ x => satI 32 (opA x op + opB x op)))

/-- SUB (R223). -/
def execEngSub (dt : Nat) (e : Fin 256) (op : ASlot) (s : State) : Res :=
  run dt s (fun s => s.aluOp e.val op 1 (fun _ x => (opA x op - opB x op, false)))

/-- SUBS (R223, R228). -/
def execEngSubs (dt : Nat) (e : Fin 256) (op : ASlot) (s : State) : Res :=
  run dt s (fun s => s.aluOp e.val op 1 (fun _ x => satI 32 (opA x op - opB x op)))

/-- AND (R223). -/
def execEngAnd (dt : Nat) (e : Fin 256) (op : ASlot) (s : State) : Res :=
  run dt s (fun s => s.aluOp e.val op 1 (fun _ x => ((uns 32 (opA x op) &&& uns 32 (opB x op) : Nat), false)))

/-- OR (R223). -/
def execEngOr (dt : Nat) (e : Fin 256) (op : ASlot) (s : State) : Res :=
  run dt s (fun s => s.aluOp e.val op 1 (fun _ x => ((uns 32 (opA x op) ||| uns 32 (opB x op) : Nat), false)))

/-- XOR (R223). -/
def execEngXor (dt : Nat) (e : Fin 256) (op : ASlot) (s : State) : Res :=
  run dt s (fun s => s.aluOp e.val op 1 (fun _ x => ((uns 32 (opA x op) ^^^ uns 32 (opB x op) : Nat), false)))

/-- The shift count B[4:0] (R223). -/
def shiftOf (x : Eng) (op : ASlot) : Nat :=
  uns 5 (opB x op)

/-- SHL (R223). -/
def execEngShl (dt : Nat) (e : Fin 256) (op : ASlot) (s : State) : Res :=
  run dt s (fun s => s.aluOp e.val op 1 (fun _ x => ((uns 32 (opA x op) * 2 ^ shiftOf x op : Nat), false)))

/-- SHR (R223). -/
def execEngShr (dt : Nat) (e : Fin 256) (op : ASlot) (s : State) : Res :=
  run dt s (fun s => s.aluOp e.val op 1 (fun _ x => ((uns 32 (opA x op) / 2 ^ shiftOf x op : Nat), false)))

/-- ASR (R223). -/
def execEngAsr (dt : Nat) (e : Fin 256) (op : ASlot) (s : State) : Res :=
  run dt s (fun s => s.aluOp e.val op 1 (fun _ x => (opA x op / (2 ^ shiftOf x op : Nat), false)))

/-- ASRR (R223, R227). -/
def execEngAsrr (dt : Nat) (e : Fin 256) (op : ASlot) (s : State) : Res :=
  run dt s (fun s => s.aluOp e.val op 1 (fun _ x => (rheShift (opA x op) (shiftOf x op), false)))

/-- MIN (R223). -/
def execEngMin (dt : Nat) (e : Fin 256) (op : ASlot) (s : State) : Res :=
  run dt s (fun s => s.aluOp e.val op 1 (fun _ x => (min (opA x op) (opB x op), false)))

/-- MAX (R223). -/
def execEngMax (dt : Nat) (e : Fin 256) (op : ASlot) (s : State) : Res :=
  run dt s (fun s => s.aluOp e.val op 1 (fun _ x => (max (opA x op) (opB x op), false)))

/-- ABS (R223, R228). -/
def execEngAbs (dt : Nat) (e : Fin 256) (op : ASlot) (s : State) : Res :=
  run dt s (fun s => s.aluOp e.val op 1 (fun _ x => satI 32 (if opA x op < 0 then -opA x op else opA x op)))

/-- MOV (R223). -/
def execEngMov (dt : Nat) (e : Fin 256) (op : ASlot) (s : State) : Res :=
  run dt s (fun s => s.aluOp e.val op 1 (fun _ x => (opA x op, false)))

/-- MOVI: the signed 14-bit immediate of the SA field and the 9-bit immediate (R223). -/
def execEngMovi (dt : Nat) (e : Fin 256) (op : ASlot) (s : State) : Res :=
  run dt s (fun s => s.aluOp e.val op 1 (fun _ _ =>
    (sgn 14 (op.sa.toNat * 512 + op.sb.toNat + 32 * op.sh.toNat), false)))

/-- SATH (R223, R228). -/
def execEngSath (dt : Nat) (e : Fin 256) (op : ASlot) (s : State) : Res :=
  run dt s (fun s => s.aluOp e.val op 1 (fun _ x => satI 18 (opA x op)))

/-- SEL: SA where the selecting predicate is true, else B; it always executes (R223). -/
def execEngSel (dt : Nat) (e : Fin 256) (op : ASlot) (s : State) : Res :=
  run dt s (fun s => s.aluOp e.val { op with pred := 0, pneg := false } 1 (fun _ x =>
    (if x.pass op.pred (negBit op.pneg) then opA x op else opB x op, false)))

/-- NORM (R223, R229). -/
def execEngNorm (dt : Nat) (e : Fin 256) (op : ASlot) (s : State) : Res :=
  run dt s (fun s => s.aluOp e.val op 1 (fun _ x => ((normOf 32 (opA x op) : Nat), false)))

/-- BEXP (R223, R229). -/
def execEngBexp (dt : Nat) (e : Fin 256) (op : ASlot) (s : State) : Res :=
  run dt s (fun s => s.issue e.val (fun s cyc =>
    let x := s.eng e.val
    if x.pass op.pred (negBit op.pneg) then s.send e.val (cyc + 1) .bx (min x.bx.toNat (normOf 32 (opA x op))) else s))

/-- BXCLR (R223). -/
def execEngBxclr (dt : Nat) (e : Fin 256) (op : ASlot) (s : State) : Res :=
  run dt s (fun s => s.issue e.val (fun s cyc =>
    if (s.eng e.val).pass op.pred (negBit op.pneg) then s.send e.val (cyc + 1) .bx 31 else s))

/-- CMPEQ (R223). -/
def execEngCmpeq (dt : Nat) (e : Fin 256) (op : ASlot) (s : State) : Res :=
  run dt s (fun s => s.predOp e.val op (fun x => opA x op = opB x op))

/-- CMPLT (R223). -/
def execEngCmplt (dt : Nat) (e : Fin 256) (op : ASlot) (s : State) : Res :=
  run dt s (fun s => s.predOp e.val op (fun x => opA x op < opB x op))

/-- CMPLE (R223). -/
def execEngCmple (dt : Nat) (e : Fin 256) (op : ASlot) (s : State) : Res :=
  run dt s (fun s => s.predOp e.val op (fun x => opA x op ≤ opB x op))

/-- CMPLTU (R223). -/
def execEngCmpltu (dt : Nat) (e : Fin 256) (op : ASlot) (s : State) : Res :=
  run dt s (fun s => s.predOp e.val op (fun x => uns 32 (opA x op) < uns 32 (opB x op)))

/-- A source predicate of predicate logic (R217). -/
def predOf (x : Eng) (r : BitVec 5) : Bool :=
  x.rp (r.toNat % 8)

/-- PAND (R223). -/
def execEngPand (dt : Nat) (e : Fin 256) (op : ASlot) (s : State) : Res :=
  run dt s (fun s => s.predOp e.val op (fun x => predOf x op.sa && predOf x op.sb))

/-- POR (R223). -/
def execEngPor (dt : Nat) (e : Fin 256) (op : ASlot) (s : State) : Res :=
  run dt s (fun s => s.predOp e.val op (fun x => predOf x op.sa || predOf x op.sb))

/-- PNOT (R223). -/
def execEngPnot (dt : Nat) (e : Fin 256) (op : ASlot) (s : State) : Res :=
  run dt s (fun s => s.predOp e.val op (fun x => !predOf x op.sa))

/-- A division: a zero divisor returns the limit of SA's sign and sets DIVZ, any other saturates (R223, R228). -/
def State.divOp (s : State) (e : Nat) (op : ASlot) (f : Int → Int → Int) : State :=
  s.issue e (fun s cyc =>
    let x := s.eng e
    if x.pass op.pred (negBit op.pneg) then
      let a := opA x op
      let b := opB x op
      if b = 0 then
        (s.send e (cyc + 20) (.x op.dst.toNat) (if 0 ≤ a then 0x7FFFFFFF else 0x80000000)).setStat e 4
      else
        let r := satI 32 (f (a * (2 ^ shOf op : Nat)) b)
        (s.send e (cyc + 20) (.x op.dst.toNat) (uns 32 r.1)).satStat e r.2
    else s)

/-- DIV (R223). -/
def execEngDiv (dt : Nat) (e : Fin 256) (op : ASlot) (s : State) : Res :=
  run dt s (fun s => s.divOp e.val op (fun a b => a.tdiv b))

/-- DIVR (R223, R227). -/
def execEngDivr (dt : Nat) (e : Fin 256) (op : ASlot) (s : State) : Res :=
  run dt s (fun s => s.divOp e.val op (fun a b => rhe ((a : Rat) / b)))

/-- SQRT: SA unsigned; SH above 8 is stated for no result, which is then an open value (R223, log entry 3). -/
def execEngSqrt (dt : Nat) (e : Fin 256) (op : ASlot) (s : State) : Res :=
  run dt s (fun s => (s.aluOp e.val op 12 (fun s x =>
    if 8 < shOf op then ((Config.freeNat s.free % 2 ^ 32 : Nat), false)
    else ((isqrt (uns 32 (opA x op) * 4 ^ shOf op) : Nat), false))).took)

/-- MFS: ENG_STAT for SA = 0, BX for SA = 1; another SA names no register and its value is open (R223, log entry 3). -/
def execEngMfs (dt : Nat) (e : Fin 256) (op : ASlot) (s : State) : Res :=
  run dt s (fun s => (s.aluOp e.val op 1 (fun s x =>
    ((if op.sa = 0 then s.engStat e.val else if op.sa = 1 then x.bx.toNat else Config.freeNat s.free % 2 ^ 32 : Nat), false))).took)

/-- MTS: the W1C fields of ENG_STAT are cleared where SA has ones; one set in the same cycle ends set (R7, R208, R223). -/
def execEngMts (dt : Nat) (e : Fin 256) (op : ASlot) (s : State) : Res :=
  run dt s (fun s => s.issue e.val (fun s cyc =>
    let x := s.eng e.val
    if x.pass op.pred (negBit op.pneg) then
      s.modEng e.val (fun y => { y with
        stat := (y.stat &&& ~~~ (BitVec.ofNat 4 (x.rx op.sa.toNat))) ||| (if y.statAt = cyc then y.statNew else 0) })
    else s))

end Sys2Proof.Machine
end

