-- ==== Sys2Proof/Machine/EngM.lean ====
section
/-! DEFINITION. The M, X and C slots: multiply and accumulate, address generators, loops and END (R218 to R220, R224 to R226). -/

namespace Sys2Proof.Machine

open Sys2Proof

/-! ### The M slot (R218, R224) -/

/-- A multiplier operand: 18 bits signed, and whether it saturated (R224). -/
def mulIn (x : Eng) (r : Nat) : Int × Bool :=
  satI 18 (x.sx r)

/-- An accumulator as the QMAC class reads it. -/
def Eng.acc (x : Eng) (k : Nat) : Int :=
  sgn 48 (tget 0#48 x.a k).toNat

/-- An accumulator as ACCRD, ACCSUM and ACCNORM read it (R224). -/
def Eng.accRd (x : Eng) (k : Nat) : Int :=
  sgn 48 (tget 0#48 x.ar k).toNat

/-- An accumulator is written: its reader's view lands later than its own (R224). -/
def State.sendAcc (s : State) (e own view k : Nat) (v : Int) : State :=
  (s.send e own (.a k) (uns 48 v)).send e view (.ar k) (uns 48 v)

/-- A four-lane operation on the accumulators (R224). -/
def State.quadOp (s : State) (e : Nat) (op : MSlot) (f : Int → Int → Int) : State :=
  s.issue e (fun s cyc =>
    let x := s.eng e
    if x.pass op.pred (negBit op.pneg) then
      let m := mulIn x op.s.toNat
      (List.range 4).foldl (fun t k =>
        let l := mulIn x (4 * op.q.toNat + k)
        let r := satI 48 (f (x.acc k) (l.1 * m.1))
        (t.sendAcc e (cyc + 1) (cyc + 3) k r.1).satStat e (l.2 || m.2 || r.2)) s
    else s)

/-- QMAC (R224). -/
def execEngQmac (dt : Nat) (e : Fin 256) (op : MSlot) (s : State) : Res :=
  run dt s (fun s => s.quadOp e.val op (fun a p => a + p))

/-- QMSU (R224). -/
def execEngQmsu (dt : Nat) (e : Fin 256) (op : MSlot) (s : State) : Res :=
  run dt s (fun s => s.quadOp e.val op (fun a p => a - p))

/-- QMUL (R224). -/
def execEngQmul (dt : Nat) (e : Fin 256) (op : MSlot) (s : State) : Res :=
  run dt s (fun s => s.quadOp e.val op (fun _ p => p))

/-- ACCRD (R224). -/
def execEngAccrd (dt : Nat) (e : Fin 256) (op : MSlot) (s : State) : Res :=
  run dt s (fun s => s.issue e.val (fun s cyc =>
    let x := s.eng e.val
    if x.pass op.pred (negBit op.pneg) then
      let r := satI 32 (rheShift (x.accRd op.acc.toNat) op.sh.toNat)
      (s.send e.val (cyc + 2) (.x op.dst.toNat) (uns 32 r.1)).satStat e.val r.2
    else s))

/-- ACCCLR: an update issued before it no longer lands in a reader's view (R224). -/
def execEngAccclr (dt : Nat) (e : Fin 256) (op : MSlot) (s : State) : Res :=
  run dt s (fun s => s.issue e.val (fun s cyc =>
    let x := s.eng e.val
    if x.pass op.pred (negBit op.pneg) then
      let view := fun (f : Flight) => match f.dst with
        | .ar _ => true
        | _ => false
      let s1 := s.modEng e.val (fun y => { y with fly := y.fly.filter (fun f => !view f) })
      (List.range 4).foldl (fun t k => t.sendAcc e.val (cyc + 1) (cyc + 1) k 0) s1
    else s))

/-- SMUL (R224). -/
def execEngSmul (dt : Nat) (e : Fin 256) (op : MSlot) (s : State) : Res :=
  run dt s (fun s => s.issue e.val (fun s cyc =>
    let x := s.eng e.val
    if x.pass op.pred (negBit op.pneg) then
      let a := mulIn x (4 * op.q.toNat)
      let b := mulIn x op.s.toNat
      let r := satI 32 (a.1 * b.1)
      (s.send e.val (cyc + 3) (.x op.dst.toNat) (uns 32 r.1)).satStat e.val (a.2 || b.2 || r.2)
    else s))

/-- ACCSUM (R224). -/
def execEngAccsum (dt : Nat) (e : Fin 256) (op : MSlot) (s : State) : Res :=
  run dt s (fun s => s.issue e.val (fun s cyc =>
    let x := s.eng e.val
    if x.pass op.pred (negBit op.pneg) then
      let r := satI 48 (x.accRd 0 + x.accRd 1 + x.accRd 2 + x.accRd 3)
      (s.sendAcc e.val (cyc + 2) (cyc + 2) 0 r.1).satStat e.val r.2
    else s))

/-- ACCNORM (R224, R229). -/
def execEngAccnorm (dt : Nat) (e : Fin 256) (op : MSlot) (s : State) : Res :=
  run dt s (fun s => s.issue e.val (fun s cyc =>
    let x := s.eng e.val
    if x.pass op.pred (negBit op.pneg) then
      let n := (List.range 4).foldl (fun m k => min m (normOf 48 (x.accRd k))) 47
      s.send e.val (cyc + 2) (.x op.dst.toNat) n
    else s))

/-! ### The X slot (R219, R225) -/

/-- X(SRC) + IMM (R225). -/
def State.xSum (s : State) (e : Nat) (op : XSlot) : Int :=
  (s.eng e).sx op.src.toNat + sgn 11 op.imm.toNat

/-- SETB (R225). -/
def execEngSetb (dt : Nat) (e : Fin 256) (op : XSlot) (s : State) : Res :=
  run dt s (fun s => s.issue e.val (fun s cyc => s.send e.val (cyc + 1) (.gb op.ag.toNat) (uns 23 (s.xSum e.val op))))

/-- SETI (R225). -/
def execEngSeti (dt : Nat) (e : Fin 256) (op : XSlot) (s : State) : Res :=
  run dt s (fun s => s.issue e.val (fun s cyc => s.send e.val (cyc + 1) (.gi op.ag.toNat) (uns 16 (s.xSum e.val op))))

/-- SETM (R225). -/
def execEngSetm (dt : Nat) (e : Fin 256) (op : XSlot) (s : State) : Res :=
  run dt s (fun s => s.issue e.val (fun s cyc => s.send e.val (cyc + 1) (.gm op.ag.toNat) (uns 16 (s.xSum e.val op))))

/-- SETL (R225). -/
def execEngSetl (dt : Nat) (e : Fin 256) (op : XSlot) (s : State) : Res :=
  run dt s (fun s => s.issue e.val (fun s cyc => s.send e.val (cyc + 1) (.gl op.ag.toNat) (uns 16 (s.xSum e.val op))))

/-- SETD (R225). -/
def execEngSetd (dt : Nat) (e : Fin 256) (op : XSlot) (s : State) : Res :=
  run dt s (fun s => s.issue e.val (fun s cyc => s.send e.val (cyc + 1) (.gd op.ag.toNat) (op.imm.toNat % 4)))

/-- ADDI: the index moves by the immediate in the generator's mode (R225, R230). -/
def execEngAddi (dt : Nat) (e : Fin 256) (op : XSlot) (s : State) : Res :=
  run dt s (fun s => s.issue e.val (fun s cyc =>
    let x := s.eng e.val
    let n := op.ag.toNat
    (s.send e.val (cyc + 1) (.gi n) (walkIndex s.free (tget 0#2 x.gd n).toNat (tget 0#16 x.gi n).toNat (tget 1#16 x.gl n).toNat
      (sgn 11 op.imm.toNat))).took))

/-- GETI: its result has latency 2 (R225). -/
def execEngGeti (dt : Nat) (e : Fin 256) (op : XSlot) (s : State) : Res :=
  run dt s (fun s => s.issue e.val (fun s cyc =>
    s.send e.val (cyc + 2) (.x op.src.toNat) (tget 0#16 (s.eng e.val).gi op.ag.toNat).toNat))

/-! ### The C slot (R220, R226) -/

/-- LOOP0: its body begins at the next bundle and runs ARG + 1 times (R220, R226). -/
def execEngLoop0 (dt : Nat) (e : Fin 256) (arg : BitVec 12) (s : State) : Res :=
  run dt s (fun s => s.issue e.val (fun s _ => s.modEng e.val (fun x => { x with lc0 := arg, body0 := x.pc + 1 })))

/-- LOOP1 (R220, R226). -/
def execEngLoop1 (dt : Nat) (e : Fin 256) (arg : BitVec 12) (s : State) : Res :=
  run dt s (fun s => s.issue e.val (fun s _ => s.modEng e.val (fun x => { x with lc1 := arg, body1 := x.pc + 1 })))

/-- LEND0: while iterations remain, the next cycle issues the first bundle of the body (R226). -/
def execEngLend0 (dt : Nat) (e : Fin 256) (s : State) : Res :=
  run dt s (fun s => s.issue e.val (fun s _ => s.modEng e.val (fun x =>
    if x.lc0 = 0 then x else { x with lc0 := x.lc0 - 1, pc := x.body0, pcAt := x.pcAt + 1 })))

/-- LEND1 (R226). -/
def execEngLend1 (dt : Nat) (e : Fin 256) (s : State) : Res :=
  run dt s (fun s => s.issue e.val (fun s _ => s.modEng e.val (fun x =>
    if x.lc1 = 0 then x else { x with lc1 := x.lc1 - 1, pc := x.body1, pcAt := x.pcAt + 1 })))

/-- END: the engine stops issuing; a record word without its partner is discarded with 0x3006 (R226, R231). -/
def execEngEnd (dt : Nat) (e : Fin 256) (s : State) : Res :=
  run dt s (fun s => s.issue e.val (fun s cyc =>
    let s1 := s.modEng e.val (fun x => { x with run := false, ended := true, endAt := cyc })
    if (s1.eng e.val).half.isSome then s1.engFault 0x3006 e.val else s1))

end Sys2Proof.Machine
end

