-- ==== Sys2Proof/Machine/Shots.lean ====
section
/-! DEFINITION. The shot sequencer, the exposure ledger and the Cornice lines (R138 to R170, R360, R481): each row acts when its
instant has been reached. -/

namespace Sys2Proof.Machine

open Sys2Proof

/-! ### The slot in work (R154) -/

/-- A slot of the emission plan as the sequencer works on it. -/
structure Work where
  /-- Mode code. -/
  mode : Nat
  /-- Columns of the grid since the epoch. -/
  idx  : Nat
  /-- Slot. -/
  slot : Nat
  /-- t0: the start of the slot. -/
  t0   : Nat
  deriving DecidableEq, Repr

/-- The slot that the sequencer works on: of the home column in progress, or slot 0 of a home column that follows. -/
def State.work (s : State) : Option Work :=
  match s.mode.cur with
  | none => none
  | some c =>
    if c.kind = .home && s.emit.slot < (parOf c.mode).shots && (s.mode.stop.isNone || s.now < c.stop) then
      some ⟨c.mode, c.index, s.emit.slot, slotStart c s.emit.slot⟩
    else if s.ahead c && (s.listenAt c.mode ((c.index + 1) % (parOf c.mode).columns)).isNone then
      some ⟨c.mode, c.index + 1, 0, c.stop⟩
    else none

/-- A string is removed from every fire mask: retired, or to be retired at the boundary that starts the slot (R168, R485). -/
def State.unplanned (s : State) (w : Work) (i : Nat) : Bool :=
  s.retired 6 i || (w.slot = 0 && s.doomed 6 i)

/-- The plan of a slot: strings that fire, with pattern index and proof flag, ascending (R154, R164, R167, R238). A proof-table entry
adds its string with its own pattern; a SUSPECT string's next shot is a proof. -/
def State.planOf (s : State) (w : Work) : List (Nat × Nat × Bool) :=
  match s.block w.mode with
  | none => []
  | some b =>
    let sl := ((b.plan.getD (w.idx % (parOf w.mode).columns % max 1 b.plan.length) default).slots).getD w.slot default
    let proofs := b.proofs.filter (fun p => p.slot = w.slot && 0 < p.period && w.idx % p.period = p.phase)
    (List.range 64).filterMap (fun i =>
      if s.unplanned w i then none
      else match proofs.find? (fun p => p.str = i) with
        | some p => some (i, p.pat, true)
        | none =>
          if bitN sl.fire.toNat i then some (i, tget 0 sl.pat i, (s.str i).suspect && (s.str i).suspProof.isNone)
          else none)

/-! ### SHOT and HOLD frames (R145 to R151) -/

/-- The positions a SHOT frame has fields for: up to the highest present one (R147). -/
def State.fieldsOf (s : State) (l : Nat) : Nat :=
  ((List.range 8).filter (fun j => s.present (8 * l + j))).foldl (fun m j => max m (j + 1)) 0

/-- The SHOT frames of a slot on all lines; none on a line in reply direction (R146, R148, R151, R154). -/
def State.sendShot (s : State) (plan : List (Nat × Nat × Bool)) : State :=
  (List.range 8).foldl (fun t l =>
    if t.clk < (t.line l).windowEnd then t
    else
      let fields := (List.range (t.fieldsOf l)).map (fun j => match plan.find? (fun p => p.1 = 8 * l + j) with
        | some p => (true, p.2.2, p.2.1)
        | none => (false, false, 0))
      let bits := shotBits fields
      (t.modLine l (fun x => { x with lastFrame := t.clk, frameEnd := t.clk + wireTicks bits })).say (.shotFrame l fields bits)) s

/-- The first proof that waits for its slot (R360). -/
def State.nextService (s : State) : Option ServProof :=
  s.emit.service.find? (fun p => p.driven.isNone)

/-- A service proof changed. -/
def State.modService (s : State) (p : ServProof) (q : ServProof) : State :=
  { s with emit.service := s.emit.service.map (fun x => if x = p then q else x) }

/-- The SHOT frame of a service proof: 600 ns before its slot; none for a retired string, none without permission (R154, R168, R360). -/
def State.frameService (s : State) : State :=
  match s.nextService with
  | some p =>
    if s.life.lcs != .service || p.framed || s.now + 600 * ticksPerNs < p.slot then s
    else
      let s1 := s.modService p { p with framed := true }
      if s.permittedService && !s.retired 6 p.str then s1.sendShot [(p.str, p.pat, true)] else s1
  | none => s

/-- SHOT_FRAME: 600 ns before the slot, of a column or of a service proof; none leaves while permission is removed (R150, R154, R360). -/
def execShotFrame (dt : Nat) (s : State) : Res :=
  run dt s (fun s =>
    match s.work with
    | some w =>
      if s.emit.framed || s.now + 600 * ticksPerNs < w.t0 then s
      else
        let plan := if s.permitted then s.planOf w else []
        let pats := plan.foldl (fun t p => tput 0 t p.1 (p.2.1 + 1)) []
        let s1 := { s with
          emit.framed := true, emit.pats := pats, emit.supSlot := 0
          emit.proofs := BitVec.ofNat 64 (maskOf ((plan.filter (fun p => p.2.2)).map Prod.fst)) }
        if s.permitted then s1.sendShot plan else s1
    | none => s.frameService)

/-- Chain time at which the next SHOT frame is due while the sequencer works on a slot (R151, R154). -/
def State.nextFrame (s : State) (w : Work) : Nat :=
  let p := parOf w.mode
  (if !s.emit.framed then w.t0
   else if w.slot + 1 < p.shots then w.t0 + p.spacing
   else colStart p s.epoch (w.idx + 1)) - 600 * ticksPerNs

/-- The READ frames that the schedule places in a column of a mode: line, string, register, and chain time of the start; those of its
frame table and the DIAG reads of its proof shots (R151, R164, R238). -/
def State.readsOf (s : State) (m idx : Nat) : List (Nat × Nat × Byte × Nat) :=
  match s.block m with
  | none => []
  | some b =>
    let p := parOf m
    let start := colStart p s.epoch idx
    let table := ((b.plan.getD (idx % p.columns % max 1 b.plan.length) default).frames).map (fun f =>
      (f.line, f.str, f.reg, start + f.start))
    let diags := (b.proofs.filter (fun q => 0 < q.period && idx % q.period = q.phase)).map (fun q =>
      (q.str / 8, q.str, 0x04#8, start + q.slot * p.spacing + q.diag))
    table ++ diags

/-- The READ frames that the schedule places in the column in progress, and in the next one once the slots of this one are done (R151,
R154). -/
def State.schedReads (s : State) : List (Nat × Nat × Byte × Nat) :=
  match s.mode.cur with
  | none => []
  | some c =>
    (if c.active then s.readsOf c.mode c.index else []) ++ (if s.ahead c then s.readsOf c.mode (c.index + 1) else [])

/-- A line is free for what takes it `need` ticks: its last frame ended at least 20 ns ago, no reply window is open, and neither the next
SHOT frame nor a READ of the schedule other than `own` starts before it is over (R148, R151). -/
def State.lineFree (s : State) (l need : Nat) (own : Option (Nat × Byte)) : Bool :=
  (s.line l).frameEnd + 20 * ticksPerNs ≤ s.clk && (s.line l).windowEnd ≤ s.clk
    && s.schedReads.all (fun f =>
        f.1 != l || own = some (f.2.1, f.2.2.1) || f.2.2.2 + readTicks ≤ s.now || s.now + need ≤ f.2.2.2)
    && (match s.work with
    | some w => s.now + need ≤ s.nextFrame w
    | none => true)

/-- HOLD_FRAME: on a line that has carried no SHOT or HOLD frame for 20 µs (R150). -/
def execHoldFrame (dt : Nat) (line : Fin 8) (s : State) : Res :=
  run dt s (fun s =>
    if (s.running || s.life.lcs = .service) && s.permitBase && (s.line line.val).lastFrame + us 20 ≤ s.clk
      && s.lineFree line.val (wireTicks holdBits + 20 * ticksPerNs) none then
      (s.modLine line.val (fun x => { x with lastFrame := s.clk, frameEnd := s.clk + wireTicks holdBits })).say
        (.holdFrame line.val holdBits)
    else s)

/-! ### The exposure ledger (R160 to R163) -/

/-- The emitters that a shot lights (R161). -/
def State.litBy (s : State) (i pat : Nat) (proof : Bool) : Nat :=
  let t := s.str i
  let off := (tget 0xFFFF#16 s.emit.patReg (64 * i + pat)).toNat ||| t.retire.toNat ||| (if proof then 0 else t.suspend.toNat)
  s.presentEm i &&& (0xFFFF - off)

/-- A string can pay for the emitters it lights (R161). -/
def State.payable (s : State) (i lit cost : Nat) : Bool :=
  let need := popN 16 lit * cost
  s.spendable i && need ≤ tget 0 s.emit.bStr i && need ≤ s.emit.bDev
    && (onesOf 16 lit).all (fun k => cost ≤ tget 0 s.emit.bEm (16 * i + k))

/-- A string pays (R161). -/
def State.pay (s : State) (i lit cost : Nat) : State :=
  let need := popN 16 lit * cost
  let em := (onesOf 16 lit).foldl (fun t k => tmod 0 t (16 * i + k) (fun b => b - cost)) s.emit.bEm
  ({ s with emit.bEm := em, emit.bStr := tmod 0 s.emit.bStr i (fun b => b - need), emit.bDev := s.emit.bDev - need
            emit.debits := s.emit.debits ||| BitVec.ofNat 64 (2 ^ i) }).modStr i (fun x => { x with debited := x.debited + 1 })

/-- The ledger suppresses a string-shot (R161). -/
def State.suppress (s : State) (i : Nat) : State :=
  { s.modStr i (fun x => { x with supTotal := (x.supTotal + 1) % 2 ^ 32, supTick := x.supTick + 1 }) with
    emit.supSlot := s.emit.supSlot ||| BitVec.ofNat 64 (2 ^ i) }

/-- The cost of a string's shot in a mode (R161, R163). -/
def State.costOf (s : State) (m i : Nat) (proof : Bool) : Nat :=
  match s.block m with
  | some b => if proof then tget 0 b.pcost i else tget 0 b.cost i
  | none => 0

/-- The decision for one string (R161). -/
def State.decide1 (s : State) (m i pat : Nat) (proof : Bool) : State :=
  let lit := s.litBy i pat proof
  if s.payable i lit (s.costOf m i proof) then s.pay i lit (s.costOf m i proof) else s.suppress i

/-- The slot reports of the column whose last slot has been decided are queued (R315, R317). -/
def State.queueReports (s : State) (w : Work) : State :=
  match s.sched.slice with
  | none => s
  | some x =>
    let p := parOf w.mode
    let col := w.idx % p.columns
    let start := colStart p s.epoch w.idx
    let body := bytesOf 4 x.planId.toNat ++ bytesOf 8 start ++ bytesOf 2 (w.mode % 16 + 16 * col) ++ zeros 2
      ++ bytesOf 4 s.emit.suppBits.toNat ++ bytesOf 4 s.emit.firedBits.toNat ++ zeros 8
    (x.ridge.filter (fun e => e.mode = w.mode && (e.allCol || e.column = col) && e.dest != 0xFFFF)).foldl (fun t e =>
      { t with chain.toReport := t.chain.toReport ++
          [(e.port, { dest := e.dest, src := t.chain.addr, ptype := 4, data := body, stomp := false }, start + engCk * e.start)] }) s

/-- The bits of the slot report for a slot (R315). -/
def State.noteSlot (s : State) (k : Nat) (supp : Bool) : State :=
  let base := fun (x : BitVec 32) => if k = 0 then 0#32 else x
  let bit := BitVec.ofNat 32 (2 ^ k)
  { s with emit.suppBits := base s.emit.suppBits ||| (if supp then bit else 0)
           emit.firedBits := base s.emit.firedBits ||| (if s.emit.debits != 0 then bit else 0) }

/-- An emitter is undiagnosed: its age is undefined or above 1 s (R166); a retired one never is (R168). -/
def State.undiagnosed (s : State) (e : Nat) : Bool :=
  let t := tget 0 s.emit.diagAt e
  !s.retired 5 e && (t = 0 || t - 1 + sec 1 < s.clk)

/-- The refill of one string's buckets (R160). -/
def State.refillStr (s : State) (i : Nat) : State :=
  let r := s.share i
  let em := (List.range 16).foldl (fun t k =>
    let e := 16 * i + k
    let half := if tget false s.emit.fullShare e then 1 else 2
    tmod 0 t e (fun b => min (fld r 0 24 / half) (b + fld r 32 16 / half))) s.emit.bEm
  { s with emit.bEm := em, emit.bStr := tmod 0 s.emit.bStr i (fun b => min (fld r 64 24) (b + fld r 96 24)) }

/-- Every bucket is refilled (R160). -/
def State.refill (s : State) : State :=
  let full := (List.range 1024).foldl (fun t e => tput false t e (!s.undiagnosed e)) []
  let s1 := (List.range 64).foldl State.refillStr { s with emit.fullShare := full }
  { s1 with emit.bDev := min (fld (s.share 64) 64 24) (s.emit.bDev + fld (s.share 64) 96 24) }

/-- A refill tick that is due is applied once, before any debit of its cycle (R160). -/
def State.refillDue (s : State) : State :=
  let n := s.now / refillTicks
  if s.emit.tick < n && s.emit.refilled < n then { s.refill with emit.refilled := n } else s

/-- The ledger decision of a service proof: 40 ns before its slot; permission, retirement and buckets settle it (R155, R161, R168, R360). -/
def State.decideService (s : State) : State :=
  match s.nextService with
  | some p =>
    if s.life.lcs != .service || !p.framed || p.paid.isSome || s.now + 40 * ticksPerNs < p.slot then s
    else
      let s1 := { s.refillDue with emit.debits := 0 }
      let lit := s1.litBy p.str p.pat true
      let cost := s1.costOf p.mode p.str true
      if !s.permittedService || s.retired 6 p.str then s1.modService p { p with paid := some false }
      else if s1.payable p.str lit cost then (s1.pay p.str lit cost).modService p { p with paid := some true }
      else { (s1.suppress p.str).modService p { p with paid := some false } with emit.supSlot := 0 }
  | none => s

/-- LEDGER_DECISION: 40 ns before the slot, of a column or of a service proof; a refill tick that is due applies first (R160, R360). Without
permission nothing is debited, and nothing counts as suppressed by the ledger (R155, R161); a string that is retired since its frame, or
will be at the boundary that starts the slot, is not fired (R168). -/
def execLedgerDecision (dt : Nat) (s : State) : Res :=
  run dt s (fun s =>
    match s.work with
    | some w =>
      if !s.emit.framed || s.emit.decided || s.now + 40 * ticksPerNs < w.t0 then s
      else
        let plan := (s.emit.pats.filter (fun x => !s.unplanned w x.1)).map (fun x =>
          (x.1, x.2 - 1, bitN s.emit.proofs.toNat x.1))
        let s1 := { s.refillDue with emit.decided := true, emit.debits := 0, emit.supSlot := 0 }
        let s2 := if s.permitted then plan.foldl (fun t p => t.decide1 w.mode p.1 p.2.1 p.2.2) s1 else s1
        let s3 := s2.noteSlot w.slot (!s.permitted || s2.emit.supSlot != 0)
        if w.slot + 1 = (parOf w.mode).shots then s3.queueReports w else s3
    | none => s.decideService)

/-! ### The shot (R36, R139 to R141) -/

/-- A string's two gate pulses are driven (R139, R141). -/
def State.drive (s : State) (at_ sigma i w1 w2 lit : Nat) (proof : Bool) : State :=
  let p : Pulse := { rise := at_, sigma := sigma, w1 := w1, w2 := w2, proof := proof, lit := BitVec.ofNat 16 lit }
  ({ s.modStr i (fun x => { x with
      last := some p, driven := x.driven + 1, emgUntil := at_ + sigma + w2
      proofLit := if proof then some (BitVec.ofNat 16 lit) else x.proofLit }) with
    emit.fired := s.emit.fired ||| BitVec.ofNat 64 (2 ^ i) }).say (.gate i p)

/-- The debited strings of a slot are driven at its shot instant. -/
def State.driveAll (s : State) (w : Work) (at_ : Nat) : State :=
  let sigma := sigmaOf (s.sigOf w.mode w.idx)
  (onesOf 64 s.emit.debits.toNat).foldl (fun t i =>
    let proof := bitN s.emit.proofs.toNat i
    let pw := match s.block w.mode with
      | some b => tget 0 b.pw i
      | none => 0
    let w1 := match s.block w.mode with
      | some b => if proof then tget 0 b.proofW i else pw
      | none => 0
    t.drive at_ sigma i w1 pw (s.litBy i (tget 0 s.emit.pats i - 1) proof) proof) { s with emit.fired := 0 }

/-- The sequencer goes on to the next slot. -/
def State.slotDone (s : State) : State :=
  { s with emit.slot := s.emit.slot + 1, emit.framed := false, emit.decided := false, emit.debits := 0, emit.proofs := 0
           emit.pats := [], emit.supSlot := 0 }

/-- SHOT_INSTANT: at t0 + d the debited strings are driven and the listening window opens; in a listen column the window opens at the
partner's shot instant, while the pair is in the plan's mode (R36, R38, R48, R90, R129, R141, R154). DESIGN CHOICE (log entry 153): a slot
in which no string is driven and none is suppressed opens its window and counts in SHOTS. -/
def execShotInstant (dt : Nat) (s : State) : Res :=
  run dt s (fun s =>
    match s.mode.cur with
    | some c =>
      let k := s.emit.slot
      let at_ := slotStart c k + s.slotDither c k
      if !c.active || (parOf c.mode).shots ≤ k || s.now < at_ then s
      else if s.otherMode c then { s.foldShot with emit.slot := k + 1, emit.shotAt := none }
      else if c.kind = .listen then
        { s.foldShot with emit.slot := k + 1, emit.shots := s.emit.shots + 1, emit.shotAt := some (at_, k), emit.shut := 0 }
      else if !s.emit.decided then s
      else
        let s1 := s.foldShot
        let s2 := s1.driveAll ⟨c.mode, c.index, k, slotStart c k⟩ at_
        let sup := onesOf 64 s.emit.supSlot.toNat
        State.slotDone { s2 with
          emit.shots := s.emit.shots + 1, emit.shotAt := some (at_, k), emit.shut := s.emit.supSlot
          emit.supCol := sup.foldl (fun t i => tmod 0#32 t i (fun x => x ||| BitVec.ofNat 32 (2 ^ k))) s.emit.supCol }
    | none => s)

/-- The ESNS check of a string that was driven (R140, R167). -/
def State.esns1 (s : State) (sensed : Bool) (i : Nat) : State :=
  s.modStr i (fun x =>
    let proof := match x.last with
      | some p => p.proof
      | none => false
    if x.suspect then { x with suspProof := if proof then some sensed else x.suspProof }
    else if sensed then x
    else { x with suspect := true, suspProof := none })

/-- The check of a string is complete: 6 ns after its second pulse (R154). -/
def State.esnsDue (s : State) (i : Nat) : Bool :=
  match (s.str i).last with
  | some p => p.rise + p.sigma + p.w2 + 6 * ticksPerNs ≤ s.now
  | none => false

/-- ESNS_CHECK. `sensed`: strings whose ESNS answered the shot (R140, R154, R167). -/
def execEsnsCheck (dt : Nat) (sensed : BitVec 64) (s : State) : Res :=
  run dt s (fun s =>
    let due := (onesOf 64 s.emit.fired.toNat).filter s.esnsDue
    let s1 := due.foldl (fun t i => t.esns1 (bitN sensed.toNat i) i) s
    { s1 with emit.fired := BitVec.ofNat 64 (maskOf ((onesOf 64 s.emit.fired.toNat).filter (fun i => !s.esnsDue i))) })

/-! ### Emission faults (R140, R159, R169, R481) -/

/-- A lasting observation is made: the fault is raised, or its activity goes on (R481). -/
def State.observeFault (s : State) (code i : Nat) : State :=
  if s.isActiveAt code 6 i then
    { s with faults.active := s.faults.active.map (fun a =>
        if a.code.toNat = code && a.unit = ⟨6, i⟩ then { a with seen := s.clk } else a) }
  else s.fault code 6 i

/-- String current is allowed now: from a gate pulse's rise to 6 ns after its fall (R140). -/
def State.currentAllowed (s : State) (i : Nat) : Bool :=
  match (s.str i).last with
  | some p =>
    let cut := (s.str i).emgUntil
    let inside := fun (a w : Nat) => a ≤ s.now && s.now ≤ min (a + w) cut + 6 * ticksPerNs && a ≤ cut
    inside p.rise p.w1 || inside (p.rise + p.sigma) p.w2
  | none => false

/-- UNCOMMANDED_CURRENT: ESNS is high outside every gate interval (R140). -/
def execUncommandedCurrent (dt : Nat) (str : Fin 64) (s : State) : Res :=
  run dt s (fun s => if s.domOn 32 && !s.currentAllowed str.val then s.observeFault 0x4001 str.val else s)

/-- GATE_READBACK: the EMG ball has differed from the commanded level for 2 ENG_CK cycles (R140). -/
def execGateReadback (dt : Nat) (str : Fin 64) (s : State) : Res :=
  run dt s (fun s => if s.domOn 32 then s.observeFault 0x4002 str.val else s)

/-- A reservoir reads above 1.10 × VNOM of a fitted string (R159). -/
def State.rsvOver (s : State) (i : Nat) : Bool :=
  s.present i && 11 * vnomOf (s.strWord i) < 10 * (s.str i).rsv

/-- EMISSION_FAULT_END: the observation has not been made for 1 ms (R481). -/
def execEmissionFaultEnd (dt : Nat) (code : BitVec 16) (str : Fin 64) (s : State) : Res :=
  run dt s (fun s =>
    let lasting := code = 0x4001 || code = 0x4002 || code = 0x4005
    let quiet := s.faults.active.any (fun a => a.code = code && a.unit = ⟨6, str.val⟩ && a.seen + ms 1 ≤ s.clk)
    if lasting && quiet && !(code = 0x4005 && s.rsvOver str.val) then s.endFaultAt code.toNat 6 str.val else s)

/-! ### Reservoirs (R156, R159) -/

/-- RESERVOIR_COMPARATOR: RSV_SNS as sensed, 0.1 V at the reservoir (R156, R159). -/
def execReservoirComparator (dt : Nat) (str : Fin 64) (volts : Nat) (s : State) : Res :=
  run dt s (fun s =>
    if !s.domOn 32 then s
    else
      let s1 := ((s.loopDue (chargeFn str.val)).modStr str.val (fun x => { x with rsv := volts })).chargeCtl str.val
      if s1.rsvOver str.val then s1.observeFault 0x4005 str.val else s1)

/-- CHARGE_TIMEOUT: CHG has been high for longer than CHG_TMAX (R159). -/
def execChargeTimeout (dt : Nat) (str : Fin 64) (s : State) : Res :=
  run dt s (fun s =>
    let x := s.str str.val
    if x.chg && x.chgSince + us (100 * fld s.emit.word.toNat 24 8) < s.clk then
      (s.modStr str.val (fun x => { x with chg := false, chgHeld := true })).fault 0x4009 6 str.val
    else s)

/-! ### The refill tick (R159, R160, R162, R166) -/

/-- The books of a string at a tick: debits not yet driven or cancelled, those carried from the tick before included (R162). -/
def auditOf (x : Strng) (observed : Nat) : Int :=
  (x.carried + x.debited : Int) - observed - x.cancelled

/-- The pulse pairs that the gate monitor observed on a string: as named, and where a string is not named, those driven. -/
def observedOn (obs : List (Fin 64 × Nat)) (x : Strng) (i : Nat) : Nat :=
  match obs.find? (fun o => o.1.val = i) with
  | some o => o.2
  | none => x.driven

/-- A string's books are closed at a tick and its suppressions sampled (R162, R496). -/
def State.closeBooks (s : State) (obs : List (Fin 64 × Nat)) (i : Nat) : State :=
  let x := s.str i
  let d := auditOf x (observedOn obs x i)
  let s1 := s.modStr i (fun y => { y with
    debited := 0, driven := 0, cancelled := 0, supTick := 0, carried := if d = 1 then 1 else 0 })
  if s.present i && !s.retired 6 i && s.domOn 32 then s1.sample 0x0B i x.supTick else s1

/-- REFILL_TICK. `observed`: pulse pairs that the gate monitor saw since the last tick; `eccBad`: a bucket word is uncorrectable
(R159, R160, R162). -/
def execRefillTick (dt : Nat) (observed : List (Fin 64 × Nat)) (eccBad : Bool) (s : State) : Res :=
  run dt s (fun s =>
    if s.now / refillTicks ≤ s.emit.tick then s
    else
      let bad := (List.range 64).any (fun i =>
        let d := auditOf (s.str i) (observedOn observed (s.str i) i)
        d < 0 || 1 < d)
      let s1 := { s.refillDue with emit.tick := s.now / refillTicks }
      let s2 := (List.range 64).foldl (fun t i => t.closeBooks observed i) s1
      let s3 := if s.running && s.mode.cur.isSome then s2
        else (List.range 64).foldl (fun t i =>
          if (t.str i).chgHeld then (t.modStr i (fun x => { x with chgHeld := false })).chargeCtl i else t) s2
      let s4 := if bad then s3.fault 0x4003 0 0 else s3
      if eccBad then s4.fault 0x4004 0 0 else s4)

/-- DIAGNOSIS_AGE_EXPIRED: the age has passed 1 s, and the emitter runs on half its share (R160, R166). -/
def execDiagnosisAgeExpired (dt : Nat) (em : Fin 1024) (s : State) : Res :=
  run dt s (fun s =>
    if s.undiagnosed em.val then { s with emit.fullShare := tput false s.emit.fullShare em.val false } else s)

/-! ### Register accesses (R146, R148, R152, R165 to R168) -/

/-- A READ or WRITE frame leaves, and its reply window opens; what the device owed by it is sent (R146, R148, R170). -/
def State.access (s : State) (i : Nat) (reg : Byte) (w : Option Word) : State :=
  let bits := accessBits (i % 8) reg w
  let sent := s.clk + wireTicks bits
  let s1 := s.modLine (i / 8) (fun x => { x with
    frameEnd := sent, windowEnd := sent + replyWindow
    pending := some { str := i, reg := reg, wdata := w, close := sent + replyWindow } })
  { s1 with emit.owed := s1.emit.owed.filter (fun o => !(o.str = i && o.reg = reg && o.write = w.isSome)) }.say
    (.access i reg w bits)

/-- A head can be reached: PD_EMIT is on, the head is present, and its line awaits no reply (R148, R170). -/
def State.reachable (s : State) (i : Nat) : Bool :=
  s.domOn 32 && s.present i && (s.line (i / 8)).pending.isNone

/-- A line can carry a READ of a register: at its place in the schedule, or in free line time (R148, R151). -/
def State.canRead (s : State) (i : Nat) (reg : Byte) : Bool :=
  s.reachable i && s.lineFree (i / 8) readTicks (some (i, reg))

/-- A line can carry a WRITE of a register: in line time left free by the schedule; of RETIRE only once the head has said which positions it
declares, since the device never clears a bit of it (R148, R151, R152). -/
def State.canWrite (s : State) (i : Nat) (reg : Byte) : Bool :=
  s.reachable i && s.lineFree (i / 8) writeTicks none && !(reg = 0x05 && (s.str i).declared.isNone)

/-- CORNICE_READ (R146, R148, R152). -/
def execCorniceRead (dt : Nat) (str : Fin 64) (reg : Byte) (s : State) : Res :=
  run dt s (fun s => if s.canRead str.val reg then s.access str.val reg none else s)

/-- The shunt mask of a pattern index of a string in the loaded set: of the block of the mode in force where it lists the index, else of
the first block that does; an index that none lists shunts every emitter (R149, R152, R238; log entry 131). -/
def State.patMask (s : State) (i p : Nat) : BitVec 16 :=
  let blocks := (s.sched.modes.filter (fun b => b.1 = s.mode.mode)) ++ s.sched.modes
  match blocks.findSome? (fun b => b.2.pats.find? (fun x => x.1 = 64 * i + p)) with
  | some x => x.2
  | none => 0xFFFF

/-- What a WRITE of the device carries: HEAD_CTRL and SUSPEND as the device holds them, RETIRE with the bits that the head declares, a
pattern as the loaded set gives it or, without one, as named, and HEAD_STAT as named (R138, R152, R165, R168, R170; log entry 131). -/
def State.writeWord (s : State) (i : Nat) (reg : Byte) (data : Word) : Word :=
  let x := s.str i
  if reg = 0x02 then BitVec.ofNat 32 (b2n x.drain)
  else if reg = 0x05 then BitVec.ofNat 32 (x.retire.toNat ||| (0xFFFF - s.presentEm i))
  else if reg = 0x06 then BitVec.ofNat 32 x.suspend.toNat
  else if 0x40 ≤ reg.toNat && reg.toNat < 0x80 then
    (if s.sched.modes.isEmpty then BitVec.ofNat 32 (fld data.toNat 0 16)
     else BitVec.ofNat 32 (s.patMask i (reg.toNat - 0x40)).toNat)
  else data

/-- CORNICE_WRITE (R146, R148, R152). -/
def execCorniceWrite (dt : Nat) (str : Fin 64) (reg : Byte) (data : Word) (s : State) : Res :=
  run dt s (fun s =>
    if s.canWrite str.val reg then
      let w := s.writeWord str.val reg data
      let s1 := if 0x40 ≤ reg.toNat && reg.toNat < 0x80 then
          { s with emit.patReg := tput 0xFFFF#16 s.emit.patReg (64 * str.val + (reg.toNat - 0x40)) (BitVec.ofNat 16 w.toNat) }
        else s
      s1.access str.val reg (some w)
    else s)

/-- SUSPEND of a head changes by one emitter, and is owed to it where it changes (R165). DESIGN CHOICE (log entry 157): payment under R161
follows the change from the DIAG read on, before the owed WRITE has reached the head. -/
def State.setSuspend (s : State) (i k : Nat) (on : Bool) : State :=
  if bitN (s.str i).suspend.toNat k = on then s
  else (s.modStr i (fun x => { x with suspend := BitVec.ofNat 16 (setFld x.suspend.toNat k 1 (b2n on)) })).owe i 0x06 true

/-- One lit emitter is diagnosed (R165, R166): suspended and charged, or passed. DESIGN CHOICE (log entry 158): with both OPEN and SHORT set
the fault is 0x4007. -/
def State.diagnose1 (s : State) (i open_ short k : Nat) : State :=
  let s1 := { s with emit.diagAt := tput 0 s.emit.diagAt (16 * i + k) (s.clk + 1) }
  if bitN (open_ ||| short) k then
    (s1.setSuspend i k true).fault (if bitN open_ k then 0x4007 else 0x4008) 5 (16 * i + k)
  else s1.setSuspend i k false

/-- A service proof of a string that was driven has been read, or its read has failed (R360). -/
def State.endService (s : State) (i open_ short : Nat) : State :=
  if s.emit.service.any (fun p => p.str = i && p.driven = some true) then
    ({ s with emit.service := s.emit.service.filter (fun p => !(p.str = i && p.driven = some true)) }).proofDone i true open_ short
  else s

/-- A DIAG read (R165 to R167, R360). -/
def State.readDiag (s : State) (i : Nat) (isNew : Bool) (data : Nat) : State :=
  let x := s.str i
  let open_ := fld data 0 16
  let short := fld data 16 16
  let lit := match x.proofLit with
    | some l => l.toNat
    | none => 0
  let s1 := s.modStr i (fun y => { y with proofLit := none })
  let s2 := if isNew then (onesOf 16 lit).foldl (fun t k => t.diagnose1 i open_ short k) s1 else s1
  let s3 := match x.suspect, x.suspProof with
    | true, some sensed =>
      let s' := s2.modStr i (fun y => { y with suspect := false, suspProof := none })
      if !sensed && open_ = 0 && short = 0 then s'.fault 0x4006 6 i else s'
    | _, _ => s2
  s3.endService i open_ short

/-- A line fault is charged to every string of the line, PRESENT or not (R144, R168, R169). -/
def State.lineFault (s : State) (l : Nat) : State :=
  (List.range 8).foldl (fun t j => t.fault 0x400C 6 (8 * l + j)) s

/-- A read of HEAD_STAT (R152, R169). -/
def State.readStat (s : State) (i data : Nat) : State :=
  let s1 := if fld data 0 2 != 0 then s.fault 0x400B 6 i else s
  if bitN data 3 then s1.lineFault (i / 8) else s1

/-- DESIGN CHOICE (log entry 159): nothing follows where the READ that verifies a WRITE answers another value (R170). A good reply to an access
gives the register's value after it (R148): kept, and of HEAD_ID, RETIRE, HEAD_STAT and DIAG acted on (R138,
R152, R165, R169). -/
def State.replied (s : State) (a : Access) (stat data : Nat) : State :=
  let s1 := s.modStr a.str (fun y => { y with
    drained := bitN stat 3, regs := tput 0#32 y.regs a.reg.toNat (BitVec.ofNat 32 data) })
  if a.reg = 0x05 then s1.modStr a.str (fun y => { y with declared := some (BitVec.ofNat 16 data &&& ~~~ y.retire) })
  else if a.wdata.isSome then s1
  else if a.reg = 0x01 then s1.modStr a.str (fun y => { y with fitted := fld data 24 8 })
  else if a.reg = 0x03 then s1.readStat a.str data
  else if a.reg = 0x04 then s1.readDiag a.str (bitN stat 2) data
  else s1

/-- CORNICE_REPLY. `reply`: POS, STAT, DATA and CRC, first bit most significant (R148). -/
def execCorniceReply (dt : Nat) (line : Fin 8) (reply : BitVec 48) (s : State) : Res :=
  run dt s (fun s =>
    match (s.line line.val).pending with
    | none => s
    | some a =>
      if a.close < s.clk then s
      else
        let x := reply.toNat
        let s1 := s.modLine line.val (fun l => { l with pending := none })
        if crc8 (bytesBE 5 (fld x 8 40)) != fld x 0 8 || fld x 45 3 != a.str % 8 then s1.fault 0x400A 6 a.str
        else s1.replied a (fld x 40 5) (fld x 8 32))

/-- CORNICE_NO_REPLY: the window has closed (R148). -/
def execCorniceNoReply (dt : Nat) (line : Fin 8) (s : State) : Res :=
  run dt s (fun s =>
    match (s.line line.val).pending with
    | none => s
    | some a =>
      if s.clk < a.close then s
      else
        let s1 := (s.modLine line.val (fun l => { l with pending := none })).fault 0x400A 6 a.str
        if a.reg = 0x04 && a.wdata.isNone then s1.endService a.str 0 0 else s1)

/-- CORNICE_LINE_FAULT: a line fault symbol at the device (R144, R168). -/
def execCorniceLineFault (dt : Nat) (line : Fin 8) (s : State) : Res :=
  run dt s (fun s => if s.domOn 32 then s.lineFault line.val else s)

/-! ### SERVICE.PROOF (R360) -/

/-- The instant of a service proof has come: driven where the ledger has paid it and permission still stands, else done as suppressed (R155,
R161, R360). -/
def State.fireService (s : State) (p : ServProof) : State :=
  let i := p.str
  if p.paid = some true && s.permittedService && bitN s.emit.debits.toNat i then
    let sig := match s.sched.slice with
      | some x => x.sig
      | none => 0
    let pw := fun (f : ModeBlock → Tab Nat) => match s.block p.mode with
      | some b => tget 0 (f b) i
      | none => 0
    let s1 := s.drive p.slot (sigmaOf sig) i (pw ModeBlock.proofW) (pw ModeBlock.pw) (s.litBy i p.pat true) true
    { s1.modService p { p with driven := some true } with emit.debits := 0 }
  else ({ s.cancelDebit i with emit.service := s.emit.service.filter (fun x => x != p) }).proofDone i false 0 0

/-- SERVICE_PROOF_SHOT: at the slot of the service grid that the proof waits for, after its ledger decision (R154, R360). -/
def execServiceProofShot (dt : Nat) (s : State) : Res :=
  run dt s (fun s =>
    match s.nextService with
    | some p => if s.life.lcs = .service && p.paid.isSome && p.slot ≤ s.now then s.fireService p else s
    | none => s)

end Sys2Proof.Machine
end

