-- ==== Sys2Proof/Machine/Race.lean ====
section
/-! DEFINITION. Rows that meet others of one FAB_CK cycle and lose to them, whichever comes first in the queue (R27, R196): the causes for
STANDBY, SERVICE and RUN against those for OFF, BOOT, SAFE HOLD and DEGRADED RUN, and the LOOP commands against a fault that opens a loop.
How far the queue is looked into: log entry 130. -/

namespace Sys2Proof.Machine

open Sys2Proof

/-- The rows that can bring a cause for OFF, BOOT, SAFE HOLD or DEGRADED RUN, or open a loop by a fault (R26, R197, R444, R479). -/
def causeOf : Instr → Option (State → Res)
  | .esnsCheck dt sensed => some (execEsnsCheck dt sensed)
  | .uncommandedCurrent dt str => some (execUncommandedCurrent dt str)
  | .gateReadback dt str => some (execGateReadback dt str)
  | .chargeTimeout dt str => some (execChargeTimeout dt str)
  | .refillTick dt observed eccBad => some (execRefillTick dt observed eccBad)
  | .reservoirComparator dt str volts => some (execReservoirComparator dt str volts)
  | .shotInstant dt => some (execShotInstant dt)
  | .ledgerDecision dt => some (execLedgerDecision dt)
  | .corniceReply dt line reply => some (execCorniceReply dt line reply)
  | .corniceNoReply dt line => some (execCorniceNoReply dt line)
  | .corniceLineFault dt line => some (execCorniceLineFault dt line)
  | .serviceProofShot dt => some (execServiceProofShot dt)
  | .columnBoundary dt gateTestOk badOwner => some (execColumnBoundary dt gateTestOk badOwner)
  | .encoderEdge dt up => some (execEncoderEdge dt up)
  | .encoderIndex dt abHigh => some (execEncoderIndex dt abHigh)
  | .slsEdgeWatchdog dt => some (execSlsEdgeWatchdog dt)
  | .slpFrameTimeout dt => some (execSlpFrameTimeout dt)
  | .offTestEnd dt k => some (execOffTestEnd dt k)
  | .safeFbReadback dt k level => some (execSafeFbReadback dt k level)
  | .zoneEvaluation dt testOk arrived => some (execZoneEvaluation dt testOk arrived)
  | .lockstepMismatch dt selfTestOk => some (execLockstepMismatch dt selfTestOk)
  | .lockstepSelfTest dt detected => some (execLockstepSelfTest dt detected)
  | .safetyMemEcc dt => some (execSafetyMemEcc dt)
  | .islandClock dt => some (execIslandClock dt)
  | .faultNReadback dt => some (execFaultNReadback dt)
  | .estopDemand dt => some (execEstopDemand dt)
  | .zoneCodeTaken dt code => some (execZoneCodeTaken dt code)
  | .zoneCodeUnstable dt => some (execZoneCodeUnstable dt)
  | .degradedPeriodExpiry dt => some (execDegradedPeriodExpiry dt)
  | .serviceSessionTimeout dt => some (execServiceSessionTimeout dt)
  | .le0Period dt ia ib ic => some (execLe0Period dt ia ib ic)
  | .phaseCurrentComparator dt ph uV => some (execPhaseCurrentComparator dt ph uV)
  | .le1Period dt => some (execLe1Period dt)
  | .le2Period dt => some (execLe2Period dt)
  | .le3Period dt frame island => some (execLe3Period dt frame island)
  | .le4Period dt => some (execLe4Period dt)
  | .le5Period dt => some (execLe5Period dt)
  | .alignmentEnd dt => some (execAlignmentEnd dt)
  | .encEdgeTimeout dt => some (execEncEdgeTimeout dt)
  | .overcurrentA dt ph uV => some (execOvercurrentA dt ph uV)
  | .busOvervolt dt mV => some (execBusOvervolt dt mV)
  | .spinupTimeout dt => some (execSpinupTimeout dt)
  | .lockRegainTimeout dt => some (execLockRegainTimeout dt)
  | .trackingErrorLimit dt => some (execTrackingErrorLimit dt)
  | .loopEngineUpset dt hit => some (execLoopEngineUpset dt hit)
  | .conversionEnd dt raw => some (execConversionEnd dt raw)
  | .openDetect dt ch => some (execOpenDetect dt ch)
  | .dieMonitorRead dt ts => some (execDieMonitorRead dt ts)
  | .railPgTimeout dt rail => some (execRailPgTimeout dt rail)
  | .railPgLost dt rail => some (execRailPgLost dt rail)
  | .powerLoss dt => some (execPowerLoss dt)
  | .porstAssert dt => some (execPorstAssert dt)
  | .vddIoLow dt => some (execVddIoLow dt)
  | .rootPllUnlock dt => some (execRootPllUnlock dt)
  | .refclkHoldoverExpired dt => some (execRefclkHoldoverExpired dt)
  | .safetyWatchdog dt => some (execSafetyWatchdog dt)
  | .appWatchdog dt => some (execAppWatchdog dt)
  | .hardTrip dt => some (execHardTrip dt)
  | .stopHoldReceived dt port body => some (execStopHoldReceived dt port body)
  | .storeScrub dt bad => some (execStoreScrub dt bad)
  | .stagingComplete dt sector eccBad => some (execStagingComplete dt sector eccBad)
  | _ => none

/-- The state when the rows of a queue that belong to FAB_CK cycle `cyc` have run: those that can bring a cause by their meaning, the
others as time that passes. -/
def lookAhead (cyc : Nat) : List Instr → State → State
  | [], s => s
  | c :: rest, s =>
    if (s.clk + c.ticks) / fabCk != cyc then s
    else
      let s0 := { s with pending := rest }
      match ((causeOf c).getD (fun u => run c.ticks u id)) s0 with
      | .next u => lookAhead cyc rest u
      | _ => s

/-- What the rows that follow in this FAB_CK cycle bring (R27, R196). -/
def State.foreseen (s : State) : Race :=
  let cyc := s.clk / fabCk
  let u := lookAhead cyc s.pending s
  let dark := fun (x : State) => x.life.lcs = .off || x.life.lcs = .boot
  { hold := (u.life.holdAt = some cyc && s.life.holdAt != some cyc) || (dark u && !dark s)
    degraded := u.life.lcs = .degraded && s.life.lcs != .degraded
    brakeA := u.scan.a.st = .braking && s.scan.a.st != .braking
    brakeB := u.scan.b.st = .braking && s.scan.b.st != .braking }

/-- A row acts, and meets what its FAB_CK cycle still brings. -/
def State.met (s : State) (f : State → State) : State :=
  if s.foreseen = {} then f s else { f { s with race := s.foreseen } with race := {} }

/-! ### Taking a command -/

/-- MAILBOX_TAKE (R324, R336 to R339). -/
def execMailboxTake (dt : Nat) (p : HostPort) (m : Fin 4) (din : Option (List Byte)) (s : State) : Res :=
  runOtp dt s (fun s => s.met (fun s => s.takeInTurn p m din))

/-! ### Commands that cause a transition, and commands of the loops -/

/-- MODE_START (R27, R50). -/
def execModeStart (dt : Nat) (r : Req) (s : State) : Res :=
  run dt s (fun s => s.met (State.command cmdModeStart r))

/-- MODE_SET (R27, R46). -/
def execModeSet (dt : Nat) (r : Req) (s : State) : Res :=
  run dt s (fun s => s.met (State.command cmdModeSet r))

/-- SERVICE_ENTER (R27, R359). -/
def execServiceEnter (dt : Nat) (r : Req) (s : State) : Res :=
  run dt s (fun s => s.met (State.command cmdServiceEnter r))

/-- LOOP_CLOSE (R194, R196). -/
def execLoopClose (dt : Nat) (r : Req) (s : State) : Res :=
  run dt s (fun s => s.met (State.command cmdLoopClose r))

/-- LOOP_OPEN (R194, R196). -/
def execLoopOpen (dt : Nat) (r : Req) (s : State) : Res :=
  run dt s (fun s => s.met (State.command cmdLoopOpen r))

/-- LOOP_COEF (R196, R199). -/
def execLoopCoef (dt : Nat) (r : Req) (s : State) : Res :=
  run dt s (fun s => s.met (State.command cmdLoopCoef r))

/-- LOOP_REP_CLEAR (R193, R196). -/
def execLoopRepClear (dt : Nat) (r : Req) (s : State) : Res :=
  run dt s (fun s => s.met (State.command cmdLoopRepClear r))

/-! ### The end of a stop, and a press -/

/-- A stop that ends in the FAB_CK cycle of a cause for OFF, BOOT, SAFE HOLD or DEGRADED RUN loses, and is not held over (R27). -/
def State.stopLoses (s : State) : Bool :=
  s.degradedNow || s.race.hold || s.race.degraded

/-- ORDERLY_STOP_COMPLETE: the end header is delivered and every head has reported DRAINED (R27, R51, R362). -/
def execOrderlyStopComplete (dt : Nat) (s : State) : Res :=
  run dt s (fun s => s.met (fun s =>
    match s.mode.stop with
    | some st => if st.ended && st.header && s.allDrained && !s.stopLoses then s.finishStop false else s
    | none => s))

/-- STOP_TIMEOUT: 20 ms after acceptance (R27, R51, R362). -/
def execStopTimeout (dt : Nat) (s : State) : Res :=
  run dt s (fun s => s.met (fun s =>
    match s.mode.stop with
    | some st => if st.since + ms 20 ≤ s.clk && !s.stopLoses then s.finishStop true else s
    | none => s))

/-- SAFE_RESET_PRESS: the debounced falling edge; `fb`: SAFE_FB as the exit checks read it; `cmpOk`: the comparator's test passes
(R27, R392, R395). -/
def execSafeResetPress (dt : Nat) (fb : BitVec 4) (cmpOk : Bool) (s : State) : Res :=
  run dt s (fun s => s.met (fun s =>
    if !s.safe.button then s
    else
      let valid : Bool := match s.safe.press with
        | some t => t + ms 100 ≤ s.clk && s.clk ≤ t + sec 5 && s.life.lcs = .safeHold && !s.race.hold
        | none => false
      let s1 := s.modSafe (fun x => { x with button := false, buttonAt := s.clk, press := none })
      if valid then s1.completePress fb cmpOk
      else s1.modSafe (fun x => { x with presses := (x.presses + 1) % 2 ^ 16 })))

end Sys2Proof.Machine
end

