-- ==== Sys2Proof/Machine/Programs.lean ====
section
/-! DEFINITION. What the validator does with the programs of a sector image: it simulates each for one column, every predicated
operation taken as executed, and notes where a check of R243 fails (R221 to R226, R230, R231, R235, R243 to R245; log entry 27). -/

namespace Sys2Proof.Machine

open Sys2Proof

/-! ### The fields of a bundle (R214 to R220) -/

/-- The L slot of a bundle. -/
def lOf (b : Nat) : LSlot :=
  { pred := BitVec.ofNat 3 (fld b 0 3), pneg := bitN b 3, ag := BitVec.ofNat 2 (fld b 8 2), xreg := BitVec.ofNat 5 (fld b 10 5)
    post := bitN b 15, offs := BitVec.ofNat 14 (fld b 16 14) }

/-- The A slot of a bundle. -/
def aOf (b : Nat) : ASlot :=
  let n := fld b 30 30
  { pred := BitVec.ofNat 3 (fld n 0 3), pneg := bitN n 3, dst := BitVec.ofNat 5 (fld n 10 5), sa := BitVec.ofNat 5 (fld n 15 5)
    immf := bitN n 20, sb := BitVec.ofNat 5 (fld n 21 5), sh := BitVec.ofNat 4 (fld n 26 4) }

/-- The M slot of a bundle. -/
def mOf (b : Nat) : MSlot :=
  let n := fld b 60 30
  { pred := BitVec.ofNat 3 (fld n 0 3), pneg := bitN n 3, q := BitVec.ofNat 3 (fld n 8 3), s := BitVec.ofNat 5 (fld n 11 5)
    acc := BitVec.ofNat 2 (fld n 16 2), dst := BitVec.ofNat 5 (fld n 18 5), sh := BitVec.ofNat 6 (fld n 23 6) }

/-- The X slot of a bundle. -/
def xOf (b : Nat) : XSlot :=
  let n := fld b 90 22
  { ag := BitVec.ofNat 2 (fld n 4 2), src := BitVec.ofNat 5 (fld n 6 5), imm := BitVec.ofNat 11 (fld n 11 11) }

/-- A bundle holds a reserved encoding (R215 to R220). -/
def badBundle (w : BitVec 128) : Bool :=
  let b := w.toNat
  let l := slotOpc b .L
  let c := slotOpc b .C
  [SlotKind.L, .A, .M, .X, .C].any (fun k => reservedOpc k (slotOpc b k)) || bitN b 89
    || ((l = 4 || l = 11) && (lOf b).xreg.toNat % 2 != 0) || (l = 5 && (lOf b).xreg.toNat % 4 != 0)
    || (slotOpc b .M = 4 && 47 < (mOf b).sh.toNat) || (slotOpc b .A = 0x22 && !(aOf b).immf && 8 < (aOf b).sh.toNat)
    || (c != 1 && c != 2 && fld b 116 12 != 0)

/-- The first bundle at which the loops of a program are malformed (R226). -/
def badLoops : List (BitVec 128) → Nat → Bool → Bool → Option Nat
  | [], n, in0, in1 => if in0 || in1 then some (n - 1) else none
  | b :: r, n, in0, in1 =>
    match slotOpc b.toNat .C with
    | 1 => if in0 || in1 then some n else badLoops r (n + 1) true in1
    | 2 => if !in0 || in1 then some n else badLoops r (n + 1) in0 true
    | 3 => if !in0 || in1 then some n else badLoops r (n + 1) false in1
    | 4 => if !in1 then some n else badLoops r (n + 1) in0 false
    | 5 => if in0 || in1 then some n else badLoops r (n + 1) in0 in1
    | _ => badLoops r (n + 1) in0 in1

/-! ### Reads (R216 to R225) -/

/-- A operations that read B. -/
def readsB (c : Nat) : Bool :=
  (1 ≤ c && c ≤ 0x0D) || c = 0x13 || (0x18 ≤ c && c ≤ 0x1B) || c = 0x20 || c = 0x21

/-- The registers, accumulators and predicates that a bundle reads (R243, 0x13). -/
def readsOf (b : Nat) : List Dest :=
  let l := lOf b
  let a := aOf b
  let m := mOf b
  let x := xOf b
  let lc := slotOpc b .L
  let ac := slotOpc b .A
  let mc := slotOpc b .M
  let xc := slotOpc b .X
  let quad := [Dest.x (4 * m.q.toNat), .x (4 * m.q.toNat + 1), .x (4 * m.q.toNat + 2), .x (4 * m.q.toNat + 3), .x m.s.toNat]
  let ofL := if lc = 0 then [] else [Dest.p l.pred.toNat] ++ (if 8 ≤ lc then [.x l.xreg.toNat] else [])
    ++ (if lc = 11 then [.x (l.xreg.toNat + 1)] else [])
  let ofA := if ac = 0 then []
    else if ac = 0x1C || ac = 0x1D then [Dest.p a.pred.toNat, .p (a.sa.toNat % 8), .p (a.sb.toNat % 8)]
    else if ac = 0x1E then [.p a.pred.toNat, .p (a.sa.toNat % 8)]
    else if ac = 0x10 || ac = 0x16 then [.p a.pred.toNat]
    else if ac = 0x28 then [.p a.pred.toNat] ++ (if a.sa = 1 then [.bx] else [])
    else [.p a.pred.toNat, .x a.sa.toNat] ++ (if readsB ac && !a.immf then [.x a.sb.toNat] else [])
      ++ (if ac = 0x15 then [.bx] else [])
  let ofM := if mc = 0 then []
    else [Dest.p m.pred.toNat] ++ (match mc with
      | 1 | 2 => quad ++ [.a 0, .a 1, .a 2, .a 3]
      | 3 => quad
      | 4 => [.ar m.acc.toNat]
      | 6 => [.x (4 * m.q.toNat), .x m.s.toNat]
      | 7 | 8 => [.ar 0, .ar 1, .ar 2, .ar 3]
      | _ => [])
  let ofX := if 1 ≤ xc && xc ≤ 4 then [Dest.x x.src.toNat] else []
  ofL ++ ofA ++ ofM ++ ofX

/-! ### The simulation -/

/-- A simulated engine: its registers, the places whose value comes from data, results in flight with the mark of data, the cycle from
which the iterative unit is free, record words, the control state, the latest landing, and failed checks: reason and bundle. -/
structure Sim where
  /-- Registers as the simulation has them. -/
  x     : Eng := {}
  /-- Places whose value comes from data. -/
  data  : List Dest := []
  /-- Results in flight: landing cycle, place, value, from data. -/
  fly   : List (Nat × Dest × Nat × Bool) := []
  /-- The iterative unit is free from this cycle (R223). -/
  busy  : Nat := 0
  /-- Record words written (R231). -/
  words : Nat := 0
  /-- Bundle index, loop counters, bodies (R226). -/
  ctl   : Nat × Nat × Nat × Nat × Nat := (0, 0, 0, 0, 0)
  /-- The latest landing so far (R243, 0x18). -/
  last  : Nat := 0
  /-- Failed checks: reason and bundle. -/
  bad   : List (Nat × Nat) := []

/-- What a program is simulated against. -/
structure SimEnv where
  /-- The image. -/
  img     : SectorImage
  /-- Sector. -/
  sector  : Nat
  /-- Variant. -/
  variant : Nat
  /-- Logical engine. -/
  logical : Nat

/-- A failed check is noted. -/
def Sim.note (m : Sim) (reason : Nat) (bad : Bool) : Sim :=
  if bad then { m with bad := m.bad ++ [(reason, m.ctl.1)] } else m

/-- A value comes from data. -/
def Sim.fromData (m : Sim) (l : List Dest) : Bool :=
  l.any (fun d => m.data.contains d)

/-- The results due by a cycle land (R221). -/
def Sim.settle (m : Sim) (c : Nat) : Sim :=
  let due := sortBy (fun a b => a.1 < b.1) (m.fly.filter (fun f => f.1 ≤ c))
  due.foldl (fun t f => { t with
    x := t.x.put f.2.1 f.2.2.1
    data := if f.2.2.2 then f.2.1 :: t.data else t.data.filter (· != f.2.1) }) { m with fly := m.fly.filter (fun f => c < f.1) }

/-- X0 and P0, which a write does not change, and the reader's view of an accumulator, which lands with it, are no places of 0x12. -/
def counted (d : Dest) : Bool :=
  match d with
  | .x 0 | .p 0 | .ar _ | .mem _ | .state _ => false
  | _ => true

/-- A result is sent on its way: a second one to land at its place in its cycle is 0x12 (R221). -/
def Sim.send (m : Sim) (land : Nat) (d : Dest) (v : Nat) (data : Bool) : Sim :=
  let clash := counted d && m.fly.any (fun f => f.1 = land && f.2.1 = d)
  { (m.note 0x12 clash) with fly := m.fly ++ [(land, d, v, data)], last := max m.last land }

/-- The value of an A operation that writes a general register or a predicate (R223); MFS reads LOGICAL, the physical engine of variant
0, SECTOR and VARIANT, flags and bank 0. -/
def aluValue (v : SimEnv) (x : Eng) (c : Nat) (op : ASlot) : Int :=
  let a := opA x op
  let b := opB x op
  let n := shiftOf x op
  match c with
  | 0x01 => a + b
  | 0x02 => (satI 32 (a + b)).1
  | 0x03 => a - b
  | 0x04 => (satI 32 (a - b)).1
  | 0x05 => (uns 32 a &&& uns 32 b : Nat)
  | 0x06 => (uns 32 a ||| uns 32 b : Nat)
  | 0x07 => (uns 32 a ^^^ uns 32 b : Nat)
  | 0x08 => (uns 32 a * 2 ^ n : Nat)
  | 0x09 => (uns 32 a / 2 ^ n : Nat)
  | 0x0A => a / (2 ^ n : Nat)
  | 0x0B => rheShift a n
  | 0x0C => min a b
  | 0x0D => max a b
  | 0x0E => (satI 32 (if a < 0 then -a else a)).1
  | 0x0F => a
  | 0x10 => sgn 14 (op.sa.toNat * 512 + op.sb.toNat + 32 * op.sh.toNat)
  | 0x12 => (satI 18 a).1
  | 0x14 => (normOf 32 a : Nat)
  | 0x20 => if b = 0 then (if 0 ≤ a then 0x7FFFFFFF else -0x80000000) else (satI 32 ((a * (2 ^ shOf op : Nat)).tdiv b)).1
  | 0x21 => if b = 0 then (if 0 ≤ a then 0x7FFFFFFF else -0x80000000) else (satI 32 (rhe (((a * (2 ^ shOf op : Nat) : Int) : Rat) / b))).1
  | 0x22 => (isqrt (uns 32 a * 4 ^ shOf op) : Nat)
  | 0x28 => (if op.sa = 1 then x.bx.toNat else 2 ^ 8 * v.logical + 2 ^ 13 * v.logical + 2 ^ 18 * v.sector + 2 ^ 21 * v.variant : Nat)
  | _ => 0

/-- The A slot of a bundle (R223). -/
def Sim.stepA (v : SimEnv) (m : Sim) (c b : Nat) : Sim :=
  let op := aOf b
  let o := slotOpc b .A
  let reads := (if o = 0x10 || o = 0x28 then [] else [Dest.x op.sa.toNat]) ++ (if readsB o && !op.immf then [.x op.sb.toNat] else [])
  let data := m.fromData reads || o = 0x13
  let iter := 0x20 ≤ o && o ≤ 0x22
  let lat := if o = 0x22 then 12 else if iter then 20 else 1
  let m1 := if iter then { (m.note 0x14 (c < m.busy)) with busy := c + lat } else m
  if o = 0 || o = 0x29 then m1
  else if o = 0x15 || o = 0x16 then m1.send (c + 1) .bx (if o = 0x16 then 31 else 0) (o = 0x15)
  else if 0x18 ≤ o && o ≤ 0x1E then m1.send (c + 1) (.p (op.dst.toNat % 8)) 0 true
  else m1.send (c + lat) (.x op.dst.toNat) (uns 32 (aluValue v m.x o op)) data

/-- The M slot of a bundle; only SMUL's value is followed (R224). -/
def Sim.stepM (m : Sim) (c b : Nat) : Sim :=
  let op := mOf b
  let acc := fun (m : Sim) own view k => (m.send own (.a k) 0 true).send view (.ar k) 0 true
  match slotOpc b .M with
  | 1 | 2 | 3 => (List.range 4).foldl (fun t k => acc t (c + 1) (c + 3) k) m
  | 4 | 8 => m.send (c + 2) (.x op.dst.toNat) 0 true
  | 5 =>
    let view := fun (d : Dest) => match d with
      | .ar _ => true
      | _ => false
    (List.range 4).foldl (fun t k => acc t (c + 1) (c + 1) k) { m with fly := m.fly.filter (fun f => !view f.2.1) }
  | 6 =>
    let r := satI 32 ((mulIn m.x (4 * op.q.toNat)).1 * (mulIn m.x op.s.toNat).1)
    m.send (c + 3) (.x op.dst.toNat) (uns 32 r.1) (m.fromData [.x (4 * op.q.toNat), .x op.s.toNat])
  | 7 => acc m (c + 2) (c + 2) 0
  | _ => m

/-- A generator's setting that is known is refused (R230): a modulo walk with |GM| ≥ GL, a bit-reversed one whose GL is no power of two,
the reserved mode. -/
def badGen (x : Eng) (n : Nat) : Bool :=
  let gl := (tget 1#16 x.gl n).toNat
  let gm := sgn 16 (tget 0#16 x.gm n).toNat
  match (tget 0#2 x.gd n).toNat with
  | 0 => false
  | 1 => (gl : Int) ≤ (if gm < 0 then -gm else gm)
  | 2 => (exactLog gl).isNone
  | _ => true

/-- The places whose values `badGen` judges: the length, and in modulo mode the modifier (R230). -/
def genPlaces (x : Eng) (n : Nat) : List Dest :=
  if tget 0#2 x.gd n = 1 then [.gl n, .gm n] else [.gl n]

/-- The X slot of a bundle (R225, R230). -/
def Sim.stepX (m : Sim) (c b : Nat) : Sim :=
  let op := xOf b
  let n := op.ag.toNat
  let sum := m.x.sx op.src.toNat + sgn 11 op.imm.toNat
  let data := m.fromData [.x op.src.toNat]
  match slotOpc b .X with
  | 1 => m.send (c + 1) (.gb n) (uns 23 sum) data
  | 2 => m.send (c + 1) (.gi n) (uns 16 sum) data
  | 3 => m.send (c + 1) (.gm n) (uns 16 sum) data
  | 4 => (m.note 0x15 (!data && (sum < 1 || 32768 < sum))).send (c + 1) (.gl n) (uns 16 sum) data
  | 5 => (m.note 0x15 (op.imm.toNat % 4 = 3)).send (c + 1) (.gd n) (op.imm.toNat % 4) false
  | 6 => m.send (c + 1) (.gi n) (walkIndex 0 (tget 0#2 m.x.gd n).toNat (tget 0#16 m.x.gi n).toNat (tget 1#16 m.x.gl n).toNat
      (sgn 11 op.imm.toNat)) (m.fromData [.gi n, .gl n])
  | 7 => m.send (c + 2) (.x op.src.toNat) (tget 0#16 m.x.gi n).toNat (m.fromData [.gi n])
  | _ => m

/-- Element size of an L operation (R222). -/
def sizeOf (o : Nat) : Nat :=
  match o with
  | 2 | 9 => 2
  | 3 | 10 => 4
  | 4 | 11 => 8
  | _ => 1

/-- The L slot of a bundle: an address that comes from data is taken as one of local memory (R222, R230, R231, R244). -/
def Sim.stepL (v : SimEnv) (m : Sim) (c b : Nat) : Sim :=
  let op := lOf b
  let o := slotOpc b .L
  if o = 0 then m
  else
    let n := op.ag.toNat
    let known := !m.fromData [.gb n, .gi n, .gl n]
    let ar := if known then areaOf (m.x.ea 0 op (sizeOf o)) else .loc
    let far := v.variant * 2
    let ok := match bankOf ar with
      | some k => v.img.tokens.any (fun t => grants t k v.logical (c + 1))
      | none => true
    let isPort := match ar with
      | .port _ => true
      | _ => false
    let m1 := (m.note 0x15 (!m.fromData (genPlaces m.x n) && badGen m.x n)).note (if isPort then 0x16 else 0x17) (!ok)
    let m2 := if o < 8 then
        (List.range (if o = 5 then 4 else if o = 4 then 2 else 1)).foldl (fun t i =>
          t.send (c + loadLat v.variant ar) (.x (op.xreg.toNat + i)) 0 true) m1
      else match ar with
        | .loc => { m1 with last := max m1.last (c + 2) }
        | .state _ => { m1 with last := max m1.last (c + 3 + far) }
        | .port sm =>
          let w := if sm || o != 11 then m1.words else m1.words + 1
          ({ m1 with words := w, last := max m1.last (c + 2 + far) }).note 0x16 (1024 < w)
        | _ => m1
    if op.post then m2.send (c + 1) (.gi n) (walkIndex 0 (tget 0#2 m.x.gd n).toNat (tget 0#16 m.x.gi n).toNat
      (tget 1#16 m.x.gl n).toNat (sgn 16 (tget 0#16 m.x.gm n).toNat)) (m.fromData [.gi n, .gl n, .gm n]) else m2

/-- A program is simulated from a cycle on, one bundle a cycle, to its END; without END by SLOT_END it fails 0x18 (R221, R226, R243). -/
def Sim.go (v : SimEnv) (prog : List (BitVec 128)) : Nat → Nat → Sim → Sim
  | 0, _, m => m.note 0x18 true
  | fuel + 1, c, m0 =>
    let m := m0.settle c
    match prog[m.ctl.1]? with
    | none => m.note 0x18 true
    | some w =>
      let b := w.toNat
      let early := (readsOf b).any (fun d => counted d && m.fly.any (fun f => f.2.1 = d))
        || (readsOf b).any (fun d => match d with
          | .ar _ => m.fly.any (fun f => f.2.1 = d)
          | _ => false)
      let m1 := ((((m.note 0x13 early).stepL v c b).stepA v c b).stepM c b).stepX c b
      if slotOpc b .C = 5 then m1.note 0x18 (v.img.slotEnd < c || v.img.slotEnd < m1.last)
      else Sim.go v prog fuel (c + 1) { m1 with ctl := ctlStep (fld b 112 16) m1.ctl }

/-- The failed checks of one logical engine's program: reason and bundle. -/
def simulate (v : SimEnv) : List (Nat × Nat) :=
  (Sim.go v (programOf v.img v.logical) (v.img.slotEnd + 1) 2 {}).bad

/-- The grants of a token: first cycle and number of cycles (R244). -/
def grantsOf (t : BitVec 64) : List (Nat × Nat) :=
  let n := t.toNat
  (List.range (fld n 56 8 + 1)).map (fun j => (fld n 12 18 + j * fld n 42 14, fld n 30 12))

/-- The first cycle that two tokens of one bank both cover (R244). -/
def tokenClash (a b : BitVec 64) : Option Nat :=
  if fld a.toNat 0 7 = fld b.toNat 0 7 then
    ((grantsOf a).flatMap (fun x => ((grantsOf b).filter (fun y => x.1 < y.1 + y.2 && y.1 < x.1 + x.2)).map (fun y => max x.1 y.1))).min?
  else none

/-- A token is malformed (R244). -/
def badToken (t : BitVec 64) : Bool :=
  let n := t.toNat
  68 < fld n 0 7 || 29 < fld n 7 5 || fld n 30 12 = 0 || (0 < fld n 56 8 && fld n 42 14 < fld n 30 12)

/-- The first failure of a token table: its logical engine, and the cycle of a clash or the START of a malformed token (R240, R244). -/
def tokensBad (ts : List (BitVec 64)) : Option (Nat × Nat) :=
  (ts.zipIdx).findSome? (fun a =>
    if badToken a.1 then some (fld a.1.toNat 7 5, fld a.1.toNat 12 18)
    else (ts.drop (a.2 + 1)).findSome? (fun b => (tokenClash a.1 b).map (fun c => (fld a.1.toNat 7 5, c))))

end Sys2Proof.Machine
end

