-- ==== Sys2Proof/Machine/Validate.lean ====
section
/-! DEFINITION. Authentication and validation of a schedule set, and SCHED_LOAD_DONE (R34, R235 to R245, R251 to R253, R317, R479). -/

namespace Sys2Proof.Machine

open Sys2Proof

/-! ### The file (R236, R237, R251, R252, R317) -/

/-- A directory entry (R237). -/
structure DirEntry where
  /-- KIND: 0 mode block, 1 sector image. -/
  kind    : Nat
  /-- MODE. -/
  mode    : Nat
  /-- SECTOR. -/
  sector  : Nat
  /-- VARIANT. -/
  variant : Nat
  /-- A reserved bit is set. -/
  rsv     : Bool
  /-- OFFSET. -/
  off     : Nat
  /-- LENGTH. -/
  len     : Nat
  deriving DecidableEq, Repr

/-- The directory of a file (R236, R237). -/
def dirOf (f : List Byte) : List DirEntry :=
  (List.range (leAt f 22 2)).map (fun i =>
    let n := leAt f (512 + 16 * i) 16
    { kind := fld n 0 2, mode := fld n 2 4, sector := fld n 6 3, variant := fld n 9 2
      rsv := fld n 11 21 != 0 || fld n 96 32 != 0, off := fld n 32 32, len := fld n 64 32 })

/-- The bytes of a part. -/
def partOf (f : List Byte) (d : DirEntry) : List Byte :=
  (f.drop d.off).take d.len

/-- A listen entry from its 16 bytes (R252). -/
def listenOf (n : Nat) : Listen :=
  { mode := fld n 0 4, column := fld n 4 12, partner := BitVec.ofNat 16 (fld n 16 16), sig := fld n 32 4
    seed := BitVec.ofNat 32 (fld n 64 32), delay := sfld n 96 32 }

/-- A Ridge slot entry from its 16 bytes (R317). -/
def ridgeOf (n : Nat) : RidgeSlot :=
  { port := fld n 0 2, mode := fld n 2 4, allCol := bitN n 6, column := fld n 7 12, start := fld n 19 18, len := fld n 37 12
    dest := BitVec.ofNat 16 (fld n 64 16) }

/-- The chain plan slice of a file (R236, R251, R252, R317). -/
def sliceOf (f : List Byte) : Slice :=
  let b := (f.drop (leAt f 24 4)).take (leAt f 28 4)
  let h := ofBytes (b.take 64)
  let l := fld h 164 8 + 1
  let hopBytes := (l + 31) / 32 * 16
  let lc := fld h 172 12
  let at_ := fun (off i : Nat) => leAt b (off + 16 * i) 16
  { planId := BitVec.ofNat 32 (fld h 0 32), device := BitVec.ofNat 16 (fld h 32 16), epoch := fld h 64 64
    seed := BitVec.ofNat 32 (fld h 128 32), sig := fld h 160 4
    hops := (List.range l).map (fun i => fld (leAt b (64 + i / 2) 1) (4 * (i % 2)) 4)
    listen := (List.range lc).map (fun i => listenOf (at_ (64 + hopBytes) i))
    ridge := (List.range (fld h 184 16 / 16)).map (fun i => ridgeOf (at_ (64 + hopBytes + 16 * lc) i)) }

/-- A set as the validator sees it: the file, its directory, and the contents of its parts. -/
structure SetFile where
  /-- The file. -/
  file   : List Byte
  /-- The directory. -/
  dir    : List DirEntry
  /-- The slice. -/
  slice  : Slice
  /-- Mode blocks in directory order. -/
  blocks : List (DirEntry × Option ModeBlock)
  /-- Sector images in directory order. -/
  images : List (DirEntry × Option SectorImage)

/-- A set read from a file. -/
def fileSet (f : List Byte) : SetFile :=
  let d := dirOf f
  { file := f, dir := d, slice := sliceOf f
    blocks := (d.filter (fun e => e.kind = 0)).map (fun e => (e, Config.modeBlockOf (partOf f e)))
    images := (d.filter (fun e => e.kind = 1)).map (fun e => (e, Config.sectorImageOf (partOf f e))) }

/-- Where a check fails: mode, sector, variant, logical engine, bundle or cycle (R240, R243). -/
structure Pos where
  /-- Mode. -/
  mode    : Nat := 0
  /-- Sector. -/
  sector  : Nat := 0
  /-- Variant. -/
  variant : Nat := 0
  /-- Logical engine. -/
  logical : Nat := 0
  /-- Bundle or cycle. -/
  place   : Nat := 0

/-- The position of a part. -/
def DirEntry.pos (d : DirEntry) (l : Nat := 0) (place : Nat := 0) : Pos :=
  { mode := d.mode, sector := d.sector, variant := d.variant, logical := l, place := place }

/-- A check of the whole set. -/
def whole (bad : Bool) : Option Pos :=
  if bad then some {} else none

/-! ### Checks 0x01 to 0x04 (R34, R236, R237, R243) -/

/-- 0x01; `ifl`: the running interface level. -/
def check01 (ifl : Nat) (x : SetFile) : Option Pos :=
  let f := x.file
  let n := leAt f 16 4
  whole (leAt f 0 4 != 0x5A534854 || leAt f 4 2 != 1 || leAt f 7 1 != 0x41 || n != f.length || n % 16 != 0 || 0x400000 < n
    || ifl < leAt f 6 1 || bitN (leAt f 20 1) 3 || leAt f 96 416 != 0)

/-- 0x02. -/
def check02 (x : SetFile) : Option Pos :=
  whole (!Config.libIds.contains (BitVec.ofNat 32 (leAt x.file 12 4)))

/-- Two parts overlap. -/
def overlap (a b : Nat × Nat) : Bool :=
  a.1 < b.1 + b.2 && b.1 < a.1 + a.2

/-- 0x03. -/
def check03 (x : SetFile) : Option Pos :=
  let n := leAt x.file 22 2
  let lo := 512 + 16 * n
  let hi := x.file.length - 64
  let so := leAt x.file 24 4
  let sl := leAt x.file 28 4
  let inside := fun (o l : Nat) => lo ≤ o && o + l ≤ hi && o % 16 = 0
  if n = 0 || 200 < n || !inside so sl then some {}
  else
    let bad := (x.dir.zipIdx).find? (fun d =>
      let e := d.1
      let before := x.dir.take d.2
      1 < e.kind || 2 < e.variant || e.rsv || 8 ≤ e.mode || (e.kind = 0 && (e.sector != 0 || e.variant != 0))
        || !inside e.off e.len || overlap (e.off, e.len) (so, sl)
        || before.any (fun b => overlap (e.off, e.len) (b.off, b.len)
          || (b.kind = e.kind && b.mode = e.mode && b.sector = e.sector && b.variant = e.variant)))
    match bad with
    | some d => some d.1.pos
    | none => whole ((List.range 8).any (fun m => bitN (leAt x.file 21 1) m != x.dir.any (fun e => e.kind = 0 && e.mode = m)))

/-- 0x04: 60 s ÷ (sweep period × facets) is at most 12,000 rpm (R34). -/
def check04 (x : SetFile) : Option Pos :=
  let facets := fld (leAt x.file 20 1) 4 4
  whole (match sweepTicks (fld (leAt x.file 20 1) 0 3) with
    | none => true
    | some t => facets < 3 || 12 < facets || 12000 * (t * facets) < sec 60)

/-! ### Checks of mode blocks, 0x05 to 0x0B (R40, R62, R63, R94, R128, R141, R151, R163, R164, R188) -/

/-- The first part of a set, in directory order, that fails a check, where it fails: a mode block by `blk`, a sector image by `img`. -/
def onParts (x : SetFile) (blk : DirEntry → ModeBlock → Option Pos) (img : DirEntry → SectorImage → Option Pos) : Option Pos :=
  x.dir.findSome? (fun e =>
    if e.kind = 0 then x.blocks.findSome? (fun b => if b.1 = e then b.2.bind (blk e) else none)
    else x.images.findSome? (fun b => if b.1 = e then b.2.bind (img e) else none))

/-- The position of a part that fails a check. -/
def DirEntry.bad (d : DirEntry) (b : Bool) : Option Pos :=
  if b then some d.pos else none

/-- The first mode block of a set that fails a check. -/
def onBlocks (x : SetFile) (bad : DirEntry → ModeBlock → Bool) : Option Pos :=
  onParts x (fun d m => d.bad (bad d m)) (fun _ _ => none)

/-- The first sector image of a set that fails a check. -/
def onImages (x : SetFile) (bad : DirEntry → SectorImage → Bool) : Option Pos :=
  onParts x (fun _ _ => none) (fun d i => d.bad (bad d i))

/-- 0x05; a block that cannot be read has no parameters of R40. -/
def check05 (x : SetFile) : Option Pos :=
  match x.blocks.find? (fun b => match b.2 with
    | some m => some m.params != modeParams b.1.mode || m.plan.isEmpty || 64 < m.plan.length
        || (parOf b.1.mode).columns % m.plan.length != 0
    | none => true) with
  | some b => some b.1.pos
  | none => none

/-- A threshold pair outside R62. -/
def thrBad (tl th : Nat) : Bool :=
  tl < 8 || 752 < tl || th < tl + 16 || 768 < th

/-- 0x06. -/
def check06 (x : SetFile) : Option Pos :=
  onParts x
    (fun d m => d.bad (thrBad m.tl m.th || (List.range 8).any (fun k =>
      bitN (parOf d.mode).sectors.toNat k && (tget 0 m.pdMin k < 1 || 255 < tget 0 m.pdMin k))))
    (fun d i => d.bad ((List.range 128).any (fun c =>
      let t := tget {} i.thr c
      thrBad t.tl t.th || 255 < t.kl || 255 < t.kh)))

/-- 0x07. -/
def check07 (x : SetFile) : Option Pos :=
  onImages x (fun _ i => !i.params.ok)

/-- The strings that a mode block names in its plan, its proof table or its frame tables. -/
def stringsOf (m : ModeBlock) : List Nat :=
  (List.range 64).filter (fun i => m.proofs.any (fun p => p.str = i)
    || m.plan.any (fun c => c.frames.any (fun f => f.str = i) || c.slots.any (fun k => bitN k.fire.toNat i)))

/-- The signature codes that a mode can use (R142). -/
def sigsOf (x : Slice) (m : Nat) : List Nat :=
  if (parOf m).hopping then x.hops else [x.sig]

/-- 0x08. -/
def check08 (x : SetFile) : Option Pos :=
  onBlocks x (fun d m => (List.range 64).any (fun i =>
    let pw := tget 0 m.pw i
    let w := tget 0 m.proofW i
    pw < 64 || 176 < pw || pw % 16 != 0 || w < 224 || 384 < w || w % 16 != 0
      || (sigsOf x.slice d.mode).any (fun g => sigmaOf g < w + 128)
      || tget 0 m.pcost i * pw < tget 0 m.cost i * w || 65535 < tget 0 m.pcost i || 65535 < tget 0 m.cost i))

/-- The emitters that a string's shot under a pattern lights, by the patterns of the mode block (log entry 131). -/
def litPattern (m : ModeBlock) (i p : Nat) : Nat :=
  0xFFFF - (tget 0xFFFF#16 m.pats (64 * i + p)).toNat

/-- The proofs of a block that light an emitter. -/
def proofsOf (m : ModeBlock) (i k : Nat) : List ProofPlan :=
  m.proofs.filter (fun q => q.str = i && bitN (litPattern m i q.pat) k)

/-- The first column after `n` in which a proof fires. -/
def nextProof (q : ProofPlan) (n : Nat) : Nat :=
  n + 1 + (q.phase + q.period - (n + 1) % q.period) % q.period

/-- The start of the slot of a proof fired in column `n`, ticks after the epoch. -/
def proofAt (q : ProofPlan) (p : ModeParams) (n : Nat) : Nat :=
  colStart p 0 n + q.slot * p.spacing

/-- Proofs of one emitter lie at most 500 ms apart: after each of them another of the list follows in that time (R164). -/
def proofsClose (p : ModeParams) (l : List ProofPlan) : Bool :=
  let whole := l.foldl (fun t q => Nat.lcm t q.period) p.lengths.length
  !l.isEmpty && l.all (fun q => (List.range (whole / q.period)).all (fun j =>
    let n := q.phase + j * q.period
    l.any (fun r => proofAt r p (nextProof r n) ≤ proofAt q p n + ms 500 || (proofAt q p n < proofAt r p n && n % r.period = r.phase))))

/-- 0x09: a proof lies in the coarse pass, its DIAG read follows within 1 ms, and every emitter that the block lights is lit by proofs at
most 500 ms apart (R164). -/
def check09 (x : SetFile) : Option Pos :=
  onBlocks x (fun d m =>
    let p := parOf d.mode
    let lit := fun (i k : Nat) => !(proofsOf m i k).isEmpty || m.plan.any (fun c => c.slots.any (fun z => bitN z.fire.toNat i
      && bitN (litPattern m i (tget 0 z.pat i)) k))
    m.proofs.any (fun q => p.coarse ≤ q.slot || q.period = 0 || q.period ≤ q.phase || q.diag = 0 || ms 1 < q.diag || 64 ≤ q.str
        || 64 ≤ q.pat)
      || (List.range 64).any (fun i => (List.range 16).any (fun k => lit i k && !proofsClose p (proofsOf m i k))))

/-- A READ with its reply window meets another on its line: it starts in it, or the other in it (R151). -/
def readsMeet (a b : Int) : Bool :=
  a < b + readTicks && b < a + readTicks

/-- The fields of a SHOT frame on a line: up to the highest string of the line that the block names. DESIGN CHOICE (log entry 139): a set
does not say which heads are fitted. -/
def fieldsOn (m : ModeBlock) (line : Nat) : Nat :=
  ((stringsOf m).filter (fun i => i / 8 = line)).foldl (fun n i => max n (i % 8 + 1)) 0

/-- The columns within 1 ms of one: as many as a DIAG read can lie behind its proof. -/
def reach (p : ModeParams) : Nat :=
  ms 1 / (engCk * shortCol p) + 2

/-- A READ of a line at `t`, ticks after the epoch, meets the SHOT frame of a slot of the columns from `n` on; a SHOT frame goes out on
every line, with or without a field (R148, R151). -/
def shotClash (p : ModeParams) (fields n : Nat) (t : Int) : Bool :=
  let len : Int := (50 + 45 * fields) * ticksPerNs
  (List.range (reach p)).any (fun j => (List.range p.shots).any (fun k =>
    let s : Int := (colStart p 0 (n + j) + k * p.spacing : Nat) - 600 * ticksPerNs
    t < s + len + 20 * ticksPerNs && s < t + readTicks))

/-- The READs of the frame table of column `n` on a line, ticks after the epoch. -/
def tableReads (p : ModeParams) (m : ModeBlock) (line n : Nat) : List Int :=
  ((m.plan.getD (n % max 1 m.plan.length) default).frames.filter (fun f => f.line = line)).map
    (fun f => ((colStart p 0 n + f.start : Nat) : Int))

/-- The DIAG read of a proof fired in column `n` meets a SHOT frame, a READ of a frame table (of column `n` − 1 on), or the DIAG read of
another proof (R151). -/
def diagClash (p : ModeParams) (m : ModeBlock) (q : ProofPlan) (n : Nat) : Bool :=
  let t : Int := (proofAt q p n + q.diag : Nat)
  let line := q.str / 8
  shotClash p (fieldsOn m line) n t
    || (List.range (reach p + 1)).any (fun j => 1 ≤ n + j && (tableReads p m line (n + j - 1)).any (readsMeet t))
    || (m.proofs.filter (fun r => r.str / 8 = line)).any (fun r =>
      (List.range (2 * reach p)).any (fun j => reach p ≤ n + j && (n + j - reach p) % r.period = r.phase
        && (r != q || n + j - reach p != n) && readsMeet t ((proofAt r p (n + j - reach p) + r.diag : Nat) : Int)))

/-- A READ of the frame table of column `n` stands on another line than its string's, or meets a SHOT frame, a later READ of the table or
one of the columns after it: a reply window can cross the boundary (R148, R151). -/
def tableClash (p : ModeParams) (m : ModeBlock) (n : Nat) : Bool :=
  let c := m.plan.getD (n % max 1 m.plan.length) default
  (c.frames.zipIdx).any (fun a =>
    let t : Int := (colStart p 0 n + a.1.start : Nat)
    8 ≤ a.1.line || a.1.str / 8 != a.1.line || shotClash p (fieldsOn m a.1.line) n t
      || (c.frames.drop (a.2 + 1)).any (fun b => a.1.line = b.line && readsMeet a.1.start b.start)
      || (List.range (reach p)).any (fun j => (tableReads p m a.1.line (n + j + 1)).any (readsMeet t)))

/-- 0x0A: every READ of a frame table, and every DIAG read, in each column in which it can stand. -/
def check0A (x : SetFile) : Option Pos :=
  onBlocks x (fun d m =>
    let p := parOf d.mode
    let cols := Nat.lcm m.plan.length p.lengths.length
    (List.range cols).any (tableClash p m)
    || m.proofs.any (fun q =>
      let all := (m.proofs.filter (fun r => r.str / 8 = q.str / 8)).foldl (fun t r => Nat.lcm t r.period) (Nat.lcm cols q.period)
      (List.range (all / max 1 q.period)).any (fun j => diagClash p m q (all + q.phase + j * q.period))))

/-- 0x0B: 10° mechanical (R243). -/
def check0B (x : SetFile) : Option Pos :=
  onBlocks x (fun _ m => m.targets.any (fun t => t < -327680 || 327680 < t))

/-! ### Checks of the programs, 0x10 to 0x19 (R226, R231, R235, R243 to R245) -/

/-- The lowest logical engine that runs a program of the pool. -/
def firstUser (i : SectorImage) (p : Nat) : Nat :=
  (i.map.findIdx? (fun x => x = p)).getD 0

/-- The first failure of a check on the programs of one image: logical engine and bundle. -/
def programsBad (bad : SectorImage → List (BitVec 128) → Option Nat) (d : DirEntry) (i : SectorImage) : Option Pos :=
  (i.programs.zipIdx).findSome? (fun p => (bad i p.1).map (fun n => d.pos (firstUser i p.2) n))

/-- The first failure of a check on the programs of the images, in directory order. -/
def onPrograms (x : SetFile) (bad : SectorImage → List (BitVec 128) → Option Nat) : Option Pos :=
  onParts x (fun _ _ => none) (programsBad bad)

/-- 0x10, image by image in directory order; an image that cannot be read holds no legal bundle. -/
def check10 (x : SetFile) : Option Pos :=
  x.images.findSome? (fun b => match b.2 with
    | some i => programsBad (fun _ p => p.findIdx? badBundle) b.1 i
    | none => some b.1.pos)

/-- 0x11. -/
def check11 (x : SetFile) : Option Pos :=
  onPrograms x (fun _ p => if p.isEmpty || 256 < p.length then some 256 else badLoops p 0 false false)

/-- The first failure of one reason in the simulations of an image, by logical engine; one whose map entry names no program of the pool has
none to simulate, and fails 0x19. -/
def runBad (reason : Nat) (d : DirEntry) (i : SectorImage) : Option Pos :=
  ((List.range 30).filter (fun l => (i.map[l]?).any (fun p => p < i.programs.length))).findSome? (fun l =>
    ((simulate { img := i, sector := d.sector, variant := d.variant, logical := l }).find? (fun f => f.1 = reason)).map
      (fun f => d.pos l f.2))

/-- The first failure of one reason in the simulations of the images. -/
def onRuns (x : SetFile) (reason : Nat) : Option Pos :=
  onParts x (fun _ _ => none) (runBad reason)

/-- 0x17. -/
def check17 (x : SetFile) : Option Pos :=
  onParts x (fun _ _ => none) (fun d i => ((tokensBad i.tokens).map (fun t => d.pos t.1 t.2)).or (runBad 0x17 d i))

/-- 0x18. -/
def check18 (x : SetFile) : Option Pos :=
  onParts x (fun _ _ => none) (fun d i =>
    if 19 * shortCol (parOf d.mode) / 20 < i.slotEnd then some (d.pos 0 i.slotEnd) else runBad 0x18 d i)

/-- The first variant of a sector that a set lacks (R250). -/
def lacks (x : SetFile) (mode sector : Nat) : Option Pos :=
  ((List.range 3).find? (fun v => !x.images.any (fun b => b.1.mode = mode && b.1.sector = sector && b.1.variant = v))).map
    (fun v => { mode := mode, sector := sector, variant := v })

/-- 0x19: a sector of a mode of the set, or of an image, without one of its three variants, or an engine map outside its pool (R250). -/
def check19 (x : SetFile) : Option Pos :=
  onParts x
    (fun d _ => (List.range 8).findSome? (fun k => if bitN (parOf d.mode).sectors.toNat k then lacks x d.mode k else none))
    (fun d i => (lacks x d.mode d.sector).or
      (if i.programs.isEmpty || 30 < i.programs.length || i.map.length != 30 then some d.pos
       else (i.map.findIdx? (fun p => i.programs.length ≤ p)).map (fun l => d.pos l)))

/-! ### Check 0x20: the slice (R251 to R253, R317) -/

/-- A Ridge slot entry is open in the same columns as another. -/
def sameColumns (a b : RidgeSlot) : Bool :=
  a.mode = b.mode && (a.allCol || b.allCol || a.column = b.column)

/-- A listen entry that R252 or R253 refuses. -/
def badListen (s : Slice) (e : Listen) : Bool :=
  s.device = 0xFFFF || 7 ≤ e.mode || (parOf e.mode).columns ≤ e.column || e.partner = s.device

/-- A Ridge slot entry that R317 refuses on its own. -/
def badSlotEntry (s : Slice) (e : RidgeSlot) : Bool :=
  8 ≤ e.mode || e.len = 0 || shortCol (parOf e.mode) < e.start + e.len || (e.dest = s.device && e.dest != 0xFFFF)

/-- 0x20: the slice's head, then its entries in order; an entry's mode, column or start is the position. DESIGN CHOICE (log entry 140):
R240 names no position in the slice. -/
def check20 (x : SetFile) : Option Pos :=
  let s := x.slice
  let h := ofBytes ((x.file.drop (leAt x.file 24 4)).take 64)
  let l := s.hops.length
  let badHead := s.epoch % 80 != 0 || fld h 48 16 != 0 || fld h 200 312 != 0 || l < 16
    || leAt x.file 28 4 < 64 + (l + 31) / 32 * 16 + 16 * s.listen.length + fld h 184 16 || fld h 184 16 % 16 != 0
    || (parOf 6).columns % max 1 l != 0
  let listen := (s.listen.zipIdx).find? (fun a => badListen s a.1
    || (s.listen.drop (a.2 + 1)).any (fun b => a.1.mode = b.mode && a.1.column = b.column))
  let ridge := (s.ridge.zipIdx).find? (fun a => badSlotEntry s a.1
    || (s.ridge.drop (a.2 + 1)).any (fun b => a.1.port = b.port && sameColumns a.1 b
      && overlap (a.1.start, a.1.len) (b.start, b.len)))
  if badHead then some {}
  else (listen.map (fun a => ({ mode := a.1.mode, place := a.1.column } : Pos))).or
    (ridge.map (fun a => ({ mode := a.1.mode, place := a.1.start } : Pos)))

/-- The checks in ascending order of reason code; the first failure rejects the whole set (R243); `ifl`: the
running interface level. -/
def validate (ifl : Nat) (x : SetFile) : Option (Nat × Pos) :=
  let checks : List (Nat × (Unit → Option Pos)) :=
    [(0x01, fun _ => check01 ifl x), (0x02, fun _ => check02 x), (0x03, fun _ => check03 x), (0x04, fun _ => check04 x),
     (0x05, fun _ => check05 x), (0x06, fun _ => check06 x), (0x07, fun _ => check07 x), (0x08, fun _ => check08 x),
     (0x09, fun _ => check09 x), (0x0A, fun _ => check0A x), (0x0B, fun _ => check0B x), (0x10, fun _ => check10 x),
     (0x11, fun _ => check11 x), (0x12, fun _ => onRuns x 0x12), (0x13, fun _ => onRuns x 0x13), (0x14, fun _ => onRuns x 0x14),
     (0x15, fun _ => onRuns x 0x15), (0x16, fun _ => onRuns x 0x16), (0x17, fun _ => check17 x), (0x18, fun _ => check18 x),
     (0x19, fun _ => check19 x), (0x20, fun _ => check20 x)]
  checks.findSome? (fun c => (c.2 ()).map (fun p => (c.1, p)))

/-! ### The end of a load (R240, R241, R373) -/

/-- EV_SCHED_LOADED (R373). -/
def State.sayLoaded (s : State) (result : Nat) (p : Pos) (setId : Nat) : State :=
  ({ s with sched.result := result }).raise 0x0A01 (bytesOf 1 result ++ bytesOf 1 p.mode ++ bytesOf 1 p.sector
    ++ bytesOf 1 p.variant ++ bytesOf 1 p.logical ++ zeros 3 ++ bytesOf 4 p.place ++ bytesOf 4 setId)

/-- An accepted set comes into force (R238, R241). -/
def State.takeSet (s : State) (x : SetFile) : State :=
  let f := x.file
  { s with
    sched.file := f
    sched.modes := x.blocks.filterMap (fun b => b.2.map (fun m => (b.1.mode, m)))
    sched.images := x.images.filterMap (fun b => b.2.map (fun i => (storeIdx b.1.mode b.1.sector b.1.variant, i)))
    sched.slice := some x.slice, sched.setId := BitVec.ofNat 32 (leAt f 8 4), sched.libId := BitVec.ofNat 32 (leAt f 12 4)
    sched.sweep := (sweepTicks (fld (leAt f 20 1) 0 3)).getD 0, sched.facets := fld (leAt f 20 1) 4 4 }

/-- A set in force is written to flash where PERSIST asks for it; EV_FLASH_WRITTEN stands just before EV_SCHED_LOADED (R240, R426). -/
def State.persistSet (s : State) (l : Load) : State :=
  if !l.persist || !s.flash.ok then s
  else
    ({ s with flash.sched := if s.flashAllowed then some l.file else none }).flashWritten 0x0A01 s.flashAllowed l.tag.toNat l.entry

/-- SCHED_LOAD_DONE: a load whose file has arrived ends with its result (R239 to R243). -/
def execSchedLoadDone (dt : Nat) (s : State) : Res :=
  run dt s (fun s =>
    match s.sched.load with
    | none => s
    | some l =>
      if !l.whole then s
      else
        let s1 := s.endLoad
        let id := leAt l.file 8 4
        if !(keyKnown s.otp.sched l.file && signedOk l.file) then s1.sayLoaded 0xFF {} id
        else
          let x := fileSet l.file
          match validate s.power.boot.ifl x with
          | some (r, p) => s1.sayLoaded r p id
          | none => ((s1.takeSet x).persistSet l).sayLoaded 0 {} id)

end Sys2Proof.Machine
end

