-- ==== Sys2Proof/Machine/Dispatch.lean ====
section
/-! DEFINITION. Which meaning each command has: one arm for each row of the opcode table, in the table's order. -/

namespace Sys2Proof.Machine

open Sys2Proof

/-- The effect of a command on everything but the queue. -/
def exec (i : Instr) (s : State) : Host.Outcome State Fault Refusal :=
  match i with
  | .devIdentify dt r => Sys2Proof.Machine.execDevIdentify dt r s
  | .devStatus dt r => Sys2Proof.Machine.execDevStatus dt r s
  | .devReset dt r => Sys2Proof.Machine.execDevReset dt r s
  | .modeStart dt r => Sys2Proof.Machine.execModeStart dt r s
  | .modeStop dt r => Sys2Proof.Machine.execModeStop dt r s
  | .modeSet dt r => Sys2Proof.Machine.execModeSet dt r s
  | .modeStatus dt r => Sys2Proof.Machine.execModeStatus dt r s
  | .serviceEnter dt r => Sys2Proof.Machine.execServiceEnter dt r s
  | .serviceExit dt r => Sys2Proof.Machine.execServiceExit dt r s
  | .serviceProof dt r => Sys2Proof.Machine.execServiceProof dt r s
  | .feConfig dt r => Sys2Proof.Machine.execFeConfig dt r s
  | .feTrim dt r => Sys2Proof.Machine.execFeTrim dt r s
  | .feStatus dt r => Sys2Proof.Machine.execFeStatus dt r s
  | .pointConfig dt r => Sys2Proof.Machine.execPointConfig dt r s
  | .pointStatus dt r => Sys2Proof.Machine.execPointStatus dt r s
  | .calLoad dt r => Sys2Proof.Machine.execCalLoad dt r s
  | .calStatus dt r => Sys2Proof.Machine.execCalStatus dt r s
  | .emitConfig dt r => Sys2Proof.Machine.execEmitConfig dt r s
  | .emitStatus dt r => Sys2Proof.Machine.execEmitStatus dt r s
  | .ledgerSet dt r => Sys2Proof.Machine.execLedgerSet dt r s
  | .ledgerStatus dt r => Sys2Proof.Machine.execLedgerStatus dt r s
  | .loopClose dt r => Sys2Proof.Machine.execLoopClose dt r s
  | .loopOpen dt r => Sys2Proof.Machine.execLoopOpen dt r s
  | .loopCoef dt r => Sys2Proof.Machine.execLoopCoef dt r s
  | .loopSet dt r => Sys2Proof.Machine.execLoopSet dt r s
  | .loopRepClear dt r => Sys2Proof.Machine.execLoopRepClear dt r s
  | .loopStatus dt r => Sys2Proof.Machine.execLoopStatus dt r s
  | .schedLoad dt r => Sys2Proof.Machine.execSchedLoad dt r s
  | .schedStatus dt r => Sys2Proof.Machine.execSchedStatus dt r s
  | .safeConfig dt r => Sys2Proof.Machine.execSafeConfig dt r s
  | .safeStatus dt r => Sys2Proof.Machine.execSafeStatus dt r s
  | .hkConfig dt r => Sys2Proof.Machine.execHkConfig dt r s
  | .hkSwitch dt r => Sys2Proof.Machine.execHkSwitch dt r s
  | .hkTherm dt r => Sys2Proof.Machine.execHkTherm dt r s
  | .hkUrgent dt r => Sys2Proof.Machine.execHkUrgent dt r s
  | .hkRead dt r => Sys2Proof.Machine.execHkRead dt r s
  | .pwrSet dt r => Sys2Proof.Machine.execPwrSet dt r s
  | .pwrStatus dt r => Sys2Proof.Machine.execPwrStatus dt r s
  | .ridgeLaneCfg dt r => Sys2Proof.Machine.execRidgeLaneCfg dt r s
  | .ridgeLaneTest dt r => Sys2Proof.Machine.execRidgeLaneTest dt r s
  | .ridgeLaneStatus dt r => Sys2Proof.Machine.execRidgeLaneStatus dt r s
  | .chainConfig dt r => Sys2Proof.Machine.execChainConfig dt r s
  | .chainDiscover dt r => Sys2Proof.Machine.execChainDiscover dt r s
  | .chainTimeSet dt r => Sys2Proof.Machine.execChainTimeSet dt r s
  | .chainStatus dt r => Sys2Proof.Machine.execChainStatus dt r s
  | .hostNetConfig dt r => Sys2Proof.Machine.execHostNetConfig dt r s
  | .hostStatus dt r => Sys2Proof.Machine.execHostStatus dt r s
  | .semClaim dt r => Sys2Proof.Machine.execSemClaim dt r s
  | .semRelease dt r => Sys2Proof.Machine.execSemRelease dt r s
  | .semLease dt r => Sys2Proof.Machine.execSemLease dt r s
  | .semStatus dt r => Sys2Proof.Machine.execSemStatus dt r s
  | .keyRotate dt r => Sys2Proof.Machine.execKeyRotate dt r s
  | .keyProvision dt r => Sys2Proof.Machine.execKeyProvision dt r s
  | .keySchedDigest dt r => Sys2Proof.Machine.execKeySchedDigest dt r s
  | .keyStatus dt r => Sys2Proof.Machine.execKeyStatus dt r s
  | .fwWrite dt r => Sys2Proof.Machine.execFwWrite dt r s
  | .fwCommit dt r => Sys2Proof.Machine.execFwCommit dt r s
  | .fwStatus dt r => Sys2Proof.Machine.execFwStatus dt r s
  | .monWrite dt r => Sys2Proof.Machine.execMonWrite dt r s
  | .monRead dt r => Sys2Proof.Machine.execMonRead dt r s
  | .faultLog dt r => Sys2Proof.Machine.execFaultLog dt r s
  | .faultUnits dt r => Sys2Proof.Machine.execFaultUnits dt r s
  | .healthConfig dt r => Sys2Proof.Machine.execHealthConfig dt r s
  | .healthRead dt r => Sys2Proof.Machine.execHealthRead dt r s
  | .histDump dt r => Sys2Proof.Machine.execHistDump dt r s
  | .histDumpComplete dt p m => Sys2Proof.Machine.execHistDumpComplete dt p m s
  | .doorbell dt p m => Sys2Proof.Machine.execDoorbell dt p m s
  | .mailboxTake dt p m din => Sys2Proof.Machine.execMailboxTake dt p m din s
  | .ethCommandDatagram dt p src bytes => Sys2Proof.Machine.execEthCommandDatagram dt p src bytes s
  | .commandTimeout dt p m => Sys2Proof.Machine.execCommandTimeout dt p m s
  | .semReadClaim dt p n => Sys2Proof.Machine.execSemReadClaim dt p n s
  | .semWriteRelease dt p n w => Sys2Proof.Machine.execSemWriteRelease dt p n w s
  | .semLeaseExpiry dt n => Sys2Proof.Machine.execSemLeaseExpiry dt n s
  | .lockoutEnd dt who => Sys2Proof.Machine.execLockoutEnd dt who s
  | .ctLatch dt p => Sys2Proof.Machine.execCtLatch dt p s
  | .ringEnable dt p k w => Sys2Proof.Machine.execRingEnable dt p k w s
  | .ringDisable dt p k w => Sys2Proof.Machine.execRingDisable dt p k w s
  | .monCommit dt p w => Sys2Proof.Machine.execMonCommit dt p w s
  | .bootGo dt p image => Sys2Proof.Machine.execBootGo dt p image s
  | .bootDatagram dt p src bytes => Sys2Proof.Machine.execBootDatagram dt p src bytes s
  | .registerWrite dt p off w => Sys2Proof.Machine.execRegisterWrite dt p off w s
  | .hostSessionEnd dt p why => Sys2Proof.Machine.execHostSessionEnd dt p why s
  | .hostPerst dt p => Sys2Proof.Machine.execHostPerst dt p s
  | .hostLinkDown dt p => Sys2Proof.Machine.execHostLinkDown dt p s
  | .hostAerFatal dt p => Sys2Proof.Machine.execHostAerFatal dt p s
  | .hostDmaTimeout dt p => Sys2Proof.Machine.execHostDmaTimeout dt p s
  | .arpRequest dt p senderIp senderMac targetIp => Sys2Proof.Machine.execArpRequest dt p senderIp senderMac targetIp s
  | .arpCacheExpiry dt p ip => Sys2Proof.Machine.execArpCacheExpiry dt p ip s
  | .icmpEcho dt p srcIp dstIp idSeq data => Sys2Proof.Machine.execIcmpEcho dt p srcIp dstIp idSeq data s
  | .frameDiscard dt p => Sys2Proof.Machine.execFrameDiscard dt p s
  | .ptpSync dt p m => Sys2Proof.Machine.execPtpSync dt p m s
  | .ptpFollowUp dt p master seq t1 => Sys2Proof.Machine.execPtpFollowUp dt p master seq t1 s
  | .ptpAnnounce dt p m => Sys2Proof.Machine.execPtpAnnounce dt p m s
  | .ptpDelayReq dt p => Sys2Proof.Machine.execPtpDelayReq dt p s
  | .ptpDelayResp dt p master seq t4 logMinInterval => Sys2Proof.Machine.execPtpDelayResp dt p master seq t4 logMinInterval s
  | .timeMapTimeout dt p => Sys2Proof.Machine.execTimeMapTimeout dt p s
  | .timeMapReport dt p => Sys2Proof.Machine.execTimeMapReport dt p s
  | .eventDatagram dt p => Sys2Proof.Machine.execEventDatagram dt p s
  | .pointInterrupt dt p => Sys2Proof.Machine.execPointInterrupt dt p s
  | .columnDelivery dt => Sys2Proof.Machine.execColumnDelivery dt s
  | .columnBoundary dt gateTestOk badOwner => Sys2Proof.Machine.execColumnBoundary dt gateTestOk badOwner s
  | .serviceRecordAppend dt => Sys2Proof.Machine.execServiceRecordAppend dt s
  | .writePipelineCheck dt notEmpty active => Sys2Proof.Machine.execWritePipelineCheck dt notEmpty active s
  | .decisionInstant dt obs => Sys2Proof.Machine.execDecisionInstant dt obs s
  | .shotFrame dt => Sys2Proof.Machine.execShotFrame dt s
  | .ledgerDecision dt => Sys2Proof.Machine.execLedgerDecision dt s
  | .shotInstant dt => Sys2Proof.Machine.execShotInstant dt s
  | .esnsCheck dt sensed => Sys2Proof.Machine.execEsnsCheck dt sensed s
  | .uncommandedCurrent dt str => Sys2Proof.Machine.execUncommandedCurrent dt str s
  | .gateReadback dt str => Sys2Proof.Machine.execGateReadback dt str s
  | .holdFrame dt line => Sys2Proof.Machine.execHoldFrame dt line s
  | .corniceRead dt str reg => Sys2Proof.Machine.execCorniceRead dt str reg s
  | .corniceWrite dt str reg data => Sys2Proof.Machine.execCorniceWrite dt str reg data s
  | .corniceReply dt line reply => Sys2Proof.Machine.execCorniceReply dt line reply s
  | .corniceNoReply dt line => Sys2Proof.Machine.execCorniceNoReply dt line s
  | .corniceLineFault dt line => Sys2Proof.Machine.execCorniceLineFault dt line s
  | .serviceProofShot dt => Sys2Proof.Machine.execServiceProofShot dt s
  | .refillTick dt observed eccBad => Sys2Proof.Machine.execRefillTick dt observed eccBad s
  | .diagnosisAgeExpired dt em => Sys2Proof.Machine.execDiagnosisAgeExpired dt em s
  | .reservoirComparator dt str volts => Sys2Proof.Machine.execReservoirComparator dt str volts s
  | .chargeTimeout dt str => Sys2Proof.Machine.execChargeTimeout dt str s
  | .comparatorCrossing dt ch path edge stage ecc => Sys2Proof.Machine.execComparatorCrossing dt ch path edge stage ecc s
  | .preDetector dt => Sys2Proof.Machine.execPreDetector dt s
  | .calTableCompute dt ch path => Sys2Proof.Machine.execCalTableCompute dt ch path s
  | .tileDllUnlock dt tile => Sys2Proof.Machine.execTileDllUnlock dt tile s
  | .engineRunStart dt => Sys2Proof.Machine.execEngineRunStart dt s
  | .engNop dt e slot ecc => Sys2Proof.Machine.execEngNop dt e slot ecc s
  | .engLdb dt e op ecc => Sys2Proof.Machine.execEngLdb dt e op ecc s
  | .engLdh dt e op ecc => Sys2Proof.Machine.execEngLdh dt e op ecc s
  | .engLdw dt e op ecc => Sys2Proof.Machine.execEngLdw dt e op ecc s
  | .engLdd dt e op ecc => Sys2Proof.Machine.execEngLdd dt e op ecc s
  | .engLdb4 dt e op ecc => Sys2Proof.Machine.execEngLdb4 dt e op ecc s
  | .engStb dt e op => Sys2Proof.Machine.execEngStb dt e op s
  | .engSth dt e op => Sys2Proof.Machine.execEngSth dt e op s
  | .engStw dt e op => Sys2Proof.Machine.execEngStw dt e op s
  | .engStd dt e op => Sys2Proof.Machine.execEngStd dt e op s
  | .engAdd dt e op => Sys2Proof.Machine.execEngAdd dt e op s
  | .engAdds dt e op => Sys2Proof.Machine.execEngAdds dt e op s
  | .engSub dt e op => Sys2Proof.Machine.execEngSub dt e op s
  | .engSubs dt e op => Sys2Proof.Machine.execEngSubs dt e op s
  | .engAnd dt e op => Sys2Proof.Machine.execEngAnd dt e op s
  | .engOr dt e op => Sys2Proof.Machine.execEngOr dt e op s
  | .engXor dt e op => Sys2Proof.Machine.execEngXor dt e op s
  | .engShl dt e op => Sys2Proof.Machine.execEngShl dt e op s
  | .engShr dt e op => Sys2Proof.Machine.execEngShr dt e op s
  | .engAsr dt e op => Sys2Proof.Machine.execEngAsr dt e op s
  | .engAsrr dt e op => Sys2Proof.Machine.execEngAsrr dt e op s
  | .engMin dt e op => Sys2Proof.Machine.execEngMin dt e op s
  | .engMax dt e op => Sys2Proof.Machine.execEngMax dt e op s
  | .engAbs dt e op => Sys2Proof.Machine.execEngAbs dt e op s
  | .engMov dt e op => Sys2Proof.Machine.execEngMov dt e op s
  | .engMovi dt e op => Sys2Proof.Machine.execEngMovi dt e op s
  | .engSath dt e op => Sys2Proof.Machine.execEngSath dt e op s
  | .engSel dt e op => Sys2Proof.Machine.execEngSel dt e op s
  | .engNorm dt e op => Sys2Proof.Machine.execEngNorm dt e op s
  | .engBexp dt e op => Sys2Proof.Machine.execEngBexp dt e op s
  | .engBxclr dt e op => Sys2Proof.Machine.execEngBxclr dt e op s
  | .engCmpeq dt e op => Sys2Proof.Machine.execEngCmpeq dt e op s
  | .engCmplt dt e op => Sys2Proof.Machine.execEngCmplt dt e op s
  | .engCmple dt e op => Sys2Proof.Machine.execEngCmple dt e op s
  | .engCmpltu dt e op => Sys2Proof.Machine.execEngCmpltu dt e op s
  | .engPand dt e op => Sys2Proof.Machine.execEngPand dt e op s
  | .engPor dt e op => Sys2Proof.Machine.execEngPor dt e op s
  | .engPnot dt e op => Sys2Proof.Machine.execEngPnot dt e op s
  | .engDiv dt e op => Sys2Proof.Machine.execEngDiv dt e op s
  | .engDivr dt e op => Sys2Proof.Machine.execEngDivr dt e op s
  | .engSqrt dt e op => Sys2Proof.Machine.execEngSqrt dt e op s
  | .engMfs dt e op => Sys2Proof.Machine.execEngMfs dt e op s
  | .engMts dt e op => Sys2Proof.Machine.execEngMts dt e op s
  | .engQmac dt e op => Sys2Proof.Machine.execEngQmac dt e op s
  | .engQmsu dt e op => Sys2Proof.Machine.execEngQmsu dt e op s
  | .engQmul dt e op => Sys2Proof.Machine.execEngQmul dt e op s
  | .engAccrd dt e op => Sys2Proof.Machine.execEngAccrd dt e op s
  | .engAccclr dt e op => Sys2Proof.Machine.execEngAccclr dt e op s
  | .engSmul dt e op => Sys2Proof.Machine.execEngSmul dt e op s
  | .engAccsum dt e op => Sys2Proof.Machine.execEngAccsum dt e op s
  | .engAccnorm dt e op => Sys2Proof.Machine.execEngAccnorm dt e op s
  | .engSetb dt e op => Sys2Proof.Machine.execEngSetb dt e op s
  | .engSeti dt e op => Sys2Proof.Machine.execEngSeti dt e op s
  | .engSetm dt e op => Sys2Proof.Machine.execEngSetm dt e op s
  | .engSetl dt e op => Sys2Proof.Machine.execEngSetl dt e op s
  | .engSetd dt e op => Sys2Proof.Machine.execEngSetd dt e op s
  | .engAddi dt e op => Sys2Proof.Machine.execEngAddi dt e op s
  | .engGeti dt e op => Sys2Proof.Machine.execEngGeti dt e op s
  | .engLoop0 dt e arg => Sys2Proof.Machine.execEngLoop0 dt e arg s
  | .engLoop1 dt e arg => Sys2Proof.Machine.execEngLoop1 dt e arg s
  | .engLend0 dt e => Sys2Proof.Machine.execEngLend0 dt e s
  | .engLend1 dt e => Sys2Proof.Machine.execEngLend1 dt e s
  | .engEnd dt e => Sys2Proof.Machine.execEngEnd dt e s
  | .resultLanding dt e => Sys2Proof.Machine.execResultLanding dt e s
  | .guardSlotEnd dt sector => Sys2Proof.Machine.execGuardSlotEnd dt sector s
  | .stagingComplete dt sector eccBad => Sys2Proof.Machine.execStagingComplete dt sector eccBad s
  | .storeScrub dt bad => Sys2Proof.Machine.execStoreScrub dt bad s
  | .storeRestoreDone dt idx => Sys2Proof.Machine.execStoreRestoreDone dt idx s
  | .schedLoadDone dt => Sys2Proof.Machine.execSchedLoadDone dt s
  | .warmUpEnd dt => Sys2Proof.Machine.execWarmUpEnd dt s
  | .orderlyStopComplete dt => Sys2Proof.Machine.execOrderlyStopComplete dt s
  | .stopTimeout dt => Sys2Proof.Machine.execStopTimeout dt s
  | .degradedPeriodExpiry dt => Sys2Proof.Machine.execDegradedPeriodExpiry dt s
  | .serviceSessionTimeout dt => Sys2Proof.Machine.execServiceSessionTimeout dt s
  | .safeResetRisingEdge dt => Sys2Proof.Machine.execSafeResetRisingEdge dt s
  | .safeResetPress dt fb cmpOk => Sys2Proof.Machine.execSafeResetPress dt fb cmpOk s
  | .safeResetStuck dt => Sys2Proof.Machine.execSafeResetStuck dt s
  | .resetStuckClear dt => Sys2Proof.Machine.execResetStuckClear dt s
  | .estopDemand dt => Sys2Proof.Machine.execEstopDemand dt s
  | .estopRelease dt => Sys2Proof.Machine.execEstopRelease dt s
  | .zoneCodeTaken dt code => Sys2Proof.Machine.execZoneCodeTaken dt code s
  | .zoneCodeUnstable dt => Sys2Proof.Machine.execZoneCodeUnstable dt s
  | .encoderEdge dt up => Sys2Proof.Machine.execEncoderEdge dt up s
  | .encoderIndex dt abHigh => Sys2Proof.Machine.execEncoderIndex dt abHigh s
  | .facetCrossing dt k => Sys2Proof.Machine.execFacetCrossing dt k s
  | .encEdgeTimeout dt => Sys2Proof.Machine.execEncEdgeTimeout dt s
  | .slsEdgeWatchdog dt => Sys2Proof.Machine.execSlsEdgeWatchdog dt s
  | .slpFrameTimeout dt => Sys2Proof.Machine.execSlpFrameTimeout dt s
  | .le0Period dt ia ib ic => Sys2Proof.Machine.execLe0Period dt ia ib ic s
  | .phaseCurrentComparator dt ph uV => Sys2Proof.Machine.execPhaseCurrentComparator dt ph uV s
  | .le1Period dt => Sys2Proof.Machine.execLe1Period dt s
  | .le2Period dt => Sys2Proof.Machine.execLe2Period dt s
  | .le3Period dt frame island => Sys2Proof.Machine.execLe3Period dt frame island s
  | .le4Period dt => Sys2Proof.Machine.execLe4Period dt s
  | .le5Period dt => Sys2Proof.Machine.execLe5Period dt s
  | .referenceInstant dt => Sys2Proof.Machine.execReferenceInstant dt s
  | .alignmentEnd dt => Sys2Proof.Machine.execAlignmentEnd dt s
  | .overcurrentA dt ph uV => Sys2Proof.Machine.execOvercurrentA dt ph uV s
  | .busOvervolt dt mV => Sys2Proof.Machine.execBusOvervolt dt mV s
  | .spinupTimeout dt => Sys2Proof.Machine.execSpinupTimeout dt s
  | .lockRegainTimeout dt => Sys2Proof.Machine.execLockRegainTimeout dt s
  | .trackingErrorLimit dt => Sys2Proof.Machine.execTrackingErrorLimit dt s
  | .loopEngineUpset dt hit => Sys2Proof.Machine.execLoopEngineUpset dt hit s
  | .brakeStopCondition dt axis => Sys2Proof.Machine.execBrakeStopCondition dt axis s
  | .periodInEdge dt => Sys2Proof.Machine.execPeriodInEdge dt s
  | .zoneEvaluation dt testOk arrived => Sys2Proof.Machine.execZoneEvaluation dt testOk arrived s
  | .offTest dt k => Sys2Proof.Machine.execOffTest dt k s
  | .offTestEnd dt k => Sys2Proof.Machine.execOffTestEnd dt k s
  | .safeFbReadback dt k level => Sys2Proof.Machine.execSafeFbReadback dt k level s
  | .lockstepMismatch dt selfTestOk => Sys2Proof.Machine.execLockstepMismatch dt selfTestOk s
  | .lockstepSelfTest dt detected => Sys2Proof.Machine.execLockstepSelfTest dt detected s
  | .safetyMemEcc dt => Sys2Proof.Machine.execSafetyMemEcc dt s
  | .islandClock dt => Sys2Proof.Machine.execIslandClock dt s
  | .faultNReadback dt => Sys2Proof.Machine.execFaultNReadback dt s
  | .selfTestComplete dt res => Sys2Proof.Machine.execSelfTestComplete dt res s
  | .roundStart dt => Sys2Proof.Machine.execRoundStart dt s
  | .excitationSwap dt => Sys2Proof.Machine.execExcitationSwap dt s
  | .conversionEnd dt raw => Sys2Proof.Machine.execConversionEnd dt raw s
  | .openDetect dt ch => Sys2Proof.Machine.execOpenDetect dt ch s
  | .dieMonitorRead dt ts => Sys2Proof.Machine.execDieMonitorRead dt ts s
  | .hardTrip dt => Sys2Proof.Machine.execHardTrip dt s
  | .hardTripRelease dt => Sys2Proof.Machine.execHardTripRelease dt s
  | .pmbusPoll dt readings => Sys2Proof.Machine.execPmbusPoll dt readings s
  | .pmbAlert dt words => Sys2Proof.Machine.execPmbAlert dt words s
  | .flashWriteDone dt => Sys2Proof.Machine.execFlashWriteDone dt s
  | .healthWindow dt m => Sys2Proof.Machine.execHealthWindow dt m s
  | .powerOn dt => Sys2Proof.Machine.execPowerOn dt s
  | .powerLoss dt => Sys2Proof.Machine.execPowerLoss dt s
  | .porstAssert dt => Sys2Proof.Machine.execPorstAssert dt s
  | .porstRelease dt straps => Sys2Proof.Machine.execPorstRelease dt straps s
  | .vddIoLow dt => Sys2Proof.Machine.execVddIoLow dt s
  | .resetCauseEnd dt => Sys2Proof.Machine.execResetCauseEnd dt s
  | .rootPllLock dt => Sys2Proof.Machine.execRootPllLock dt s
  | .rootPllUnlock dt => Sys2Proof.Machine.execRootPllUnlock dt s
  | .refclkLost dt => Sys2Proof.Machine.execRefclkLost dt s
  | .refclkHoldoverExpired dt => Sys2Proof.Machine.execRefclkHoldoverExpired dt s
  | .referenceHoldoverEnd dt => Sys2Proof.Machine.execReferenceHoldoverEnd dt s
  | .railPgGood dt rail => Sys2Proof.Machine.execRailPgGood dt rail s
  | .railPgTimeout dt rail => Sys2Proof.Machine.execRailPgTimeout dt rail s
  | .railPgLost dt rail => Sys2Proof.Machine.execRailPgLost dt rail s
  | .domainPowerGood dt d => Sys2Proof.Machine.execDomainPowerGood dt d s
  | .domainSwitch dt d => Sys2Proof.Machine.execDomainSwitch dt d s
  | .safetyWatchdog dt => Sys2Proof.Machine.execSafetyWatchdog dt s
  | .appWatchdog dt => Sys2Proof.Machine.execAppWatchdog dt s
  | .appRestartDone dt => Sys2Proof.Machine.execAppRestartDone dt s
  | .startWatchdog dt => Sys2Proof.Machine.execStartWatchdog dt s
  | .imageLoaded dt => Sys2Proof.Machine.execImageLoaded dt s
  | .signalDetect dt port => Sys2Proof.Machine.execSignalDetect dt port s
  | .cdrLock dt port lane => Sys2Proof.Machine.execCdrLock dt port lane s
  | .commaAlignment dt port => Sys2Proof.Machine.execCommaAlignment dt port s
  | .ctsReceived dt port sym inverted => Sys2Proof.Machine.execCtsReceived dt port sym inverted s
  | .dtpReceived dt port phys inverted code => Sys2Proof.Machine.execDtpReceived dt port phys inverted code s
  | .blockLock dt port lane => Sys2Proof.Machine.execBlockLock dt port lane s
  | .dskBlock dt port phys payload inPlace => Sys2Proof.Machine.execDskBlock dt port phys payload inPlace s
  | .dskSend dt port => Sys2Proof.Machine.execDskSend dt port s
  | .creditInitialisation dt port type content => Sys2Proof.Machine.execCreditInitialisation dt port type content s
  | .bringupTimeout dt port lane => Sys2Proof.Machine.execBringupTimeout dt port lane s
  | .bringupRestart dt port => Sys2Proof.Machine.execBringupRestart dt port s
  | .dataLockLost dt port loss => Sys2Proof.Machine.execDataLockLost dt port loss s
  | .ctlLaneLost dt port => Sys2Proof.Machine.execCtlLaneLost dt port s
  | .excludedLaneRetrain dt port => Sys2Proof.Machine.execExcludedLaneRetrain dt port s
  | .sleepEntry dt port => Sys2Proof.Machine.execSleepEntry dt port s
  | .wake dt port => Sys2Proof.Machine.execWake dt port s
  | .controlSlotSend dt port => Sys2Proof.Machine.execControlSlotSend dt port s
  | .controlCycleStart dt => Sys2Proof.Machine.execControlCycleStart dt s
  | .syncSlot dt port body frac => Sys2Proof.Machine.execSyncSlot dt port body frac s
  | .linkSlot dt port body => Sys2Proof.Machine.execLinkSlot dt port body s
  | .keepaliveLost dt port => Sys2Proof.Machine.execKeepaliveLost dt port s
  | .stopHoldReceived dt port body => Sys2Proof.Machine.execStopHoldReceived dt port body s
  | .msgFragment dt port body => Sys2Proof.Machine.execMsgFragment dt port body s
  | .reassemblyTimeout dt src id => Sys2Proof.Machine.execReassemblyTimeout dt src id s
  | .discAssign dt port gen addr down hops => Sys2Proof.Machine.execDiscAssign dt port gen addr down hops s
  | .discDone dt port gen next down refused => Sys2Proof.Machine.execDiscDone dt port gen next down refused s
  | .discChange dt port gen addr cause => Sys2Proof.Machine.execDiscChange dt port gen addr cause s
  | .discoveryStart dt => Sys2Proof.Machine.execDiscoveryStart dt s
  | .discoveryFailed dt => Sys2Proof.Machine.execDiscoveryFailed dt s
  | .discoveryRetry dt => Sys2Proof.Machine.execDiscoveryRetry dt s
  | .addressLoss dt => Sys2Proof.Machine.execAddressLoss dt s
  | .dataPacket dt port pkt crc inside => Sys2Proof.Machine.execDataPacket dt port pkt crc inside s
  | .packetSend dt port => Sys2Proof.Machine.execPacketSend dt port s
  | .creditBlock dt port payload => Sys2Proof.Machine.execCreditBlock dt port payload s
  | .creditReturn dt port => Sys2Proof.Machine.execCreditReturn dt port s
  | .slotReportSend dt port => Sys2Proof.Machine.execSlotReportSend dt port s
  | .verticalBlanking dt => Sys2Proof.Machine.execVerticalBlanking dt s
  | .idleCommit dt => Sys2Proof.Machine.execIdleCommit dt s
  | .layerUnderrun dt layer timedOut => Sys2Proof.Machine.execLayerUnderrun dt layer timedOut s
  | .monGridEcc dt => Sys2Proof.Machine.execMonGridEcc dt s
  | .hostPerstRelease dt p => Sys2Proof.Machine.execHostPerstRelease dt p s
  | .hostLinkUp dt p => Sys2Proof.Machine.execHostLinkUp dt p s
  | .refclkReturn dt => Sys2Proof.Machine.execRefclkReturn dt s
  | .emissionFaultEnd dt code str => Sys2Proof.Machine.execEmissionFaultEnd dt code str s
  | .arpReply dt p ip mac => Sys2Proof.Machine.execArpReply dt p ip mac s
  | .netConfigApply dt p => Sys2Proof.Machine.execNetConfigApply dt p s

end Sys2Proof.Machine
end

