-- ==== Sys2Proof/Machine/Picture.lean ====
section
/-! DEFINITION. What the monitor output shows (R458, R459, R461, R464 to R471): the pixel that the live registers, the displayed grid and
the host's planes compose, and the bits of the link pairs. Every definition here reads the state; none changes it. -/

namespace Sys2Proof.Machine

open Sys2Proof

/-- A colour. -/
structure Rgb where
  /-- Red. -/
  r : Int
  /-- Green. -/
  g : Int
  /-- Blue. -/
  b : Int
  deriving DecidableEq, Repr

/-- A component-wise function of two colours. -/
def Rgb.zip (f : Int → Int → Int) (x y : Rgb) : Rgb :=
  ⟨f x.r y.r, f x.g y.g, f x.b y.b⟩

/-- Three components of 8 bits, coded as BG (R460). -/
def rgbOf (w : Nat) : Rgb :=
  ⟨(fld w 16 8 : Nat), (fld w 8 8 : Nat), (fld w 0 8 : Nat)⟩

/-- A blend of a layer over what lies below it (R465). -/
def blend (a : Nat) (top below : Rgb) : Rgb :=
  Rgb.zip (fun t u => rhe (((a : Int) * t + (255 - (a : Int)) * u : Int) / (255 : Rat))) top below

/-! ### Layer L0 (R466 to R468) -/

/-- A component from its unit range to a code, which is right to within ±1 (R467). -/
def codeOf (x : Rat) (err : Int) : Int :=
  clampI 0 255 (clampI 0 255 (rhe (255 * x)) + clampI (-1) 1 err)

/-- A sample of luma and chroma as a colour (R467). -/
def toRgb (bt709 full : Bool) (y cb cr : Nat) : Rgb :=
  let kr : Rat := if bt709 then 2126 / 10000 else 299 / 1000
  let kb : Rat := if bt709 then 722 / 10000 else 114 / 1000
  let yp : Rat := if full then (y : Rat) / 255 else ((y : Int) - 16 : Int) / 219
  let chroma := fun (c : Nat) => (((c : Int) - 128 : Int) : Rat) / (if full then 255 else 224)
  let r := yp + 2 * (1 - kr) * chroma cr
  let b := yp + 2 * (1 - kb) * chroma cb
  let g := (yp - kr * r - kb * b) / (1 - kr - kb)
  ⟨codeOf r (Config.colourError y cb cr 0), codeOf g (Config.colourError y cb cr 1), codeOf b (Config.colourError y cb cr 2)⟩

/-- A 64-bit host address of the live registers. -/
def State.monAddr (s : State) (off : Nat) : Nat :=
  s.monFld off 0 32 + 2 ^ 32 * s.monFld (off + 4) 0 32

/-- The colour of a source sample of L0, read from the host's planes (R466, R467). -/
def State.l0Sample (s : State) (host : Nat → Byte) (x y : Nat) : Rgb :=
  let fmt := s.monFld 0x100 1 2
  let cy := if fmt = 1 then y else y / 2
  let line := cy * s.monFld 0x110 16 16
  let lum := (host (s.monAddr 0x118 + y * s.monFld 0x110 0 16 + x)).toNat
  let cb := if fmt = 2 then s.monAddr 0x120 + line + x / 2 else s.monAddr 0x120 + line + 2 * (x / 2)
  let cr := if fmt = 2 then s.monAddr 0x128 + line + x / 2 else s.monAddr 0x120 + line + 2 * (x / 2) + 1
  toRgb (s.monFld 0x100 3 1 = 1) (s.monFld 0x100 4 1 = 1) lum (host cb).toNat (host cr).toNat

/-- The nearest source index of a displayed index (R468). -/
def nearestOf (size shown u : Nat) : Nat :=
  u * (size * 65536 / shown) / 65536

/-- The bilinear source index of a displayed index and its fraction, 1/65,536 (R468). -/
def bilinearOf (size shown u : Nat) : Nat × Nat :=
  let p := clampI 0 (((size - 1) * 65536 : Nat) : Int) ((((2 * u + 1) * (size * 65536 / shown) / 2 : Nat) : Int) - 32768)
  (p.toNat / 65536, p.toNat % 65536)

/-- Two source values mixed by a fraction (R468). -/
def mix (f : Nat) (x y : Rgb) : Rgb :=
  Rgb.zip (fun a b => rhe ((a * (65536 - (f : Int)) + b * (f : Int) : Int) / (65536 : Rat))) x y

/-- The scaled colour of L0 at a pixel of its rectangle (R468). -/
def State.l0Pixel (s : State) (host : Nat → Byte) (u v : Nat) : Rgb :=
  let sw := s.monFld 0x10C 0 12
  let sh := s.monFld 0x10C 16 12
  let w := s.monFld 0x108 0 12
  let h := s.monFld 0x108 16 12
  if s.monFld 0x100 5 1 = 0 then s.l0Sample host (nearestOf sw w u) (nearestOf sh h v)
  else
    let (i, f) := bilinearOf sw w u
    let (j, g) := bilinearOf sh h v
    let row := fun (y : Nat) => mix f (s.l0Sample host i y) (s.l0Sample host (min (i + 1) (sw - 1)) y)
    mix g (row j) (row (min (j + 1) (sh - 1)))

/-! ### Layers L1 and L2 (R469, R470) -/

/-- The colour of a cell of the range image and its alpha (R465, R469). -/
def State.cellColour (s : State) (v : Nat) : Rgb × Nat :=
  let idx := fld v 0 8
  let dim : Int := 65280 - (s.monFld 0x140 16 8 : Int) * (255 - (fld v 8 8 : Int))
  let p := rgbOf (s.monFld (0x400 + 4 * idx) 0 24)
  let f := fun (c : Int) => rhe ((c * dim : Int) / (65280 : Rat))
  (⟨f p.r, f p.g, f p.b⟩, if idx = 0 then 0 else s.monFld 0x140 8 8)

/-- The displayed cell under a pixel of the range image's rectangle (R469). -/
def State.l1Pixel (s : State) (u v : Nat) : Rgb × Nat :=
  let gx := u / (s.monFld 0x140 3 2 + 1)
  let gy := v / (s.monFld 0x140 5 2 + 1)
  s.cellColour (tget 0#16 s.mon.shown.cells (gy * s.monFld 0x148 0 12 + gx)).toNat

/-- A 5-bit component in 8 bits (R470). -/
def widen5 (c : Nat) : Int :=
  ((c * 8 + c / 4 : Nat) : Int)

/-- A pixel of the overlay and its alpha (R470). -/
def State.l2Pixel (s : State) (host : Nat → Byte) (u v : Nat) : Rgb × Nat :=
  let base := s.monAddr 0x198 + v * s.monFld 0x18C 0 16
  let at_ := fun (a : Nat) => (host a).toNat
  if s.monFld 0x180 1 1 = 0 then
    let a := base + 4 * u
    (⟨(at_ (a + 2) : Nat), (at_ (a + 1) : Nat), (at_ a : Nat)⟩, at_ (a + 3))
  else
    let w := at_ (base + 2 * u) + 256 * at_ (base + 2 * u + 1)
    (⟨widen5 (fld w 10 5), widen5 (fld w 5 5), widen5 (fld w 0 5)⟩, if bitN w 15 then 255 else 0)

/-! ### The pixel and the links (R458, R459, R461, R464, R465) -/

/-- The offset of a pixel in a rectangle, if the rectangle covers it. -/
def inRect (px py w h x y : Nat) : Option (Nat × Nat) :=
  if px ≤ x && x < px + w && py ≤ y && y < py + h then some (x - px, y - py) else none

/-- A layer is composed: it is on, and no underrun holds it off (R465, R471). -/
def State.layerOn (s : State) (l ctrl : Nat) : Bool :=
  s.monFld ctrl 0 1 = 1 && !bitN s.mon.skip.toNat l

/-- The composed pixel of the active area; `host` is the memory that each port's DMA reads (R465). -/
def State.pixel (s : State) (host : Nat → Nat → Byte) (x y : Nat) : Rgb :=
  let cover := fun (pos w h : Nat) => inRect (s.monFld pos 0 12) (s.monFld pos 16 12) w h x y
  let p0 := rgbOf (s.monFld 0x00C 0 24)
  let p1 := match cover 0x104 (s.monFld 0x108 0 12) (s.monFld 0x108 16 12) with
    | some (u, v) => if s.layerOn 0 0x100 then s.l0Pixel (host (s.monFld 0x100 6 1)) u v else p0
    | none => p0
  let p2 := match cover 0x144 (s.monFld 0x148 0 12 * (s.monFld 0x140 3 2 + 1)) (s.monFld 0x148 16 12 * (s.monFld 0x140 5 2 + 1)) with
    | some (u, v) => if s.layerOn 1 0x140 then blend (s.l1Pixel u v).2 (s.l1Pixel u v).1 p1 else p1
    | none => p1
  match cover 0x184 (s.monFld 0x188 0 12) (s.monFld 0x188 16 12) with
  | some (u, v) =>
    if s.layerOn 2 0x180 then
      blend (s.l2Pixel (host (s.monFld 0x180 2 1)) u v).2 (s.l2Pixel (host (s.monFld 0x180 2 1)) u v).1 p2
    else p2
  | none => p2

/-- DE at a pixel: low while the links restart (R461, R464). -/
def State.deAt (s : State) (x y : Nat) : Bool :=
  x < s.monFld 0x010 0 12 && y < s.monFld 0x018 0 12 && s.mon.restart = 0

/-- The level of HS at a pixel (R460, R461). -/
def State.hsAt (s : State) (x : Nat) : Bool :=
  (s.monFld 0x014 0 12 ≤ x && x < s.monFld 0x014 16 12) != (s.monFld 0x014 31 1 = 1 : Bool)

/-- The level of VS at a line (R460, R461). -/
def State.vsAt (s : State) (y : Nat) : Bool :=
  (s.monFld 0x01C 0 12 ≤ y && y < s.monFld 0x01C 16 12) != (s.monFld 0x01C 31 1 = 1 : Bool)

/-- What a data pair carries in a slot (R459): a sync bit, a colour bit by component (0 R, 1 G, 2 B), or nothing. -/
inductive SlotBit where
  /-- DE. -/
  | de
  /-- VS. -/
  | vs
  /-- HS. -/
  | hs
  /-- A bit of a component. -/
  | colour (comp bit : Nat)
  /-- 0. -/
  | zero
  deriving DecidableEq, Repr

/-- The table of R459, MAP = 0: data pair, slot. -/
def slotBits : List (List SlotBit) :=
  [[.colour 1 0, .colour 0 5, .colour 0 4, .colour 0 3, .colour 0 2, .colour 0 1, .colour 0 0],
   [.colour 2 1, .colour 2 0, .colour 1 5, .colour 1 4, .colour 1 3, .colour 1 2, .colour 1 1],
   [.de, .vs, .hs, .colour 2 5, .colour 2 4, .colour 2 3, .colour 2 2],
   [.zero, .colour 2 7, .colour 2 6, .colour 1 7, .colour 1 6, .colour 0 7, .colour 0 6]]

/-- The bit of a component that a pair carries under MAP (R459). -/
def mapBit (map : Bool) (pair bit : Nat) : Nat :=
  if !map then bit else if pair = 3 then bit - 6 else bit + 2

/-- The clock pair in a slot (R459). -/
def clockBit (slot : Nat) : Bool :=
  slot = 0 || slot = 1 || slot = 5 || slot = 6

/-- The clock pair of a link in a slot: 0 link A, 1 link B; `none` where it drives no current: the output is off, or the link does not run
(R458, R459). -/
def State.clockAt (s : State) (link slot : Nat) : Option Bool :=
  if s.monOn && (link = 0 || s.monFld 0 1 1 = 1) then some (clockBit slot) else none

/-- The link that carries pixel x of a line: 0 link A, 1 link B (R458). -/
def State.linkOf (s : State) (x : Nat) : Nat :=
  if s.monFld 0 1 1 = 1 then x % 2 else 0

/-- A data pair in a slot of the link period of pixel (x, y); `none` while the output is off: the pairs drive no current (R458,
R459). -/
def State.pairAt (s : State) (host : Nat → Nat → Byte) (pair slot x y : Nat) : Option Bool :=
  if !s.monOn then none
  else
    some (match ((slotBits.getD pair []).getD slot .zero) with
      | .de => s.deAt x y
      | .vs => s.vsAt y
      | .hs => s.hsAt x
      | .zero => false
      | .colour c b =>
        let p := s.pixel host x y
        let v := if c = 0 then p.r else if c = 1 then p.g else p.b
        s.deAt x y && bitN v.toNat (mapBit (s.monFld 0 2 1 = 1) pair b))

end Sys2Proof.Machine
end

