-- ==== Sys2Proof/Safety.lean ====
section
/-! DEFINITION. The terms in which claims about the block are stated: when a command is admitted and what completing it means,
when an engine issues an operation, the safe state of R376, and runs that go on. -/

namespace Sys2Proof

open Sys2Proof.Machine

/-! ### The shape of every outcome -/

/-- The state that a command leaves: its effect, on the queue's rest, `dt` ticks later on the device clock. -/
def after (dt : Nat) (s t : State) : State :=
  { t with pending := s.pending, clk := s.clk + dt }

/-- As `after`, the one-time memory untouched: it is written by the KEY commands alone (R347, R371). -/
def afterKeep (dt : Nat) (s t : State) : State :=
  { t with pending := s.pending, clk := s.clk + dt, otp := s.otp }

/-- The device is not OFF. -/
def awake (s : State) : Prop :=
  s.life.lcs ≠ .off

/-- The effect of an event row: from every state that is not OFF and in which `cond` holds once `dt` ticks have passed, `exec` answers
the next state in which `eff` has happened, and nothing else but the passing of time. -/
def Happens (mk : Nat → Instr) (cond : State → Prop) (eff : State → State) : Prop :=
  ∀ (dt : Nat) (s : State), awake s → cond (s.advance dt) →
    exec (mk dt) s = .next (afterKeep dt s (eff (s.advance dt)))

/-- As `Happens`, for the rows through which a KEY command can reach the one-time memory. -/
def HappensOtp (mk : Nat → Instr) (cond : State → Prop) (eff : State → State) : Prop :=
  ∀ (dt : Nat) (s : State), awake s → cond (s.advance dt) → exec (mk dt) s = .next (after dt s (eff (s.advance dt)))

/-- As `Happens`, for the arrival and loss of power, which an OFF device takes too. -/
def HappensAlways (mk : Nat → Instr) (cond : State → Prop) (eff : State → State) : Prop :=
  ∀ (dt : Nat) (s : State), cond (s.advance dt) → exec (mk dt) s = .next (afterKeep dt s (eff (s.advance dt)))

/-! ### Mailbox commands (R339, R352 to R358) -/

/-- The slot of a row's command: its OPCODE is the row's. -/
def slotFor (d : CmdDef) (r : Req) : BitVec 512 :=
  BitVec.ofNat 512 (setFld r.slot.toNat 0 16 d.op)

/-- The command carries data: DIR is 0 and DATA_LEN is not (R334). -/
def carriesData (x : Nat) : Bool :=
  !slotDir x && 0 < slotDlen x

/-- The command as it is evaluated. -/
def ctxFor (d : CmdDef) (r : Req) : Ctx :=
  let x := (slotFor d r).toNat
  { e := r.entry, mb := r.mb.val, slot := x
    din := if carriesData x then (r.din.getD []).take (slotDlen x) else []
    b0 := cmdByte r.entry.port r.mb.val 0 }

/-- The entry is an Ethernet port of this device. -/
def onEthernet (s : State) (e : Entry) : Bool :=
  e.pair.isNone && !s.isPcie e.port

/-- The state on which a taken command is checked: its entry's leases are refreshed, and a transfer that it breaks is gone (R346, R356). -/
def takenState (d : CmdDef) (r : Req) (s : State) : State :=
  (s.refresh r.entry).breakXfer (ctxFor d r)

/-- The state after steps 4 to 8 of R339. -/
def checkedState (d : CmdDef) (r : Req) (s : State) : State :=
  ((takenState d r s).authenticate d (ctxFor d r) (ctxFor d r).din).1

/-- The state on which step 9 of R339 evaluates a command that does not come in parts. -/
def evalState (d : CmdDef) (r : Req) (s : State) : State :=
  (checkedState d r s).dropXfer (ctxFor d r)

/-- A command passes every check before its own conditions (R336, R339, R346 to R350, R353 to R356): its mailbox can take one, its slot
is well formed, its data was read, it is for this device, it is authenticated where its row is critical, the row's state, direction,
lengths, reserved bits and arguments hold, and it does not come in parts. -/
structure Admitted (d : CmdDef) (r : Req) (s : State) : Prop where
  /-- The mailbox can take a command (R336, R354). -/
  takes : s.canServe r.entry r.mb.val = true
  /-- Step 2 of R339. -/
  slot : slotBad (onEthernet s r.entry) (slotFor d r).toNat = none
  /-- The data read met no completion timeout (R355). -/
  read : carriesData (slotFor d r).toNat = true → r.din.isSome = true
  /-- The command is for this device (R306). -/
  here : r.entry.pair.isSome = true ∨ slotDest (slotFor d r).toNat = 0xFFFF ∨
    slotDest (slotFor d r).toNat = s.chain.addr.toNat
  /-- Steps 4 to 8 of R339 pass. -/
  auth : ((takenState d r s).authenticate d (ctxFor d r) (ctxFor d r).din).2 = none
  /-- The row's own checks of step 9 pass. -/
  row : (checkedState d r s).rowChecks d (ctxFor d r) = none
  /-- The command does not come in parts. -/
  whole : (checkedState d r s).inParts d (ctxFor d r) = false

/-- An answer given to an admitted command: the response goes out, and DEV.RESET runs its reset after it (R334, R337). -/
def answered (d : CmdDef) (r : Req) (s : State) (a : Ans) : State :=
  { (checkedState d r s).finish (ctxFor d r) { r with slot := slotFor d r } none a with
    otp := if d.writesOtp then a.st.otp else s.otp }

/-- A row's command completes: from every state that is not OFF, when the command is admitted, `cond` holds of the state and the
command it is evaluated on, and its data fits DATA_LEN, `exec` answers the next state: the effect `eff`, and a response with status OK,
detail 0, the result `a` and the data `dout`. -/
def Completes (mk : Nat → Req → Instr) (d : CmdDef) (cond : State → Ctx → Prop) (eff : State → Ctx → State)
    (a dout : State → Ctx → List Byte) : Prop :=
  ∀ (dt : Nat) (r : Req) (s : State), awake s → Admitted d r (s.advance dt) →
    cond (evalState d r (s.advance dt)) (ctxFor d r) →
    (dout (evalState d r (s.advance dt)) (ctxFor d r)).length ≤ slotDlen (ctxFor d r).slot →
    exec (mk dt r) s = .next (after dt s (answered d r (s.advance dt)
      { st := eff (evalState d r (s.advance dt)) (ctxFor d r), status := 0, detail := 0
        a := a (evalState d r (s.advance dt)) (ctxFor d r), dout := dout (evalState d r (s.advance dt)) (ctxFor d r) }))

/-- As `Completes`, for a row that can meet rows of its FAB_CK cycle: where `alone` holds, none of them matters to it (R27, R196, R324). -/
def CompletesWhen (alone : Req → State → Prop) (mk : Nat → Req → Instr) (d : CmdDef) (cond : State → Ctx → Prop) (eff : State → Ctx → State)
    (a dout : State → Ctx → List Byte) : Prop :=
  ∀ (dt : Nat) (r : Req) (s : State), awake s → alone r (s.advance dt) → Admitted d r (s.advance dt) →
    cond (evalState d r (s.advance dt)) (ctxFor d r) →
    (dout (evalState d r (s.advance dt)) (ctxFor d r)).length ≤ slotDlen (ctxFor d r).slot →
    exec (mk dt r) s = .next (after dt s (answered d r (s.advance dt)
      { st := eff (evalState d r (s.advance dt)) (ctxFor d r), status := 0, detail := 0
        a := a (evalState d r (s.advance dt)) (ctxFor d r), dout := dout (evalState d r (s.advance dt)) (ctxFor d r) }))

/-- As `Completes`, where what follows in the row's FAB_CK cycle brings no cause for SAFE HOLD and opens no loop (R27, R196). -/
def CompletesAlone : (Nat → Req → Instr) → CmdDef → (State → Ctx → Prop) → (State → Ctx → State) →
    (State → Ctx → List Byte) → (State → Ctx → List Byte) → Prop :=
  CompletesWhen (fun _ u => u.foreseen = {})

/-- The port and the semaphore of the first row of this FAB_CK cycle through which the other port than `p` claims one (R324). -/
def rivalClaim (s : State) (p : HostPort) : Option (HostPort × Nat) :=
  (s.cycleRows.filterMap s.claimOf).find? (fun x => x.1 != p)

/-- A row's command that meets a cause of its FAB_CK cycle is served with what the cycle brings in view (R27, R196). -/
def MeetsRace (mk : Nat → Req → Instr) (d : CmdDef) : Prop :=
  ∀ (dt : Nat) (r : Req) (s : State), awake s → (s.advance dt).foreseen ≠ {} →
    exec (mk dt r) s = .next (afterKeep dt s
      { State.command d r { s.advance dt with race := (s.advance dt).foreseen } with race := {} })

/-- No condition beside admission. -/
def always (_ : State) (_ : Ctx) : Prop :=
  True

/-- The command changes no state of its own. -/
def unchanged (s : State) (_ : Ctx) : State :=
  s

/-- No bytes. -/
def nothing (_ : State) (_ : Ctx) : List Byte :=
  []

/-! ### Operations of a sector engine (R205, R221) -/

/-- What is due by a cycle has landed: the stores of the sector's engines to its state memory, and the engine's own results (R221, R222). -/
def landedBy (s : State) (e cyc : Nat) : State :=
  (s.settleState (e / 32) cyc).settle e cyc

/-- The state in which an engine issues in cycle `cyc` of its run: what is due has landed, and the bundle index stands at the cycle. -/
def issuing (s : State) (e cyc : Nat) : State :=
  (landedBy s e cyc).modEng e (fun x => { x with stepped := true, pc := x.pc + (cyc - x.pcAt), pcAt := max cyc x.pcAt })

/-- An engine operation takes effect: from every state that is not OFF, where the engine runs in cycle `cyc` of its sector's run, SLOT_END
has not passed and `cond` holds as it issues, `exec` answers the next state, in which `eff` has happened to the issuing state. -/
def Issues (mk : Nat → Instr) (e : Fin 256) (cond : State → Prop) (eff : State → Nat → State) : Prop :=
  ∀ (dt cyc : Nat) (s : State), awake s → (s.advance dt).runCycle (e.val / 32) = some cyc →
    cyc ≤ (s.advance dt).slotEnd (e.val / 32) → ((s.advance dt).eng e.val).run = true → cond (issuing (s.advance dt) e.val cyc) →
    exec (mk dt) s = .next (afterKeep dt s (eff (issuing (s.advance dt) e.val cyc) cyc))

/-- The guard of an operation passes (R216 to R218, R221). -/
def passes (e : Fin 256) (pred : BitVec 3) (pneg : Bool) (s : State) : Prop :=
  (s.eng e.val).pass pred (negBit pneg) = true

/-! ### Safety -/

/-- Emission is impossible by the lifecycle state alone (R25, R155). -/
def emissionOff (s : State) : Prop :=
  s.life.lcs ≠ .run ∧ s.life.lcs ≠ .degraded ∧ s.life.lcs ≠ .service

/-- The safe state (R376): no emission permission, every safe output OFF, FAULT_N low. -/
def safeState (s : State) : Prop :=
  s.permitted = false ∧ s.permittedService = false ∧ (∀ k : Fin 4, (s.outp k).on = false) ∧ s.faultLow = true

/-- A step goes on: it neither faults nor refuses. -/
def goesOn (s : State) : Prop :=
  ∃ t, step s = .next t

/-- A run of `n` steps goes on. -/
def runsOn : Nat → State → Prop
  | 0, _ => True
  | n + 1, s => ∃ t, step s = .next t ∧ runsOn n t

/-! ### The one-time memory (R347, R371) -/

/-- A slot of the one-time memory never goes back: BLANK may become ACTIVE, ACTIVE may become REVOKED, REVOKED stays. -/
def slotOnward : OtpSt → OtpSt → Bool
  | .blank, _ => true
  | .active, .active => true
  | .active, .revoked => true
  | .active, .blank => false
  | .revoked, .revoked => true
  | .revoked, _ => false

/-- Nothing written once is unwritten: identities stay, a key or digest slot only goes onward, and a slot that is not BLANK keeps its
key or digest. -/
def otpOnward (a b : Otp) : Prop :=
  b.uid = a.uid ∧ b.grade = a.grade ∧ b.macA = a.macA ∧ b.macB = a.macB ∧ b.fw = a.fw ∧ b.readable = a.readable ∧
  (∀ k, slotOnward (tget {} a.keys k).st (tget {} b.keys k).st = true) ∧
  (∀ k, slotOnward (tget {} a.sched k).st (tget {} b.sched k).st = true) ∧
  (∀ k, (tget {} a.keys k).st ≠ .blank → (tget {} b.keys k).key = (tget {} a.keys k).key) ∧
  (∀ k, (tget {} a.sched k).st ≠ .blank → (tget {} b.sched k).dig = (tget {} a.sched k).dig)

/-- At most one key slot of each port is ACTIVE (R347). -/
def oneActive (o : Otp) : Prop :=
  ∀ p : HostPort, ∀ j k : Fin 4, (tget {} o.keys (4 * portIdx p + j.val)).st = .active →
    (tget {} o.keys (4 * portIdx p + k.val)).st = .active → j = k

/-! ### What a command leaves as it was -/

/-- The device but for its host ports, mailboxes, semaphores, authentication, Chain queues, fault records and the expiry of a SERVICE
session: what a command that acts on nothing leaves as it was. A schedule load that came in parts may end: any other command in its mailbox
abandons it, and no set is loaded (R241, R356). -/
def sameDevice (s t : State) : Prop :=
  { t.life with session := none } = { s.life with session := none } ∧ t.power = s.power ∧ t.otp = s.otp ∧ t.flash = s.flash ∧
  t.jobs = s.jobs ∧ t.mode = s.mode ∧ t.front = s.front ∧ t.emit = s.emit ∧ t.scan = s.scan ∧
  (t.sched = s.sched ∨ t.sched = { s.sched with load := none, sweep := 0, facets := 0 }) ∧ t.safe = s.safe ∧ t.hk = s.hk ∧ t.mon = s.mon

/-- Nothing changes but the engine `e`, the bytes of its sector's state memory, what the sector's other engines have in flight, and the
count of free values taken. -/
def onlyEngine (e : Fin 256) (s t : State) : Prop :=
  t = { s with sched.engs := t.sched.engs, sched.sectors := t.sched.sectors, free := t.free } ∧
  (∀ j, j ≠ e.val → { t.eng j with fly := [] } = { s.eng j with fly := [] }) ∧
  (∀ j, j / 32 ≠ e.val / 32 → t.eng j = s.eng j) ∧
  (∀ k, k ≠ e.val / 32 → t.sector k = s.sector k) ∧
  { t.sector (e.val / 32) with mem := [] } = { s.sector (e.val / 32) with mem := [] }

/-- The memories an engine writes, its own and its sector's, and what the other engines have in flight, are those in which what was due has
landed: an operation stores nothing at its issue (R221, R222). -/
def landedOnly (e : Fin 256) (s t : State) : Prop :=
  let u := match s.runCycle (e.val / 32) with
    | some cyc => if (s.eng e.val).run && cyc ≤ s.slotEnd (e.val / 32) then landedBy s e.val cyc else s
    | none => s
  (t.eng e.val).mem = (u.eng e.val).mem ∧ (t.sector (e.val / 32)).mem = (u.sector (e.val / 32)).mem ∧
  ∀ j, j ≠ e.val → (t.eng j).fly = (u.eng j).fly

/-! ### Rows that differ from all others -/

/-- The arrival and loss of power: the rows that a device in OFF takes (R26). -/
def powerRow : Instr → Bool
  | .powerOn .. => true
  | .powerLoss .. => true
  | .porstAssert .. => true
  | .porstRelease .. => true
  | _ => false

/-- The rows through which a KEY command can reach the one-time memory (R347, R371). -/
def otpRow : Instr → Bool
  | .keyRotate .. => true
  | .keyProvision .. => true
  | .keySchedDigest .. => true
  | .mailboxTake .. => true
  | .msgFragment .. => true
  | _ => false

/-- A state from which SAFE HOLD is entered (R26, R30). -/
def operating (s : State) : Prop :=
  s.life.lcs = .standby ∨ s.life.lcs = .run ∨ s.life.lcs = .degraded ∨ s.life.lcs = .service

/-- The faults whose response is SAFE HOLD in every state from which it is entered (R395, R479): emission faults and the class 8 and
class 9 faults of that response. -/
def holdFaults : List Nat :=
  [0x4001, 0x4002, 0x4003, 0x4004, 0x4005, 0x8001, 0x8002, 0x8003, 0x8004, 0x8005, 0x8006, 0x8007, 0x8008, 0x8009, 0x800D, 0x800E,
   0x8010, 0x8011, 0x9001, 0x9004, 0x9005]

/-- Two states agree on what a reset keeps (R395, R445, R446, R505): the reset causes, boot control and TAP of PD_AON, the last 16 entries
of the fault log, the hard-trip record and a latched 0x8007; what is not volatile; and what lies outside the block: its waiting commands, its clock, what it has sent,
its pins, its reservoirs and the encoder's edges. -/
def sameKept (s u : State) : Prop :=
  s.pending = u.pending ∧ s.clk = u.clk ∧ s.free = u.free ∧ s.otp = u.otp ∧ s.flash = u.flash ∧ s.jobs = u.jobs ∧ s.out = u.out ∧
  s.power.boot.causes = u.power.boot.causes ∧ s.power.boot.startsA = u.power.boot.startsA ∧
  s.power.boot.startsB = u.power.boot.startsB ∧ s.power.boot.straps = u.power.boot.straps ∧
  s.power.boot.porst = u.power.boot.porst ∧ s.power.boot.aon = u.power.boot.aon ∧
  s.power.boot.noted = u.power.boot.noted ∧ s.power.boot.vddLow = u.power.boot.vddLow ∧ s.power.refclk = u.power.refclk ∧
  s.power.tripRec = u.power.tripRec ∧ s.hostA.perst = u.hostA.perst ∧ s.hostB.perst = u.hostB.perst ∧ s.faults.log.take 16 = u.faults.log.take 16 ∧
  s.hk.trip = u.hk.trip ∧ s.power.tap = u.power.tap ∧ s.safe.latched = u.safe.latched ∧ s.safe.estop = u.safe.estop ∧
  s.safe.button = u.safe.button ∧ s.safe.buttonAt = u.safe.buttonAt ∧
  s.scan.a.edges = u.scan.a.edges ∧ s.scan.a.vbus = u.scan.a.vbus ∧
  ∀ i < 64, (s.str i).rsv = (u.str i).rsv ∧ (s.str i).drained = (u.str i).drained

end Sys2Proof
end

