-- ==== Sys2Proof/Certificates/Slice0/Obligations.lean ====
section
/-! DEFINITION. The statements for the provers. -/

open Sys2Proof Sys2Proof.Machine

/-! ### Mailbox commands: each completes with its own effect and an OK response (R334, R339, R352 to R372) -/

/-- The commands of the classes DEV, MODE and SERVICE (R29, R44, R46, R48 to R50, R359 to R362): DEV.IDENTIFY, DEV.STATUS and
MODE.STATUS return their records; DEV.RESET notes the reset that runs when its response is written; MODE.START, MODE.SET and MODE.STOP are
accepted; MODE.STOP in STANDBY or while a stop runs, and MODE.SET to the running mode, have no effect; SERVICE.ENTER opens a session,
SERVICE.EXIT enters SAFE HOLD, SERVICE.PROOF queues a proof shot. A start, a change or a session that meets a cause for SAFE HOLD in its
FAB_CK cycle finds no state that takes it (R27; how far the cycle is looked into: log entry 130). -/
def Obligations.DeviceModeAndServiceCommandsComplete : Prop :=
  Completes .devIdentify cmdDevIdentify always unchanged
    (fun u c => bytesOf 8 u.otp.uid.toNat ++ bytesOf 4 u.life.bootId.toNat ++ [0x41] ++ bytesOf 1 u.power.boot.ifl
      ++ [u.otp.grade] ++ bytesOf 1 u.power.boot.slot ++ bytesOf 4 u.power.boot.version.toNat ++ bytesOf 2 u.chain.addr.toNat
      ++ [BitVec.ofNat 8 (portLetter c.e.port), 0]) nothing ∧
  Completes .devStatus cmdDevStatus always unchanged
    (fun u c => bytesOf 4 (u.stateWord c.e) ++ bytesOf 2 u.degradedLeft ++ bytesOf 2 u.sessionLeft ++ bytesOf 2 (uns 16 u.hk.tj)
      ++ bytesOf 2 u.faults.active.length ++ bytesOf 1 u.lowestReason) nothing ∧
  Completes .devReset cmdDevReset always (fun u _ => { u with power.resetAt := some u.clk }) nothing nothing ∧
  CompletesAlone .modeStart cmdModeStart
    (fun u c => (modeParams (c.p 0 1)).isSome = true ∧ u.badStart (c.p 4 8) (ms 5) = false ∧ u.mode.stop = none
      ∧ u.usable (c.p 0 1) = true ∧ u.sliceFits = true ∧ u.chain.aligned = true ∧ u.scan.a.locked = true
      ∧ u.scan.b.st = .closed ∧ u.islandReady = true ∧ u.supplyOk = true ∧ u.canMeasure (c.p 0 1) = true)
    (fun u c => u.acceptStart (c.p 0 1) (c.p 4 8)) nothing nothing ∧
  Completes .modeStop cmdModeStop (fun u _ => u.running = true ∧ u.mode.stop = none)
    (fun u _ => u.acceptStop 0 (u.life.lcs == .degraded)) nothing nothing ∧
  Completes .modeStop cmdModeStop (fun u _ => u.running = false ∨ u.mode.stop ≠ none) unchanged nothing nothing ∧
  CompletesAlone .modeSet cmdModeSet
    (fun u c => (modeParams (c.p 0 1)).isSome = true ∧ u.badStart (c.p 4 8) (us 2500) = false ∧ u.mode.stop = none
      ∧ u.mode.change = none ∧ c.p 0 1 ≠ u.mode.mode ∧ u.loaded (c.p 0 1) = true)
    (fun u c => u.acceptSet (c.p 0 1) (c.p 4 8)) nothing nothing ∧
  CompletesAlone .modeSet cmdModeSet
    (fun u c => (modeParams (c.p 0 1)).isSome = true ∧ u.badStart (c.p 4 8) (us 2500) = false ∧ u.mode.stop = none
      ∧ u.mode.change = none ∧ c.p 0 1 = u.mode.mode) unchanged nothing nothing ∧
  Completes .modeStatus cmdModeStatus always unchanged
    (fun u _ => bytesOf 1 (if u.running || u.mode.change.isSome then u.mode.mode else u.mode.ranMode) ++ bytesOf 1 (b2n u.mode.change.isSome + 2 * b2n u.mode.stop.isSome)
      ++ bytesOf 2 (if u.running then u.mode.variants else u.variantWord).toNat
      ++ bytesOf 8 (match u.mode.change with | some c => c.b | none => u.mode.lastB)
      ++ bytesOf 8 (match u.mode.change with | some c => c.d | none => u.mode.lastD)
      ++ bytesOf 4 u.mode.lastFrame ++ bytesOf 2 u.mode.lastCol) nothing ∧
  CompletesAlone .serviceEnter cmdServiceEnter
    (fun u c => (c.p 0 2 = 0 ∨ (10 ≤ c.p 0 2 ∧ c.p 0 2 ≤ 3600)) ∧ u.mode.stop = none)
    (fun u c =>
      let secs := if c.p 0 2 = 0 then 300 else c.p 0 2
      State.toState { u with life.session := some { entry := c.e, secs := secs, exp := u.clk + sec secs } } .service)
    nothing nothing ∧
  Completes .serviceExit cmdServiceExit always (fun u _ => u.safeHold false) nothing nothing ∧
  Completes .serviceProof cmdServiceProof
    (fun u c => c.p 0 1 ≤ 63 ∧ c.p 1 1 ≤ 63 ∧ (modeParams (c.p 2 1)).isSome = true ∧ u.retired 6 (c.p 0 1) = false
      ∧ u.present (c.p 0 1) = true ∧ u.usable (c.p 2 1) = true ∧ u.islandReady = true)
    (fun u c => { u with emit.service := u.emit.service ++
      [{ str := c.p 0 1, pat := c.p 1 1, mode := c.p 2 1, slot := u.nextServiceSlot, driven := none }] }) nothing nothing ∧
  MeetsRace .modeStart cmdModeStart ∧ MeetsRace .modeSet cmdModeSet ∧ MeetsRace .serviceEnter cmdServiceEnter ∧
  (∀ (u : State) (c : Ctx), u.race.hold = true →
    cmdModeStart.states u c = false ∧ cmdModeSet.states u c = false ∧ cmdServiceEnter.states u c = false)

/-- The commands of the classes FE, POINT and CAL (R73 to R78, R116 to R118, R363, R364): the configuration words are written, and in
SERVICE come into force at once; the status commands return their words; CAL.LOAD keeps the block for the next MODE.START and starts its
flash write; CAL.STATUS shows the block in force. -/
def Obligations.FrontEndPointAndCalibrationCommandsComplete : Prop :=
  Completes .feConfig cmdFeConfig (fun _ c => feBad (c.p 4 4) = none)
    (fun u c =>
      let put := fun (t : Tab Word) =>
        (onesOf 8 (c.p 0 1)).foldl (fun v k => tput 0x0000039C#32 v k (BitVec.ofNat 32 (c.p 4 4))) t
      { u with front.cfgSet := put u.front.cfgSet
               front.cfg := if u.life.lcs = .service then put u.front.cfg else u.front.cfg }) nothing nothing ∧
  Completes .feTrim cmdFeTrim
    (fun u c => c.din.length = 4 * c.p 2 2 ∧ ∀ i < c.p 2 2, leAt c.din (4 * i) 4 < 64 ∧
      (u.retired 1 (c.p 0 2 + i) = true → bitN (leAt c.din (4 * i) 4) 5 = false →
        bitN (tget 0#32 u.front.trimSet (c.p 0 2 + i)).toNat 5 = false))
    (fun u c =>
      let put := fun (t : Tab Word) => (List.range (c.p 2 2)).foldl (fun v i =>
        tput 0#32 v (c.p 0 2 + i) (BitVec.ofNat 32 (leAt c.din (4 * i) 4))) t
      { u with front.trimSet := put u.front.trimSet
               front.trim := if u.life.lcs = .service then put u.front.trim else u.front.trim }) nothing nothing ∧
  Completes .feStatus cmdFeStatus always unchanged nothing
    (fun u c => (List.range (c.p 2 2)).flatMap (fun i => bytesOf 4 (u.feStatus (c.p 0 2 + i)))) ∧
  Completes .pointConfig cmdPointConfig (fun _ c => fld (c.p 0 4) 0 16 ≤ 1000 ∧ bitN (c.p 0 4) 16 = true)
    (fun u c => { u with front.pointSet := BitVec.ofNat 32 (c.p 0 4) }) nothing nothing ∧
  Completes .pointStatus cmdPointStatus always unchanged
    (fun u _ => bytesOf 4 u.front.point.toNat ++ bytesOf 4 u.front.k) nothing ∧
  Completes .calLoad cmdCalLoad (fun u c => c.din.length = 12596 ∧ calBad c.din = none ∧ u.flashAllowed = true)
    (fun u c => State.startJob { u with front.calSet := some c.din } c (.cal c.din)) nothing nothing ∧
  Completes .calStatus cmdCalStatus always unchanged
    (fun u _ => [BitVec.ofNat 8 (b2n u.front.cal.isSome), 0, 0, 0] ++ bytesOf 4 (match u.front.cal with
      | some l => leAt l 12592 4
      | none => 0)) nothing

/-- The commands of the classes EMIT, LEDGER and PWR (R23, R24, R160, R163, R170, R363 to R367): EMIT.CONFIG writes the emission and string
words, in force at once in SERVICE; LEDGER.SET loads the shares, zeroes every bucket and starts the flash write; PWR.SET removes and powers
the named domains in order, and answers once those it names are on. -/
def Obligations.EmissionLedgerAndPowerCommandsComplete : Prop :=
  Completes .emitConfig cmdEmitConfig
    (fun u c => c.din.length = 260 ∧ emissionBad (leAt c.din 0 4) = none
      ∧ (∀ i < 64, stringBad (leAt c.din 0 4) (leAt c.din (4 + 4 * i) 4) = none) ∧ u.life.lcs ≠ .service)
    (fun u c => { u with emit.wordSet := BitVec.ofNat 32 (leAt c.din 0 4)
                         emit.strSet := (List.range 64).foldl (fun t i =>
                           tput 0x00FC4000#32 t i (BitVec.ofNat 32 (leAt c.din (4 + 4 * i) 4))) [] }) nothing nothing ∧
  Completes .emitConfig cmdEmitConfig
    (fun u c => c.din.length = 260 ∧ emissionBad (leAt c.din 0 4) = none
      ∧ (∀ i < 64, stringBad (leAt c.din 0 4) (leAt c.din (4 + 4 * i) 4) = none) ∧ u.life.lcs = .service)
    (fun u c =>
      let words := (List.range 64).foldl (fun t i => tput 0x00FC4000#32 t i (BitVec.ofNat 32 (leAt c.din (4 + 4 * i) 4))) []
      let word := BitVec.ofNat 32 (leAt c.din 0 4)
      (State.pruneTherm { u with emit.wordSet := word, emit.strSet := words, emit.word := word, emit.strWord := words }).chargeAll)
    nothing nothing ∧
  Completes .emitStatus cmdEmitStatus always unchanged nothing
    (fun u _ => bytesOf 4 u.emit.wordSet.toNat ++ zeros 12 ++ (List.range 64).flatMap u.emitRecord) ∧
  Completes .ledgerSet cmdLedgerSet (fun u c => c.din.length = 1040 ∧ sharesBad c.din = none ∧ u.flashAllowed = true)
    (fun u c => State.startJob { u with emit.shares := sharesOf c.din, emit.bEm := [], emit.bStr := [], emit.bDev := 0 } c
      (.shares c.din)) nothing nothing ∧
  Completes .ledgerStatus cmdLedgerStatus always unchanged nothing
    (fun u _ => (List.range 65).flatMap (fun i => bytesOf 16 (u.share i))
      ++ (List.range 1024).flatMap (fun e => bytesOf 4 (tget 0 u.emit.bEm e))
      ++ (List.range 64).flatMap (fun i => bytesOf 4 (tget 0 u.emit.bStr i)) ++ bytesOf 4 u.emit.bDev) ∧
  (let names := fun (u : State) (c : Ctx) =>
      (∀ d < 34, bitN (c.p 0 5) d = true → bitN (c.p 8 5) d = false ∧ nameable d = true)
      ∧ (∀ d < 34, bitN (c.p 8 5) d = true → nameable d = true) ∧ u.pwrRefused (c.p 0 5) (c.p 8 5) = false
   let removed := fun (u : State) (c : Ctx) => (powerOrder.reverse.filter (fun d => bitN (c.p 8 5) d)).foldl State.domOff
      (if bitN (c.p 8 5) 30 then u.monOff else u)
   let wait := fun (u : State) (c : Ctx) => maskOf ((List.range 34).filter (fun d => bitN (c.p 0 5) d && !(removed u c).domOn d))
   let powered := fun (u : State) (c : Ctx) => State.rampNext { removed u c with
      power.toPower := (removed u c).power.toPower ++ powerOrder.filter (fun d => bitN (c.p 0 5) d && !(removed u c).powering d) }
   Completes .pwrSet cmdPwrSet (fun u c => names u c ∧ wait u c = 0) powered nothing nothing ∧
   (∀ (dt : Nat) (r : Req) (s : State), awake s → Admitted cmdPwrSet r (s.advance dt) →
    let u := evalState cmdPwrSet r (s.advance dt)
    let c := ctxFor cmdPwrSet r
    names u c → wait u c ≠ 0 → exec (.pwrSet dt r) s = .next (after dt s (answered cmdPwrSet r (s.advance dt)
      { st := powered u c, pwr := some (wait u c) })))) ∧
  Completes .pwrStatus cmdPwrStatus always unchanged
    (fun u _ => bytesOf 5 u.power.dom.toNat ++ zeros 3 ++ bytesOf 5 (maskOf ((List.range 34).filter u.heldOff))) nothing

/-- The commands of the class LOOP (R174, R180, R193 to R201, R366): an axis closes and opens, its blocks and setpoint are written, its
repetitive memory is cleared, and its status is read. A fault of the command's FAB_CK cycle that opens the loop comes first: the axis then
brakes, whichever row is first in the queue (R196; how far the cycle is looked into: log entry 130). -/
def Obligations.LoopCommandsComplete : Prop :=
  CompletesAlone .loopClose cmdLoopClose
    (fun u c => u.loopSt c.axis ≠ .braking ∧ (u.running = true ∨ live (u.loopSt c.axis) = true)) unchanged nothing nothing ∧
  CompletesAlone .loopClose cmdLoopClose
    (fun u c => u.loopSt c.axis = .open_ ∧ u.running = false ∧ (axisFns c.axis).any u.fnLost = false ∧ u.domOn 31 = true
      ∧ bitN u.power.domDead.toNat 32 = false)
    (fun u c => match c.axis with | .A => u.closeA | .B => u.closeB) nothing nothing ∧
  CompletesAlone .loopOpen cmdLoopOpen (fun u c => u.loopSt c.axis = .braking) unchanged nothing nothing ∧
  CompletesAlone .loopOpen cmdLoopOpen (fun u c => u.loopSt c.axis ≠ .braking)
    (fun u c => match c.axis with | .A => u.openA false .regen | .B => u.openB false false) nothing nothing ∧
  CompletesAlone .loopCoef cmdLoopCoef
    (fun u c => c.axis = .A ∧ u.loopSt .A = .open_ ∧ c.din.length = 40 ∧ coefBadA (leAt c.din 0 32) = none
      ∧ repBad .A (fld (leAt c.din 0 32) 64 16) (leAt c.din 32 8) = none)
    (fun u c => u.modA (fun a => { a with
      coef := BitVec.ofNat 256 (leAt c.din 0 32), repCfg := BitVec.ofNat 64 (leAt c.din 32 8)
      rep := a.rep.recfg a.repCfg (BitVec.ofNat 64 (leAt c.din 32 8))
      commOk := a.indexed && !a.fbBad && (bitN (leAt c.din 0 32) 176 || a.learned.isSome)
      commRef := if bitN (leAt c.din 0 32) 176 then fld (leAt c.din 0 32) 160 16 else (a.learned.getD 0 : Nat) }))
    nothing nothing ∧
  CompletesAlone .loopCoef cmdLoopCoef
    (fun u c => c.axis = .B ∧ u.loopSt .B = .open_ ∧ c.din.length = 40 ∧ coefBadB (leAt c.din 0 32) = none
      ∧ repBad .B (fld (leAt c.din 0 32) 48 16) (leAt c.din 32 8) = none)
    (fun u c => u.modB (fun b => { b with
      coef := BitVec.ofNat 256 (leAt c.din 0 32), repCfg := BitVec.ofNat 64 (leAt c.din 32 8)
      rep := b.rep.recfg b.repCfg (BitVec.ofNat 64 (leAt c.din 32 8)) })) nothing nothing ∧
  Completes .loopSet cmdLoopSet (fun u c => c.axis = .A ∧ c.p 4 4 ≤ 1200000 ∧ u.setLoaded = false)
    (fun u c => u.modA (fun a => { a with set := c.p 4 4 })) nothing nothing ∧
  Completes .loopSet cmdLoopSet
    (fun u c => c.axis = .B ∧ u.bSigned 160 20 ≤ sgn 32 (c.p 4 4) ∧ sgn 32 (c.p 4 4) ≤ u.bSigned 192 20)
    (fun u c => u.modB (fun b => { b with hold := sgn 32 (c.p 4 4) })) nothing nothing ∧
  CompletesAlone .loopRepClear cmdLoopRepClear (fun u c => c.axis = .A ∧ u.loopSt .A = .open_)
    (fun u _ => u.modA (fun a => { a with rep := { a.rep with m := [], u := 0 } })) nothing nothing ∧
  CompletesAlone .loopRepClear cmdLoopRepClear (fun u c => c.axis = .B ∧ u.loopSt .B = .open_)
    (fun u _ => u.modB (fun b => { b with rep := { b.rep with m := [], u := 0 } })) nothing nothing ∧
  Completes .loopStatus cmdLoopStatus always unchanged
    (fun u c => match c.axis with | .A => u.loopStatusA | .B => u.loopStatusB) nothing ∧
  MeetsRace .loopClose cmdLoopClose ∧ MeetsRace .loopOpen cmdLoopOpen ∧ MeetsRace .loopCoef cmdLoopCoef ∧
  MeetsRace .loopRepClear cmdLoopRepClear ∧
  (∀ u : State, (u.loopSt .A = if u.race.brakeA then .braking else u.scan.a.st) ∧
    (u.loopSt .B = if u.race.brakeB then .braking else u.scan.b.st))

/-- The commands of the classes SCHED and SAFE (R240, R366, R397, R400): SCHED.LOAD clears the store and holds the whole file for
validation; SAFE.CONFIG keeps the configuration for the next exit from SAFE HOLD, starts its flash write and ends 0x8011. -/
def Obligations.ScheduleAndSafetyCommandsComplete : Prop :=
  Completes .schedLoad cmdSchedLoad always (fun u c => u.beginLoad (loadOf c c.din true)) nothing nothing ∧
  Completes .schedStatus cmdSchedStatus always unchanged
    (fun u _ => bytesOf 4 u.sched.setId.toNat ++ bytesOf 4 u.sched.libId.toNat
      ++ bytesOf 1 (maskOf ((List.range 8).filter u.loaded)) ++ bytesOf 1 u.sched.result ++ bytesOf 1 (b2n u.facetMismatch)
      ++ zeros 1 ++ bytesOf 4 u.sched.file.length)
    (fun u _ => (List.range 8).flatMap (fun k => bytesOf 4 (u.slotEnd k) ++ bytesOf 4 (u.sector k).lastEnd
      ++ bytesOf 4 (uns 32 (u.slack k)) ++ zeros 4)) ∧
  Completes .safeConfig cmdSafeConfig (fun u c => 68 ≤ c.din.length ∧ safeBad c.din = none ∧ u.flashAllowed = true)
    (fun u c => (State.startJob { u with safe.cfgNext := some (c.din, c.p 0 1) } c (.safe c.din (c.p 0 1))).endFault 0x8011)
    nothing nothing ∧
  Completes .safeStatus cmdSafeStatus always unchanged nothing (fun u _ => u.safeStatus)

/-- The commands of the class HK (R406, R414 to R419, R427): records wait for their channels' next positions, switches and thermal limits
are written, a channel claims the urgent slot, and results are read. -/
def Obligations.HousekeepingCommandsComplete : Prop :=
  Completes .hkConfig cmdHkConfig
    (fun u c => 16 ≤ c.din.length ∧ c.din.length % 16 = 0 ∧ u.hkConfigBad c.din = none)
    (fun u c => (recordsOf c.din).foldl (fun t x => t.modHkc (fld (leAt x 0 1) 0 6) (fun h =>
        { h with next := some (BitVec.ofNat 128 (leAt x 0 16)) }))
      { u with hk.wordNext := if BitVec.ofNat 128 (leAt c.din 0 16) = u.hk.word then none
               else some (BitVec.ofNat 128 (leAt c.din 0 16)) }) nothing nothing ∧
  Completes .hkSwitch cmdHkSwitch
    (fun _ c => c.din.length = 256 ∧ ∀ i < 16, switchBad ((c.din.drop (16 * i)).take 16) = none)
    (fun u c => (List.range 16).foldl (fun t i =>
        t.switchTo i (if bitN (leAt c.din (16 * i) 16) 6 && t.swOpen i then bitN (leAt c.din (16 * i) 16) 11
          else bitN u.hk.swOn.toNat i && bitN (leAt c.din (16 * i) 16) 6 && bitN (u.swRec i) 6
            && fld (leAt c.din (16 * i) 16) 0 6 = fld (u.swRec i) 0 6))
      { u with hk.swCfg := (List.range 16).foldl (fun t i => tput 0#128 t i (BitVec.ofNat 128 (leAt c.din (16 * i) 16))) [] })
    nothing nothing ∧
  Completes .hkTherm cmdHkTherm
    (fun u c => 16 ≤ c.din.length ∧ c.din.length % 16 = 0 ∧ limitsBad c.din = none
      ∧ ∀ i < (recordsOf c.din).length, u.extraBad (((recordsOf c.din).take i).map (fun x => leAt x 0 1))
          ((recordsOf c.din).getD i []) = none)
    (fun u c => State.pruneTherm { u with
      hk.tjWarn := sgn 16 (leAt c.din 0 2), hk.tjStop := sgn 16 (leAt c.din 2 2), hk.headWarn := sgn 16 (leAt c.din 4 2)
      hk.headStop := sgn 16 (leAt c.din 6 2), hk.extra := (recordsOf c.din).map (fun x => BitVec.ofNat 128 (leAt x 0 16)) })
    nothing nothing ∧
  Completes .hkUrgent cmdHkUrgent
    (fun u c => c.p 0 1 ≤ 47 ∧ hkKind (u.hkc (c.p 0 1)).cfg ≠ 0 ∧ u.hk.urgent = none ∧ u.hk.pos ≠ 11)
    (fun u c => { u with hk.urgent := some (c.p 0 1) }) nothing nothing ∧
  Completes .hkRead cmdHkRead (fun _ c => c.p 0 1 ≤ 47 ∧ c.p 1 1 ≠ 0 ∧ c.p 0 1 + c.p 1 1 ≤ 48) unchanged nothing
    (fun u c => (List.range (c.p 1 1)).flatMap (fun i => u.hkReport (c.p 0 1 + i) ++ zeros 3))

/-- The commands of the classes RIDGE, CHAIN and HOST (R281 to R285, R303, R318, R319, R328, R368, R369): port and test words are written,
CHAIN.CONFIG brings its words into force, CHAIN.DISCOVER starts discovery, CHAIN.TIME_SET sets the step for the next control cycle,
HOST.NET_CONFIG keeps the settings for 1 ms later, and the status commands return their records. -/
def Obligations.RidgeChainAndHostCommandsComplete : Prop :=
  Completes .ridgeLaneCfg cmdRidgeLaneCfg
    (fun u c => fld (c.p 4 4) 3 3 ≤ 5 ∧ 10 ≤ fld (c.p 4 4) 8 8 ∧ u.retired 8 (c.p 0 1) = false ∧ bitN (c.p 4 4) 16 = false)
    (fun u c => u.modRport (c.p 0 1) (fun q => { q with
      cfgSet := BitVec.ofNat 32 (setFld (c.p 4 4) 16 1 0)
      cfg := if q.active then q.cfg else BitVec.ofNat 32 (setFld (c.p 4 4) 16 1 0) })) nothing nothing ∧
  Completes .ridgeLaneCfg cmdRidgeLaneCfg
    (fun u c => fld (c.p 4 4) 3 3 ≤ 5 ∧ 10 ≤ fld (c.p 4 4) 8 8 ∧ u.retired 8 (c.p 0 1) = false ∧ bitN (c.p 4 4) 16 = true
      ∧ (u.rport (c.p 0 1)).up = true ∧ (u.rport (c.p 0 1)).retrain = false)
    (fun u c => (u.modRport (c.p 0 1) (fun q => { q with
      cfgSet := BitVec.ofNat 32 (setFld (c.p 4 4) 16 1 0)
      cfg := if q.active then q.cfg else BitVec.ofNat 32 (setFld (c.p 4 4) 16 1 0) })).portRetrain (c.p 0 1)) nothing nothing ∧
  Completes .ridgeLaneTest cmdRidgeLaneTest
    (fun u c => fld (c.p 4 4) 0 3 ≤ 4 ∧ u.retired 8 (c.p 0 1) = false
      ∧ (fld (c.p 4 4) 0 3 = 0 ↔ fld (u.rport (c.p 0 1)).test.toNat 0 3 = 0))
    (fun u c => (u.countLanes (c.p 0 1)).modRport (c.p 0 1) (fun q => { q.clearPrbs (c.p 4 4) with test := BitVec.ofNat 32 (c.p 4 4) }))
    nothing nothing ∧
  Completes .ridgeLaneStatus cmdRidgeLaneStatus always (fun u c => u.observeLanes (c.p 0 1)) nothing
    (fun u c => (u.observeLanes (c.p 0 1)).laneStatus (c.p 0 1)) ∧
  Completes .chainConfig cmdChainConfig
    (fun _ c => c.din.length = 24 ∧ chainBad c.din = none ∧ bitN ((chainWords c.din).getD 0 0) 4 = false)
    (fun u c => u.chainConfig (chainWords c.din)) nothing nothing ∧
  Completes .chainConfig cmdChainConfig
    (fun u c => c.din.length = 24 ∧ chainBad c.din = none ∧ bitN ((chainWords c.din).getD 0 0) 4 = true ∧ u.flashAllowed = true)
    (fun u c => (u.chainConfig (chainWords c.din)).startJob c
      (.chain ((u.chainConfig (chainWords c.din)).chain.word :: ((chainWords c.din).drop 1).map (BitVec.ofNat 32))))
    nothing nothing ∧
  Completes .chainDiscover cmdChainDiscover (fun u _ => u.chain.disc = none)
    (fun u _ => State.startDiscovery { u with chain.retry := false }) nothing nothing ∧
  Completes .chainTimeSet cmdChainTimeSet (fun _ c => c.p 0 8 % 6400000 = 0)
    (fun u c => { u with chain.setTo := some (c.p 0 8) }) nothing nothing ∧
  Completes .chainStatus cmdChainStatus always unchanged nothing
    (fun u _ => padTo 256 (Config.chainStatusBytes u.chainItems)) ∧
  Completes .hostNetConfig cmdHostNetConfig
    (fun u c => c.din.length = 40 ∧ netBad (u.portMode c.e.port = 3) c.din = none ∧ bitN (leAt c.din 14 1) 3 = false)
    (fun u c => u.modPort c.e.port (fun h => { h with netNew := some (netOf c.din, u.clk + ms 1) })) nothing nothing ∧
  Completes .hostNetConfig cmdHostNetConfig
    (fun u c => c.din.length = 40 ∧ netBad (u.portMode c.e.port = 3) c.din = none ∧ bitN (leAt c.din 14 1) 3 = true
      ∧ u.flashAllowed = true)
    (fun u c => (u.modPort c.e.port (fun h => { h with netNew := some (netOf c.din, u.clk + ms 1) })).startJob c
      (.net c.e.port (netOf c.din))) nothing nothing ∧
  Completes .hostStatus cmdHostStatus (fun _ c => c.p 0 1 ≤ 1) unchanged nothing
    (fun u c => padTo 128 (Config.hostStatusBytes (u.hostItems (if c.p 0 1 = 0 then .A else .B))))

/-- The commands of the classes SEM and KEY (R344, R345, R347, R368, R370, R371): a free semaphore is claimed, a held one released or given
a new lease; where the other port claims one in the same FAB_CK cycle, the priority bit orders the two and turns (R324); a key is rotated
into the lowest BLANK slot and the old one revoked, the first key is provisioned, a digest slot is written or revoked; the status commands return their words. -/
def Obligations.SemaphoreAndKeyCommandsComplete : Prop :=
  CompletesWhen (fun r u => r.entry.pair.isSome = true ∨ rivalClaim u r.entry.port = none) .semClaim cmdSemClaim always
    (fun u c => u.claim c.e (c.p 0 1)) (fun u c => bytesOf 4 ((u.claim c.e (c.p 0 1)).semWord (some c.e) (c.p 0 1))) nothing ∧
  (∀ (dt : Nat) (r : Req) (s : State) (q : HostPort) (k : Nat), awake s → r.entry.pair = none →
    rivalClaim (s.advance dt) r.entry.port = some (q, k) →
    let u := s.advance dt
    let first := if k = fld r.slot.toNat 320 8 ∧ u.prio = (q == .B) then u.claim (localEntry q) k else u
    exec (.semClaim dt r) s = .next (afterKeep dt s { State.command cmdSemClaim r first with prio := !u.prio })) ∧
  Completes .semRelease cmdSemRelease (fun u c => u.holds c.e (c.p 0 1) = true) (fun u c => u.release c.e (c.p 0 1))
    nothing nothing ∧
  Completes .semLease cmdSemLease (fun u c => BitVec.ofNat 8 (c.p 1 1) ≠ 0 ∧ u.holds c.e (c.p 0 1) = true)
    (fun u c => u.modSem (c.p 0 1) (fun x => { x with
      lease := BitVec.ofNat 8 (c.p 1 1), exp := u.clk + leaseTicks (BitVec.ofNat 8 (c.p 1 1)) })) nothing nothing ∧
  Completes .semStatus cmdSemStatus always unchanged nothing
    (fun u c => (List.range 32).flatMap (fun n => bytesOf 4 (u.semWord (some c.e) n))) ∧
  (∀ (key : BitVec 128) (n : Nat), Completes .keyRotate cmdKeyRotate
    (fun u c => keyUnwrap (u.key c.e.port (slotKey c.slot)).key (bytesOf 24 (c.p 0 24)) = some key
      ∧ u.blankKey c.e.port = some n ∧ u.otpAllowed = true)
    (fun u c => ((u.setKey c.e.port n { st := .active, key := key }).setKey c.e.port (slotKey c.slot)
      { u.key c.e.port (slotKey c.slot) with st := .revoked }).sayKey c.e.port n) nothing nothing) ∧
  Completes .keyProvision cmdKeyProvision
    (fun u c => c.e.pair = none ∧ (∀ k < 4, (u.key c.e.port k).st = .blank) ∧ u.holds c.e 5 = true ∧ u.otpAllowed = true)
    (fun u c => (u.setKey c.e.port 0 { st := .active, key := BitVec.ofNat 128 (ofBytesBE (bytesOf 16 (c.p 0 16))) }).sayKey
      c.e.port 0) nothing nothing ∧
  Completes .keySchedDigest cmdKeySchedDigest
    (fun u c => c.p 1 1 = 0 ∧ c.din.length = 32 ∧ (tget {} u.otp.sched (c.p 0 1)).st = .blank ∧ u.otpAllowed = true)
    (fun u c => { u with
      otp.sched := tput {} u.otp.sched (c.p 0 1)
        { st := .active, dig := BitVec.ofNat 256 (ofBytesBE c.din) } }) nothing nothing ∧
  Completes .keySchedDigest cmdKeySchedDigest
    (fun u c => c.p 1 1 = 1 ∧ c.din.length = 0 ∧ (tget {} u.otp.sched (c.p 0 1)).st = .active
      ∧ (∃ i < 2, i ≠ c.p 0 1 ∧ (tget {} u.otp.sched i).st = .active) ∧ u.otpAllowed = true)
    (fun u c => { u with
      otp.sched := tput {} u.otp.sched (c.p 0 1)
        { tget {} u.otp.sched (c.p 0 1) with st := .revoked } }) nothing nothing ∧
  Completes .keyStatus cmdKeyStatus always unchanged
    (fun u c => bytesOf 1 (sumTo 4 (fun k => otpCode (u.key .A k).st * 4 ^ k))
      ++ bytesOf 1 (sumTo 4 (fun k => otpCode (u.key .B k).st * 4 ^ k))
      ++ bytesOf 1 (sumTo 2 (fun k => otpCode (tget {} u.otp.sched k).st * 4 ^ k)) ++ zeros 1
      ++ (List.range 4).flatMap (fun k => bytesOf 4 (tget 0#32 (u.auth c.e).counters k).toNat)) nothing

/-- The commands of the classes FW, MON, FAULT, HEALTH and HIST (R355, R370, R372, R453, R482, R489, R492, R495): FW.WRITE starts its flash
write, FW.COMMIT writes the boot control record, both its copies, and says so, MON.WRITE and MON.READ reach the monitor block, HEALTH.CONFIG replaces a monitor and clears
its statistics, the status commands return their records, and HIST.DUMP waits with no response for its columns. -/
def Obligations.FirmwareMonitorAndReportCommandsComplete : Prop :=
  Completes .fwWrite cmdFwWrite
    always (fun u c => u.startJob c (.fw (c.p 0 1) (c.p 4 4) c.din)) nothing nothing ∧
  Completes .fwCommit cmdFwCommit (fun u c => u.imageOk (u.fwSlot (c.p 0 1)) = true ∧ u.flash.ok = true ∧ u.flashAllowed = true)
    (fun u c => { u.flashWritten 0x1302 true (slotTag c.slot) c.e with
      flash.boot := some (c.p 0 1), flash.boot2 := some (c.p 0 1)
      power.boot.startsA := if c.p 0 1 = 0 then 0 else u.power.boot.startsA
      power.boot.startsB := if c.p 0 1 = 1 then 0 else u.power.boot.startsB }) nothing nothing ∧
  Completes .fwStatus cmdFwStatus always unchanged
    (fun u _ => bytesOf 1 u.power.boot.slot ++ bytesOf 1 u.nextSlot ++ bytesOf 1 (b2n (!u.power.boot.hostImg && u.power.boot.slot != u.nextSlot))
      ++ bytesOf 1 (b2n (u.slotOk 0) + 2 * b2n (u.slotOk 1)) ++ bytesOf 4 (leAt (u.fwSlot 0) 8 4)
      ++ bytesOf 4 (leAt (u.fwSlot 1) 8 4)) nothing ∧
  Completes .monWrite cmdMonWrite always (fun u c => u.monWrite (c.p 0 2) (c.p 4 4)) nothing nothing ∧
  Completes .monRead cmdMonRead always unchanged (fun u c => bytesOf 4 (u.monRead (c.p 0 2))) nothing ∧
  Completes .faultLog cmdFaultLog (fun _ c => c.p 0 2 ≤ 255 ∧ c.p 2 1 ≠ 0 ∧ c.p 2 1 ≤ 64) unchanged nothing
    (fun u c => (List.range (c.p 2 1)).flatMap (fun i => logBytes (u.faults.log[c.p 0 2 + i]?))) ∧
  Completes .faultUnits cmdFaultUnits always unchanged nothing (fun u _ => u.unitsMap) ∧
  Completes .healthConfig cmdHealthConfig
    (fun _ c => c.p 0 1 / 32 = portIdx c.e.port ∧ c.din.length = 32 ∧ healthBad (leAt c.din 0 32) = none)
    (fun u c => { u with
      faults.monitors := tput {} u.faults.monitors (c.p 0 1) (
        { cfg := BitVec.ofNat 256 (leAt c.din 0 32), start := u.clk, armMin := bitN (leAt c.din 0 32) 35,
          armMax := bitN (leAt c.din 0 32) 36 } : Monitor) }) nothing nothing ∧
  Completes .healthRead cmdHealthRead (fun _ c => c.p 0 1 ≤ 63 ∧ c.p 1 1 ≠ 0 ∧ c.p 0 1 + c.p 1 1 ≤ 64) unchanged nothing
    (fun u c => (List.range (c.p 1 1)).flatMap (fun i => (tget {} u.faults.monitors (c.p 0 1 + i)).bytes)) ∧
  (∀ (dt : Nat) (r : Req) (s : State), awake s → Admitted cmdHistDump r (s.advance dt) →
    let u := evalState cmdHistDump r (s.advance dt)
    let c := ctxFor cmdHistDump r
    c.p 0 2 ≤ 1023 → c.p 2 1 ≠ 0 → c.p 2 1 ≤ 4 → u.chanRetired (c.p 0 2) = false → 10248 * c.p 2 1 ≤ slotDlen c.slot →
    exec (.histDump dt r) s = .next (after dt s (answered cmdHistDump r (s.advance dt)
      { st := u, dump := some { ch := c.p 0 2, left := c.p 2 1, bytes := [] } })))

/-! ### Operations of a sector engine (R205 to R232) -/

/-- Operations of the L slot (R209, R212, R216, R222, R230): with its guard passed and its address in local data memory, a load sends the
bytes it reads to its destination registers at the latency of local memory, and a store sends its bytes to memory; with its address in the
histogram window or the state memory and its claim covered by a token, a load sends what it reads there at its area's latency, after the
effects of an error that it meets, a store sends its bytes to the state memory, and STD sends its 64 bits to the output port; the index is
post-modified. A NOP slot whose bundle is free of errors and not held as reserved does nothing; one held as reserved raises 0x3003, and
one whose fetch failed raises 0x3001. -/
def Obligations.LoadStoreAndNopOperationsComplete : Prop :=
  let loads : (Fin 256 → LSlot → EccHit → Nat → Instr) → Nat → (State → Nat → Nat → List Nat) → Prop := fun mk z read =>
    ∀ (e : Fin 256) (op : LSlot) (ecc : EccHit), Issues (mk e op ecc) e
      (fun u => passes e op.pred op.pneg u ∧ (u.eng e.val).ea u.free op z / z * z < 0x10000)
      (fun u cyc =>
        let ea := (u.eng e.val).ea u.free op z / z * z
        let v := u.loadEcc e.val (.loc) ecc false
        let ws := read u e.val ea
        (((List.range ws.length).foldl (fun t i => t.send e.val (cyc + 3) (.x (op.xreg.toNat + i)) (ws.getD i 0)) v).postMod
          e.val cyc op).took)
  let stores : (Fin 256 → LSlot → Nat → Instr) → Nat → (LSlot → Eng → Nat) → Prop := fun mk z val =>
    ∀ (e : Fin 256) (op : LSlot), Issues (mk e op) e
      (fun u => passes e op.pred op.pneg u ∧ (u.eng e.val).ea u.free op z / z * z < 0x10000)
      (fun u cyc =>
        let ea := (u.eng e.val).ea u.free op z / z * z
        (((List.range z).foldl (fun t i => t.send e.val (cyc + 2) (.mem (ea + i)) (fld (val op (u.eng e.val)) (8 * i) 8))
          u).postMod e.val cyc op).took)
  let granted : Fin 256 → Nat → State → Prop := fun e ea u => ∀ cyc, u.runCycle (e.val / 32) = some cyc →
    u.tokenOk e.val cyc (areaOf ea) = true ∧ u.tooLate e.val cyc (areaOf ea) = false
  let far : (Fin 256 → LSlot → EccHit → Nat → Instr) → Nat → Bool → (State → Nat → Nat → List Nat) → Prop := fun mk z line read =>
    ∀ (e : Fin 256) (op : LSlot) (ecc : EccHit), Issues (mk e op ecc) e
      (fun u =>
        let ea := (u.eng e.val).ea u.free op z / z * z
        passes e op.pred op.pneg u ∧ ((∃ t off, areaOf ea = .hist t off) ∨ ∃ off, areaOf ea = .state off) ∧ granted e ea u)
      (fun u cyc =>
        let ea := (u.eng e.val).ea u.free op z / z * z
        let lat := match areaOf ea with
          | .hist _ _ => 6 + 2 * u.runVariant (e.val / 32)
          | _ => 4 + 2 * u.runVariant (e.val / 32)
        let v := u.loadEcc e.val (areaOf ea) ecc line
        let ws := read u e.val ea
        (((List.range ws.length).foldl (fun t i => t.send e.val (cyc + lat) (.x (op.xreg.toNat + i)) (ws.getD i 0)) v).postMod
          e.val cyc op).took)
  let kept : (Fin 256 → LSlot → Nat → Instr) → Nat → (LSlot → Eng → Nat) → Prop := fun mk z val =>
    ∀ (e : Fin 256) (op : LSlot) (off : Nat), Issues (mk e op) e
      (fun u =>
        let ea := (u.eng e.val).ea u.free op z / z * z
        passes e op.pred op.pneg u ∧ areaOf ea = .state off ∧ granted e ea u)
      (fun u cyc => (((List.range z).foldl (fun t i => t.send e.val (cyc + 3 + 2 * u.runVariant (e.val / 32)) (.state (off + i))
        (fld (val op (u.eng e.val)) (8 * i) 8)) u).postMod e.val cyc op).took)
  let pair : LSlot → Eng → Nat := fun op x => x.rx op.xreg.toNat + 2 ^ 32 * x.rx ((op.xreg.toNat + 1) % 32)
  let at_ : State → Nat → Nat → Nat → Nat := fun u e ea n => match areaOf ea with
    | .hist t off => mread (u.tile (8 * (e / 32) + t)).handed.mem off n
    | .state off => mread (u.sector (e / 32)).mem off n
    | _ => 0
  far (fun e op ecc dt => .engLdb dt e op ecc) 1 false (fun u e ea => [at_ u e ea 1]) ∧
  far (fun e op ecc dt => .engLdh dt e op ecc) 2 false (fun u e ea => [at_ u e ea 2]) ∧
  far (fun e op ecc dt => .engLdw dt e op ecc) 4 false (fun u e ea => [at_ u e ea 4]) ∧
  far (fun e op ecc dt => .engLdd dt e op ecc) 8 false (fun u e ea => [at_ u e ea 8 % 2 ^ 32, at_ u e ea 8 / 2 ^ 32]) ∧
  far (fun e op ecc dt => .engLdb4 dt e op ecc) 1 true
    (fun u e ea => (List.range 4).map (fun i => at_ u e (ea / 16 * 16 + (ea + i) % 16) 1)) ∧
  kept (fun e op dt => .engStb dt e op) 1 (fun op x => x.rx op.xreg.toNat) ∧
  kept (fun e op dt => .engSth dt e op) 2 (fun op x => x.rx op.xreg.toNat) ∧
  kept (fun e op dt => .engStw dt e op) 4 (fun op x => x.rx op.xreg.toNat) ∧
  kept (fun e op dt => .engStd dt e op) 8 pair ∧
  (∀ (e : Fin 256) (op : LSlot) (summary : Bool), Issues (fun dt => .engStd dt e op) e
    (fun u =>
      let ea := (u.eng e.val).ea u.free op 8 / 8 * 8
      passes e op.pred op.pneg u ∧ ea = (if summary then 0x400008 else 0x400000) ∧ granted e ea u)
    (fun u cyc => ((u.portWord64 e.val cyc summary (pair op (u.eng e.val))).postMod e.val cyc op).took)) ∧
  loads (fun e op ecc dt => .engLdb dt e op ecc) 1 (fun u e ea => [mread (u.eng e).mem ea 1]) ∧
  loads (fun e op ecc dt => .engLdh dt e op ecc) 2 (fun u e ea => [mread (u.eng e).mem ea 2]) ∧
  loads (fun e op ecc dt => .engLdw dt e op ecc) 4 (fun u e ea => [mread (u.eng e).mem ea 4]) ∧
  loads (fun e op ecc dt => .engLdd dt e op ecc) 8
    (fun u e ea => [mread (u.eng e).mem ea 8 % 2 ^ 32, mread (u.eng e).mem ea 8 / 2 ^ 32]) ∧
  loads (fun e op ecc dt => .engLdb4 dt e op ecc) 1
    (fun u e ea => (List.range 4).map (fun i => mread (u.eng e).mem (ea / 16 * 16 + (ea + i) % 16) 1)) ∧
  stores (fun e op dt => .engStb dt e op) 1 (fun op x => x.rx op.xreg.toNat) ∧
  stores (fun e op dt => .engSth dt e op) 2 (fun op x => x.rx op.xreg.toNat) ∧
  stores (fun e op dt => .engStw dt e op) 4 (fun op x => x.rx op.xreg.toNat) ∧
  stores (fun e op dt => .engStd dt e op) 8
    (fun op x => x.rx op.xreg.toNat + 2 ^ 32 * x.rx ((op.xreg.toNat + 1) % 32)) ∧
  (∀ (e : Fin 256) (k : SlotKind) (ecc : EccHit), ecc ≠ .bad → Issues (fun dt => .engNop dt e k ecc) e
    (fun u => reservedOpc k (slotOpc ((u.eng e.val).active.getD (u.eng e.val).pc 0).toNat k) = true)
    (fun u _ => (if ecc = .corrected then (u.setStat e.val 8).corrected 64 1 else u).engFault 0x3003 e.val)) ∧
  (∀ (e : Fin 256) (k : SlotKind), Issues (fun dt => .engNop dt e k .bad) e
    (fun u => u.logicalOf e.val = none) (fun u _ => (u.modEng e.val (fun x => x)).engFault 0x3001 e.val)) ∧
  (∀ (e : Fin 256) (k : SlotKind) (i : SectorImage) (l : Nat), Issues (fun dt => .engNop dt e k .bad) e
    (fun u => u.imageInForce (e.val / 32) = some i ∧ u.logicalOf e.val = some l)
    (fun u _ => (u.modEng e.val (fun x => x.setActive (programOf i l))).engFault 0x3001 e.val)) ∧
  (∀ (e : Fin 256) (k : SlotKind), Issues (fun dt => .engNop dt e k .clean) e
    (fun u => reservedOpc k (slotOpc ((u.eng e.val).active.getD (u.eng e.val).pc 0).toNat k) = false) (fun u _ => u))

/-- Operations of the A slot that write a register or a predicate (R217, R221, R223, R227 to R229): with its guard passed, each sends its
result on its way, to land one cycle after its issue, 20 for divisions and 12 for the square root; ADDS, SUBS, ABS, SATH and a division
saturate and set SAT; a zero divisor answers the limit of the dividend's sign and sets DIVZ; MTS clears the fields where its source has
ones, those set in the same cycle apart (R7). SQRT of a shift beyond 8 and MFS of another register than 0 or 1 write an open value (the
model's form of it, log entry 3). -/
def Obligations.ArithmeticOperationsComplete : Prop :=
  let alu : (Fin 256 → ASlot → Nat → Instr) → (ASlot → State → Eng → Int) → Prop := fun mk f =>
    ∀ (e : Fin 256) (op : ASlot), Issues (mk e op) e (passes e op.pred op.pneg)
      (fun u cyc => u.send e.val (cyc + 1) (.x op.dst.toNat) (uns 32 (f op u (u.eng e.val))))
  let aluSat : (Fin 256 → ASlot → Nat → Instr) → Nat → (ASlot → Eng → Int) → Prop := fun mk n f =>
    ∀ (e : Fin 256) (op : ASlot), Issues (mk e op) e (passes e op.pred op.pneg)
      (fun u cyc => (u.send e.val (cyc + 1) (.x op.dst.toNat) (uns 32 (satI n (f op (u.eng e.val))).1)).satStat e.val
        (satI n (f op (u.eng e.val))).2)
  let pred : (Fin 256 → ASlot → Nat → Instr) → (ASlot → Eng → Bool) → Prop := fun mk f =>
    ∀ (e : Fin 256) (op : ASlot), Issues (mk e op) e (passes e op.pred op.pneg)
      (fun u cyc => u.send e.val (cyc + 1) (.p (op.dst.toNat % 8)) (b2n (f op (u.eng e.val))))
  let div : (Fin 256 → ASlot → Nat → Instr) → (Int → Int → Int) → Prop := fun mk f =>
    ∀ (e : Fin 256) (op : ASlot),
      Issues (mk e op) e (fun u => passes e op.pred op.pneg u ∧ opB (u.eng e.val) op ≠ 0)
        (fun u cyc =>
          let r := satI 32 (f (opA (u.eng e.val) op * (2 ^ shOf op : Nat)) (opB (u.eng e.val) op))
          (u.send e.val (cyc + 20) (.x op.dst.toNat) (uns 32 r.1)).satStat e.val r.2) ∧
      Issues (mk e op) e (fun u => passes e op.pred op.pneg u ∧ opB (u.eng e.val) op = 0)
        (fun u cyc => (u.send e.val (cyc + 20) (.x op.dst.toNat)
          (if 0 ≤ opA (u.eng e.val) op then 0x7FFFFFFF else 0x80000000)).setStat e.val 4)
  alu (fun e op dt => .engAdd dt e op) (fun op _ x => opA x op + opB x op) ∧
  aluSat (fun e op dt => .engAdds dt e op) 32 (fun op x => opA x op + opB x op) ∧
  alu (fun e op dt => .engSub dt e op) (fun op _ x => opA x op - opB x op) ∧
  aluSat (fun e op dt => .engSubs dt e op) 32 (fun op x => opA x op - opB x op) ∧
  alu (fun e op dt => .engAnd dt e op) (fun op _ x => (uns 32 (opA x op) &&& uns 32 (opB x op) : Nat)) ∧
  alu (fun e op dt => .engOr dt e op) (fun op _ x => (uns 32 (opA x op) ||| uns 32 (opB x op) : Nat)) ∧
  alu (fun e op dt => .engXor dt e op) (fun op _ x => (uns 32 (opA x op) ^^^ uns 32 (opB x op) : Nat)) ∧
  alu (fun e op dt => .engShl dt e op) (fun op _ x => (uns 32 (opA x op) * 2 ^ uns 5 (opB x op) : Nat)) ∧
  alu (fun e op dt => .engShr dt e op) (fun op _ x => (uns 32 (opA x op) / 2 ^ uns 5 (opB x op) : Nat)) ∧
  alu (fun e op dt => .engAsr dt e op) (fun op _ x => opA x op / (2 ^ uns 5 (opB x op) : Nat)) ∧
  alu (fun e op dt => .engAsrr dt e op) (fun op _ x => rheShift (opA x op) (uns 5 (opB x op))) ∧
  alu (fun e op dt => .engMin dt e op) (fun op _ x => min (opA x op) (opB x op)) ∧
  alu (fun e op dt => .engMax dt e op) (fun op _ x => max (opA x op) (opB x op)) ∧
  aluSat (fun e op dt => .engAbs dt e op) 32 (fun op x => if opA x op < 0 then -opA x op else opA x op) ∧
  alu (fun e op dt => .engMov dt e op) (fun op _ x => opA x op) ∧
  alu (fun e op dt => .engMovi dt e op) (fun op _ _ => sgn 14 (op.sa.toNat * 512 + op.sb.toNat + 32 * op.sh.toNat)) ∧
  aluSat (fun e op dt => .engSath dt e op) 18 (fun op x => opA x op) ∧
  alu (fun e op dt => .engNorm dt e op) (fun op _ x => (normOf 32 (opA x op) : Nat)) ∧
  pred (fun e op dt => .engCmpeq dt e op) (fun op x => opA x op = opB x op) ∧
  pred (fun e op dt => .engCmplt dt e op) (fun op x => opA x op < opB x op) ∧
  pred (fun e op dt => .engCmple dt e op) (fun op x => opA x op ≤ opB x op) ∧
  pred (fun e op dt => .engCmpltu dt e op) (fun op x => uns 32 (opA x op) < uns 32 (opB x op)) ∧
  pred (fun e op dt => .engPand dt e op) (fun op x => x.rp (op.sa.toNat % 8) && x.rp (op.sb.toNat % 8)) ∧
  pred (fun e op dt => .engPor dt e op) (fun op x => x.rp (op.sa.toNat % 8) || x.rp (op.sb.toNat % 8)) ∧
  pred (fun e op dt => .engPnot dt e op) (fun op x => !x.rp (op.sa.toNat % 8)) ∧
  div (fun e op dt => .engDiv dt e op) (fun a b => a.tdiv b) ∧
  div (fun e op dt => .engDivr dt e op) (fun a b => rhe ((a : Rat) / b)) ∧
  (∀ (e : Fin 256) (op : ASlot),
    Issues (fun dt => .engSel dt e op) e (fun _ => True) (fun u cyc => u.send e.val (cyc + 1) (.x op.dst.toNat)
      (uns 32 (if (u.eng e.val).pass op.pred (negBit op.pneg) then opA (u.eng e.val) op else opB (u.eng e.val) op))) ∧
    Issues (fun dt => .engBexp dt e op) e (passes e op.pred op.pneg) (fun u cyc => u.send e.val (cyc + 1) .bx
      (min (u.eng e.val).bx.toNat (normOf 32 (opA (u.eng e.val) op)))) ∧
    Issues (fun dt => .engBxclr dt e op) e (passes e op.pred op.pneg) (fun u cyc => u.send e.val (cyc + 1) .bx 31) ∧
    Issues (fun dt => .engSqrt dt e op) e (fun u => passes e op.pred op.pneg u ∧ shOf op ≤ 8)
      (fun u cyc => (u.send e.val (cyc + 12) (.x op.dst.toNat)
        (uns 32 (isqrt (uns 32 (opA (u.eng e.val) op) * 4 ^ shOf op) : Nat))).took) ∧
    Issues (fun dt => .engMfs dt e op) e (fun u => passes e op.pred op.pneg u ∧ op.sa = 0)
      (fun u cyc => (u.send e.val (cyc + 1) (.x op.dst.toNat) (uns 32 (u.engStat e.val : Nat))).took) ∧
    Issues (fun dt => .engMfs dt e op) e (fun u => passes e op.pred op.pneg u ∧ op.sa = 1)
      (fun u cyc => (u.send e.val (cyc + 1) (.x op.dst.toNat) (uns 32 ((u.eng e.val).bx.toNat : Nat))).took) ∧
    Issues (fun dt => .engMts dt e op) e (passes e op.pred op.pneg) (fun u cyc => u.modEng e.val (fun x =>
      { x with stat := (x.stat &&& ~~~ (BitVec.ofNat 4 (x.rx op.sa.toNat)))
                 ||| (if x.statAt = cyc then x.statNew else 0) })) ∧
    Issues (fun dt => .engSqrt dt e op) e (fun u => passes e op.pred op.pneg u ∧ 8 < shOf op)
      (fun u cyc => (u.send e.val (cyc + 12) (.x op.dst.toNat) (uns 32 (Config.freeNat u.free % 2 ^ 32 : Nat))).took) ∧
    Issues (fun dt => .engMfs dt e op) e (fun u => passes e op.pred op.pneg u ∧ op.sa ≠ 0 ∧ op.sa ≠ 1)
      (fun u cyc => (u.send e.val (cyc + 1) (.x op.dst.toNat) (uns 32 (Config.freeNat u.free % 2 ^ 32 : Nat))).took))

/-- Operations of the M slot (R218, R224, R227 to R229): with its guard passed, QMAC, QMSU and QMUL update the four accumulators from
18-bit saturated operands, seen one cycle later by their own class and three by its readers; ACCRD, ACCSUM, ACCNORM, ACCCLR and SMUL answer
as their rows say. -/
def Obligations.MultiplyOperationsComplete : Prop :=
  let quad : (Fin 256 → MSlot → Nat → Instr) → (Int → Int → Int) → Prop := fun mk f =>
    ∀ (e : Fin 256) (op : MSlot), Issues (mk e op) e (passes e op.pred op.pneg)
      (fun u cyc => (List.range 4).foldl (fun t k =>
        let x := u.eng e.val
        let l := satI 18 (x.sx (4 * op.q.toNat + k))
        let m := satI 18 (x.sx op.s.toNat)
        let r := satI 48 (f (x.acc k) (l.1 * m.1))
        ((t.send e.val (cyc + 1) (.a k) (uns 48 r.1)).send e.val (cyc + 3) (.ar k) (uns 48 r.1)).satStat e.val
          (l.2 || m.2 || r.2)) u)
  quad (fun e op dt => .engQmac dt e op) (fun a p => a + p) ∧
  quad (fun e op dt => .engQmsu dt e op) (fun a p => a - p) ∧
  quad (fun e op dt => .engQmul dt e op) (fun _ p => p) ∧
  (∀ (e : Fin 256) (op : MSlot),
    Issues (fun dt => .engAccrd dt e op) e (passes e op.pred op.pneg) (fun u cyc =>
      let r := satI 32 (rheShift ((u.eng e.val).accRd op.acc.toNat) op.sh.toNat)
      (u.send e.val (cyc + 2) (.x op.dst.toNat) (uns 32 r.1)).satStat e.val r.2) ∧
    Issues (fun dt => .engSmul dt e op) e (passes e op.pred op.pneg) (fun u cyc =>
      let a := satI 18 ((u.eng e.val).sx (4 * op.q.toNat))
      let b := satI 18 ((u.eng e.val).sx op.s.toNat)
      let r := satI 32 (a.1 * b.1)
      (u.send e.val (cyc + 3) (.x op.dst.toNat) (uns 32 r.1)).satStat e.val (a.2 || b.2 || r.2)) ∧
    Issues (fun dt => .engAccsum dt e op) e (passes e op.pred op.pneg) (fun u cyc =>
      let x := u.eng e.val
      let r := satI 48 (x.accRd 0 + x.accRd 1 + x.accRd 2 + x.accRd 3)
      ((u.send e.val (cyc + 2) (.a 0) (uns 48 r.1)).send e.val (cyc + 2) (.ar 0) (uns 48 r.1)).satStat e.val r.2) ∧
    Issues (fun dt => .engAccnorm dt e op) e (passes e op.pred op.pneg) (fun u cyc =>
      let x := u.eng e.val
      u.send e.val (cyc + 2) (.x op.dst.toNat)
        (min (min (min (min 47 (normOf 48 (x.accRd 0))) (normOf 48 (x.accRd 1))) (normOf 48 (x.accRd 2)))
          (normOf 48 (x.accRd 3)))) ∧
    Issues (fun dt => .engAccclr dt e op) e (passes e op.pred op.pneg) (fun u cyc =>
      (List.range 4).foldl (fun t k => (t.send e.val (cyc + 1) (.a k) 0).send e.val (cyc + 1) (.ar k) 0)
        (u.modEng e.val (fun x => { x with fly := x.fly.filter (fun f => match f.dst with | .ar _ => false | _ => true) }))))

/-- Operations of the X and C slots (R9, R219, R220, R225, R226, R230): the address generator registers are set from a register and an
immediate, an index is moved in its generator's mode or read; LOOP0 and LOOP1 start a loop at the next bundle, LEND0 and LEND1 branch back
while iterations remain and else fall through, and END stops the engine; a record word without its partner is discarded with 0x3006. -/
def Obligations.AddressAndControlOperationsComplete : Prop :=
  (∀ (e : Fin 256) (op : XSlot),
    let sum := fun (u : State) => (u.eng e.val).sx op.src.toNat + sgn 11 op.imm.toNat
    Issues (fun dt => .engSetb dt e op) e (fun _ => True) (fun u cyc => u.send e.val (cyc + 1) (.gb op.ag.toNat) (uns 23 (sum u))) ∧
    Issues (fun dt => .engSeti dt e op) e (fun _ => True) (fun u cyc => u.send e.val (cyc + 1) (.gi op.ag.toNat) (uns 16 (sum u))) ∧
    Issues (fun dt => .engSetm dt e op) e (fun _ => True) (fun u cyc => u.send e.val (cyc + 1) (.gm op.ag.toNat) (uns 16 (sum u))) ∧
    Issues (fun dt => .engSetl dt e op) e (fun _ => True) (fun u cyc => u.send e.val (cyc + 1) (.gl op.ag.toNat) (uns 16 (sum u))) ∧
    Issues (fun dt => .engSetd dt e op) e (fun _ => True)
      (fun u cyc => u.send e.val (cyc + 1) (.gd op.ag.toNat) (op.imm.toNat % 4)) ∧
    Issues (fun dt => .engAddi dt e op) e (fun u => tget 0#2 (u.eng e.val).gd op.ag.toNat ≠ 1 ∧ tget 0#2 (u.eng e.val).gd op.ag.toNat ≠ 2)
      (fun u cyc => (u.send e.val (cyc + 1) (.gi op.ag.toNat)
        (uns 16 (((tget 0#16 (u.eng e.val).gi op.ag.toNat).toNat : Int) + sgn 11 op.imm.toNat))).took) ∧
    Issues (fun dt => .engAddi dt e op) e
      (fun u => tget 0#2 (u.eng e.val).gd op.ag.toNat = 1 ∧ tget 1#16 (u.eng e.val).gl op.ag.toNat ≠ 0)
      (fun u cyc => (u.send e.val (cyc + 1) (.gi op.ag.toNat)
        ((((tget 0#16 (u.eng e.val).gi op.ag.toNat).toNat : Int) + sgn 11 op.imm.toNat)
          % ((tget 1#16 (u.eng e.val).gl op.ag.toNat).toNat : Int)).toNat).took) ∧
    (∀ b < 16, Issues (fun dt => .engAddi dt e op) e
      (fun u => tget 0#2 (u.eng e.val).gd op.ag.toNat = 2 ∧ (tget 1#16 (u.eng e.val).gl op.ag.toNat).toNat = 2 ^ b)
      (fun u cyc => (u.send e.val (cyc + 1) (.gi op.ag.toNat)
        (revBits b ((revBits b (tget 0#16 (u.eng e.val).gi op.ag.toNat).toNat + revBits b (uns b (sgn 11 op.imm.toNat)))
          % 2 ^ b))).took)) ∧
    Issues (fun dt => .engGeti dt e op) e (fun _ => True)
      (fun u cyc => u.send e.val (cyc + 2) (.x op.src.toNat) (tget 0#16 (u.eng e.val).gi op.ag.toNat).toNat)) ∧
  (∀ (e : Fin 256) (arg : BitVec 12),
    Issues (fun dt => .engLoop0 dt e arg) e (fun _ => True)
      (fun u _ => u.modEng e.val (fun x => { x with lc0 := arg, body0 := x.pc + 1 })) ∧
    Issues (fun dt => .engLoop1 dt e arg) e (fun _ => True)
      (fun u _ => u.modEng e.val (fun x => { x with lc1 := arg, body1 := x.pc + 1 })) ∧
    Issues (fun dt => .engLend0 dt e) e (fun u => (u.eng e.val).lc0 ≠ 0)
      (fun u _ => u.modEng e.val (fun x => { x with lc0 := x.lc0 - 1, pc := x.body0, pcAt := x.pcAt + 1 })) ∧
    Issues (fun dt => .engLend1 dt e) e (fun u => (u.eng e.val).lc1 ≠ 0)
      (fun u _ => u.modEng e.val (fun x => { x with lc1 := x.lc1 - 1, pc := x.body1, pcAt := x.pcAt + 1 })) ∧
    Issues (fun dt => .engLend0 dt e) e (fun u => (u.eng e.val).lc0 = 0) (fun u _ => u.modEng e.val (fun x => x)) ∧
    Issues (fun dt => .engLend1 dt e) e (fun u => (u.eng e.val).lc1 = 0) (fun u _ => u.modEng e.val (fun x => x)) ∧
    Issues (fun dt => .engEnd dt e) e (fun u => (u.eng e.val).half = none)
      (fun u cyc => u.modEng e.val (fun x => { x with run := false, ended := true, endAt := cyc })) ∧
    Issues (fun dt => .engEnd dt e) e (fun u => (u.eng e.val).half ≠ none)
      (fun u cyc => (u.modEng e.val (fun x => { x with run := false, ended := true, endAt := cyc })).engFault 0x3006 e.val))

/-! ### Host ports (R6, R324 to R351, R448, R480) -/

/-- Doorbells and the taking of commands (R336 to R339, R370): a valid doorbell hands over the slots up to CMD_TAIL and clears TAIL_ERR; a
tail more than 32 slots ahead sets TAIL_ERR and raises 0x7005; the device takes the slot at CMD_HEAD and moves CMD_HEAD on, and an Ethernet
mailbox its oldest datagram; where critical commands, or claims of semaphores, of both ports meet in one cycle the priority bit says which
is evaluated first, and alternates; a command that meets a cause for SAFE HOLD or a loop fault of its cycle is served with that in view
(R27, R196; how far the cycle is looked into: log entry 130); a well-formed datagram is queued, answered again from the keep, or answered
BUSY; an expired command is answered TIMEOUT; a finished dump is answered with its data. -/
def Obligations.MailboxEventsComplete : Prop :=
  (∀ (p : HostPort) (m : Fin 4), Happens (fun dt => .doorbell dt p m)
    (fun u => u.window p = true ∧ u.meetsBell p = false ∧ ringCount (u.mb p m.val).cmdHead (u.mb p m.val).cmdTail ≤ 32)
    (fun u => u.modMb p m.val (fun b => b.handOver u.clk))) ∧
  (∀ (p : HostPort) (m : Fin 4), Happens (fun dt => .doorbell dt p m)
    (fun u => u.window p = true ∧ u.meetsBell p = false ∧ 32 < ringCount (u.mb p m.val).cmdHead (u.mb p m.val).cmdTail)
    (fun u => (u.modMb p m.val (fun b => { b with tailErr := true })).fault 0x7005 17 (portIdx p))) ∧
  (∀ (p : HostPort) (m : Fin 4), Happens (fun dt => .doorbell dt p m)
    (fun u => u.window p = true ∧ u.meetsBell p = true) (fun u => { u.ring p m.val with prio := !u.prio })) ∧
  (∀ (b : Mailbox) (clk : Nat), (b.handOver clk).tailErr = false ∧ (b.handOver clk).handed = b.cmdTail ∧
    { b.handOver clk with tailErr := b.tailErr, handed := b.handed, rings := b.rings } = b) ∧
  (let alone := fun (u : State) (p : HostPort) (m : Fin 4) => u.foreseen = {} ∧ u.early ≠ some (p, m.val) ∧ u.meetsTake p m.val = none ∧
      (u.claimWaits p m.val = none ∨ rivalClaim u p = none)
   (∀ (p : HostPort) (m : Fin 4) (din : Option (List Byte)), HappensOtp (fun dt => .mailboxTake dt p m din)
    (fun u => alone u p m ∧ u.canServe (localEntry p) m.val = true ∧ u.isPcie p = true
      ∧ (u.mb p m.val).cmdHead ≠ (u.mb p m.val).handed)
    (fun u =>
      let i := fld (u.mb p m.val).cmdHead.toNat 0 5
      let slot := (u.mb p m.val).slot i
      let t := u.modMb p m.val (fun b => { b with cmdHead := b.cmdHead + 1, rangAt := tget 0 b.rings i })
      let t' := if carriesData slot = true then t.say (.dmaRead p (slotAddr slot) (slotDlen slot)) else t
      t'.serve (commandOf (slotOp slot))
        { entry := localEntry p, mb := m, slot := BitVec.ofNat 512 slot, din := din } (cmdByte p m.val i) i none)) ∧
   (∀ (p : HostPort) (m : Fin 4) (din : Option (List Byte)) (c : EthCmd) (rest : List EthCmd),
    HappensOtp (fun dt => .mailboxTake dt p m din)
    (fun u => alone u p m ∧ u.canServe (localEntry p) m.val = true ∧ u.isPcie p = false ∧ (u.mb p m.val).queue = c :: rest)
    (fun u => (u.modMb p m.val (fun b => { b with queue := rest, rangAt := c.came })).serve (commandOf (slotOp c.slot.toNat))
      { entry := localEntry p, mb := m, slot := c.slot, din := some c.data } (cmdByte p m.val 0)
      (u.mb p m.val).fwdSlot.toNat (some c.src)))) ∧
  (∀ (p q : HostPort) (m k : Fin 4) (din d : Option (List Byte)), HappensOtp (fun dt => .mailboxTake dt p m din)
    (fun u => u.foreseen = {} ∧ u.early ≠ some (p, m.val) ∧ u.meetsTake p m.val = some (q, k, d) ∧ u.prio = (q == .B))
    (fun u => { State.take { u.take q k d with early := some (q, k.val) } p m din with prio := !u.prio })) ∧
  (∀ (p q : HostPort) (m k : Fin 4) (din d : Option (List Byte)), HappensOtp (fun dt => .mailboxTake dt p m din)
    (fun u => u.foreseen = {} ∧ u.early ≠ some (p, m.val) ∧ u.meetsTake p m.val = some (q, k, d) ∧ u.prio ≠ (q == .B))
    (fun u => { u.take p m din with prio := !u.prio })) ∧
  (∀ (p q : HostPort) (m : Fin 4) (din : Option (List Byte)) (n k : Nat), HappensOtp (fun dt => .mailboxTake dt p m din)
    (fun u => u.foreseen = {} ∧ u.early ≠ some (p, m.val) ∧ u.meetsTake p m.val = none ∧ u.claimWaits p m.val = some n
      ∧ rivalClaim u p = some (q, k))
    (fun u => { (if k = n ∧ u.prio = (q == .B) then u.claim (localEntry q) n else u).take p m din with prio := !u.prio })) ∧
  (∀ (p : HostPort) (m : Fin 4) (din : Option (List Byte)), HappensOtp (fun dt => .mailboxTake dt p m din)
    (fun u => u.foreseen = {} ∧ u.early = some (p, m.val)) (fun u => { u with early := none })) ∧
  (∀ (p : HostPort) (m : Fin 4) (din : Option (List Byte)), HappensOtp (fun dt => .mailboxTake dt p m din)
    (fun u => u.foreseen ≠ {}) (fun u => { State.takeInTurn { u with race := u.foreseen } p m din with race := {} })) ∧
  (∀ (p : HostPort) (src : Endpoint) (m : Fin 4) (slot : BitVec 512) (data : List Byte),
    Happens (fun dt => .ethCommandDatagram dt p src
      ([0x5A#8, 0x4D#8, 0x01#8, BitVec.ofNat 8 m.val] ++ bytesOf 64 slot.toNat ++ data))
    (fun u => u.ethOn p = true ∧ data.length = (if slotDir slot.toNat then 0 else slotDlen slot.toNat) ∧ data.length ≤ 1400
      ∧ (u.mb p m.val).keep.find? (fun k => k.2.tag.toNat = slotTag slot.toNat && k.2.counter.toNat = slotCounter slot.toNat)
        = none ∧ (u.mb p m.val).queue.length < 32)
    (fun u => u.modMb p m.val (fun b => { b with
      queue := b.queue ++ [{ src := src, slot := slot, data := data, came := u.clk }] }))) ∧
  (∀ (p : HostPort) (src : Endpoint) (m : Fin 4) (slot : BitVec 512) (data : List Byte) (k : Endpoint × Rsp),
    Happens (fun dt => .ethCommandDatagram dt p src
      ([0x5A#8, 0x4D#8, 0x01#8, BitVec.ofNat 8 m.val] ++ bytesOf 64 slot.toNat ++ data))
    (fun u => u.ethOn p = true ∧ data.length = (if slotDir slot.toNat then 0 else slotDlen slot.toNat) ∧ data.length ≤ 1400
      ∧ (u.mb p m.val).keep.find? (fun k => k.2.tag.toNat = slotTag slot.toNat && k.2.counter.toNat = slotCounter slot.toNat)
        = some k)
    (fun u => u.sayRsp p m.val (some src) k.2)) ∧
  (∀ (p : HostPort) (src : Endpoint) (m : Fin 4) (slot : BitVec 512) (data : List Byte),
    Happens (fun dt => .ethCommandDatagram dt p src
      ([0x5A#8, 0x4D#8, 0x01#8, BitVec.ofNat 8 m.val] ++ bytesOf 64 slot.toNat ++ data))
    (fun u => u.ethOn p = true ∧ data.length = (if slotDir slot.toNat then 0 else slotDlen slot.toNat) ∧ data.length ≤ 1400
      ∧ (u.mb p m.val).keep.find? (fun k => k.2.tag.toNat = slotTag slot.toNat && k.2.counter.toNat = slotCounter slot.toNat)
        = none ∧ 32 ≤ (u.mb p m.val).queue.length)
    (fun u => u.say (.rsp (localEntry p) m.val (some src) (u.rspOf slot.toNat (u.fail stBusy))))) ∧
  (∀ (p : HostPort) (m : Fin 4) (x : Exec), Happens (fun dt => .commandTimeout dt p m)
    (fun u => (u.mb p m.val).exec = some x ∧ x.until_ ≤ u.clk)
    (fun u => (u.remote.filter (fun y => ofMailbox y.1 p m.val && y.2.until_ ≤ u.clk)).foldl
      (fun t y => t.answerRemote y (t.fail stTimeout)) (u.answer p m.val x (u.fail stTimeout)))) ∧
  (∀ (p : HostPort) (m : Fin 4) (x : Exec) (d : HistDump), Happens (fun dt => .histDumpComplete dt p m)
    (fun u => (u.mb p m.val).exec = some x ∧ x.dump = some d ∧ d.left = 0)
    (fun u => (u.remote.filter (fun y => ofMailbox y.1 p m.val)).foldl State.dumpRemote
      (u.answer p m.val x (u.okData d.bytes))))

/-- Semaphores and the lockout (R324, R344, R345, R350): a read of a free semaphore by a PCI Express port claims it and returns its word;
where both ports claim a semaphore in one cycle the priority bit says which is first, and alternates; the owner's write with RELEASE
frees it with EV_SEM_RELEASED, one without sets its lease, and a write of any other port changes nothing; a lease that has run out frees
it with EV_SEM_EXPIRED; the lockout of critical commands ends. -/
def Obligations.SemaphoreAndLockoutEventsComplete : Prop :=
  (∀ (p : HostPort) (n : Fin 32), Happens (fun dt => .semReadClaim dt p n)
    (fun u => u.window p = true ∧ rivalClaim u p = none ∧ (u.sem n.val).owner = none)
    (fun u =>
      let t := u.modSem n.val (fun x => { x with owner := some (localEntry p), exp := u.clk + leaseTicks x.lease })
      t.say (.semRead p n.val (BitVec.ofNat 32 (t.semWord (some (localEntry p)) n.val))))) ∧
  (∀ (p : HostPort) (n : Fin 32) (e : Entry), Happens (fun dt => .semReadClaim dt p n)
    (fun u => u.window p = true ∧ rivalClaim u p = none ∧ (u.sem n.val).owner = some e)
    (fun u => u.say (.semRead p n.val (BitVec.ofNat 32 (u.semWord (some (localEntry p)) n.val))))) ∧
  (∀ (p q : HostPort) (n : Fin 32) (k : Nat), Happens (fun dt => .semReadClaim dt p n)
    (fun u => u.window p = true ∧ rivalClaim u p = some (q, k) ∧ k = n.val ∧ u.prio = (q == .B))
    (fun u => { (u.claim (localEntry q) n.val).readSem p n.val with prio := !u.prio })) ∧
  (∀ (p q : HostPort) (n : Fin 32) (k : Nat), Happens (fun dt => .semReadClaim dt p n)
    (fun u => u.window p = true ∧ rivalClaim u p = some (q, k) ∧ (k ≠ n.val ∨ u.prio ≠ (q == .B)))
    (fun u => { u.readSem p n.val with prio := !u.prio })) ∧
  (∀ (p : HostPort) (n : Fin 32) (w : Word), Happens (fun dt => .semWriteRelease dt p n w)
    (fun u => u.window p = true ∧ (u.sem n.val).owner = some (localEntry p) ∧ bitN w.toNat 7 = false)
    (fun u => u.modSem n.val (fun x => { x with lease := BitVec.ofNat 8 (fld w.toNat 8 8) }))) ∧
  (∀ (p : HostPort) (n : Fin 32) (w : Word), Happens (fun dt => .semWriteRelease dt p n w)
    (fun u => u.window p = true ∧ (u.sem n.val).owner ≠ some (localEntry p)) (fun u => u)) ∧
  (∀ (p : HostPort) (n : Fin 32) (w : Word), Happens (fun dt => .semWriteRelease dt p n w)
    (fun u => u.window p = true ∧ (u.sem n.val).owner = some (localEntry p) ∧ bitN w.toNat 7 = true)
    (fun u => (u.modSem n.val (fun _ => {})).raise 0x1101 [BitVec.ofNat 8 n.val, BitVec.ofNat 8 (portIdx p + 1)])) ∧
  (∀ (n : Fin 32) (e : Entry), Happens (fun dt => .semLeaseExpiry dt n)
    (fun u => (u.sem n.val).owner = some e ∧ (u.sem n.val).exp ≤ u.clk)
    (fun u => (u.modSem n.val (fun _ => {})).raise 0x1102 [BitVec.ofNat 8 n.val, BitVec.ofNat 8 (portIdx e.port + 1)])) ∧
  (∀ (who : Entry) (t : Nat), Happens (fun dt => .lockoutEnd dt who)
    (fun u => (u.auth who).lockUntil = some t ∧ t ≤ u.clk)
    (fun u => u.modAuth who (fun a => { a with lockUntil := none })))

/-- Registers and sessions of a host port (R6, R326, R331, R335, R341, R343, R448, R473, R480): CT_LATCH latches chain time; setting
ENABLE of a ring zeroes PROD and CONS and, for an event ring, opens its path; clearing it stops the ring; a write to INT_STAT clears the
bits written 1 but for those set in the same cycle (R7), a write to INT_MAP and to CMD_TAIL stores; the end of a session, the loss and the
return of a link, PERST_N and the port's errors have the effects of their rules; a read of the window returns the registers' values, and a
register that is written only reads 0. The rate and width a PCI Express link negotiates are free values (log entry 167). -/
def Obligations.RegisterAndSessionEventsComplete : Prop :=
  (∀ p : HostPort, Happens (fun dt => .ctLatch dt p) (fun u => u.window p = true)
    (fun u => u.modPort p (fun h => { h with ctLatch := BitVec.ofNat 64 u.now }))) ∧
  (∀ (p : HostPort) (w : Word), Happens (fun dt => .ringEnable dt p .point w)
    (fun u => u.window p = true ∧ bitN (u.port p).points.ctrl.toNat 0 = false)
    (fun u => u.setPort p { u.port p with points := { (u.port p).points with
      ctrl := BitVec.ofNat 32 (setFld (setFld w.toNat 0 1 1) 7 1 0)
      live := bitN (setFld w.toNat 0 1 1) 0, prod := 0, cons := 0, units := 0 } })) ∧
  (∀ (p : HostPort) (w : Word), Happens (fun dt => .ringEnable dt p .event w)
    (fun u => u.window p = true ∧ bitN (u.port p).events.ctrl.toNat 0 = false ∧ bitN (setFld w.toNat 0 1 1) 0 = true)
    (fun u => (u.setPort p { u.port p with events := { (u.port p).events with
      ctrl := BitVec.ofNat 32 (setFld (setFld w.toNat 0 1 1) 7 1 0)
      live := true, prod := 0, cons := 0, units := 0 } }).openPath p)) ∧
  (∀ (p : HostPort) (k : RingKind) (w : Word), Happens (fun dt => .ringDisable dt p k w)
    (fun u => u.window p = true) (fun u => u.writeCtrl p k (setFld w.toNat 0 1 0))) ∧
  (∀ (p : HostPort) (w : Word), Happens (fun dt => .registerWrite dt p 0x0104#16 w) (fun u => u.window p = true)
    (fun u => u.modPort p (fun h => { h with
      intStat := (h.intStat &&& ~~~ w) ||| (if h.intAt = u.clk / fabCk then h.intNew else 0) }))) ∧
  (∀ (p : HostPort) (w : Word), Happens (fun dt => .registerWrite dt p 0x0100#16 w) (fun u => u.window p = true)
    (fun u => u.modPort p (fun h => { h with intMap := BitVec.ofNat 32 (fld w.toNat 0 30) }))) ∧
  (∀ (p : HostPort) (m : Fin 4) (w : Word),
    Happens (fun dt => .registerWrite dt p (BitVec.ofNat 16 (0x1000 + 0x40 * m.val)) w) (fun u => u.window p = true)
    (fun u => u.modMb p m.val (fun b => { b with cmdTail := BitVec.ofNat 6 w.toNat }))) ∧
  (∀ (p : HostPort) (why : SessionEnd), Happens (fun dt => .hostSessionEnd dt p why)
    (fun u => u.isPcie p = true ∧ (why = .flr ∨ why = .hotReset))
    (fun u => (u.sessionOver p).modPort p (fun h => { h with msix := [], pba := 0, msixOn := true, fnMask := false, d3 := false }))) ∧
  (∀ p : HostPort, Happens (fun dt => .hostSessionEnd dt p .d3hot) (fun u => u.isPcie p = true)
    (fun u => (u.sessionOver p).modPort p (fun h => { h with d3 := true }))) ∧
  (∀ p : HostPort,
    let lost := fun u : State =>
      ((u.modPort p (fun h => { h with linkUp := false, d3 := false })).fault 0x7001 17 (portIdx p)).sessionOver p
    Happens (fun dt => .hostSessionEnd dt p .linkDown) (fun u => u.isPcie p = true ∧ (u.port p).linkUp = true) lost ∧
    Happens (fun dt => .hostSessionEnd dt p .linkDown) (fun u => u.isPcie p = true ∧ (u.port p).linkUp = false)
      (fun u => u.sessionOver p) ∧
    Happens (fun dt => .hostLinkDown dt p) (fun u => (u.port p).linkUp = true) lost) ∧
  (∀ p : HostPort, Happens (fun dt => .hostLinkUp dt p)
    (fun u => u.portMode p ≠ 0 ∧ u.domOn (28 + portIdx p) = true ∧ u.isPcie p = true ∧ (u.port p).perst = false)
    (fun u => State.modPort { u with free := u.free + 2 } p (fun h => { h with
      linkUp := true, d3 := false, rate := Config.freeNat u.free % 4, width := Config.freeNat (u.free + 1) % 3 }))) ∧
  (∀ p : HostPort, Happens (fun dt => .hostLinkUp dt p)
    (fun u => u.portMode p ≠ 0 ∧ u.domOn (28 + portIdx p) = true ∧ u.isPcie p = false)
    (fun u => u.modPort p (fun h => { h with linkUp := true }))) ∧
  (∀ p : HostPort, Happens (fun dt => .hostPerst dt p) (fun u => u.isPcie p = true)
    (fun u => (u.sessionOver p).modPort p (fun h => { h with
      perst := true, linkUp := false, msix := [], pba := 0, msixOn := true, fnMask := false, d3 := false }))) ∧
  (∀ p : HostPort, Happens (fun dt => .hostPerstRelease dt p) (fun _ => True)
    (fun u => u.modPort p (fun h => { h with perst := false }))) ∧
  (∀ p : HostPort, Happens (fun dt => .hostAerFatal dt p) (fun u => u.isPcie p = true ∧ u.domOn (28 + portIdx p) = true)
    (fun u => u.fault 0x7002 17 (portIdx p))) ∧
  (∀ p : HostPort, Happens (fun dt => .hostDmaTimeout dt p) (fun u => u.isPcie p = true ∧ u.domOn (28 + portIdx p) = true)
    (fun u => u.fault 0x7003 17 (portIdx p))) ∧
  (∀ (s : State) (p : HostPort),
    s.barRead p 0x0000#16 = 0x1024 + 0x41 * 2 ^ 16 + 2 ^ 24 * s.power.boot.ifl ∧
    s.barRead p 0x0010#16 = s.stateWord (localEntry p) ∧
    (s.window p = true → s.barRead p 0x0100#16 = (s.port p).intMap.toNat ∧ s.barRead p 0x0104#16 = (s.port p).intStat.toNat ∧
      s.barRead p 0x0020#16 = fld (s.port p).ctLatch.toNat 0 32 ∧ s.barRead p 0x0024#16 = fld (s.port p).ctLatch.toNat 32 32 ∧
      (∀ m : Fin 4, s.barRead p (BitVec.ofNat 16 (0x1000 + 0x40 * m.val)) = (s.mb p m.val).cmdTail.toNat ∧
        s.barRead p (BitVec.ofNat 16 (0x1010 + 0x40 * m.val)) = 0)))


/-- The point stream and the event datagrams (R308, R340 to R343): the oldest column whose processing has ended leaves the list of results
and goes to the range image, to both ports and to the Chain, an end header instead starts the drain; the moderation of the point ring
signals its vector; the oldest records that wait, up to 40, go to the event destination once its next hop is resolved, and until then the
next hop is asked for (R327). -/
def Obligations.StreamEventsComplete : Prop :=
  (∀ x : Result, Happens (fun dt => .columnDelivery dt)
    (fun u => nextResult u.front.results = some x ∧ x.complete = true ∧ x.endCause = none)
    (fun u =>
      let recs := u.streamOf x
      let t := ({ u with front.results := markDelivered u.front.results } : State).gridColumn x.col.frame x.col.col recs
      (((t.deliverTo x recs .A).deliverTo x recs .B).deliverChain x recs))) ∧
  (∀ x : Result, Happens (fun dt => .columnDelivery dt)
    (fun u => nextResult u.front.results = some x ∧ x.complete = true ∧ x.endCause = some 0)
    (fun u =>
      let recs := u.streamOf x
      let t : State := { u with front.results := markDelivered u.front.results }
      let v := ((t.deliverTo x recs .A).deliverTo x recs .B).deliverChain x recs
      v.headerWritten ([HostPort.A, HostPort.B].all (fun p => !t.streams p || (v.port p).delivered)))) ∧
  (∀ p : HostPort, Happens (fun dt => .pointInterrupt dt p)
    (fun u => 0 < (u.port p).points.units ∧
      (fld (u.port p).points.ctrl.toNat 8 12 = 0 ∨ 64 * fld (u.port p).points.ctrl.toNat 8 12 ≤ (u.port p).points.units
        ∨ (u.port p).points.first + us (fld (u.port p).points.ctrl.toNat 20 12) ≤ u.clk))
    (fun u => (u.modPort p (fun h => { h with points := { h.points with units := 0 } })).signal p 5)) ∧
  (∀ (p : HostPort) (d : Endpoint), Happens (fun dt => .eventDatagram dt p)
    (fun u => u.ethOn p = true ∧ (u.port p).net.evDst = some d ∧ (u.port p).evQ ≠ [] ∧ u.resolved p d = true)
    (fun u => (u.setPort p { u.port p with evQ := (u.port p).evQ.drop 40, evAt := u.clk }).say
      (.evDatagram p d ((u.port p).evQ.take 40)))) ∧
  (∀ (p : HostPort) (d : Endpoint) (ip : Word), Happens (fun dt => .eventDatagram dt p)
    (fun u => u.ethOn p = true ∧ (u.port p).net.evDst = some d ∧ (u.port p).evQ ≠ [] ∧ u.resolved p d = false
      ∧ (u.port p).net.nextHop d.ip = some ip)
    (fun u => u.say (.arp p false ip))) ∧
  (Happens (fun dt => .serviceRecordAppend dt)
    (fun u => u.faults.toRecord ≠ [] ∧ u.flashAllowed = true ∧ u.flash.ok = true ∧ u.flash.service = none)
    (fun u => { u with flash.service := some (u.otp.uid, u.faults.toRecord), faults.toRecord := [] })) ∧
  (∀ l : List (Nat × Nat), Happens (fun dt => .serviceRecordAppend dt)
    (fun u => u.faults.toRecord ≠ [] ∧ u.flashAllowed = true ∧ u.flash.ok = true ∧ u.flash.service = some (u.otp.uid, l))
    (fun u => { u with flash.service := some (u.otp.uid, l ++ u.faults.toRecord), faults.toRecord := [] }))

/-- The protocols of an Ethernet port (R327, R328): an ARP request for its address and an echo request to it are answered, other frames are
discarded and counted; a reply for an address it resolves enters the cache of 16 for 60 s and leaves it then, and stream
datagrams that waited for it go out in order; settings act 1 ms after OK. -/
def Obligations.EthernetEventsComplete : Prop :=
  (∀ (p : HostPort) (ip tip : Word) (mac : BitVec 48), Happens (fun dt => .arpRequest dt p ip mac tip)
    (fun u => u.ethOn p = true ∧ tip = (u.port p).net.ip) (fun u => u.say (.arp p true ip))) ∧
  (∀ (p : HostPort) (ip tip : Word) (mac : BitVec 48), Happens (fun dt => .arpRequest dt p ip mac tip)
    (fun u => u.ethOn p = true ∧ tip ≠ (u.port p).net.ip) (fun u => u.dropFrame p)) ∧
  (∀ (p : HostPort) (ip : Word) (mac : BitVec 48), Happens (fun dt => .arpReply dt p ip mac)
    (fun u => u.ethOn p = true ∧ (u.port p).net.asked.contains ip = true)
    (fun u => (u.setPort p { u.port p with
      arp := pushMax 16 { ip := ip, mac := mac, exp := u.clk + sec 60 } ((u.port p).arp.filter (fun e => e.ip != ip)) }).flushStream
        p)) ∧
  (∀ (s : State) (p : HostPort), (s.port p).streamWait = [] → s.flushStream p = s) ∧
  (∀ (s : State) (p : HostPort) (x : Endpoint × List Byte) (l : List (Endpoint × List Byte)), (s.port p).streamWait = x :: l →
    (s.resolved p x.1 = false → s.flushStream p = s) ∧
    (s.resolved p x.1 = true → s.flushStream p = (x :: l).foldl (fun t y => t.say (.points p y.1 y.2))
      (s.setPort p { s.port p with streamWait := [], streamAt := s.clk }))) ∧
  (∀ (p : HostPort) (ip : Word), Happens (fun dt => .arpCacheExpiry dt p ip) (fun _ => True)
    (fun u => u.modPort p (fun h => { h with arp := h.arp.filter (fun e => e.ip != ip || u.clk < e.exp) }))) ∧
  (∀ (p : HostPort) (src dst idSeq : Word) (data : List Byte), Happens (fun dt => .icmpEcho dt p src dst idSeq data)
    (fun u => u.ethOn p = true ∧ dst = (u.port p).net.ip ∧ data.length ≤ 1472) (fun u => u.say (.echo p src idSeq data))) ∧
  (∀ p : HostPort, Happens (fun dt => .frameDiscard dt p) (fun u => u.ethOn p = true)
    (fun u => u.modPort p (fun h => { h with discards := (h.discards + 1) % 2 ^ 32 }))) ∧
  (∀ (p : HostPort) (n : NetCfg) (t : Nat), Happens (fun dt => .netConfigApply dt p)
    (fun u => (u.port p).netNew = some (n, t) ∧ t ≤ u.clk)
    (fun u =>
      let v := (if n.ptp != (u.port p).net.ptp || n.ptpDom != (u.port p).net.ptpDom then (u.mapLost p).modPtp p (fun _ => {})
        else u).modPort p (fun h => { h with net := n, netNew := none })
      if v.life.open_ && n.evDst.isSome && v.ethOn p then v.openPath p else v))

/-- The IEEE 1588 clock of an Ethernet port and its time map (R329, R330): an Announce of the configured domain takes part in the choice of
the best master; a two-step Sync of it is timestamped in chain time and its Follow_Up updates the map; a Delay_Req goes out when it is due
and its Delay_Resp gives the mean path delay; three announce intervals without a Sync make the map invalid; a valid map is told once per
second. -/
def Obligations.PtpEventsComplete : Prop :=
  (∀ (p : HostPort) (m : PtpAnnounce), Happens (fun dt => .ptpAnnounce dt p m)
    (fun u => u.ptpOn p = true ∧ m.domain = (u.port p).net.ptpDom)
    (fun u =>
      let all := { ann := m, seen := u.clk } ::
        (u.port p).ptp.masters.filter (fun x => x.ann.sender != m.sender && u.clk ≤ x.seen + 3 * secPow x.ann.logInterval)
      let best := (bestOf all).map (fun x => x.ann.sender)
      if best = (u.port p).ptp.best then u.modPtp p (fun t => { t with masters := all.take 16, best := best })
      else (u.mapLost p).modPtp p (fun t => { t with masters := all.take 16, best := best, lastSync := u.clk }))) ∧
  (∀ (p : HostPort) (m : PtpSync), Happens (fun dt => .ptpSync dt p m)
    (fun u => u.ptpOn p = true ∧ (u.port p).ptp.best = some m.master ∧ m.twoStep = true)
    (fun u => (u.modPtp p (fun t => { t with
      syncs := min 8 (t.syncs + 1), lastSync := u.clk, sync := some (m.seq, u.now) })).judgeMap p)) ∧
  (∀ (p : HostPort) (m : BitVec 80) (q : BitVec 16) (t1 t2 : Nat), Happens (fun dt => .ptpFollowUp dt p m q t1)
    (fun u => u.ptpOn p = true ∧ (u.port p).ptp.best = some m ∧ (u.port p).ptp.sync = some (q, t2))
    (fun u => u.mapUpdate p t1 t2)) ∧
  (∀ p : HostPort, Happens (fun dt => .ptpDelayReq dt p)
    (fun u => u.ptpOn p = true ∧ (u.port p).ptp.best.isSome = true ∧ (u.port p).ptp.reqDue ≤ u.clk)
    (fun u => (u.modPtp p (fun t => { t with
      req := some (t.reqSeq, u.now), reqSeq := t.reqSeq + 1, reqDue := u.clk + secPow t.logReq })).say
      (.delayReq p (u.port p).ptp.reqSeq))) ∧
  (∀ (p : HostPort) (m : BitVec 80) (q : BitVec 16) (t1 t2 t3 t4 : Nat) (n : Int),
    Happens (fun dt => .ptpDelayResp dt p m q t4 n)
    (fun u => u.ptpOn p = true ∧ (u.port p).ptp.best = some m ∧ (u.port p).ptp.req = some (q, t3)
      ∧ (u.port p).ptp.last = some (t1, t2))
    (fun u => u.modPtp p (fun t => { t with
      delay := rhe (((((t4 : Int) - t1 : Int) : Rat)
        - (((t3 : Int) - t2 : Int) : Rat) / 64 * (1 + ((u.port p).ptp.rate : Rat) / 2 ^ 40)) / 2)
      req := none, logReq := n }))) ∧
  (∀ p : HostPort, Happens (fun dt => .timeMapTimeout dt p)
    (fun u => (u.port p).ptp.valid = true ∧ (u.port p).ptp.lastSync + 3 * (u.port p).ptp.interval ≤ u.clk)
    (fun u => (u.modPtp p (fun t => { t with
      valid := false, syncs := 0, sync := none, prev := none, last := none, req := none })).tellMap p false)) ∧
  (∀ p : HostPort, Happens (fun dt => .timeMapReport dt p)
    (fun u => (u.port p).ptp.valid = true ∧ (u.port p).ptp.told + sec 1 ≤ u.clk)
    (fun u => (u.modPtp p (fun t => { t with told := u.clk })).tellMap p true))

/-- Power and reset (R26, R434, R440 to R446, R449): VDD_AON and VDD_HK with PORST_N released bring the device from OFF to BOOT with cause
0x1; their loss leads to OFF; PORST_N low lets the TAP out of its reset state; its release tells what the TAP did meanwhile and resets it (R505; the clocks are
PORST_RELEASE's operand, log entry 173); PORST_N low, VDD_IO low, an
unlock of the root PLL, a reference lost beyond its holdover and the watchdogs are reset causes; the release of PORST_N samples the
straps; the end of the last cause starts BOOT; a locked PLL starts chain time at 0. -/
def Obligations.ResetAndClockEventsComplete : Prop :=
  HappensAlways (fun dt => .powerOn dt) (fun u => u.life.lcs = .off ∧ u.power.boot.aon = false)
    (fun u => State.leaveOff { u with power.boot.aon := true, power.boot.cause := 1, power.boot.causes := [(1, u.clk)] }) ∧
  HappensAlways (fun dt => .powerOn dt) (fun u => u.life.lcs ≠ .off ∨ u.power.boot.aon = true) (fun u => u) ∧
  HappensAlways (fun dt => .powerLoss dt) (fun _ => True) State.powerOff ∧
  HappensAlways (fun dt => .porstAssert dt) (fun u => u.power.boot.porst = false ∧ u.life.lcs ≠ .off)
    (fun u => State.resetNow { u.modBoot (fun b => { b with porst := true }) with power.tap.held := false } 2) ∧
  HappensAlways (fun dt => .porstAssert dt) (fun u => u.power.boot.porst = false ∧ u.life.lcs = .off)
    (fun u => { u.modBoot (fun b => { b with porst := true }) with power.tap.held := false }) ∧
  (∀ low : PorstLow, HappensAlways (fun dt => .porstRelease dt low)
    (fun u => u.power.boot.porst = true ∧ u.life.lcs = .boot)
    (fun u => State.endCauses { (u.tapRun low.jtag).modBoot (fun b => { b with porst := false, straps := low.straps }) with power.tap := { held := true } })) ∧
  (∀ low : PorstLow, HappensAlways (fun dt => .porstRelease dt low)
    (fun u => u.power.boot.porst = true ∧ u.life.lcs = .off ∧ u.power.boot.aon = true)
    (fun u => State.endCauses { (u.tapRun low.jtag).modBoot (fun b => { b with porst := false, straps := low.straps }) with
      power.tap := { held := true }, life.lcs := .boot })) ∧
  (∀ low : PorstLow, HappensAlways (fun dt => .porstRelease dt low)
    (fun u => u.power.boot.porst = true ∧ u.life.lcs ≠ .boot ∧ (u.life.lcs ≠ .off ∨ u.power.boot.aon = false))
    (fun u => { (u.tapRun low.jtag).modBoot (fun b => { b with porst := false, straps := low.straps }) with power.tap := { held := true } })) ∧
  Happens (fun dt => .vddIoLow dt) (fun _ => True) (fun u => (u.resetNow 4).modBoot (fun b => { b with vddLow := true })) ∧
  (let io := fun (u : State) => if u.power.boot.causes.any (fun c => c.1 = 4 && u.clk < c.2 + ms 12) = true then u
      else u.modBoot (fun b => { b with vddLow := false })
   Happens (fun dt => .resetCauseEnd dt)
    (fun u => u.life.lcs = .boot ∧ u.power.boot.causes ≠ [] ∧ u.power.boot.causes.all (io u).causeOver = true)
    (fun u => (io u).startBoot) ∧
   Happens (fun dt => .resetCauseEnd dt)
    (fun u => u.life.lcs = .boot ∧ u.power.boot.causes ≠ [] ∧ u.power.boot.causes.all (io u).causeOver = false)
    (fun u => (io u).modBoot (fun b => { b with causes := u.power.boot.causes.filter (fun c => !(io u).causeOver c) }))) ∧
  Happens (fun dt => .rootPllLock dt) (fun u => u.power.pll = false ∧ u.power.boot.porst = false ∧ u.power.refclk = true)
    (fun u => { u with power.pll := true, ct := 0, slew := (0, 0), chain.aligned := u.isRoot || u.topo = 0 }) ∧
  Happens (fun dt => .rootPllUnlock dt) (fun u => u.power.pll = true) (fun u => (u.fault 0xA004 0 0).resetNow 7) ∧
  Happens (fun dt => .refclkLost dt) (fun u => u.power.refclk = true ∧ u.power.ref = none)
    (fun u => State.fault { u with power.refclk := false, power.refLost := some u.clk } 0xA003 0 0) ∧
  Happens (fun dt => .refclkLost dt) (fun u => u.power.refclk = true ∧ u.power.ref ≠ none)
    (fun u => State.fault { u with power.refclk := false, power.refLost := none } 0xA003 0 0) ∧
  Happens (fun dt => .refclkReturn dt) (fun _ => True) (fun u => { u with power.refclk := true, power.refLost := none }) ∧
  (∀ t : Nat, Happens (fun dt => .refclkHoldoverExpired dt) (fun u => u.power.refLost = some t ∧ t + ms 1 ≤ u.clk)
    (fun u => u.resetNow 6)) ∧
  (∀ t : Nat, Happens (fun dt => .referenceHoldoverEnd dt)
    (fun u => u.power.holdAt = some t ∧ t + ms 10 ≤ u.clk) State.toRefclk) ∧
  Happens (fun dt => .safetyWatchdog dt) (fun u => u.power.boot.causes = []) (fun u => u.resetNow 8) ∧
  (∀ t : Nat, Happens (fun dt => .startWatchdog dt)
    (fun u => u.power.boot.started = some t ∧ u.life.lcs = .boot ∧ t + sec 3 ≤ u.clk)
    (fun u => ((u.modBoot (fun b => { b with
      startsA := if !b.hostImg && b.slot = 0 then b.startsA + 1 else b.startsA
      startsB := if !b.hostImg && b.slot = 1 then b.startsB + 1 else b.startsB
      noted := if b.hostImg then b.noted else (b.slot, u.clk) :: b.noted })).resetNow 0xA).modBoot
        (fun b => { b with fault := 7 }))) ∧
  Happens (fun dt => .appWatchdog dt)
    (fun u => u.life.lcs ≠ .boot ∧ u.domOn 33 = true ∧ u.power.appDown = false
      ∧ (u.power.appHits.filter (fun t => u.clk ≤ t + sec 10)).length < 2)
    (fun u => ((State.sessionOver { State.fault { u with
        power.appHits := u.clk :: u.power.appHits.filter (fun t => u.clk ≤ t + sec 10), power.appAt := u.clk } 0xA007 0 0 with
      power.appDown := true } .A).sessionOver .B)) ∧
  Happens (fun dt => .appWatchdog dt)
    (fun u => u.life.lcs ≠ .boot ∧ u.domOn 33 = true ∧ u.power.appDown = false
      ∧ 2 ≤ (u.power.appHits.filter (fun t => u.clk ≤ t + sec 10)).length)
    (fun u => (State.fault { u with
      power.appHits := u.clk :: u.power.appHits.filter (fun t => u.clk ≤ t + sec 10), power.appAt := u.clk } 0xA007 0 0).resetNow 9) ∧
  Happens (fun dt => .appRestartDone dt)
    (fun u => u.power.appDown = true ∧ u.domOn 33 = true ∧ u.power.afterTrip = false)
    (fun u => { u with power.appDown := false, power.afterTrip := false, power.appAt := u.clk }) ∧
  Happens (fun dt => .appRestartDone dt)
    (fun u => u.power.appDown = true ∧ u.domOn 33 = true ∧ u.power.afterTrip = true)
    (fun u =>
      let t : State := { u with power.appDown := false, power.afterTrip := false, power.appAt := u.clk }
      State.rampNext { t with power.toPower := t.power.toPower ++ t.fwDomains })

/-- Rails and domains (R433, R436 to R439, R449): power-good of a rail enables the next; a rail not up after 8 ms and a rail lost raise
0xA001 and 0xA002; a domain that reports power-good starts where what it requires is still powered, and stays off otherwise, and one that
does not within 500 µs is switched off again with 0xA005; the analogue hard trip switches every domain off and its release ends the fault.
-/
def Obligations.RailAndDomainEventsComplete : Prop :=
  (∀ rail : Fin 6, Happens (fun dt => .railPgGood dt rail)
    (fun u => bitN u.power.railEn.toNat rail.val = true ∧ u.railSettled rail.val = false)
    (fun u =>
      let t : State := { u with power.railPg := u.power.railPg ||| BitVec.ofNat 6 (2 ^ rail.val) }
      (if rail.val = 0 then t.enableRail 1
       else if rail.val = 1 then ((t.enableRail 2).enableRail 3).enableRail 4
       else if rail.val = 4 then t.enableRail 5 else t).railsDone)) ∧
  (∀ rail : Fin 6, Happens (fun dt => .railPgTimeout dt rail)
    (fun u => bitN u.power.railEn.toNat rail.val = true ∧ u.railSettled rail.val = false
      ∧ tget 0 u.power.railAt rail.val + ms 8 ≤ u.clk ∧ rail.val ≠ 2 ∧ rail.val ≠ 3)
    (fun u => State.modBoot { u.fault 0xA001 11 rail.val with
      power.railDead := (u.fault 0xA001 11 rail.val).power.railDead ||| BitVec.ofNat 6 (2 ^ rail.val) }
        (fun b => { b with fault := 1 }))) ∧
  (∀ rail : Fin 6, Happens (fun dt => .railPgTimeout dt rail)
    (fun u => bitN u.power.railEn.toNat rail.val = true ∧ u.railSettled rail.val = false
      ∧ tget 0 u.power.railAt rail.val + ms 8 ≤ u.clk ∧ (rail.val = 2 ∨ rail.val = 3))
    (fun u => State.railsDone { u.fault 0xA001 11 rail.val with
      power.railDead := (u.fault 0xA001 11 rail.val).power.railDead ||| BitVec.ofNat 6 (2 ^ rail.val)
      power.domDead := BitVec.ofNat 34 ((u.fault 0xA001 11 rail.val).power.domDead.toNat ||| (2 ^ 24 - 1)) })) ∧
  (∀ rail : Fin 6, Happens (fun dt => .railPgLost dt rail)
    (fun u => bitN u.power.railPg.toNat rail.val = true ∧ rail.val ≤ 1) (fun u => (u.fault 0xA002 11 rail.val).resetNow 5)) ∧
  (∀ rail : Fin 6, Happens (fun dt => .railPgLost dt rail)
    (fun u => bitN u.power.railPg.toNat rail.val = true ∧ 2 ≤ rail.val)
    (fun u => (((fedBy rail.val).foldl State.domLost { u with
        power.railEn := BitVec.ofNat 6 (setFld u.power.railEn.toNat rail.val 1 0)
        power.railPg := BitVec.ofNat 6 (setFld u.power.railPg.toNat rail.val 1 0)
        power.railDead := u.power.railDead ||| BitVec.ofNat 6 (2 ^ rail.val)
        power.domDead := BitVec.ofNat 34 (u.power.domDead.toNat ||| maskOf (fedBy rail.val)) }).rampNext).fault
          0xA002 11 rail.val)) ∧
  (∀ d : Fin 34, Happens (fun dt => .domainPowerGood dt d)
    (fun u => u.power.ramping.any (fun x => x.1 = d.val) = true ∧ u.mayPower d.val = false)
    (fun u => (State.rampNext { u with power.ramping := u.power.ramping.filter (fun x => x.1 != d.val) }).bootNext.answerPwr)) ∧
  (∀ d : Fin 34, Happens (fun dt => .domainPowerGood dt d)
    (fun u => u.power.ramping.any (fun x => x.1 = d.val) = true ∧ u.mayPower d.val = true)
    (fun u => (((State.domStarts { u with
      power.ramping := u.power.ramping.filter (fun x => x.1 != d.val)
      power.dom := BitVec.ofNat 34 (setFld u.power.dom.toNat d.val 1 1) } d.val).rampNext).bootNext).answerPwr)) ∧
  (∀ d : Fin 34, Happens (fun dt => .domainSwitch dt d)
    (fun u => u.power.ramping.any (fun x => x.1 = d.val && x.2 + us 500 ≤ u.clk) = true)
    (fun u => ((State.switchFailed { u with power.ramping := u.power.ramping.filter (fun x => x.1 != d.val) } d.val).rampNext).bootNext.answerPwr)) ∧
  Happens (fun dt => .hardTrip dt) (fun u => u.hk.trip = false ∧ u.life.lcs ≠ .boot)
    (fun u => { (((u.fault 0x9001 0 0 (respond := false)).safeHold false (endHdr := false)).domainsOff.chargeOff) with
      hk.trip := true, power.tripRec := true, hk.dark := true }) ∧
  Happens (fun dt => .hardTrip dt) (fun u => u.hk.trip = false ∧ u.life.lcs = .boot)
    (fun u =>
      let t : State := { (((u.fault 0x9001 0 0 (respond := false)).safeHold false (endHdr := false)).domainsOff.chargeOff) with
        hk.trip := true, power.tripRec := true }
      { t.modBoot (fun b => { b with phase := 0, started := none, image := [], total := 0 }) with
        power.railEn := 0, power.railPg := 0, power.appDown := false }) ∧
  Happens (fun dt => .hardTripRelease dt) (fun u => u.hk.trip = true ∧ u.life.lcs ≠ .boot)
    (fun u => State.endFault { u with hk.trip := false } 0x9001) ∧
  Happens (fun dt => .hardTripRelease dt)
    (fun u => u.hk.trip = true ∧ u.life.lcs = .boot ∧ u.power.boot.causes = [])
    (fun u => (State.endFault { u with hk.trip := false } 0x9001).startBoot)

/-- The boot ROM (R26, R394, R451 to R456): an authentic image starts; a slot that fails its check raises 0xA008, one that failed to start
twice is passed over, and the other slot is tried once; after both, boot fault 0x06; BOOT_GO and boot datagrams bring a host image; a
passed self-test ends BOOT in SAFE HOLD, a failed one raises 0x800F and keeps BOOT with boot fault 0x08. -/
def Obligations.BootImageEventsComplete : Prop :=
  Happens (fun dt => .imageLoaded dt)
    (fun u => u.life.lcs = .boot ∧ u.power.boot.phase = 4 ∧ u.imageOk u.power.boot.image = true)
    (fun u => u.startImage u.power.boot.image true) ∧
  Happens (fun dt => .imageLoaded dt)
    (fun u => u.life.lcs = .boot ∧ u.power.boot.phase = 4 ∧ u.imageOk u.power.boot.image = false)
    (fun u => u.modBoot (fun b => { b with fault := 0x0A, phase := 8, image := [], total := 0 })) ∧
  Happens (fun dt => .imageLoaded dt)
    (fun u => u.life.lcs = .boot ∧ u.power.boot.phase = 3 ∧ u.power.boot.fault ≠ 6 ∧ u.slotOk u.power.boot.slot = true)
    (fun u => u.startImage (u.fwSlot u.power.boot.slot) false) ∧
  Happens (fun dt => .imageLoaded dt)
    (fun u => u.life.lcs = .boot ∧ u.power.boot.phase = 3 ∧ u.power.boot.fault ≠ 6
      ∧ u.slotOk u.power.boot.slot = false
      ∧ u.power.boot.tried.contains (1 - u.power.boot.slot) = false)
    (fun u => ((if u.imageOk (u.fwSlot u.power.boot.slot) then u.noteFailure u.power.boot.slot else u.fault 0xA008 15 u.power.boot.slot).modBoot
      (fun b => { b with fault := 4 + u.power.boot.slot })).trySlot (1 - u.power.boot.slot)) ∧
  Happens (fun dt => .imageLoaded dt)
    (fun u => u.life.lcs = .boot ∧ u.power.boot.phase = 3 ∧ u.power.boot.fault ≠ 6
      ∧ u.slotOk u.power.boot.slot = false
      ∧ u.power.boot.tried.contains (1 - u.power.boot.slot) = true)
    (fun u => (if u.imageOk (u.fwSlot u.power.boot.slot) then u.noteFailure u.power.boot.slot else u.fault 0xA008 15 u.power.boot.slot).noSlot 6) ∧
  (∀ (p : HostPort) (l : List Byte), Happens (fun dt => .bootGo dt p (some l))
    (fun u => u.life.lcs = .boot ∧ u.power.boot.phase = 8 ∧ u.isPcie p = true ∧ u.domOn (28 + portIdx p) = true
      ∧ (u.port p).perst = false)
    (fun u => (u.say (.dmaRead p u.power.boot.addr.toNat u.power.boot.len.toNat)).modBoot
      (fun b => { b with image := l.take b.len.toNat, total := b.len.toNat, phase := 4 }))) ∧
  (∀ p : HostPort, Happens (fun dt => .bootGo dt p none)
    (fun u => u.life.lcs = .boot ∧ u.power.boot.phase = 8 ∧ u.isPcie p = true ∧ u.domOn (28 + portIdx p) = true
      ∧ (u.port p).perst = false)
    (fun u => (u.fault 0x7003 17 (portIdx p)).modBoot (fun b => { b with fault := 0x0A }))) ∧
  (∀ (p : HostPort) (src : Endpoint) (bytes : List Byte), Happens (fun dt => .bootDatagram dt p src bytes)
    (fun u => u.ethOn p = true ∧ u.life.lcs = .boot ∧ leAt bytes 0 4 = 0x00044D5A ∧ 13 ≤ bytes.length ∧ bytes.length ≤ 1412)
    (fun u =>
      let t := u.keepImage (leAt bytes 4 4) (leAt bytes 8 4) (bytes.drop 12)
      t.say (.bootReply p src t.power.boot.image.length (BitVec.ofNat 32 t.bootStatus)))) ∧
  (∀ res : SelfTest, Happens (fun dt => .selfTestComplete dt res)
    (fun u => u.life.lcs = .boot ∧ u.power.boot.phase = 6 ∧ u.power.boot.fault ≠ 8 ∧ u.storedSafe.isSome = true
      ∧ res.comparator = true ∧ res.secded = true ∧ res.oscillator = true ∧ res.gateLow = true ∧ res.safeFbOff = true
      ∧ res.faultN = true) State.enterHold) ∧
  (∀ res : SelfTest, Happens (fun dt => .selfTestComplete dt res)
    (fun u => u.life.lcs = .boot ∧ u.power.boot.phase = 6 ∧ u.power.boot.fault ≠ 8
      ∧ (res.comparator && res.secded && res.oscillator && res.gateLow && res.safeFbOff && res.faultN) = false)
    (fun u => (u.fault 0x800F 0 0).modBoot (fun b => { b with fault := 8 })))

/-- Bring-up of a Ridge port, stage by stage (R265 to R272, R316): a signal ends stage 1 and starts stage 2 on every lane; a locked CDR, a
comma alignment, four agreeing polarities, three agreeing LANE values, block lock, two matching deskew SEQ values and the credit exchange
end the stages that follow; a deskew block outside the 40 ns of the others marks its lane, one in stage 8 that does not follow the one
before makes the port deskew again; a DSK goes out when one is due, and none before, and in stage 8 an INIT every 16 blocks; a control block
that is no INIT is ignored, and counted where it is none of R311 (R311); the upstream port's alignment gives the root PLL its clock. -/
def Obligations.RidgeBringupEventsComplete : Prop :=
  (∀ q : Fin 4, Happens (fun dt => .signalDetect dt q)
    (fun u => u.portAlive q.val = true ∧ (u.rport q.val).up = false ∧ ((u.rport q.val).lane 0).stage = 1)
    (fun u => u.modRport q.val (fun r => [1, 2, 3].foldl (fun r l => if (r.lane l).stage = 2 then r.toStage l 2 u.clk else r)
      ({ r with absent := false }.toStage 0 2 u.clk)))) ∧
  (∀ q l : Fin 4, Happens (fun dt => .cdrLock dt q l)
    (fun u => u.portAlive q.val = true ∧ ((u.rport q.val).lane l.val).stage = 2 ∧
      (if l.val = 0 then (u.rport q.val).up = false
       else (u.rport q.val).dataRuns = true ∧ (u.rport q.val).takesPart (l.val - 1) = true))
    (fun u => (u.adaptTo q.val l.val).modRport q.val (fun r => r.toStage l.val (if l.val = 0 then 3 else 4) u.clk))) ∧
  (∀ q : Fin 4, Happens (fun dt => .commaAlignment dt q)
    (fun u => u.portAlive q.val = true ∧ (u.rport q.val).up = false ∧ ((u.rport q.val).lane 0).stage = 3)
    (fun u =>
      let t := u.modRport q.val (fun r => r.toStage 0 4 u.clk)
      if u.upPort = some q.val then t.takeRef (some q.val) else t)) ∧
  (∀ (q : Fin 4) (sym : BitVec 48) (inv : Bool), Happens (fun dt => .ctsReceived dt q sym inv)
    (fun u => u.portAlive q.val = true ∧ (u.rport q.val).up = false ∧ ((u.rport q.val).lane 0).stage = 4
      ∧ ctsChk sym.toNat = fld sym.toNat 40 8 ∧ runOf ((u.rport q.val).lane 0) (b2n inv) < 4)
    (fun u => u.modRport q.val (fun r => r.modLane 0 (fun c => { c with
      run := runOf ((u.rport q.val).lane 0) (b2n inv), last := b2n inv })))) ∧
  (∀ (q : Fin 4) (sym : BitVec 48) (inv : Bool), Happens (fun dt => .ctsReceived dt q sym inv)
    (fun u => u.portAlive q.val = true ∧ (u.rport q.val).up = false ∧ ((u.rport q.val).lane 0).stage = 4
      ∧ ctsChk sym.toNat = fld sym.toNat 40 8 ∧ 4 ≤ runOf ((u.rport q.val).lane 0) (b2n inv))
    (fun u => (u.modRport q.val (fun r => (r.toStage 0 9 u.clk).modLane 0 (fun c => { c with inv := inv }))).takePartner q.val
      (fld sym.toNat 8 4) (fld sym.toNat 16 3) (fld sym.toNat 19 3) (fld sym.toNat 24 3) (fld sym.toNat 32 4))) ∧
  (∀ (q : Fin 4) (sym : BitVec 48) (inv : Bool), Happens (fun dt => .ctsReceived dt q sym inv)
    (fun u => u.portAlive q.val = true ∧ (u.rport q.val).up = false ∧ ((u.rport q.val).lane 0).stage = 9
      ∧ ctsChk sym.toNat = fld sym.toNat 40 8)
    (fun u => u.takePartner q.val (fld sym.toNat 8 4) (fld sym.toNat 16 3) (fld sym.toNat 19 3) (fld sym.toNat 24 3)
      (fld sym.toNat 32 4))) ∧
  (∀ (q : Fin 4) (m : Fin 3) (inv : Bool) (code : BitVec 17), Happens (fun dt => .dtpReceived dt q m inv code)
    (fun u => u.portAlive q.val = true ∧ (u.rport q.val).dataRuns = true ∧ (u.rport q.val).takesPart m.val = true
      ∧ ((u.rport q.val).lane (m.val + 1)).stage = 4 ∧ 4 ≤ runOf ((u.rport q.val).lane (m.val + 1)) (b2n inv))
    (fun u => u.modRport q.val (fun r => (r.toStage (m.val + 1) 5 u.clk).modLane (m.val + 1) (fun x => { x with inv := inv })))) ∧
  (∀ (q : Fin 4) (m : Fin 3) (inv : Bool) (code : BitVec 17), Happens (fun dt => .dtpReceived dt q m inv code)
    (fun u => u.portAlive q.val = true ∧ (u.rport q.val).dataRuns = true ∧ (u.rport q.val).takesPart m.val = true
      ∧ ((u.rport q.val).lane (m.val + 1)).stage = 5 ∧ popN 17 code.toNat % 2 = 1
      ∧ 3 ≤ runOf ((u.rport q.val).lane (m.val + 1)) (fld code.toNat 15 2))
    (fun u => u.settleLane q.val m.val (fld code.toNat 15 2))) ∧
  (∀ (q : Fin 4) (m : Fin 3), Happens (fun dt => .blockLock dt q m)
    (fun u => u.portAlive q.val = true ∧ (u.rport q.val).dataRuns = true ∧ (u.rport q.val).takesPart m.val = true
      ∧ ((u.rport q.val).lane (m.val + 1)).stage = 6)
    (fun u => u.modRport q.val (fun r => r.toStage (m.val + 1) 7 u.clk))) ∧
  (∀ (q : Fin 4) (m : Fin 3) (seq : BitVec 16) (sleep : Bool), Happens (fun dt => .dskBlock dt q m (dskPayload m.val seq.toNat sleep) true)
    (fun u => u.portAlive q.val = true ∧ (u.rport q.val).dataRuns = true ∧ (u.rport q.val).takesPart m.val = true
      ∧ ((u.rport q.val).lane (m.val + 1)).stage = 7)
    (fun u => (u.modRport q.val (fun r => r.modLane (m.val + 1) (fun x => { x with late := false }))).deskew q.val m.val seq.toNat)) ∧
  (∀ (q : Fin 4) (m : Fin 3) (seq : BitVec 16) (sleep : Bool),
    Happens (fun dt => .dskBlock dt q m (dskPayload m.val seq.toNat sleep) false)
    (fun u => u.portAlive q.val = true ∧ (u.rport q.val).dataRuns = true ∧ (u.rport q.val).takesPart m.val = true
      ∧ ((u.rport q.val).lane (m.val + 1)).stage = 7)
    (fun u => (u.modRport q.val (fun r => r.modLane (m.val + 1) (fun x => { x with late := true }))).modRport q.val
      (fun r => { r with dskSeq := [], dskRun := 0 }))) ∧
  (∀ (q : Fin 4) (m : Fin 3) (seq : BitVec 16) (sleep : Bool), Happens (fun dt => .dskBlock dt q m (dskPayload m.val seq.toNat sleep) true)
    (fun u => u.portAlive q.val = true ∧ (u.rport q.val).dataRuns = true ∧ (u.rport q.val).takesPart m.val = true
      ∧ ((u.rport q.val).lane (m.val + 1)).stage = 8 ∧ (((u.rport q.val).lane (m.val + 1)).last + 1) % 65536 = seq.toNat)
    (fun u => u.modRport q.val (fun r => r.modLane (m.val + 1) (fun x => { x with last := seq.toNat })))) ∧
  (∀ (q : Fin 4) (m : Fin 3) (seq : BitVec 16) (sleep : Bool), Happens (fun dt => .dskBlock dt q m (dskPayload m.val seq.toNat sleep) true)
    (fun u => u.portAlive q.val = true ∧ (u.rport q.val).dataRuns = true ∧ (u.rport q.val).takesPart m.val = true
      ∧ ((u.rport q.val).lane (m.val + 1)).stage = 8 ∧ (((u.rport q.val).lane (m.val + 1)).last + 1) % 65536 ≠ seq.toNat)
    (fun u => u.modRport q.val (fun r => { r.allTo 7 u.clk with dskSeq := [], dskRun := 0 }))) ∧
  (∀ q : Fin 4, Happens (fun dt => .dskSend dt q)
    (fun u => u.dskDue q.val = true ∧ (u.repeatInit q.val).maySleep q.val = false)
    (fun u =>
      let t := u.repeatInit q.val
      (t.modRport q.val (fun r => { r with txSeq := r.txSeq + 1, dskAt := some t.clk })).say
        (.dsk q.val ((onesOf 3 (t.rport q.val).inUse).map (fun k => (k, dskPayload k (t.rport q.val).txSeq.toNat false))) 1))) ∧
  (∀ q : Fin 4, Happens (fun dt => .dskSend dt q) (fun u => u.dskDue q.val = false) (fun u => u.repeatInit q.val)) ∧
  (∀ (u : State) (q : Nat),
    ((u.rport q).active = true → (u.rport q).inStage8 = true → (u.rport q).initAt + 16 * 165 ≤ u.clk → u.repeatInit q = u.sendInit q) ∧
    ((u.rport q).inStage8 = false ∨ u.clk < (u.rport q).initAt + 16 * 165 → u.repeatInit q = u) ∧
    ∃ (t : State) (lane : Option Nat), u.sendInit q
      = t.say (.credit q lane (controlBlock 0x2D (bytesOf 2 256 ++ [BitVec.ofNat 8 (b2n (u.rport q).gotInit)])))) ∧
  (∀ (q : Fin 4) (n : BitVec 16) (ack : Bool) (b0 : Byte) (rest : BitVec 56), Happens (fun dt => .creditInitialisation dt q b0 rest)
    (fun u => u.portAlive q.val = true ∧ (u.rport q.val).inStage8 = true
      ∧ rest ++ b0 = controlBlock 0x2D (bytesOf 2 n.toNat ++ [BitVec.ofNat 8 (b2n ack)]))
    (fun u =>
      let t := State.sendInit (u.modRport q.val (fun r => { r with
        gotInit := true, gotAck := r.gotAck || ack, offered := n.toNat })) q.val
      if (u.rport q.val).gotAck || ack then t.linkUp q.val else t)) ∧
  (∀ (q : Fin 4) (b0 : Byte) (rest : BitVec 56), Happens (fun dt => .creditInitialisation dt q b0 rest)
    (fun u => u.portAlive q.val = true ∧ (u.rport q.val).inStage8 = true ∧ unknownBlock (rest ++ b0) = true)
    (fun u => u.modRport q.val (fun r => { r with badBlocks := (r.badBlocks + 1) % 2 ^ 32 }))) ∧
  (∀ (q : Fin 4) (b0 : Byte) (rest : BitVec 56), Happens (fun dt => .creditInitialisation dt q b0 rest)
    (fun u => u.portAlive q.val = true ∧ (u.rport q.val).inStage8 = true ∧ isBlock 0x2D (rest ++ b0) = false
      ∧ unknownBlock (rest ++ b0) = false) (fun u => u))

/-- A Ridge port in service (R268, R273 to R278, R286, R287): a stage that passes its limit restarts, excludes its lane or fails the port;
the limit of stage 7 is the port's, from the last lane that enters it; 20 µs of electrical idle end in bring-up; lost block lock and lost deskew charge the lane and retrain; a lost control lane charges the
port, and of a lock and a deskew lost in one block period the lock alone is charged (R287; how far the period is looked into: log entry
130); an excluded lane is tried again; the data lanes sleep with the DSK that is due, and wake for data to send or a window; a lane that
slept wakes with a deskew block of any SEQ. -/
def Obligations.RidgeServiceEventsComplete : Prop :=
  (∀ q : Fin 4, Happens (fun dt => .bringupTimeout dt q 0)
    (fun u => u.portAlive q.val = true ∧ (u.rport q.val).up = false ∧ ((u.rport q.val).lane 0).stage = 1
      ∧ ((u.rport q.val).lane 0).since + stageLimit (u.rport q.val).retrain 0 1 ≤ u.clk)
    (fun u => u.modRport q.val (fun r => { r with absent := true }.toStage 0 1 u.clk))) ∧
  (∀ (q : Fin 4) (n : Nat), Happens (fun dt => .bringupTimeout dt q 0)
    (fun u => u.portAlive q.val = true ∧ (u.rport q.val).up = false ∧ ((u.rport q.val).lane 0).stage = n ∧ n ≠ 1 ∧ (n ≤ 4 ∨ n = 8)
      ∧ ((u.rport q.val).lane 0).since + stageLimit (u.rport q.val).retrain 0 n ≤ u.clk)
    (fun u => u.portFail q.val 0x6002)) ∧
  (∀ (q : Fin 4) (l : Fin 3) (n : Nat), Happens (fun dt => .bringupTimeout dt q l.succ)
    (fun u => u.portAlive q.val = true ∧ (u.rport q.val).dataRuns = true ∧ (u.rport q.val).takesPart l.val = true
      ∧ ((u.rport q.val).lane (l.val + 1)).stage = n ∧ n ≤ 6
      ∧ ((u.rport q.val).lane (l.val + 1)).since + stageLimit (u.rport q.val).retrain (l.val + 1) n ≤ u.clk)
    (fun u => u.exclude q.val l.val (n = 2))) ∧
  (∀ (q : Fin 4) (l : Fin 3), Happens (fun dt => .bringupTimeout dt q l.succ)
    (fun u => u.portAlive q.val = true ∧ (u.rport q.val).dataRuns = true ∧ (u.rport q.val).takesPart l.val = true
      ∧ ((u.rport q.val).lane (l.val + 1)).stage = 8
      ∧ ((u.rport q.val).lane (l.val + 1)).since + stageLimit (u.rport q.val).retrain (l.val + 1) 8 ≤ u.clk)
    (fun u => u.portFail q.val 0x6002)) ∧
  (∀ (q : Fin 4) (t : Nat), Happens (fun dt => .bringupRestart dt q)
    (fun u => (u.rport q.val).idleTo = some t ∧ t ≤ u.clk ∧ u.portRuns q.val = true) (fun u => u.portStart q.val)) ∧
  (∀ (q : Fin 4) (l : Fin 3) (t : Nat), Happens (fun dt => .bringupTimeout dt q l.succ)
    (fun u => u.portAlive q.val = true ∧ (u.rport q.val).dataRuns = true ∧ (u.rport q.val).takesPart l.val = true
      ∧ ((u.rport q.val).lane (l.val + 1)).stage = 7 ∧ (u.rport q.val).singledOut ≠ []
      ∧ (u.rport q.val).stageFrom (l.val + 1) = some t ∧ t + us 20 ≤ u.clk)
    (fun u => (u.rport q.val).singledOut.foldl (fun v m => v.exclude q.val m false) u)) ∧
  (∀ (q : Fin 4) (l : Fin 3) (t : Nat), Happens (fun dt => .bringupTimeout dt q l.succ)
    (fun u => u.portAlive q.val = true ∧ (u.rport q.val).dataRuns = true ∧ (u.rport q.val).takesPart l.val = true
      ∧ ((u.rport q.val).lane (l.val + 1)).stage = 7 ∧ (u.rport q.val).singledOut = []
      ∧ (u.rport q.val).stageFrom (l.val + 1) = some t ∧ t + us 20 ≤ u.clk)
    (fun u => u.portFail q.val 0x6002)) ∧
  (∀ (q : Fin 4) (l : Fin 3), Happens (fun dt => .bringupTimeout dt q l.succ)
    (fun u => u.portAlive q.val = true ∧ ((u.rport q.val).lane (l.val + 1)).stage = 7
      ∧ (∃ k ∈ (u.rport q.val).parts, ((u.rport q.val).lane (k + 1)).stage < 7)) (fun u => u)) ∧
  (∀ (q : Fin 4) (x : LockLoss), Happens (fun dt => .dataLockLost dt q x)
    (fun u => u.portAlive q.val = true ∧ (u.rport q.val).up = true ∧ (u.rport q.val).retrain = false
      ∧ (u.rport q.val).parts.filter (fun m => bitN x.lanes.toNat ((u.rport q.val).logical m)
        && 6 ≤ ((u.rport q.val).lane (m + 1)).stage && ((u.rport q.val).lane (m + 1)).asleep == x.preamble) ≠ [])
    (fun u =>
      let hit := (u.rport q.val).parts.filter (fun m => bitN x.lanes.toNat ((u.rport q.val).logical m)
        && 6 ≤ ((u.rport q.val).lane (m + 1)).stage && ((u.rport q.val).lane (m + 1)).asleep == x.preamble)
      (hit.foldl (fun t m => t.lockHeaders q.val m) u).laneFail q.val 0x6003 (hit.map (u.rport q.val).logical))) ∧
  (∀ (q : Fin 4) (x : LockLoss), Happens (fun dt => .dataLockLost dt q x)
    (fun u => u.portAlive q.val = true ∧ (u.rport q.val).dataRuns = true
      ∧ (u.rport q.val).parts.filter (fun m => bitN x.lanes.toNat ((u.rport q.val).logical m)
        && 6 ≤ ((u.rport q.val).lane (m + 1)).stage && ((u.rport q.val).lane (m + 1)).asleep == x.preamble) ≠ [])
    (fun u =>
      let hit := (u.rport q.val).parts.filter (fun m => bitN x.lanes.toNat ((u.rport q.val).logical m)
        && 6 ≤ ((u.rport q.val).lane (m + 1)).stage && ((u.rport q.val).lane (m + 1)).asleep == x.preamble)
      hit.foldl (fun t m => t.lockAgain q.val m) (hit.foldl (fun t m => t.lockHeaders q.val m) u))) ∧
  (∀ (q : Fin 4) (m : Fin 3) (x : BitVec 64), Happens (fun dt => .dskBlock dt q m x false)
    (fun u => u.portAlive q.val = true ∧ (u.rport q.val).up = true ∧ (u.rport q.val).retrain = false ∧ u.locksGo q.val m.val = false
      ∧ (u.rport q.val).takesPart m.val = true ∧ leAt (bytesOf 8 x.toNat) 0 1 = 0xD5
      ∧ ((u.rport q.val).lane (m.val + 1)).asleep = false)
    (fun u => u.laneFail q.val 0x6004 [(u.rport q.val).logical m.val])) ∧
  (∀ (q : Fin 4) (m : Fin 3) (seq : BitVec 16) (sleep : Bool), Happens (fun dt => .dskBlock dt q m (dskPayload m.val seq.toNat sleep) true)
    (fun u => u.portAlive q.val = true ∧ (u.rport q.val).up = true ∧ (u.rport q.val).retrain = false ∧ u.locksGo q.val m.val = false
      ∧ (u.rport q.val).takesPart m.val = true ∧ ((u.rport q.val).lane (m.val + 1)).asleep = false
      ∧ (((u.rport q.val).lane (m.val + 1)).last + 1) % 65536 ≠ seq.toNat)
    (fun u => u.laneFail q.val 0x6004 [(u.rport q.val).logical m.val])) ∧
  (∀ (q : Fin 4) (m : Fin 3) (seq : BitVec 16), Happens (fun dt => .dskBlock dt q m (dskPayload m.val seq.toNat false) true)
    (fun u => u.portAlive q.val = true ∧ (u.rport q.val).up = true ∧ (u.rport q.val).retrain = false ∧ u.locksGo q.val m.val = false
      ∧ (u.rport q.val).takesPart m.val = true ∧ ((u.rport q.val).lane (m.val + 1)).asleep = false
      ∧ (((u.rport q.val).lane (m.val + 1)).last + 1) % 65536 = seq.toNat)
    (fun u => u.modRport q.val (fun r => r.modLane (m.val + 1) (fun x => { x with last := seq.toNat })))) ∧
  (∀ (q : Fin 4) (m : Fin 3) (seq : BitVec 16), Happens (fun dt => .dskBlock dt q m (dskPayload m.val seq.toNat true) true)
    (fun u => u.portAlive q.val = true ∧ (u.rport q.val).up = true ∧ (u.rport q.val).retrain = false ∧ u.locksGo q.val m.val = false
      ∧ (u.rport q.val).takesPart m.val = true ∧ ((u.rport q.val).lane (m.val + 1)).asleep = false
      ∧ (((u.rport q.val).lane (m.val + 1)).last + 1) % 65536 = seq.toNat)
    (fun u => ((u.modRport q.val (fun r => r.modLane (m.val + 1) (fun x => { x with last := seq.toNat }))).observeLane q.val (m.val + 1)).modRport
      q.val (fun r => { r.modLane (m.val + 1) (fun x => { x with asleep := true }) with rxSleep := true }))) ∧
  (∀ (q : Fin 4) (m : Fin 3) (seq : BitVec 16), Happens (fun dt => .dskBlock dt q m (dskPayload m.val seq.toNat false) true)
    (fun u => u.portAlive q.val = true ∧ (u.rport q.val).up = true ∧ (u.rport q.val).retrain = false ∧ u.locksGo q.val m.val = false
      ∧ (u.rport q.val).takesPart m.val = true ∧ ((u.rport q.val).lane (m.val + 1)).asleep = true ∧ (u.rport q.val).retDue = 0)
    (fun u => (u.modRport q.val (fun r => r.modLane (m.val + 1) (fun x => { x with last := seq.toNat, asleep := false }))).modRport q.val
      (fun r => { r with rxSleep := r.parts.any (fun k => (r.lane (k + 1)).asleep) }))) ∧
  (∀ (q : Fin 4) (m : Fin 3) (x : BitVec 64) (inPlace : Bool), Happens (fun dt => .dskBlock dt q m x inPlace)
    (fun u => (u.rport q.val).up = true ∧ (u.rport q.val).retrain = false ∧ u.locksGo q.val m.val = true) (fun u => u)) ∧
  (∀ q : Fin 4, Happens (fun dt => .ctlLaneLost dt q)
    (fun u => u.portAlive q.val = true ∧ (u.rport q.val).up = true) (fun u => u.portFail q.val 0x6001)) ∧
  (∀ q : Fin 4, Happens (fun dt => .ctlLaneLost dt q)
    (fun u => u.portAlive q.val = true ∧ (u.rport q.val).up = false ∧ 2 ≤ ((u.rport q.val).lane 0).stage)
    (fun u => u.portRestart q.val 2)) ∧
  (∀ q : Fin 4, Happens (fun dt => .excludedLaneRetrain dt q)
    (fun u => u.portAlive q.val = true ∧ (u.rport q.val).up = true ∧ (u.rport q.val).retrain = false
      ∧ ((u.rport q.val).excl ||| (u.rport q.val).pExcl) &&& ~~~((u.rport q.val).ret ||| (u.rport q.val).pRet) ≠ 0
      ∧ (u.rport q.val).upAt + sec 1 ≤ u.clk ∧ (∀ t, (u.rport q.val).askAt = some t → t + sec 10 ≤ u.clk))
    (fun u => (u.portRetrain q.val).modRport q.val (fun r => { r with
      again := ((u.rport q.val).excl ||| (u.rport q.val).pExcl) &&& ~~~((u.rport q.val).ret ||| (u.rport q.val).pRet)
      askAt := some u.clk }))) ∧
  (∀ q : Fin 4, Happens (fun dt => .sleepEntry dt q)
    (fun u => u.dskDue q.val = true ∧ (u.rport q.val).up = true ∧ (u.rport q.val).retrain = false
      ∧ bitN (u.rport q.val).cfg.toNat 6 = true ∧ (u.rport q.val).txQ = []
      ∧ (u.rport q.val).pendCr = 0 ∧ (∀ x ∈ u.chain.toReport, x.1 = q.val → u.now < x.2.2)
      ∧ (u.rport q.val).idleAt + us (fld (u.rport q.val).cfg.toNat 8 8) ≤ u.clk
      ∧ (∀ w ∈ u.windows q.val, w.1 < u.now ∨ u.now + us 20 < w.1))
    (fun u => (u.sendDsk q.val true 1).modRport q.val (fun r => { r with txSleep := true }))) ∧
  (∀ q : Fin 4, Happens (fun dt => .wake dt q)
    (fun u => u.portAlive q.val = true ∧ (u.rport q.val).up = true ∧ (u.rport q.val).retrain = false
      ∧ (u.rport q.val).txSleep = true ∧ (u.hasData q.val = true ∨ ∃ w ∈ u.windows q.val, w.1 ≤ u.now + us 20 ∧ u.now < w.2))
    (fun u =>
      let t := (u.sendDsk q.val false 582).modRport q.val (fun r => { r with txSleep := false, idleAt := u.clk })
      if (u.rport q.val).retDue = 0 then t else t.portRetrain q.val))

/-- The control class of the Chain (R290 to R300, R309, R310): the slots of the grid are sent with their CRC-16; a slot whose CRC-16 fails
is discarded and counted; SYNC and LINK slots keep the port alive and carry time and the partner's state; 100 µs without one raise 0x6006;
a first STOP_HOLD is forwarded in two consecutive slots on every other up port and, with SAFE_ACCEPT, enters SAFE HOLD, a second one is
counted and its 10 ms begin again; an INIT block that is due in a retrain goes out beside the slot (R316), and a reset that waits for its
response runs once the last fragment has left, or 10 ms after it was ordered (R359). -/
def Obligations.ControlClassEventsComplete : Prop :=
  (∀ q : Fin 4, Happens (fun dt => .controlSlotSend dt q)
    (fun u => u.linkOn q.val = true ∧ u.now % refillTicks / 1600 = 0) (fun u => ((u.repeatInit q.val).sendSync q.val).resetDue)) ∧
  (∀ (q : Fin 4) (x : BitVec 104) (rest : List (BitVec 104)), Happens (fun dt => .controlSlotSend dt q)
    (fun u => u.linkOn q.val = true ∧ u.now % refillTicks / 1600 ≠ 0 ∧ (u.rport q.val).safety = x :: rest)
    (fun u => (((u.repeatInit q.val).modRport q.val (fun r => { r with safety := rest })).say (.slot q.val 0x3C (slotOf x.toNat))).resetDue)) ∧
  (∀ q : Fin 4, Happens (fun dt => .controlSlotSend dt q)
    (fun u => u.linkOn q.val = true ∧ u.now % refillTicks / 1600 % 250 = 1 ∧ (u.rport q.val).safety = [])
    (fun u => ((u.repeatInit q.val).say (.slot q.val 0x1C (slotOf ((u.repeatInit q.val).linkBody q.val)))).resetDue)) ∧
  (∀ (q : Fin 4) (f : Frag) (rest : List Frag), Happens (fun dt => .controlSlotSend dt q)
    (fun u => u.linkOn q.val = true ∧ u.now % refillTicks / 1600 ≠ 0 ∧ u.now % refillTicks / 1600 % 250 ≠ 1
      ∧ (u.rport q.val).safety = [] ∧ (u.rport q.val).msgs = f :: rest ∧ (u.rport q.val).conflict = false)
    (fun u => (((u.repeatInit q.val).modRport q.val (fun r => { r with msgs := rest })).say (.slot q.val 0x5C (slotOf f.body.toNat))).resetDue)) ∧
  (∀ q : Fin 4, Happens (fun dt => .controlSlotSend dt q)
    (fun u => u.linkOn q.val = true ∧ u.now % refillTicks / 1600 ≠ 0 ∧ u.now % refillTicks / 1600 % 250 ≠ 1
      ∧ (u.rport q.val).safety = [] ∧ (u.rport q.val).msgs = [])
    (fun u => ((u.repeatInit q.val).say (.slot q.val 0x9C 0)).resetDue)) ∧
  (∀ u : State, (u.power.resetAt = none → u.resetDue = u) ∧
    (∀ t : Nat, u.power.resetAt = some t → (∀ q < 4, (u.rport q).msgs = []) ∨ t + ms 10 ≤ u.clk → u.resetDue = u.resetNow 3) ∧
    (∀ t : Nat, u.power.resetAt = some t → (∃ q < 4, (u.rport q).msgs ≠ []) → u.clk < t + ms 10 → u.resetDue = u)) ∧
  Happens (fun dt => .controlCycleStart dt) (fun u => u.now % refillTicks < 1600 ∧ u.chain.setTo = none)
    (fun u => (List.range 4).foldl (fun t q => if t.linkOn q then t.sendSync q else t) u) ∧
  (∀ v : Nat, Happens (fun dt => .controlCycleStart dt) (fun u => u.now % refillTicks < 1600 ∧ u.chain.setTo = some v)
    (fun u => (List.range 4).foldl (fun t q => if t.linkOn q then t.sendSync q else t)
      { u.stepTime ((v + u.now % refillTicks) % 2 ^ 64 * 256) with chain.setTo := none })) ∧
  (∀ (q : Fin 4) (body : BitVec 120) (frac : Byte), Happens (fun dt => .syncSlot dt q body frac)
    (fun u => u.linkOn q.val = true ∧ slotGood body = true) (fun u => u.takeSync q.val body.toNat frac.toNat)) ∧
  (∀ (q : Fin 4) (body : BitVec 120) (frac : Byte), Happens (fun dt => .syncSlot dt q body frac)
    (fun u => u.linkOn q.val = true ∧ slotGood body = false) (fun u => u.badSlot q.val)) ∧
  (∀ (q : Fin 4) (body : BitVec 120), Happens (fun dt => .linkSlot dt q body)
    (fun u => u.linkOn q.val = true ∧ slotGood body = true)
    (fun u => ((u.slotAlive q.val (bitN body.toNat 17)).modRport q.val (fun r => { r with
        pAddr := BitVec.ofNat 16 (fld body.toNat 24 16), pGen := BitVec.ofNat 8 (fld body.toNat 40 8)
        pHops := BitVec.ofNat 8 (fld body.toNat 48 8) })).takePartner q.val
      (fld body.toNat 0 4) (fld body.toNat 4 3) (fld body.toNat 7 3) (fld body.toNat 10 3) (fld body.toNat 13 4))) ∧
  (∀ (q : Fin 4) (body : BitVec 120), Happens (fun dt => .linkSlot dt q body)
    (fun u => u.linkOn q.val = true ∧ slotGood body = false) (fun u => u.badSlot q.val)) ∧
  (∀ q : Fin 4, Happens (fun dt => .keepaliveLost dt q)
    (fun u => u.linkOn q.val = true ∧ (u.rport q.val).alive + us 100 ≤ u.clk)
    (fun u => (u.fault 0x6006 8 q.val).portRestart q.val 1)) ∧
  (∀ (q : Fin 4) (body : BitVec 120), Happens (fun dt => .stopHoldReceived dt q body)
    (fun u => u.linkOn q.val = true ∧ slotGood body = true ∧ fld body.toNat 0 8 = 1
      ∧ (u.chain.stops.filter (fun c => u.clk ≤ c.2.2 + ms 10)).any (fun c =>
        c.1 = BitVec.ofNat 16 (fld body.toNat 8 16) && c.2.1 = BitVec.ofNat 8 (fld body.toNat 24 8)) = true)
    (fun u => { u with
      chain.dups := (u.chain.dups + 1) % 2 ^ 32
      chain.stops := (BitVec.ofNat 16 (fld body.toNat 8 16), BitVec.ofNat 8 (fld body.toNat 24 8), u.clk)
        :: (u.chain.stops.filter (fun c => u.clk ≤ c.2.2 + ms 10)).filter (fun c =>
          !(c.1 = BitVec.ofNat 16 (fld body.toNat 8 16) && c.2.1 = BitVec.ofNat 8 (fld body.toNat 24 8))) })) ∧
  (∀ (q : Fin 4) (body : BitVec 120), Happens (fun dt => .stopHoldReceived dt q body)
    (fun u => u.linkOn q.val = true ∧ slotGood body = true ∧ fld body.toNat 0 8 = 1
      ∧ (u.chain.stops.filter (fun c => u.clk ≤ c.2.2 + ms 10)).any (fun c =>
        c.1 = BitVec.ofNat 16 (fld body.toNat 8 16) && c.2.1 = BitVec.ofNat 8 (fld body.toNat 24 8)) = false)
    (fun u =>
      let copy := BitVec.ofNat 104 (fld body.toNat 0 104)
      let t := (List.range 4).foldl (fun t o => if o != q.val && t.linkOn o then
          t.modRport o (fun r => { r with safety := r.safety ++ [copy, copy] }) else t)
        ({ u with chain.stops := (BitVec.ofNat 16 (fld body.toNat 8 16), BitVec.ofNat 8 (fld body.toNat 24 8), u.clk)
            :: u.chain.stops.filter (fun c => u.clk ≤ c.2.2 + ms 10) } : State)
      if bitN u.chain.word.toNat 3 then t.safeHold false else t))

/-- Discovery and messages (R301 to R308): an ASSIGN of a newer generation is taken, an older one and any at the root refused; a DONE that
is waited for gives the port its range; CHANGE is relayed; the root starts, fails and repeats discovery; a device without an ASSIGN gives
up its address; a fragment is routed or reassembled, a message incomplete after 10 ms is discarded. -/
def Obligations.DiscoveryAndMessageEventsComplete : Prop :=
  (∀ (q : Fin 4) (gen : Byte) (a : BitVec 16) (down : Bool) (hops : Byte), Happens (fun dt => .discAssign dt q gen a down hops)
    (fun u => u.discOn q.val = true ∧ (u.isRoot = true ∨ newer gen u.chain.gen = false))
    (fun u => u.sendDisc q.val ([2#8, gen] ++ bytesOf 2 0 ++ [BitVec.ofNat 8 (b2n down + 2), 0]))) ∧
  (∀ (q : Fin 4) (gen : Byte) (a : BitVec 16) (down : Bool) (hops : Byte), Happens (fun dt => .discAssign dt q gen a down hops)
    (fun u => u.discOn q.val = true ∧ u.isRoot = false ∧ newer gen u.chain.gen = true)
    (fun u => u.onAssign q.val gen a down hops)) ∧
  (∀ (q : Fin 4) (gen : Byte) (next : BitVec 16) (down : Bool) (d : Disc), Happens (fun dt => .discDone dt q gen next down false)
    (fun u => u.discOn q.val = true ∧ u.chain.disc = some d ∧ d.wait = some q.val ∧ gen = u.chain.gen)
    (fun u =>
      let t := u.modRport q.val (fun r => { r with range := rangeOf d.nxt next.toNat d.down })
      State.discNext { t with chain.disc := some { d with wait := none, nxt := next.toNat } } 6)) ∧
  (∀ (q : Fin 4) (gen : Byte) (next : BitVec 16) (down : Bool) (d : Disc), Happens (fun dt => .discDone dt q gen next down true)
    (fun u => u.discOn q.val = true ∧ u.chain.disc = some d ∧ d.wait = some q.val ∧ gen = u.chain.gen)
    (fun u => State.discNext { u with chain.disc := some { d with wait := none } } 6)) ∧
  (∀ (q : Fin 4) (gen : Byte) (a : BitVec 16) (cause : Byte), Happens (fun dt => .discChange dt q gen a cause)
    (fun u => u.discOn q.val = true ∧ u.isRoot = true) (fun u => u.topoChange 0)) ∧
  (∀ (q o : Fin 4) (gen : Byte) (a : BitVec 16) (cause : Byte), Happens (fun dt => .discChange dt q gen a cause)
    (fun u => u.discOn q.val = true ∧ u.isRoot = false ∧ u.upPort = some o.val ∧ (u.rport o.val).up = true)
    (fun u => u.sendDisc o.val ([3#8, gen] ++ bytesOf 2 a.toNat ++ [cause]))) ∧
  Happens (fun dt => .discoveryStart dt) (fun u => u.discDue = true ∧ u.chain.retry = false) State.startDiscovery ∧
  Happens (fun dt => .discoveryRetry dt) (fun u => u.discDue = true ∧ u.chain.retry = true) State.startDiscovery ∧
  (∀ d : Disc, Happens (fun dt => .discoveryFailed dt)
    (fun u => u.chain.disc = some d ∧ u.isRoot = true ∧ d.since + ms 500 ≤ u.clk ∧ u.chain.retry = false)
    (fun u => State.fault { u with chain.disc := none, chain.retry := true, chain.discAt := some (u.clk + ms 10) } 0x6009 0 0)) ∧
  (∀ d : Disc, Happens (fun dt => .discoveryFailed dt)
    (fun u => u.chain.disc = some d ∧ u.isRoot = true ∧ d.since + ms 500 ≤ u.clk ∧ u.chain.retry = true)
    (fun u => State.fault { u with chain.disc := none, chain.retry := false, chain.discAt := none } 0x6009 0 0)) ∧
  (∀ t : Nat, Happens (fun dt => .addressLoss dt)
    (fun u => u.chain.lostUp = some t ∧ u.isRoot = false ∧ t + ms 10 ≤ u.clk)
    (fun u =>
      let v := State.toRefclk { (List.range 4).foldl (fun w p => w.modRport p (fun r => { r with range := none })) u with
        chain.addr := 0xFFFF, chain.hi := 0xFFFF, chain.hops := 0xFF, chain.upstream := none, chain.lostUp := none
        chain.disc := none, chain.aligned := false }
      if u.chain.addr = 0xFFFF then v else v.raise 0x0F02 (bytesOf 2 u.chain.addr.toNat ++ bytesOf 2 0xFFFF))) ∧
  (∀ (q : Fin 4) (body : BitVec 120), HappensOtp (fun dt => .msgFragment dt q body)
    (fun u => u.linkOn q.val = true ∧ (u.rport q.val).conflict = false ∧ slotGood body = true)
    (fun u => u.takeFrag q.val body.toNat)) ∧
  (∀ (q : Fin 4) (body : BitVec 120), HappensOtp (fun dt => .msgFragment dt q body)
    (fun u => u.linkOn q.val = true ∧ slotGood body = false)
    (fun u => u.badSlot q.val)) ∧
  (∀ (src : BitVec 16) (id : Byte), Happens (fun dt => .reassemblyTimeout dt src id)
    (fun u => u.chain.partials.any (fun x => x.src = src && x.id = id && x.since + ms 10 ≤ u.clk) = true
      ∨ u.chain.bulk.any (fun x => x.src = src && x.id.getD id = id && x.since + ms 10 ≤ u.clk) = true)
    (fun u => { u with
      chain.badFrags := (u.chain.badFrags + 1) % 2 ^ 32
      chain.partials := u.chain.partials.filter (fun x => !(x.src = src && x.id = id && x.since + ms 10 ≤ u.clk))
      chain.bulk := u.chain.bulk.filter (fun x => !(x.src = src && x.id.getD id = id && x.since + ms 10 ≤ u.clk)) }))

/-- The data class of the Chain (R306, R311 to R317): a packet for this device acts and frees its credits, one that has a route is queued,
one without is discarded; one without buffer space raises 0x600B and retrains; one whose CRC-32 fails, or that a control block inside
stomps, raises 0x600A, and goes on stomped or is discarded, and an unknown block is counted; a packet and a slot report go out where credits
and windows allow, a report of a port at width 0 is discarded; credits are counted and returned, and a block that is no CREDIT is counted
and ignored. -/
def Obligations.DataClassEventsComplete : Prop :=
  (∀ (q : Fin 4) (p : Packet) (crc : Word) (x : Option (BitVec 64)), Happens (fun dt => .dataPacket dt q p crc x)
    (fun u => u.dataOn q.val = true ∧ (u.rport q.val).width ≠ 0 ∧ 256 < (u.rport q.val).held + packetCost p)
    (fun u => ((u.fault 0x600B 8 q.val).portRetrain q.val).dropPkt)) ∧
  (∀ (q : Fin 4) (p : Packet) (crc : Word) (x : Option (BitVec 64)), Happens (fun dt => .dataPacket dt q p crc x)
    (fun u => u.dataOn q.val = true ∧ (u.rport q.val).width ≠ 0 ∧ (u.rport q.val).held + packetCost p ≤ 256
      ∧ crc.toNat = crc32 p.data ∧ stomps x = false ∧ p.dest = u.chain.addr ∧ u.chain.addr ≠ 0xFFFF ∧ p.stomp = false)
    (fun u => ((u.modRport q.val (fun r => { r with held := r.held + packetCost p })).takePacket p).freeCredits q.val
      (packetCost p))) ∧
  (∀ (q : Fin 4) (p : Packet) (crc : Word) (x : Option (BitVec 64)), Happens (fun dt => .dataPacket dt q p crc x)
    (fun u => u.dataOn q.val = true ∧ (u.rport q.val).width ≠ 0 ∧ (u.rport q.val).held + packetCost p ≤ 256
      ∧ crc.toNat = crc32 p.data ∧ stomps x = false ∧ p.dest = u.chain.addr ∧ u.chain.addr ≠ 0xFFFF ∧ p.stomp = true)
    (fun u => ((u.modRport q.val (fun r => { r with held := r.held + packetCost p })).dropPkt).freeCredits q.val
      (packetCost p))) ∧
  (∀ (q : Fin 4) (p : Packet) (crc : Word) (x : Option (BitVec 64)), Happens (fun dt => .dataPacket dt q p crc x)
    (fun u => u.dataOn q.val = true ∧ (u.rport q.val).width ≠ 0 ∧ (u.rport q.val).held + packetCost p ≤ 256
      ∧ crc.toNat = crc32 p.data ∧ stomps x = false ∧ u.chain.addr = 0xFFFF)
    (fun u => ((u.modRport q.val (fun r => { r with held := r.held + packetCost p })).dropPkt).freeCredits q.val
      (packetCost p))) ∧
  (∀ (q : Fin 4) (p : Packet) (crc : Word) (x : Option (BitVec 64)) (o : Nat), Happens (fun dt => .dataPacket dt q p crc x)
    (fun u => u.dataOn q.val = true ∧ (u.rport q.val).width ≠ 0 ∧ (u.rport q.val).held + packetCost p ≤ 256
      ∧ p.dest ≠ u.chain.addr
      ∧ ((u.modRport q.val (fun r => { r with held := r.held + packetCost p })).route p.dest.toNat = some o)
      ∧ ((u.modRport q.val (fun r => { r with held := r.held + packetCost p })).rport o).allRetired = false
      ∧ crc.toNat = crc32 p.data ∧ stomps x = false)
    (fun u => (u.modRport q.val (fun r => { r with held := r.held + packetCost p })).modRport o
      (fun r => { r with txQ := r.txQ ++ [(p, some q.val)] }))) ∧
  (∀ (q : Fin 4) (p : Packet) (crc : Word) (x : Option (BitVec 64)) (o : Nat), Happens (fun dt => .dataPacket dt q p crc x)
    (fun u =>
      let t := ((x.elim u (u.countBlock q.val)).modRport q.val (fun r => { r with held := r.held + packetCost p })).fault 0x600A 8 q.val
      u.dataOn q.val = true ∧ (u.rport q.val).width ≠ 0 ∧ (u.rport q.val).held + packetCost p ≤ 256
      ∧ (crc.toNat ≠ crc32 p.data ∨ stomps x = true)
      ∧ p.dest ≠ t.chain.addr ∧ t.route p.dest.toNat = some o ∧ (t.rport o).allRetired = false)
    (fun u => (((x.elim u (u.countBlock q.val)).modRport q.val (fun r => { r with held := r.held + packetCost p })).fault 0x600A 8 q.val).modRport o
      (fun r => { r with txQ := r.txQ ++ [({ p with stomp := true }, some q.val)] }))) ∧
  (∀ (q : Fin 4) (p : Packet) (crc : Word) (x : Option (BitVec 64)), Happens (fun dt => .dataPacket dt q p crc x)
    (fun u =>
      let t := ((x.elim u (u.countBlock q.val)).modRport q.val (fun r => { r with held := r.held + packetCost p })).fault 0x600A 8 q.val
      u.dataOn q.val = true ∧ (u.rport q.val).width ≠ 0 ∧ (u.rport q.val).held + packetCost p ≤ 256
      ∧ (crc.toNat ≠ crc32 p.data ∨ stomps x = true)
      ∧ p.dest = t.chain.addr ∧ p.dest ≠ 0xFFFF)
    (fun u =>
      let t := ((x.elim u (u.countBlock q.val)).modRport q.val (fun r => { r with held := r.held + packetCost p })).fault 0x600A 8 q.val
      (t.dropPkt).freeCredits q.val (packetCost p))) ∧
  (∀ (q : Fin 4) (x : Packet × Option Nat), Happens (fun dt => .packetSend dt q)
    (fun u => nextPacket (u.inWindow q.val) (u.rport q.val).txQ = some x ∧ u.dataOn q.val = true ∧ (u.rport q.val).width ≠ 0
      ∧ (u.rport q.val).txSleep = true) (fun u => u.wakePort q.val)) ∧
  (∀ (q : Fin 4) (p : Packet), Happens (fun dt => .packetSend dt q)
    (fun u => nextPacket (u.inWindow q.val) (u.rport q.val).txQ = some (p, none) ∧ u.dataOn q.val = true
      ∧ (u.rport q.val).width ≠ 0 ∧ (u.rport q.val).txSleep = false ∧ u.mayStart q.val p = true)
    (fun u => (u.modRport q.val (fun r => { r with txQ := r.txQ.erase (p, none) })).startPacket q.val p)) ∧
  (∀ (q : Fin 4) (p : Packet) (i : Nat), Happens (fun dt => .packetSend dt q)
    (fun u => nextPacket (u.inWindow q.val) (u.rport q.val).txQ = some (p, some i) ∧ u.dataOn q.val = true
      ∧ (u.rport q.val).width ≠ 0 ∧ (u.rport q.val).txSleep = false ∧ u.mayStart q.val p = true)
    (fun u => ((u.modRport q.val (fun r => { r with txQ := r.txQ.erase (p, some i) })).startPacket q.val p).freeCredits i
      (packetCost p))) ∧
  (∀ (q : Fin 4) (n : BitVec 16), Happens (fun dt => .creditBlock dt q (controlBlock 0x33 (bytesOf 2 n.toNat)))
    (fun u => u.dataOn q.val = true) (fun u => u.modRport q.val (fun r => { r with returned := n.toNat }))) ∧
  (∀ (q : Fin 4) (x : BitVec 64), Happens (fun dt => .creditBlock dt q x)
    (fun u => u.dataOn q.val = true ∧ unknownBlock x = true)
    (fun u => u.modRport q.val (fun r => { r with badBlocks := (r.badBlocks + 1) % 2 ^ 32 }))) ∧
  (∀ (q : Fin 4) (x : BitVec 64), Happens (fun dt => .creditBlock dt q x)
    (fun u => u.dataOn q.val = true ∧ isBlock 0x33 x = false ∧ unknownBlock x = false) (fun u => u)) ∧
  (∀ q : Fin 4, Happens (fun dt => .creditReturn dt q)
    (fun u => u.dataOn q.val = true ∧ 0 < (u.rport q.val).pendCr
      ∧ (16 ≤ (u.rport q.val).pendCr ∨ (u.rport q.val).pendAt + 32000 ≤ u.clk) ∧ (u.rport q.val).txSleep = false)
    (fun u => (u.modRport q.val (fun r => { r with
      freed := ((u.rport q.val).freed + (u.rport q.val).pendCr) % 65536, pendCr := 0, idleAt := u.clk })).sendBlock q.val
        (controlBlock 0x33 (bytesOf 2 (((u.rport q.val).freed + (u.rport q.val).pendCr) % 65536))))) ∧
  (∀ q : Fin 4, Happens (fun dt => .creditReturn dt q)
    (fun u => u.dataOn q.val = true ∧ 0 < (u.rport q.val).pendCr
      ∧ (16 ≤ (u.rport q.val).pendCr ∨ (u.rport q.val).pendAt + 32000 ≤ u.clk) ∧ (u.rport q.val).txSleep = true)
    (fun u => u.wakePort q.val)) ∧
  (∀ (q : Fin 4) (p : Packet) (t : Nat), Happens (fun dt => .slotReportSend dt q)
    (fun u => u.chain.toReport.find? (fun x => x.1 = q.val && x.2.2 ≤ u.now) = some (q.val, p, t) ∧ u.dataOn q.val = true
      ∧ (u.rport q.val).allRetired = false ∧ (u.rport q.val).txSleep = false ∧ u.mayStart q.val p = true)
    (fun u => State.startPacket { u with chain.toReport := u.chain.toReport.erase (q.val, p, t) } q.val p)) ∧
  (∀ (q : Fin 4) (p : Packet) (t : Nat), Happens (fun dt => .slotReportSend dt q)
    (fun u => u.chain.toReport.find? (fun x => x.1 = q.val && x.2.2 ≤ u.now) = some (q.val, p, t) ∧ u.dataOn q.val = true
      ∧ (u.rport q.val).allRetired = true)
    (fun u => State.dropPkt { u with chain.toReport := u.chain.toReport.erase (q.val, p, t) }))

/-- The front end and the tiles (R57 to R72, R81 to R111): a crossing of a channel in service is timed and counted, and one of a channel out
of service has no effect; a full count gives a correction table for the next boundary, or 0x2003; a lost DLL lock marks the tile and raises
0x2004; the pre-detector chooses the windows of every tile that has not chosen; the decision instant latches what the channels show, once;
cycle −1 checks the write pipelines and the comparator outputs, once; in RUN the column is that of the mode that runs, and outside it the
column of the active schedule (R18, R66, R107). -/
def Obligations.TileEventsComplete : Prop :=
  (∀ (c : Fin 1024) (path : TdcPath) (stage : Fin 40) (ecc : RiseEcc),
    Happens (fun dt => .comparatorCrossing dt c path .rise stage ecc)
    (fun u => u.chanOn c.val = true) (fun u => u.rise c.val path stage.val ecc)) ∧
  (∀ (c : Fin 1024) (path : TdcPath) (stage : Fin 40) (ecc : RiseEcc),
    Happens (fun dt => .comparatorCrossing dt c path .fall stage ecc)
    (fun u => u.chanOn c.val = true) (fun u => u.fall c.val path stage.val)) ∧
  (∀ (c : Fin 1024) (path : TdcPath) (edge : TdcEdge) (stage : Fin 40) (ecc : RiseEcc),
    Happens (fun dt => .comparatorCrossing dt c path edge stage ecc) (fun u => u.chanOn c.val = false) (fun u => u)) ∧
  (∀ (c : Fin 1024) (h : Tab Nat), Happens (fun dt => .calTableCompute dt c .L)
    (fun u => u.secOn (secOf c.val) = true ∧ u.gathered c.val (u.chan c.val).intL = h ∧ 65536 ≤ sumTo 40 (fun k => tget 0 h k)
      ∧ stageBad h (sumTo 40 (fun k => tget 0 h k)) = false)
    (fun u => State.modChan { u with free := u.free + 41 } c.val (fun x => { x with
      intL := x.intL.restart (u.pulseTime (secOf c.val)) (some (newTable h (sumTo 40 (fun k => tget 0 h k)))) }))) ∧
  (∀ (c : Fin 1024) (h : Tab Nat), Happens (fun dt => .calTableCompute dt c .H)
    (fun u => u.secOn (secOf c.val) = true ∧ u.gathered c.val (u.chan c.val).intH = h ∧ 65536 ≤ sumTo 40 (fun k => tget 0 h k)
      ∧ stageBad h (sumTo 40 (fun k => tget 0 h k)) = false)
    (fun u => State.modChan { u with free := u.free + 41 } c.val (fun x => { x with
      intH := x.intH.restart (u.pulseTime (secOf c.val)) (some (newTable h (sumTo 40 (fun k => tget 0 h k)))) }))) ∧
  (∀ (c : Fin 1024) (h : Tab Nat), Happens (fun dt => .calTableCompute dt c .L)
    (fun u => u.secOn (secOf c.val) = true ∧ u.gathered c.val (u.chan c.val).intL = h ∧ 65536 ≤ sumTo 40 (fun k => tget 0 h k)
      ∧ stageBad h (sumTo 40 (fun k => tget 0 h k)) = true)
    (fun u => (State.modChan { u with free := u.free + 41 } c.val (fun x => { x with
      intL := x.intL.restart (u.pulseTime (secOf c.val)) none })).fault 0x2003 1 c.val)) ∧
  (∀ (c : Fin 1024) (h : Tab Nat), Happens (fun dt => .calTableCompute dt c .H)
    (fun u => u.secOn (secOf c.val) = true ∧ u.gathered c.val (u.chan c.val).intH = h ∧ 65536 ≤ sumTo 40 (fun k => tget 0 h k)
      ∧ stageBad h (sumTo 40 (fun k => tget 0 h k)) = true)
    (fun u => (State.modChan { u with free := u.free + 41 } c.val (fun x => { x with
      intH := x.intH.restart (u.pulseTime (secOf c.val)) none })).fault 0x2003 1 c.val)) ∧
  (∀ (c : Fin 1024) (p : TdcPath), Happens (fun dt => .calTableCompute dt c p)
    (fun u => sumTo 40 (fun k => tget 0 (u.gathered c.val (match p with | .L => (u.chan c.val).intL | .H => (u.chan c.val).intH)) k) < 65536)
    (fun u => u)) ∧
  (∀ t : Fin 64, Happens (fun dt => .tileDllUnlock dt t)
    (fun u => u.secOn (t.val / 8) = true ∧ u.retired 2 t.val = false ∧ (u.tile t.val).locked = true)
    (fun u => (u.modTile t.val (fun x => { x with locked := false, discard := true })).fault 0x2004 2 t.val)) ∧
  (∀ col : Column, Happens (fun dt => .preDetector dt)
    (fun u => u.mode.cur = some col ∧ col.active = true ∧ slotStart col ((parOf col.mode).coarse - 1)
      + u.slotDither col ((parOf col.mode).coarse - 1) + (parOf col.mode).window ≤ u.now)
    (fun u =>
      let p := parOf col.mode
      let v := u.foldShot
      let pd := fun k => match u.block col.mode with
        | some b => max 1 (tget 0 b.pdMin k)
        | none => 1
      ((List.range 64).filter (fun t => v.secOn (t / 8) && !(v.tile t).chosen && !v.retired 2 t)).foldl (fun w t =>
        ((List.range 16).foldl (fun x i => x.modFill (16 * t + i) (fun m =>
          chooseWindows m (16 * t + i) p.bins (x.colSigma col) p.fine (pd (t / 8)) (col.mode = 4))) w).modTile t
            (fun x => { x with chosen := true })) v)) ∧
  (∀ (col : Column) (obs : List ChanObs), Happens (fun dt => .decisionInstant dt obs)
    (fun u => u.columnNow = some col ∧ u.mode.decided = false ∧ u.decisionAt col ≤ u.now)
    (fun u => State.decide { u.foldShot with mode.decided := true } col obs)) ∧
  (∀ obs : List ChanObs, Happens (fun dt => .decisionInstant dt obs)
    (fun u => u.mode.decided = true) (fun u => u)) ∧
  (∀ (col : Column) (notEmpty : List (Fin 64)) (act : List (Fin 1024)), Happens (fun dt => .writePipelineCheck dt notEmpty act)
    (fun u => u.columnNow = some col ∧ u.mode.checked = false ∧ col.stop ≤ u.now + engCk)
    (fun u =>
      let v := ((List.range 64).filter (fun t => notEmpty.any (fun x => x.val = t) && u.secOn (t / 8) && !u.retired 2 t)).foldl
        State.handoffTimeout ({ u with mode.checked := true } : State)
      (if col.active then List.range 1024 else []).foldl
        (fun w c => w.stuckSample c (w.chanOn c && act.any (fun x => x.val = c))) v)) ∧
  (∀ (u : State) (col : Column), u.mode.cur = some col → u.columnNow = some col)

/-- The column boundary and the ends of warm-up and of a stop (R18, R43 to R51, R102 to R111, R132, R362, R370, R380): at the boundary of
the column in progress its results wait, every tile hands its set over, and what follows begins; a MODE.START begins its prime column at
B; the sets pass at the boundaries of the loaded schedule while no column runs; the stop completes when the end header is written and
every head has drained, or 20 ms after acceptance, unless its FAB_CK cycle brings a cause for SAFE HOLD or DEGRADED RUN: then it is lost (R27;
how far the cycle is looked into: log entry 130). -/
def Obligations.ColumnEventsComplete : Prop :=
  (∀ (gate : Bool) (bad : List (Fin 64)) (c : Column), Happens (fun dt => .columnBoundary dt gate bad)
    (fun u => u.mode.cur = some c ∧ c.stop ≤ u.now)
    (fun u =>
      let v := ((u.handOver bad c).feedDumps c).applyDue
      ((v.turnSequencer (u.ahead c)).turnRest.nextColumn c gate).pulsers)) ∧
  (∀ (gate : Bool) (bad : List (Fin 64)) (ch : Change), Happens (fun dt => .columnBoundary dt gate bad)
    (fun u => u.mode.cur = none ∧ u.mode.change = some ch ∧ ch.isStart = true ∧ ch.warm = true ∧ ch.b ≤ u.now)
    (fun u => (((((u.handOver bad (u.beforeStart ch)).applyDue).turnSequencer false).turnRest).startPrime ch gate).pulsers)) ∧
  (∀ (gate : Bool) (bad : List (Fin 64)) (b : ModeBlock) (c : Column), Happens (fun dt => .columnBoundary dt gate bad)
    (fun u => u.mode.cur = none ∧ u.mode.change = none ∧ u.block u.mode.mode = some b ∧ u.idleColumn u.mode.mode = some c
      ∧ u.mode.idleAt < c.stop)
    (fun u =>
      let v := (((u.handOver bad c).applyDue).turnRest.turnVariants).pulsers
      { v with mode.idleAt := c.stop, mode.prev := if v.mode.change.isSome then none else v.mode.prev })) ∧
  Happens (fun dt => .warmUpEnd dt) (fun _ => True)
    (fun u => match u.endWarmUp.mode.change with
      | some c => if c.warm then u.endWarmUp.stageMode c.mode else u.endWarmUp
      | none => u.endWarmUp) ∧
  (let wins := fun (u : State) => u.stopLoses = false ∧ u.foreseen.hold = false ∧ u.foreseen.degraded = false
   (∀ st : Stop, Happens (fun dt => .orderlyStopComplete dt)
    (fun u => u.mode.stop = some st ∧ st.ended = true ∧ st.header = true ∧ u.allDrained = true ∧ st.cause ≠ 1 ∧ wins u)
    (fun u => u.met (fun v => v.completeStop false))) ∧
   (∀ st : Stop, Happens (fun dt => .orderlyStopComplete dt)
    (fun u => u.mode.stop = some st ∧ st.ended = true ∧ st.header = true ∧ u.allDrained = true ∧ st.cause = 1 ∧ wins u)
    (fun u => u.met (fun v => (v.completeStop false).openBoth))) ∧
   (∀ st : Stop, Happens (fun dt => .stopTimeout dt)
    (fun u => u.mode.stop = some st ∧ st.since + ms 20 ≤ u.clk ∧ st.cause ≠ 1 ∧ wins u)
    (fun u => u.met (fun v => v.completeStop true))) ∧
   (∀ st : Stop, Happens (fun dt => .stopTimeout dt)
    (fun u => u.mode.stop = some st ∧ st.since + ms 20 ≤ u.clk ∧ st.cause = 1 ∧ wins u)
    (fun u => u.met (fun v => (v.completeStop true).openBoth)))) ∧
  Happens (fun dt => .orderlyStopComplete dt) (fun u => u.foreseen.hold = true ∨ u.foreseen.degraded = true)
    (fun u => { u with race := {} }) ∧
  Happens (fun dt => .stopTimeout dt) (fun u => u.foreseen.hold = true ∨ u.foreseen.degraded = true) (fun u => { u with race := {} }) ∧
  (∀ (u : State) (f : State → State), (u.foreseen = {} → u.met f = f u) ∧
    (u.foreseen ≠ {} → u.met f = { f { u with race := u.foreseen } with race := {} }))

/-- The shot sequencer and the ledger (R36, R38, R129, R139 to R151, R154 to R163, R166): SHOT frames 600 ns before a slot, the ledger's
decision 40 ns before it, the gates at its shot instant, the ESNS checks after it; lasting observations, chargers, HOLD frames, the refill
tick and the age of a diagnosis; proof shots of SERVICE, with their frame, decision and instant on the service grid; a column whose pair is in
another mode fires and listens in no slot (R48). -/
def Obligations.ShotEventsComplete : Prop :=
  (∀ w : Work, Happens (fun dt => .shotFrame dt)
    (fun u => u.work = some w ∧ u.emit.framed = false ∧ w.t0 ≤ u.now + 600 * ticksPerNs ∧ u.permitted = true)
    (fun u => State.sendShot { u with
      emit.framed := true, emit.supSlot := 0
      emit.pats := (u.planOf w).foldl (fun (t : Tab Nat) (p : Nat × Nat × Bool) => tput 0 t p.1 (p.2.1 + 1)) []
      emit.proofs := BitVec.ofNat 64 (maskOf (((u.planOf w).filter (fun p => p.2.2)).map Prod.fst)) } (u.planOf w))) ∧
  (∀ w : Work, Happens (fun dt => .shotFrame dt)
    (fun u => u.work = some w ∧ u.emit.framed = false ∧ w.t0 ≤ u.now + 600 * ticksPerNs ∧ u.permitted = false)
    (fun u => { u with emit.framed := true, emit.pats := [], emit.supSlot := 0, emit.proofs := BitVec.ofNat 64 (maskOf []) })) ∧
  (let due := fun (u : State) (p : ServProof) => u.work = none ∧ u.nextService = some p ∧ u.life.lcs = .service
   (∀ p : ServProof, Happens (fun dt => .shotFrame dt)
    (fun u => due u p ∧ p.framed = false ∧ p.slot ≤ u.now + 600 * ticksPerNs
      ∧ u.permittedService = true ∧ u.retired 6 p.str = false)
    (fun u => (u.modService p { p with framed := true }).sendShot [(p.str, p.pat, true)])) ∧
   (∀ p : ServProof, Happens (fun dt => .shotFrame dt)
    (fun u => due u p ∧ p.framed = false ∧ p.slot ≤ u.now + 600 * ticksPerNs
      ∧ (u.permittedService = false ∨ u.retired 6 p.str = true))
    (fun u => u.modService p { p with framed := true })) ∧
   (∀ p : ServProof, Happens (fun dt => .ledgerDecision dt)
    (fun u => due u p ∧ p.framed = true ∧ p.paid = none ∧ p.slot ≤ u.now + 40 * ticksPerNs)
    (fun u =>
      let v : State := { u.refillDue with emit.debits := 0 }
      if u.permittedService && !u.retired 6 p.str then
        if v.payable p.str (v.litBy p.str p.pat true) (v.costOf p.mode p.str true) then
          (v.pay p.str (v.litBy p.str p.pat true) (v.costOf p.mode p.str true)).modService p { p with paid := some true }
        else { (v.suppress p.str).modService p { p with paid := some false } with emit.supSlot := 0 }
      else v.modService p { p with paid := some false }))) ∧
  (∀ w : Work, Happens (fun dt => .ledgerDecision dt)
    (fun u => u.work = some w ∧ u.emit.framed = true ∧ u.emit.decided = false ∧ w.t0 ≤ u.now + 40 * ticksPerNs)
    (fun u =>
      let v : State := { u.refillDue with emit.decided := true, emit.debits := 0, emit.supSlot := 0 }
      let plan := (u.emit.pats.filter (fun x => !u.unplanned w x.1)).map (fun x => (x.1, x.2 - 1, bitN u.emit.proofs.toNat x.1))
      let x := if u.permitted then plan.foldl (fun t p => t.decide1 w.mode p.1 p.2.1 p.2.2) v else v
      let y := x.noteSlot w.slot (!u.permitted || x.emit.supSlot != 0)
      if w.slot + 1 = (parOf w.mode).shots then y.queueReports w else y)) ∧
  (∀ c : Column, Happens (fun dt => .shotInstant dt)
    (fun u => u.mode.cur = some c ∧ c.kind = .listen ∧ u.otherMode c = false ∧ u.emit.slot < (parOf c.mode).shots
      ∧ slotStart c u.emit.slot + u.slotDither c u.emit.slot ≤ u.now)
    (fun u => { u.foldShot with
      emit.slot := u.emit.slot + 1, emit.shots := u.emit.shots + 1
      emit.shotAt := some (slotStart c u.emit.slot + u.slotDither c u.emit.slot, u.emit.slot), emit.shut := 0 })) ∧
  (∀ c : Column, Happens (fun dt => .shotInstant dt)
    (fun u => u.mode.cur = some c ∧ c.kind = .home ∧ u.otherMode c = false ∧ u.emit.slot < (parOf c.mode).shots
      ∧ slotStart c u.emit.slot + u.slotDither c u.emit.slot ≤ u.now ∧ u.emit.decided = true)
    (fun u =>
      let at_ := slotStart c u.emit.slot + u.slotDither c u.emit.slot
      State.slotDone { u.foldShot.driveAll ⟨c.mode, c.index, u.emit.slot, slotStart c u.emit.slot⟩ at_ with
        emit.shots := u.emit.shots + 1, emit.shotAt := some (at_, u.emit.slot), emit.shut := u.emit.supSlot
        emit.supCol := (onesOf 64 u.emit.supSlot.toNat).foldl
          (fun (t : Tab Word) (i : Nat) => tmod 0#32 t i (fun x => x ||| BitVec.ofNat 32 (2 ^ u.emit.slot))) u.emit.supCol })) ∧
  (∀ c : Column, Happens (fun dt => .shotInstant dt)
    (fun u => u.mode.cur = some c ∧ c.active = true ∧ u.otherMode c = true ∧ u.emit.slot < (parOf c.mode).shots
      ∧ slotStart c u.emit.slot + u.slotDither c u.emit.slot ≤ u.now)
    (fun u => { u.foldShot with emit.slot := u.emit.slot + 1, emit.shotAt := none })) ∧
  (∀ sensed : BitVec 64, Happens (fun dt => .esnsCheck dt sensed) (fun _ => True)
    (fun u =>
      let v := ((onesOf 64 u.emit.fired.toNat).filter u.esnsDue).foldl (fun t i => t.esns1 (bitN sensed.toNat i) i) u
      { v with emit.fired := BitVec.ofNat 64 (maskOf ((onesOf 64 u.emit.fired.toNat).filter (fun i => !u.esnsDue i))) })) ∧
  (∀ i : Fin 64, Happens (fun dt => .uncommandedCurrent dt i)
    (fun u => u.domOn 32 = true ∧ u.currentAllowed i.val = false) (fun u => u.observeFault 0x4001 i.val)) ∧
  (∀ i : Fin 64, Happens (fun dt => .gateReadback dt i) (fun u => u.domOn 32 = true) (fun u => u.observeFault 0x4002 i.val)) ∧
  (∀ (code : BitVec 16) (i : Fin 64), Happens (fun dt => .emissionFaultEnd dt code i)
    (fun u => (code = 0x4001 ∨ code = 0x4002 ∨ code = 0x4005 ∧ u.rsvOver i.val = false)
      ∧ u.faults.active.any (fun a => a.code = code && a.unit = ⟨6, i.val⟩ && a.seen + ms 1 ≤ u.clk) = true)
    (fun u => u.endFaultAt code.toNat 6 i.val)) ∧
  (∀ l : Fin 8, Happens (fun dt => .holdFrame dt l)
    (fun u => (u.running = true ∨ u.life.lcs = .service) ∧ u.permitBase = true
      ∧ (u.line l.val).lastFrame + us 20 ≤ u.clk ∧ u.lineFree l.val (wireTicks holdBits + 20 * ticksPerNs) none = true)
    (fun u => (u.modLine l.val (fun x => { x with lastFrame := u.clk, frameEnd := u.clk + wireTicks holdBits })).say
      (.holdFrame l.val holdBits))) ∧
  (∀ (i : Fin 64) (v : Nat), Happens (fun dt => .reservoirComparator dt i v) (fun u => u.domOn 32 = true)
    (fun u =>
      let t := ((u.loopDue (chargeFn i.val)).modStr i.val (fun x => { x with rsv := v })).chargeCtl i.val
      if t.rsvOver i.val then t.observeFault 0x4005 i.val else t)) ∧
  (∀ i : Fin 64, Happens (fun dt => .chargeTimeout dt i)
    (fun u => (u.str i.val).chg = true ∧ (u.str i.val).chgSince + us (100 * fld u.emit.word.toNat 24 8) < u.clk)
    (fun u => (u.modStr i.val (fun x => { x with chg := false, chgHeld := true })).fault 0x4009 6 i.val)) ∧
  (∀ (obs : List (Fin 64 × Nat)) (ecc : Bool), Happens (fun dt => .refillTick dt obs ecc)
    (fun u => u.emit.tick < u.now / refillTicks)
    (fun u =>
      let bad := (List.range 64).any (fun i =>
        let d := auditOf (u.str i) (observedOn obs (u.str i) i)
        d < 0 || 1 < d)
      let v := (List.range 64).foldl (fun t i => t.closeBooks obs i) ({ u.refillDue with emit.tick := u.now / refillTicks } : State)
      let x := if u.running && u.mode.cur.isSome then v
        else (List.range 64).foldl (fun t i =>
          if (t.str i).chgHeld then (t.modStr i (fun y => { y with chgHeld := false })).chargeCtl i else t) v
      let w := if bad then x.fault 0x4003 0 0 else x
      if ecc then w.fault 0x4004 0 0 else w)) ∧
  (∀ e : Fin 1024, Happens (fun dt => .diagnosisAgeExpired dt e) (fun u => u.undiagnosed e.val = true)
    (fun u => { u with emit.fullShare := tput false u.emit.fullShare e.val false })) ∧
  (∀ p : ServProof, Happens (fun dt => .serviceProofShot dt)
    (fun u => u.nextService = some p ∧ u.life.lcs = .service ∧ p.paid ≠ none ∧ p.slot ≤ u.now) (fun u => u.fireService p))

/-- The Cornice lines (R144, R146, R148, R151, R152, R165 to R169, R360): a free line carries an access and opens its reply window, RETIRE only
once the head has said what it declares; a good
reply keeps the register's value, one of HEAD_ID, RETIRE, HEAD_STAT or DIAG has its effect, and a bad one raises 0x400A; a window that
closes without a reply raises 0x400A; a line fault charges every string of the line. -/
def Obligations.CorniceEventsComplete : Prop :=
  (∀ (u : State) (i : Nat), (u.str i).declared = none → u.canWrite i 0x05 = false) ∧
  (∀ (i : Fin 64) (reg : Byte), Happens (fun dt => .corniceRead dt i reg) (fun u => u.canRead i.val reg = true)
    (fun u => u.access i.val reg none)) ∧
  (∀ (i : Fin 64) (reg : Byte) (d : Word), Happens (fun dt => .corniceWrite dt i reg d)
    (fun u => u.canWrite i.val reg = true ∧ ¬ (0x40 ≤ reg.toNat ∧ reg.toNat < 0x80))
    (fun u => u.access i.val reg (some (u.writeWord i.val reg d)))) ∧
  (∀ (i : Fin 64) (reg : Byte) (d : Word), Happens (fun dt => .corniceWrite dt i reg d)
    (fun u => u.canWrite i.val reg = true ∧ 0x40 ≤ reg.toNat ∧ reg.toNat < 0x80)
    (fun u =>
      let w := u.writeWord i.val reg d
      let pats := tput 0xFFFF#16 u.emit.patReg (64 * i.val + (reg.toNat - 0x40)) (BitVec.ofNat 16 w.toNat)
      State.access { u with emit.patReg := pats } i.val reg (some w))) ∧
  (∀ (l : Fin 8) (x : BitVec 48) (a : Access), Happens (fun dt => .corniceReply dt l x)
    (fun u => (u.line l.val).pending = some a ∧ u.clk ≤ a.close
      ∧ (crc8 (bytesBE 5 (fld x.toNat 8 40)) ≠ fld x.toNat 0 8 ∨ fld x.toNat 45 3 ≠ a.str % 8))
    (fun u => (u.modLine l.val (fun y => { y with pending := none })).fault 0x400A 6 a.str)) ∧
  (∀ (l : Fin 8) (x : BitVec 48) (a : Access), Happens (fun dt => .corniceReply dt l x)
    (fun u => (u.line l.val).pending = some a ∧ u.clk ≤ a.close
      ∧ crc8 (bytesBE 5 (fld x.toNat 8 40)) = fld x.toNat 0 8 ∧ fld x.toNat 45 3 = a.str % 8)
    (fun u =>
      let v := (u.modLine l.val (fun y => { y with pending := none })).modStr a.str (fun y => { y with
        drained := bitN (fld x.toNat 40 5) 3, regs := tput 0#32 y.regs a.reg.toNat (BitVec.ofNat 32 (fld x.toNat 8 32)) })
      if a.reg = 0x05 then
        v.modStr a.str (fun y => { y with declared := some (BitVec.ofNat 16 (fld x.toNat 8 32) &&& ~~~ y.retire) })
      else if a.wdata.isSome then v
      else if a.reg = 0x01 then v.modStr a.str (fun y => { y with fitted := fld (fld x.toNat 8 32) 24 8 })
      else if a.reg = 0x03 then v.readStat a.str (fld x.toNat 8 32)
      else if a.reg = 0x04 then v.readDiag a.str (bitN (fld x.toNat 40 5) 2) (fld x.toNat 8 32)
      else v)) ∧
  (∀ (l : Fin 8) (a : Access), Happens (fun dt => .corniceNoReply dt l)
    (fun u => (u.line l.val).pending = some a ∧ a.close ≤ u.clk)
    (fun u =>
      let v := (u.modLine l.val (fun y => { y with pending := none })).fault 0x400A 6 a.str
      if a.reg = 0x04 && a.wdata.isNone then v.endService a.str 0 0 else v)) ∧
  (∀ l : Fin 8, Happens (fun dt => .corniceLineFault dt l) (fun u => u.domOn 32 = true) (fun u => u.lineFault l.val))

/-- The periods of the loop engines (R173, R174, R178, R181, R184, R185, R187, R191, R381): each runs its law when its period has come;
LE0 sets the phase references, LE1 the speed law, LE2 and LE4 the repetitive controllers, LE3 the position law on the frame received, LE5
the supervision of the index: turns without one, counted from the turn in which the axis closed, up to 0x5002. -/
def Obligations.LoopEnginePeriodsComplete : Prop :=
  (∀ ia ib ic : BitVec 12, Happens (fun dt => .le0Period dt ia ib ic)
    (fun u => (u.loopDue 0).brakeLost.periodDue 0 160000 = true
      ∧ (((((u.loopDue 0).brakeLost.ranNow 0).readPhase 0 (isnsOf ia)).readPhase 1 (isnsOf ib)).readPhase 2 (isnsOf ic)).scan.a.driving = true)
    (fun u =>
      let v := ((((u.loopDue 0).brakeLost.ranNow 0).readPhase 0 (isnsOf ia)).readPhase 1 (isnsOf ib)).readPhase 2 (isnsOf ic)
      let t := 3 * v.elecAngle
      let ra := v.scan.a.istar * sinAt t
      let rb := v.scan.a.istar * sinAt (t - 65536)
      v.modA (fun a => { a with iref := tput (0 : Rat) (tput (0 : Rat) (tput (0 : Rat) a.iref 0 ra) 1 rb) 2 (-ra - rb) }))) ∧
  Happens (fun dt => .le1Period dt)
    (fun u => (u.loopDue 1).brakeLost.periodDue 1 3200000 = true
      ∧ live (((u.loopDue 1).brakeLost.ranNow 1).modA (fun a => { a with w := ((u.loopDue 1).brakeLost.ranNow 1).speedNow })).scan.a.st = true
      ∧ (((u.loopDue 1).brakeLost.ranNow 1).modA (fun a => { a with w := ((u.loopDue 1).brakeLost.ranNow 1).speedNow })).scan.a.alignEnd = none)
    (fun u =>
      let v := (u.loopDue 1).brakeLost.ranNow 1
      let w := (v.modA (fun a => { a with w := v.speedNow })).speedLaw
      (w.sample 0x0F 0 (rhe (w.scan.a.err * 100))).lockCheck) ∧
  Happens (fun dt => .le2Period dt) (fun u => (u.loopDue 2).brakeLost.periodDue 2 3200000 = true)
    (fun u =>
      let v := (u.loopDue 2).brakeLost.ranNow 2
      let a := v.scan.a
      let d := if v.learnsA then
          some (flr (((v.aCoef 0 16 : Nat) : Rat) / 256 * a.err / ((2 ^ repFld a.repCfg 5 4 : Nat) : Rat)))
        else none
      let rep := a.rep.step a.repCfg (v.repIndex a.repCfg) (v.repValid a.repCfg && live a.st) d
      v.modA (fun x => { x with rep := rep })) ∧
  (∀ f g : SsiFrame, Happens (fun dt => .le3Period dt f g)
    (fun u => (u.loopDue 3).brakeLost.periodDue 3 1600000 = true)
    (fun u =>
      let v := (((u.loopDue 3).brakeLost.ranNow 3).modB (fun b => { b with thPrev := b.th })).takeFrame f
      let w := (if v.framesDisagree f g then v.fault 0x8004 0 0 else v).islFrame g
      if live w.scan.b.st || w.scan.b.parking then
        let x := w.positionLaw
        let y := x.sample 0x0F 1 (rhe x.scan.b.err)
        if y.scan.b.st = .closing then (y.modB (fun b => { b with st := .closed })).sayLoop 1 .B else y
      else w)) ∧
  Happens (fun dt => .le4Period dt) (fun u => (u.loopDue 4).brakeLost.periodDue 4 1600000 = true)
    (fun u =>
      let v := (u.loopDue 4).brakeLost.ranNow 4
      let b := v.scan.b
      let d := if v.learnsB then
          some (flr (((v.bCoef 0 16 : Nat) : Rat) / 16 * b.meanErr / ((2 ^ repFld b.repCfg 5 4 : Nat) : Rat)))
        else none
      let rep := b.rep.step b.repCfg (v.repIndex b.repCfg) (v.repValid b.repCfg && live b.st) d
      v.modB (fun x => { x with rep := rep })) ∧
  (let ran := fun (u : State) => (u.loopDue 5).brakeLost.ranNow 5
   let past := fun (v : State) =>
     let n : Int := v.scan.a.missed + 1
     (v.scan.a.missBase.1 + n) * (v.revCounts : Int) + 8 < v.scan.a.count
       ∨ v.scan.a.count < (v.scan.a.missBase.2 - n) * (v.revCounts : Int) - 8
   Happens (fun dt => .le5Period dt)
    (fun u => (u.loopDue 5).brakeLost.periodDue 5 160000 = true
      ∧ (live (ran u).scan.a.st = false ∨ (ran u).scan.a.indexed = false ∨ ¬past (ran u))) ran ∧
   Happens (fun dt => .le5Period dt)
    (fun u => (u.loopDue 5).brakeLost.periodDue 5 160000 = true ∧ live (ran u).scan.a.st = true ∧ (ran u).scan.a.indexed = true
      ∧ past (ran u) ∧ (ran u).scan.a.missed = 0)
    (fun u => (ran u).modA (fun a => { a with missed := 1 })) ∧
   Happens (fun dt => .le5Period dt)
    (fun u => (u.loopDue 5).brakeLost.periodDue 5 160000 = true ∧ live (ran u).scan.a.st = true ∧ (ran u).scan.a.indexed = true
      ∧ past (ran u) ∧ (ran u).scan.a.missed ≠ 0)
    (fun u => ((ran u).modA (fun a => { a with missed := (ran u).scan.a.missed + 1 })).faultA 0x5002))

/-- The bridge, the crossings and the supervision of the axes (R134, R174, R193, R176 to R184, R188, R190, R194 to R198): a phase current
outside its band switches the phase; a facet crossing measures the phase error; the axis angles are sampled at the reference instant;
alignment ends in the ramp; each limit that is passed raises its fault and opens its axis; a cell of a repetitive memory that fails is
zeroed and counted, and charges nothing (R193); a brake ends in its stop condition; a rising edge of PERIOD_IN measures the machine
period. -/
def Obligations.DriveEventsComplete : Prop :=
  (∀ (ph : Fin 3) (i : Nat), Happens (fun dt => .phaseCurrentComparator dt ph i)
    (fun u => u.domOn 31 = true ∧ (u.readPhase ph.val i).scan.a.driving = true
      ∧ (tget {} (u.readPhase ph.val i).scan.a.ph ph.val).swAt = none
      ∧ (((u.readPhase ph.val i).aCoef 96 12 : Nat) : Rat) < (tget {} (u.readPhase ph.val i).scan.a.ph ph.val).i - tget 0 (u.readPhase ph.val i).scan.a.iref ph.val)
    (fun u =>
      let v := u.readPhase ph.val i
      v.modA (fun a => { a with ph := tmod {} a.ph ph.val (fun p => p.switch false v.clk v.deadTicks) }))) ∧
  (∀ k : Fin 12, Happens (fun dt => .facetCrossing dt k)
    (fun u => u.domOn 31 = true ∧ u.fnLost 5 = false ∧ u.scan.a.indexed = true ∧ u.scan.a.crossed = false
      ∧ k.val < u.coefFacets
      ∧ (u.scan.a.count - (u.aCoef 192 17 + k.val * u.revCounts / u.coefFacets : Nat)) % (u.revCounts : Int) = 0)
    (fun u =>
      let tol : Rat := (u.aCoef 209 8 : Nat)
      (u.modA (fun a => { a with
        crossed := true, ephi := u.sweepLag
        inTol := if absQ u.sweepLag * 10 ≤ tol then min 16 (a.inTol + 1) else 0
        outTol := if 4 * tol < absQ u.sweepLag * 10 then a.outTol + 1 else 0 })).lockCheck)) ∧
  (∀ c : Column, Happens (fun dt => .referenceInstant dt)
    (fun u => u.mode.cur = some c ∧ c.sampled = false ∧ refInstant c ≤ u.now ∧ c.kind ≠ .home ∧ c.kind ≠ .listen)
    (fun u => { u with mode.cur := some { c with
      sampled := true, refAt := some u.clk, angleA := u.angleA, angleB := u.scan.b.th, islA := u.safe.count, islB := u.safe.angle } })) ∧
  (∀ c : Column, Happens (fun dt => .referenceInstant dt)
    (fun u => u.mode.cur = some c ∧ c.sampled = false ∧ refInstant c ≤ u.now ∧ (c.kind = .home ∨ c.kind = .listen))
    (fun u =>
      let v : State := { u with mode.cur := some { c with
        sampled := true, refAt := some u.clk, angleA := u.angleA, angleB := u.scan.b.th, islA := u.safe.count, islB := u.safe.angle } }
      if 8 < (u.safe.count - u.scan.a.count).natAbs then v.fault 0x8004 0 0 else v)) ∧
  (∀ t : Nat, Happens (fun dt => .alignmentEnd dt)
    (fun u => u.scan.a.alignEnd = some t ∧ t ≤ u.clk ∧ live u.scan.a.st = true)
    (fun u => u.modA (fun a => { a with
      alignEnd := none, watch := some u.clk, wRef := a.w, istar := 0
      commRef := (-(a.count * (u.aCoef 178 4 : Nat) * 65536 / (u.revCounts : Int))) % 65536 }))) ∧
  (∀ t : Nat, Happens (fun dt => .encEdgeTimeout dt)
    (fun u => u.scan.a.watch = some t ∧ u.scan.a.edges = [] ∧ u.domOn 31 = true ∧ live u.scan.a.st = true
      ∧ 4 * u.countPeriod ≤ ((u.clk - t : Nat) : Rat)) (fun u => u.faultA 0x5001)) ∧
  (∀ (t e : Nat) (r : List Nat), Happens (fun dt => .encEdgeTimeout dt)
    (fun u => u.scan.a.watch = some t ∧ u.scan.a.edges = e :: r ∧ u.domOn 31 = true ∧ live u.scan.a.st = true
      ∧ 4 * u.countPeriod ≤ ((u.clk - max t e : Nat) : Rat)) (fun u => u.faultA 0x5001)) ∧
  (∀ (ph : Fin 3) (i : Nat), Happens (fun dt => .overcurrentA dt ph i)
    (fun u => u.domOn 31 = true ∧ ((5 * u.aCoef 64 16 : Nat) : Rat) < 4 * absQ (u.phaseCurrent i)) (fun u => (u.readPhase ph.val i).faultA 0x5008)) ∧
  (∀ v : Nat, Happens (fun dt => .busOvervolt dt v)
    (fun u => u.domOn 31 = true ∧ u.aCoef 241 12 < v ∧ u.scan.a.driving = true)
    (fun u => (u.modA (fun a => { a with vbus := v })).faultA 0x5009)) ∧
  (∀ t : Nat, Happens (fun dt => .spinupTimeout dt)
    (fun u => u.scan.a.closeAt = some t ∧ t + sec (u.aCoef 186 6) ≤ u.clk) (fun u => u.faultA 0x500A)) ∧
  (∀ t : Nat, Happens (fun dt => .lockRegainTimeout dt)
    (fun u => u.scan.a.lostAt = some t ∧ t + sec 1 ≤ u.clk) (fun u => u.faultA 0x500B)) ∧
  (∀ t : Nat, Happens (fun dt => .trackingErrorLimit dt)
    (fun u => u.scan.b.overAt = some t ∧ t + ms 1 ≤ u.clk) (fun u => u.faultB 0x500D)) ∧
  (∀ e : Fin 16, Happens (fun dt => .loopEngineUpset dt (.engine e))
    (fun u => u.domOn 31 = true ∧ u.retired 9 e.val = false
      ∧ (List.range 14).find? (fun f => u.fnEngine f = some e.val) = none)
    (fun u => u.fault 0x500C 9 e.val)) ∧
  (∀ (e : Fin 16) (f : Nat), Happens (fun dt => .loopEngineUpset dt (.engine e))
    (fun u => u.domOn 31 = true ∧ u.retired 9 e.val = false
      ∧ (List.range 14).find? (fun f => u.fnEngine f = some e.val) = some f ∧ 6 ≤ f)
    (fun u => (u.fault 0x500C 9 e.val).holdCharge f)) ∧
  (∀ (e : Fin 16) (f : Nat), Happens (fun dt => .loopEngineUpset dt (.engine e))
    (fun u => u.domOn 31 = true ∧ u.retired 9 e.val = false
      ∧ (List.range 14).find? (fun f => u.fnEngine f = some e.val) = some f ∧ f < 6)
    (fun u =>
      let v := if (axisFns .A).contains f then (u.fault 0x500C 9 e.val).openA true .regen else u.fault 0x500C 9 e.val
      let w := if (axisFns .B).contains f then v.openB true false else v
      if (((axisFns .A).contains f && live u.scan.a.st) || ((axisFns .B).contains f && live u.scan.b.st)) && w.running then
        w.safeHold false else w)) ∧
  (∀ i : Fin 2048, Happens (fun dt => .loopEngineUpset dt (.cell .A i))
    (fun u => u.domOn 31 = true ∧ i.val < repCells u.scan.a.repCfg)
    (fun u => u.modA (fun a => { a with rep := { a.rep with m := tput 0 a.rep.m i.val 0, errors := sat 16 (a.rep.errors + 1) } }))) ∧
  (∀ i : Fin 2048, Happens (fun dt => .loopEngineUpset dt (.cell .B i))
    (fun u => u.domOn 31 = true ∧ i.val < repCells u.scan.b.repCfg)
    (fun u => u.modB (fun b => { b with rep := { b.rep with m := tput 0 b.rep.m i.val 0, errors := sat 16 (b.rep.errors + 1) } }))) ∧
  (∀ t : Nat, Happens (fun dt => .brakeStopCondition dt .A)
    (fun u => u.scan.a.st = .braking ∧ (u.scan.a.brake = some .regen ∨ u.scan.a.brake = some .short)
      ∧ u.scan.a.slowAt = some t ∧ t + ms 100 ≤ u.clk) State.stopA) ∧
  Happens (fun dt => .brakeStopCondition dt .A)
    (fun u => u.scan.a.st = .braking ∧ (u.scan.a.brake = some .shortTmax ∨ u.scan.a.brake = some .coast)
      ∧ u.scan.a.brakeAt + sec (u.aCoef 217 8) ≤ u.clk) State.stopA ∧
  Happens (fun dt => .brakeStopCondition dt .B)
    (fun u => u.scan.b.st = .braking ∧ u.scan.b.parking = true
      ∧ u.scan.b.r = (clampI (u.bSigned 160 20) (u.bSigned 192 20) (u.bSigned 212 20) : Int)) State.stopB ∧
  (∀ t : Nat, Happens (fun dt => .periodInEdge dt) (fun u => u.hk.pinAt = some t)
    (fun u => { u with hk.pin := some (u.clk - t), hk.pinAt := some u.clk })) ∧
  Happens (fun dt => .periodInEdge dt) (fun u => u.hk.pinAt = none)
    (fun u => { u with hk.pin := none, hk.pinAt := some u.clk })

/-- Gates and axes of the safety island (R377, R379, R381, R383): an edge moves the island's count and, while PD_LOOP is on, the loop
engines'; an index with ENC_A and ENC_B high restarts the counts, and a difference of more than 8 counts is 0x8004; the edge watchdog
closes an open SLS gate at 4 × P_lo, an armed gate trips with 0x8001; a missing SSI frame closes the SLP gate after 50 µs, an armed one
trips with 0x8003. -/
def Obligations.IslandAxisEventsComplete : Prop :=
  (∀ up : Bool, Happens (fun dt => .encoderEdge dt up) (fun _ => True)
    (fun u =>
      let v := u.islEdge (up != u.islDir)
      if v.domOn 31 then v.loopEdge (up != bitN v.scan.a.coef.toNat 177) else v)) ∧
  Happens (fun dt => .encoderIndex dt true)
    (fun u => u.safe.indexed = true ∧ u.scan.a.indexed = true ∧ u.domOn 31 = true ∧ (u.safe.count - u.scan.a.count).natAbs ≤ 8)
    (fun u => (u.modSafe (fun x => { x with count := 0, indexed := true })).loopIndex) ∧
  Happens (fun dt => .encoderIndex dt true)
    (fun u => u.safe.indexed = true ∧ u.scan.a.indexed = true ∧ u.domOn 31 = true
      ∧ 8 < (u.safe.count - u.scan.a.count).natAbs)
    (fun u =>
      let v := (u.fault 0x8004 0 0).modSafe (fun x => { x with count := 0, indexed := true })
      if v.domOn 31 then v.loopIndex else v) ∧
  (∀ t : Nat, Happens (fun dt => .slsEdgeWatchdog dt)
    (fun u => u.safe.edgeAt = some t ∧ u.safe.sls = ⟨true, true⟩ ∧ u.slsLimit ≤ ((u.clk - t : Nat) : Rat))
    (fun u => ({ u with safe.sls := {}, safe.goodFacets := 0 } : State).fault 0x8001 0 0)) ∧
  (∀ t : Nat, Happens (fun dt => .slpFrameTimeout dt)
    (fun u => u.safe.frameAt = some t ∧ t + us 50 ≤ u.clk ∧ u.safe.slp = ⟨true, true⟩)
    (fun u => ({ u with safe.slp := {} } : State).fault 0x8003 0 0))

/-- Zones and safe outputs (R386 to R391, R395): the oldest column not yet evaluated is judged for every output, and a comparator that
does not report its test record is 0x800C; an ON output in use is driven low once per second, outputs 250 ms apart, and returns ON after
200 µs unless a demand came; a readback that differs from the driven level once T_FB has passed is 0x800A or 0x800B and holds the output
OFF. -/
def Obligations.SafeOutputEventsComplete : Prop :=
  (∀ (arrived : Bool) (r : Result), Happens (fun dt => .zoneEvaluation dt true arrived)
    (fun u => u.front.results.find? (fun x => !x.evaluated && x.endCause.isNone) = some r)
    (fun u => (List.range 4).foldl (State.judgeZone arrived r) (u.markEvaluated r))) ∧
  (∀ (arrived : Bool) (r : Result), Happens (fun dt => .zoneEvaluation dt false arrived)
    (fun u => u.front.results.find? (fun x => !x.evaluated && x.endCause.isNone) = some r)
    (fun u => ((List.range 4).foldl (State.judgeZone arrived r) (u.markEvaluated r)).comparatorFault)) ∧
  (∀ k : Fin 4, Happens (fun dt => .offTest dt k)
    (fun u => (u.outp k.val).on = true ∧ (u.outp k.val).test = none ∧ u.outUsed k.val = true
      ∧ (∀ t, (u.outp k.val).lastTest = some t → t + sec 1 ≤ u.clk)
      ∧ ∀ j : Fin 4, j ≠ k → ∀ t, (u.outp j.val).lastTest = some t → t + ms 250 ≤ u.clk)
    (fun u => u.modOut k.val (fun o => { o with test := some u.clk, lastTest := some u.clk, demanded := false }))) ∧
  (∀ (k : Fin 4) (t : Nat), Happens (fun dt => .offTestEnd dt k)
    (fun u => (u.outp k.val).test = some t ∧ t + us 200 ≤ u.clk ∧ (u.outp k.val).demanded = false ∧ (u.outp k.val).on = true)
    (fun u => u.modOut k.val (fun o => { o with
      test := none, changed := u.clk, demanded := false, tests := (o.tests + 1) % 2 ^ 32 }))) ∧
  (∀ (k : Fin 4) (t : Nat), Happens (fun dt => .offTestEnd dt k)
    (fun u => (u.outp k.val).test = some t ∧ t + us 200 ≤ u.clk ∧ (u.outp k.val).demanded = true ∧ (u.outp k.val).on = false)
    (fun u => u.modOut k.val (fun o => { o with test := none, demanded := false, discarded := (o.discarded + 1) % 2 ^ 16 }))) ∧
  (∀ (k : Fin 4) (level : Bool), Happens (fun dt => .safeFbReadback dt k level)
    (fun u => level = (u.outp k.val).driven)
    (fun u => u.modOut k.val (fun o => { o with fb := level }))) ∧
  (∀ k : Fin 4, Happens (fun dt => .safeFbReadback dt k true)
    (fun u => (u.outp k.val).on = false ∧ (u.outp k.val).test = none
      ∧ (u.outp k.val).changed + us (u.safeFld 11 1) ≤ u.clk ∧ u.isActiveAt 0x800A 14 k.val = false)
    (fun u => ((u.modOut k.val (fun o => { o with fb := true })).holdOut k.val).fault 0x800A 14 k.val)) ∧
  (∀ k : Fin 4, Happens (fun dt => .safeFbReadback dt k false)
    (fun u => (u.outp k.val).on = true ∧ (u.outp k.val).test = none
      ∧ (u.outp k.val).changed + us (u.safeFld 11 1) ≤ u.clk ∧ u.isActiveAt 0x800B 14 k.val = false)
    (fun u => ((u.modOut k.val (fun o => { o with fb := false })).holdOut k.val).fault 0x800B 14 k.val))

/-- The safety pair and its inputs (R377, R385, R395, R481): a mismatch of the lockstep pair is 0x8007, which ends with its self-test
unless three within 10 s have latched it; the other island faults are raised; ESTOP_N low is 0x8009 once, and its release ends it; a zone
code of odd parity below SETS is taken and ends 0x8005 and 0x8006, any other code is 0x8005, an unstable one 0x8006 (without a configuration
in force the parity alone judges a code, log entry 170; the raw code of an unstable input is free, log entry 172). -/
def Obligations.SafetyPairEventsComplete : Prop :=
  (∀ ok : Bool, Happens (fun dt => .lockstepMismatch dt ok) (fun _ => True) (fun u => u.pairMismatch ok)) ∧
  Happens (fun dt => .lockstepSelfTest dt true) (fun u => u.safe.latched = false) (fun u => u.endFault 0x8007) ∧
  Happens (fun dt => .lockstepSelfTest dt true) (fun u => u.safe.latched = true) (fun u => u) ∧
  Happens (fun dt => .lockstepSelfTest dt false) (fun _ => True) (fun u => u.pairMismatch false) ∧
  Happens (fun dt => .safetyMemEcc dt) (fun _ => True) (fun u => u.fault 0x800D 0 0) ∧
  Happens (fun dt => .islandClock dt) (fun _ => True) (fun u => u.fault 0x800E 0 0) ∧
  Happens (fun dt => .faultNReadback dt) (fun _ => True) (fun u => u.fault 0x8010 0 0) ∧
  Happens (fun dt => .estopDemand dt) (fun u => u.safe.estop = true)
    (fun u => ({ u with safe.estop := false } : State).fault 0x8009 0 0) ∧
  Happens (fun dt => .estopDemand dt) (fun u => u.safe.estop = false) (fun u => u) ∧
  Happens (fun dt => .estopRelease dt) (fun _ => True) (fun u => ({ u with safe.estop := true } : State).endFault 0x8009) ∧
  (∀ code : BitVec 4, Happens (fun dt => .zoneCodeTaken dt code)
    (fun u => popN 4 code.toNat % 2 = 1 ∧ (u.safe.cfg = [] ∨ fld code.toNat 0 3 < u.safeFld 6 1) ∧ u.mode.cur.isSome = true)
    (fun u => (({ u with safe.zoneRaw := code, safe.zoneOk := true, safe.zoneNext := some (fld code.toNat 0 3) } : State).endFault
      0x8005).endFault 0x8006)) ∧
  (∀ code : BitVec 4, Happens (fun dt => .zoneCodeTaken dt code)
    (fun u => popN 4 code.toNat % 2 = 1 ∧ (u.safe.cfg = [] ∨ fld code.toNat 0 3 < u.safeFld 6 1) ∧ u.mode.cur.isSome = false)
    (fun u => (List.range 4).foldl (fun (t : State) k => t.modOut k (fun o => { o with clear := 0 }))
      ((({ u with safe.zoneRaw := code, safe.zoneOk := true, safe.zone := some (fld code.toNat 0 3)
                  safe.zoneNext := none } : State).endFault 0x8005).endFault 0x8006))) ∧
  (∀ code : BitVec 4, Happens (fun dt => .zoneCodeTaken dt code)
    (fun u => ¬(popN 4 code.toNat % 2 = 1 ∧ (u.safe.cfg = [] ∨ fld code.toNat 0 3 < u.safeFld 6 1)))
    (fun u => ({ u with safe.zoneRaw := code, safe.zoneOk := false } : State).fault 0x8005 0 0)) ∧
  Happens (fun dt => .zoneCodeUnstable dt) (fun _ => True)
    (fun u => ({ u.took with safe.zoneOk := false, safe.zoneRaw := BitVec.ofNat 4 (Config.freeNat u.free) } : State).fault 0x8006 0 0)

/-- The restart button and the two timed states (R26, R29, R360, R392, R393, R396): a rising edge in SAFE HOLD after 100 ms low starts a
press that can complete; one held for 100 ms to 5 s completes, any other, and one that a cause for SAFE HOLD meets in its FAB_CK cycle
(R27, log entry 130), is counted and has no effect; more than 5 s set SAFE_RESET_STUCK,
100 ms low clear it, each with its event; the degraded period and a SERVICE session end in SAFE HOLD. -/
def Obligations.RestartEventsComplete : Prop :=
  Happens (fun dt => .safeResetRisingEdge dt)
    (fun u => u.safe.button = false ∧ u.life.lcs = .safeHold ∧ u.safe.buttonAt + ms 100 ≤ u.clk)
    (fun u => { u with safe.button := true, safe.buttonAt := u.clk, safe.press := some u.clk }) ∧
  Happens (fun dt => .safeResetRisingEdge dt)
    (fun u => u.safe.button = false ∧ ¬(u.life.lcs = .safeHold ∧ u.safe.buttonAt + ms 100 ≤ u.clk))
    (fun u => { u with safe.button := true, safe.buttonAt := u.clk, safe.press := none }) ∧
  (∀ (t : Nat) (fb : BitVec 4) (ok : Bool), Happens (fun dt => .safeResetPress dt fb ok)
    (fun u => u.safe.button = true ∧ u.safe.press = some t ∧ t + ms 100 ≤ u.clk ∧ u.clk ≤ t + sec 5 ∧ u.life.lcs = .safeHold
      ∧ u.race.hold = false ∧ u.foreseen.hold = false)
    (fun u => u.met (fun v =>
      ({ v with safe.button := false, safe.buttonAt := v.clk, safe.press := none } : State).completePress fb ok))) ∧
  (∀ (fb : BitVec 4) (ok : Bool), Happens (fun dt => .safeResetPress dt fb ok)
    (fun u => u.safe.button = true ∧ ∀ t, u.safe.press = some t →
      u.clk < t + ms 100 ∨ t + sec 5 < u.clk ∨ u.life.lcs ≠ .safeHold ∨ u.foreseen.hold = true)
    (fun u => u.met (fun v => { v with safe.button := false, safe.buttonAt := v.clk, safe.press := none
                                       safe.presses := (v.safe.presses + 1) % 2 ^ 16 }))) ∧
  Happens (fun dt => .safeResetStuck dt)
    (fun u => u.safe.button = true ∧ u.safe.stuck = false ∧ u.safe.buttonAt + sec 5 < u.clk ∧ u.life.lcs ≠ .boot)
    (fun u => ({ u with safe.stuck := true, safe.press := none } : State).raise 0x0105 [1]) ∧
  Happens (fun dt => .resetStuckClear dt)
    (fun u => u.safe.button = false ∧ u.safe.stuck = true ∧ u.safe.buttonAt + ms 100 ≤ u.clk)
    (fun u => ({ u with safe.stuck := false, safe.press := none } : State).raise 0x0105 [0]) ∧
  (∀ t : Nat, Happens (fun dt => .degradedPeriodExpiry dt)
    (fun u => u.life.degEnd = some t ∧ u.life.lcs = .degraded ∧ t ≤ u.clk) (fun u => u.safeHold false)) ∧
  (∀ x : Session, Happens (fun dt => .serviceSessionTimeout dt)
    (fun u => u.life.session = some x ∧ u.life.lcs = .service ∧ x.exp ≤ u.clk) (fun u => u.safeHold false))

/-- The slow round (R404 to R414, R418): a round starts at position 0 with the integration period of the global word; the sources swap at
half of it; a conversion ends after it, each converter processes its channel, and the next position begins, position 11 ending the round;
a source at its compliance limit flags OPEN at once on the RTD channel in conversion. -/
def Obligations.HousekeepingRoundEventsComplete : Prop :=
  Happens (fun dt => .roundStart dt)
    (fun u => u.hk.pos = 12 ∧ u.life.lcs ≠ .boot
      ∧ (({ u.sample 0x08 48 u.hk.dropped with hk.dropped := 0 } : State).newGlobal.tIntNow).2 = true)
    (fun u =>
      let v := ({ u.sample 0x08 48 u.hk.dropped with hk.dropped := 0 } : State).newGlobal
      ({ v with hk.tInt := v.tIntNow.1, hk.pinTold := false } : State).beginPos 0) ∧
  Happens (fun dt => .roundStart dt)
    (fun u => u.hk.pos = 12 ∧ u.life.lcs ≠ .boot
      ∧ (({ u.sample 0x08 48 u.hk.dropped with hk.dropped := 0 } : State).newGlobal.tIntNow).2 = false
      ∧ (({ u.sample 0x08 48 u.hk.dropped with hk.dropped := 0 } : State).newGlobal).hk.pinTold = false)
    (fun u =>
      let v := ({ u.sample 0x08 48 u.hk.dropped with hk.dropped := 0 } : State).newGlobal
      (({ v with hk.tInt := v.tIntNow.1, hk.pinTold := true } : State).fault 0x9006 0 0).beginPos 0) ∧
  Happens (fun dt => .excitationSwap dt)
    (fun u => u.hk.pos < 12 ∧ u.hk.swapped = false ∧ u.hk.posAt + u.hk.tInt * hkCk / 2 ≤ u.clk)
    (fun u => { u with hk.swapped := true }) ∧
  (∀ raw : List Int, Happens (fun dt => .conversionEnd dt raw)
    (fun u => u.hk.pos < 12 ∧ u.hk.posAt + u.hk.tInt * hkCk ≤ u.clk)
    (fun u =>
      let v := (List.range 4).foldl (fun (t : State) j => t.convEnd j (raw.getD j 0)) u
      if v.hk.pos = 11 then { v with hk.pos := 12, hk.urgent := none } else v.beginPos (v.hk.pos + 1))) ∧
  (∀ ch : Fin 48, Happens (fun dt => .openDetect dt ch)
    (fun u => u.hk.pos < 12 ∧ (u.hkc ch.val).rtd = true ∧ u.convOf (ch.val / 12) = ch.val) (fun u => u.flagOpen ch.val))

/-- The die, the regulators, the flash and the health windows (R420, R423, R426, R435, R491): the nine die sensors are read and judged
once per millisecond, and a flash write in progress is held against the range of R426; the first PMBus poll with PD_APP up is the
probe of the regulators (the model's choice, log entry 162), and the later readings feed the supply sources and their faults; an alert
clears the faults of the regulators that reported one; a flash write ends with its object in flash, or without it where the die has left
the temperature range since it began (log entry 163), each with EV_FLASH_WRITTEN; a windowed monitor restarts its statistics and counts
its window, which saturates. -/
def Obligations.HousekeepingServiceEventsComplete : Prop :=
  (∀ ts : List Int, Happens (fun dt => .dieMonitorRead dt ts)
    (fun u => ∀ t, u.hk.dieAt = some t → t + ms 1 ≤ u.clk)
    (fun u =>
      let v := (List.range 9).foldl (fun (t : State) k => t.readDie ts k) u
      let w := v.takeTj.watchWrite
      (((({ w with hk.dieAt := some u.clk } : State).sample 0x07 9 w.hk.tj).tickSamples (u.hk.dieAt.getD 0)).judgeTj))) ∧
  (∀ rs : List PmbReading, Happens (fun dt => .pmbusPoll dt rs) (fun u => u.power.probed = true)
    (fun u =>
      let v := (rs.filter (fun r => bitN u.power.pmbus.toNat r.addr.val)).foldl State.pmbTake u
      (List.range 16).foldl State.eyeSample v)) ∧
  (∀ rs : List PmbReading, Happens (fun dt => .pmbusPoll dt rs) (fun u => u.power.probed = false ∧ u.domOn 33 = true)
    (fun u => { u with
      power.probed := true
      power.pmbus := BitVec.ofNat 12
        (maskOf ((rs.filter (fun r => r.err != some .noAck && r.err != some .heldLow)).map (fun r => r.addr.val))) })) ∧
  (∀ rs : List PmbReading, Happens (fun dt => .pmbusPoll dt rs) (fun u => u.power.probed = false ∧ u.domOn 33 = false) id) ∧
  (∀ rs : List PmbReading, Happens (fun dt => .pmbAlert dt rs) (fun _ => True)
    (fun u => (rs.filter (fun r => bitN u.power.pmbus.toNat r.addr.val)).foldl State.pmbClear u)) ∧
  (∀ (j : FlashJob) (rest : List FlashJob), Happens (fun dt => .flashWriteDone dt)
    (fun u => u.jobs = j :: rest ∧ j.stopped = false)
    (fun u => ({ u with jobs := rest, flash := u.flash.put j.obj } : State).raise 0x0106
      (bytesOf 2 j.opcode.toNat ++ [0, 0] ++ bytesOf 2 j.tag.toNat ++ bytesOf 2 (portIdx j.entry.port)))) ∧
  (∀ (j : FlashJob) (rest : List FlashJob), Happens (fun dt => .flashWriteDone dt)
    (fun u => u.jobs = j :: rest ∧ j.stopped = true)
    (fun u => ({ u with jobs := rest, flash := u.flash.spoil j.obj } : State).raise 0x0106
      (bytesOf 2 j.opcode.toNat ++ [BitVec.ofNat 8 stTemp, 0] ++ bytesOf 2 j.tag.toNat ++ bytesOf 2 (portIdx j.entry.port)))) ∧
  (∀ (m : Fin 64) (x : Monitor), Happens (fun dt => .healthWindow dt m)
    (fun u => tget {} u.faults.monitors m.val = x ∧ bitN x.cfg.toNat 32 = true ∧ bitN x.cfg.toNat 34 = true
      ∧ 0 < ms (10 * fld x.cfg.toNat 160 16) ∧ x.start + ms (10 * fld x.cfg.toNat 160 16) ≤ u.clk)
    (fun u => { u with faults.monitors := tput {} u.faults.monitors m.val { x with
      done := x.run, run := {}, window := sat 32 (x.window + 1), start := x.start + ms (10 * fld x.cfg.toNat 160 16) } }))

/-- The monitor output (R458, R460 to R464, R469, R471, R472, R480): the holder of semaphore 4 asks for a commit by writing MON_CTRL; a
blanking counts a frame, takes a waiting commit, and shows the ready grid; an idle output takes its commit after 1 µs; a commit that
passes its checks copies the shadows into the live registers and one that fails changes none of them; a host layer that underruns is
skipped and counted; an ECC error of the grid store discards the grid being filled. -/
def Obligations.MonitorEventsComplete : Prop :=
  (∀ (p : HostPort) (w : Word), Happens (fun dt => .monCommit dt p w)
    (fun u => u.isPcie p = true ∧ u.domOn (28 + portIdx p) = true ∧ u.holds (localEntry p) 4 = true)
    (fun u => u.monWrite 0 (setFld w.toNat 9 1 1))) ∧
  Happens (fun dt => .verticalBlanking dt)
    (fun u => u.monOn = true ∧ u.mon.vblankAt + u.monFld 0x018 16 12 * u.lineTicks ≤ u.clk)
    (fun u =>
      let next := u.mon.vblankAt + u.monFld 0x018 16 12 * u.lineTicks
      let v := (u.frameSent next).layersOff
      (if v.mon.pend && v.mon.pendAt / fabCk < next / fabCk then v.takeCommit else v).showGrid next) ∧
  Happens (fun dt => .idleCommit dt)
    (fun u => u.domOn 30 = true ∧ u.monOn = false ∧ u.mon.pend = true ∧ u.mon.pendAt + us 1 ≤ u.clk ∧ u.commitErr ≠ 0)
    (fun u => { u with mon.pend := false, mon.err := u.commitErr }) ∧
  Happens (fun dt => .idleCommit dt)
    (fun u => u.domOn 30 = true ∧ u.monOn = false ∧ u.mon.pend = true ∧ u.mon.pendAt + us 1 ≤ u.clk ∧ u.commitErr = 0)
    (fun u => (u.applyCommit).newLeases) ∧
  Happens (fun dt => .layerUnderrun dt 0 false)
    (fun u => u.monOn = true ∧ u.monFld 0x100 0 1 = 1 ∧ u.mon.restart = 0 ∧ bitN u.mon.skip.toNat 0 = false)
    (fun u => { u with mon.skip := u.mon.skip ||| 1, mon.underF := u.mon.underF + 1, mon.under0 := sat 16 (u.mon.under0 + 1) }) ∧
  Happens (fun dt => .layerUnderrun dt 2 false)
    (fun u => u.monOn = true ∧ u.monFld 0x180 0 1 = 1 ∧ u.mon.restart = 0 ∧ bitN u.mon.skip.toNat 2 = false)
    (fun u => { u with mon.skip := u.mon.skip ||| 4, mon.underF := u.mon.underF + 1, mon.under2 := sat 16 (u.mon.under2 + 1) }) ∧
  Happens (fun dt => .layerUnderrun dt 0 true)
    (fun u => u.monOn = true ∧ u.monFld 0x100 0 1 = 1 ∧ u.mon.restart = 0 ∧ bitN u.mon.skip.toNat 0 = false)
    (fun u => ({ u with
      mon.skip := u.mon.skip ||| 1, mon.underF := u.mon.underF + 1, mon.under0 := sat 16 (u.mon.under0 + 1) } : State).fault
        0x7003 17 (portIdx (portOf (u.monFld 0x100 6 1)))) ∧
  Happens (fun dt => .monGridEcc dt) (fun u => u.domOn 30 = true)
    (fun u => ({ u with mon.fill := {}, mon.spoilt := true } : State).fault 0xB001 0 0)

/-- Engine runs, guards and the schedule store (R104, R205, R213, R221, R239 to R243, R247): the arrival cycle starts the runs; results
that are due land; SLOT_END ends the slot; a sector's staging completes, or meets damage in the store; a scrub reports damaged parts and corrected errors; a
restored part ends the withholding of its sectors; a load whose file has arrived ends in AUTH_FAIL, a validator's reason, or the set in
force. -/
def Obligations.ScheduleEventsComplete : Prop :=
  (∀ col : Column, Happens (fun dt => .engineRunStart dt)
    (fun u => u.mode.prev = some col ∧ u.mode.ran = false ∧ col.stop + 2 * engCk ≤ u.now) State.beginRuns) ∧
  (∀ (e : Fin 256) (cyc : Nat), Happens (fun dt => .resultLanding dt e)
    (fun u => u.runCycle (e.val / 32) = some cyc) (fun u => (u.settleState (e.val / 32) cyc).settle e.val cyc)) ∧
  (∀ (k : Fin 8) (cyc : Nat), Happens (fun dt => .guardSlotEnd dt k)
    (fun u => u.runCycle k.val = some cyc ∧ u.slotEnd k.val ≤ cyc) (fun u => u.endSlot k.val)) ∧
  (∀ k : Fin 8, Happens (fun dt => .stagingComplete dt k false)
    (fun u => u.secOn k.val = true ∧ (u.sector k.val).staged = false
      ∧ u.sched.damaged.contains (storeIdx u.mode.mode k.val (min 2 (u.runVariant k.val + 1))) = false
      ∧ u.sched.restore.any (fun r => r.1 = storeIdx u.mode.mode k.val (min 2 (u.runVariant k.val + 1))) = false)
    (fun u => u.stageDone k.val)) ∧
  (∀ k : Fin 8, Happens (fun dt => .stagingComplete dt k false)
    (fun u => u.sched.damaged.contains (storeIdx u.mode.mode k.val (min 2 (u.runVariant k.val + 1))) = true
      ∨ u.sched.restore.any (fun r => r.1 = storeIdx u.mode.mode k.val (min 2 (u.runVariant k.val + 1))) = true)
    (fun u => u)) ∧
  (∀ k : Fin 8, Happens (fun dt => .stagingComplete dt k true)
    (fun u => u.secOn k.val = true ∧ (u.sector k.val).staged = false)
    (fun u => u.storeDamage (storeIdx u.mode.mode k.val (min 2 (u.runVariant k.val + 1))))) ∧
  (∀ found : StoreScrub, Happens (fun dt => .storeScrub dt found)
    (fun u => u.sched.file ≠ []) (fun u => found.bad.foldl State.storeDamage (u.corrected 65 found.fixed))) ∧
  (∀ idx : Nat, Happens (fun dt => .storeRestoreDone dt idx)
    (fun u => u.sched.restore.any (fun r => r.1 = idx) = true)
    (fun u => { u with sched.restore := u.sched.restore.filter (fun r => r.1 != idx) })) ∧
  (∀ l : Load, Happens (fun dt => .schedLoadDone dt)
    (fun u => u.sched.load = some l ∧ l.whole = true ∧ (keyKnown u.otp.sched l.file && signedOk l.file) = false)
    (fun u => (u.endLoad).sayLoaded 0xFF {} (leAt l.file 8 4))) ∧
  (∀ (l : Load) (r : Nat) (p : Pos), Happens (fun dt => .schedLoadDone dt)
    (fun u => u.sched.load = some l ∧ l.whole = true ∧ (keyKnown u.otp.sched l.file && signedOk l.file) = true
      ∧ validate u.power.boot.ifl (fileSet l.file) = some (r, p))
    (fun u => (u.endLoad).sayLoaded r p (leAt l.file 8 4))) ∧
  (∀ l : Load, Happens (fun dt => .schedLoadDone dt)
    (fun u => u.sched.load = some l ∧ l.whole = true ∧ (keyKnown u.otp.sched l.file && signedOk l.file) = true
      ∧ validate u.power.boot.ifl (fileSet l.file) = none)
    (fun u => (((u.endLoad).takeSet (fileSet l.file)).persistSet l).sayLoaded 0 {} (leAt l.file 8 4)))
/-! ### The step (R333, R336) -/

/-- A step takes the command at the front of the queue and runs it on the state with the queue's rest; with nothing waiting the block idles
(the idling is the model's choice, log entry 5). -/
def Obligations.StepRunsTheFrontCommand : Prop :=
  (∀ (c : Instr) (q : List Instr) (s : State), s.pending = c :: q → step s = exec c { s with pending := q }) ∧
  (∀ s : State, s.pending = [] → step s = .next s)

/-- Every command goes on: it answers a next state, with the queue's rest as it was and the device clock its ticks later (R483); the
one-time memory is as it was but for the rows through which a KEY command can reach it (R347, R371). That every row goes on, and that time
is an operand, are the model's form (log entries 1 and 4). -/
def Obligations.EveryCommandGoesOn : Prop :=
  ∀ (c : Instr) (s : State), ∃ t, exec c s = .next t ∧ t.pending = s.pending ∧ t.clk = s.clk + c.ticks ∧
    (otpRow c = false → t.otp = s.otp)

/-- A device that is OFF takes only the arrival of its power: every other row leaves everything but the passing of time (R25, R26). -/
def Obligations.OffDeviceTakesOnlyItsPower : Prop :=
  ∀ (c : Instr) (s : State), s.life.lcs = .off → powerRow c = false → exec c s = .next (s.advance c.ticks)

/-- At power-on, PORST_N low, the device is OFF and in the safe state, emission is impossible, no command waits, chain time is 0, every
bucket of the ledger is empty, no semaphore is held, and no port has two ACTIVE key slots (R25, R26, R160, R347, R376, R444, R445,
R456). -/
def Obligations.ResetIsOffInTheSafeState : Prop :=
  State.reset.life.lcs = .off ∧ State.reset.power.boot.porst = true ∧ safeState State.reset ∧ emissionOff State.reset ∧
  State.reset.pending = [] ∧ State.reset.ct = 0 ∧
  (∀ i, tget 0 State.reset.emit.bEm i = 0 ∧ tget 0 State.reset.emit.bStr i = 0) ∧ State.reset.emit.bDev = 0 ∧
  (∀ n, (State.reset.sem n).owner = none) ∧ oneActive State.reset.otp

/-! ### Keys and authentication (R346 to R350, R371) -/

/-- The one-time memory goes only onward, whatever the step: what is written is never unwritten, a slot goes from BLANK to ACTIVE (or
SET) to REVOKED and keeps its key or digest, and at most one key slot of a port stays ACTIVE (R347, R371). -/
def Obligations.OneTimeMemoryOnlyGoesOnward : Prop :=
  ∀ s t : State, oneActive s.otp → step s = .next t → otpOnward s.otp t.otp ∧ oneActive t.otp

/-- A critical command that is not authenticated acts on nothing: the device is left as it was, the schedule store and the set in force
included, whatever the command's row (R339, R346, R349, R350); and a port with no ACTIVE slot authenticates no critical command (R347). -/
def Obligations.UnauthenticatedCommandsActOnNothing : Prop :=
  let refused : (Nat → Req → Instr) → CmdDef → Prop := fun mk d =>
    ∀ (dt : Nat) (r : Req) (s t : State), awake s → s.power.resetAt = none →
      ((takenState d r (s.advance dt)).authenticate d (ctxFor d r) (ctxFor d r).din).2 ≠ none →
      exec (mk dt r) s = .next t → sameDevice (s.advance dt) t
  (∀ (d : CmdDef) (s : State) (c : Ctx) (data : List Byte), d.critical = true →
    (∀ k < 4, (s.key c.e.port k).st ≠ .active) → (s.authenticate d c data).2 ≠ none) ∧
  refused .devReset cmdDevReset ∧ refused .modeStart cmdModeStart ∧ refused .modeStop cmdModeStop ∧ refused .modeSet cmdModeSet ∧
  refused .serviceEnter cmdServiceEnter ∧ refused .serviceExit cmdServiceExit ∧ refused .serviceProof cmdServiceProof ∧
  refused .feConfig cmdFeConfig ∧ refused .feTrim cmdFeTrim ∧ refused .pointConfig cmdPointConfig ∧ refused .calLoad cmdCalLoad ∧
  refused .emitConfig cmdEmitConfig ∧ refused .ledgerSet cmdLedgerSet ∧ refused .loopClose cmdLoopClose ∧
  refused .loopOpen cmdLoopOpen ∧ refused .loopCoef cmdLoopCoef ∧ refused .loopSet cmdLoopSet ∧ refused .loopRepClear cmdLoopRepClear ∧
  refused .schedLoad cmdSchedLoad ∧ refused .safeConfig cmdSafeConfig ∧ refused .hkConfig cmdHkConfig ∧ refused .hkSwitch cmdHkSwitch ∧
  refused .hkTherm cmdHkTherm ∧ refused .pwrSet cmdPwrSet ∧ refused .ridgeLaneCfg cmdRidgeLaneCfg ∧
  refused .ridgeLaneTest cmdRidgeLaneTest ∧ refused .chainConfig cmdChainConfig ∧ refused .chainDiscover cmdChainDiscover ∧
  refused .chainTimeSet cmdChainTimeSet ∧ refused .hostNetConfig cmdHostNetConfig ∧ refused .keyRotate cmdKeyRotate ∧
  refused .keySchedDigest cmdKeySchedDigest ∧ refused .fwWrite cmdFwWrite ∧ refused .fwCommit cmdFwCommit ∧ refused .monWrite cmdMonWrite

/-- A command that reads leaves the device as it was, whether it is served, refused, forwarded or waits: DEV.IDENTIFY, FAULT.LOG,
FAULT.UNITS, HEALTH.READ, HK.READ, MON.READ and the STATUS commands (R359 to R372). -/
def Obligations.ReadingCommandsLeaveTheDevice : Prop :=
  let reads : (Nat → Req → Instr) → Prop := fun mk =>
    ∀ (dt : Nat) (r : Req) (s t : State), awake s → s.power.resetAt = none →
      exec (mk dt r) s = .next t → sameDevice (s.advance dt) t
  reads .devIdentify ∧ reads .devStatus ∧ reads .modeStatus ∧ reads .feStatus ∧ reads .pointStatus ∧ reads .calStatus ∧
  reads .emitStatus ∧ reads .ledgerStatus ∧ reads .pwrStatus ∧ reads .loopStatus ∧ reads .schedStatus ∧ reads .safeStatus ∧
  reads .hkRead ∧ reads .ridgeLaneStatus ∧ reads .chainStatus ∧ reads .hostStatus ∧ reads .semStatus ∧ reads .keyStatus ∧
  reads .fwStatus ∧ reads .monRead ∧ reads .faultLog ∧ reads .faultUnits ∧ reads .healthRead

/-- A response goes through its 64 bytes unharmed: the slot read back at the entry device is the response sent, its result filled with
zeros to 44 bytes, with FWD set; DATA_ADDR is no field of the slot (R307, R334). -/
def Obligations.ResponseSlotRoundTrip : Prop :=
  ∀ r : Rsp, r.rlen < 2 ^ 32 → r.detail < 2 ^ 32 → r.result.length ≤ 44 → r.dout.length ≤ r.rlen →
    r.word < 2 ^ 512 ∧ rspFrom r.word r.dout = { r with fwd := true, result := padTo 44 r.result, addr := 0 }

/-! ### Safety and reset (R25, R30, R376, R395, R445, R446) -/

/-- From STANDBY, RUN, DEGRADED RUN and SERVICE, an emission fault and every fault of classes 8 and 9 whose response is SAFE HOLD take the
device to SAFE HOLD and its safe state: no emission permission, every safe output OFF, FAULT_N low (R30, R155, R376, R395, R479); so do a
lockstep mismatch, an emergency stop, an unstable or invalid zone code, an error of the safety memories or the island clock, and a wrong
readback of FAULT_N. -/
def Obligations.SafetyFaultsReachTheSafeState : Prop :=
  let holds : (Nat → Instr) → (State → Prop) → Prop := fun mk cond =>
    ∀ (dt : Nat) (s : State), operating s → cond s → ∃ t, exec (mk dt) s = .next t ∧ t.life.lcs = .safeHold ∧ safeState t
  (∀ (s : State) (code kind idx : Nat), operating s → code ∈ holdFaults →
    (s.fault code kind idx).life.lcs = .safeHold ∧ safeState (s.fault code kind idx)) ∧
  (∀ ok, holds (fun dt => .lockstepMismatch dt ok) (fun _ => True)) ∧
  holds (fun dt => .lockstepSelfTest dt false) (fun _ => True) ∧
  holds (fun dt => .safetyMemEcc dt) (fun _ => True) ∧
  holds (fun dt => .islandClock dt) (fun _ => True) ∧
  holds (fun dt => .faultNReadback dt) (fun _ => True) ∧
  holds (fun dt => .estopDemand dt) (fun s => s.safe.estop = true) ∧
  holds (fun dt => .zoneCodeUnstable dt) (fun _ => True) ∧
  (∀ code : BitVec 4, popN 4 code.toNat % 2 = 0 → holds (fun dt => .zoneCodeTaken dt code) (fun _ => True))

/-- What a reset leaves depends on nothing but what it keeps: two states that agree on that, whatever else they hold, are left the same
(R445, R446); and semaphores, authentication, retirements, chain time, addresses and the engines return to their boot values. -/
def Obligations.ResetKeepsOnlyWhatIsNamed : Prop :=
  (∀ (s u : State) (cause : Nat), sameKept s u → s.resetNow cause = u.resetNow cause) ∧
  (∀ (s : State) (cause : Nat),
    let t := s.resetNow cause
    t.life.lcs = .boot ∧ safeState t ∧ t.sems = [] ∧ t.auths = [] ∧ t.ct = 0 ∧ t.chain = State.reset.chain ∧
    t.faults = { log := s.faults.log.take 16 } ∧ t.sched = State.reset.sched ∧ t.front = State.reset.front ∧
    t.mode = State.reset.mode ∧ t.mon = State.reset.mon ∧ t.hostA = { perst := s.hostA.perst } ∧ t.hostB = { perst := s.hostB.perst })

/-! ### Modes, ledger, tiles, returns, health -/

/-- MODE.START is rejected with BAD_STATE unless axis A is LOCKED and the axis B loop is closed: admitted, with a mode the device knows and
a start instant it takes, no stop in progress and no cause of its own FAB_CK cycle to meet (ModeCommandsComplete has those), it changes
nothing and answers BAD_STATE (R183). -/
def Obligations.ModeStartNeedsBothAxes : Prop :=
  ∀ (dt : Nat) (r : Req) (s u : State) (c : Ctx), awake s → (s.advance dt).foreseen = {} → Admitted cmdModeStart r (s.advance dt) →
    u = evalState cmdModeStart r (s.advance dt) → c = ctxFor cmdModeStart r →
    (modeParams (c.p 0 1)).isSome = true → u.badStart (c.p 4 8) (ms 5) = false → u.mode.stop = none →
    ¬(u.scan.a.locked = true ∧ u.scan.b.st = .closed) →
    exec (.modeStart dt r) s = .next (after dt s (answered cmdModeStart r (s.advance dt) (u.fail stBadState)))

/-- At a refill tick every bucket sets B = min(CAP, B + RATE): the string's and the device's with their own shares, an emitter's with its
string's, halved by integer division where it is undiagnosed (R160, R166). -/
def Obligations.RefillTickFillsEveryBucket : Prop :=
  ∀ s : State,
    (∀ i < 64, tget 0 s.refill.emit.bStr i
      = min (fld (s.share i) 64 24) (tget 0 s.emit.bStr i + fld (s.share i) 96 24)) ∧
    (∀ i < 64, ∀ k < 16,
      let h := if s.undiagnosed (16 * i + k) then 2 else 1
      tget 0 s.refill.emit.bEm (16 * i + k)
        = min (fld (s.share i) 0 24 / h) (tget 0 s.emit.bEm (16 * i + k) + fld (s.share i) 32 16 / h)) ∧
    s.refill.emit.bDev = min (fld (s.share 64) 64 24) (s.emit.bDev + fld (s.share 64) 96 24)

/-- The tile refuses a new table if any stage's share lies outside 0.25 to 1.75: of a full count of n ≥ 65,536 hits in a powered sector,
the pulser's among them, it raises fault 0x2003 against the channel, and the table in force and one that waits stay as they are; with every
share inside, the new table waits for the boundary; either way the count restarts (R85, R86). -/
def Obligations.TableWithABadShareIsRefused : Prop :=
  let bad : Tab Nat → Prop := fun h =>
    ∃ k < 40, ((tget 0 h k * 40 : Nat) : Rat) / (sumTo 40 (fun j => tget 0 h j) : Nat) < 1 / 4 ∨
      7 / 4 < ((tget 0 h k * 40 : Nat) : Rat) / (sumTo 40 (fun j => tget 0 h j) : Nat)
  let full : State → Fin 1024 → Interp → Tab Nat → Prop := fun u c i h =>
    u.secOn (secOf c.val) = true ∧ u.gathered c.val i = h ∧ 65536 ≤ sumTo 40 (fun j => tget 0 h j)
  (∀ (c : Fin 1024) (i : Interp) (h : Tab Nat), bad h → Happens (fun dt => .calTableCompute dt c .L)
    (fun u => (u.chan c.val).intL = i ∧ full u c i h)
    (fun u => (State.modChan { u with free := u.free + 41 } c.val
      (fun x => { x with intL := { i with hits := [], mark := u.pulseTime (secOf c.val) } })).fault 0x2003 1 c.val)) ∧
  (∀ (c : Fin 1024) (i : Interp) (h : Tab Nat), bad h → Happens (fun dt => .calTableCompute dt c .H)
    (fun u => (u.chan c.val).intH = i ∧ full u c i h)
    (fun u => (State.modChan { u with free := u.free + 41 } c.val
      (fun x => { x with intH := { i with hits := [], mark := u.pulseTime (secOf c.val) } })).fault 0x2003 1 c.val)) ∧
  (∀ (c : Fin 1024) (i : Interp) (h : Tab Nat), ¬bad h → Happens (fun dt => .calTableCompute dt c .L)
    (fun u => (u.chan c.val).intL = i ∧ full u c i h)
    (fun u => State.modChan { u with free := u.free + 41 } c.val (fun x => { x with
      intL := { i with hits := [], mark := u.pulseTime (secOf c.val), next := some (newTable h (sumTo 40 (fun j => tget 0 h j))) } }))) ∧
  (∀ (c : Fin 1024) (i : Interp) (h : Tab Nat), ¬bad h → Happens (fun dt => .calTableCompute dt c .H)
    (fun u => (u.chan c.val).intH = i ∧ full u c i h)
    (fun u => State.modChan { u with free := u.free + 41 } c.val (fun x => { x with
      intH := { i with hits := [], mark := u.pulseTime (secOf c.val), next := some (newTable h (sumTo 40 (fun j => tget 0 h j))) } })))

/-- A window yields a return only if e ≥ E_MIN and snr ≥ SNR_MIN, both taken from the image's compiled parameters (in 1/16; snr as its
square) (R121). -/
def Obligations.WindowYieldsOnlyAboveItsThresholds : Prop :=
  ∀ (b : BufSet) (c w : Nat) (par : ClassParams) (r : Ret), b.peakReturn c w par = some r →
    (par.eMin : Rat) / 16 ≤ r.e ∧ ((par.snrMin : Rat) / 16) ^ 2 ≤ r.snr2

/-- A sample falls into exactly one of 32 bins: linear, the clamp of (v − origin) >> shift; log2, bin 0 at or below 0 and else the bit
length, at most 31 (R493). With LOG = 1 and SHIFT = 0, bin k for k = 1 to 30 holds d from 2^(k−1) to 2^k − 1. -/
def Obligations.HealthSampleFallsIntoOneBin : Prop :=
  (∀ (log : Bool) (shift : Nat) (origin v : Int), binOf log shift origin v < 32) ∧
  (∀ (shift : Nat) (origin v : Int), (binOf false shift origin v : Int) = max 0 (min 31 ((v - origin) >>> shift))) ∧
  (∀ (shift : Nat) (origin v : Int), (v - origin) >>> shift ≤ 0 → binOf true shift origin v = 0) ∧
  (∀ (shift : Nat) (origin v : Int) (k : Nat), 1 ≤ k → (2 : Int) ^ (k - 1) ≤ (v - origin) >>> shift → (v - origin) >>> shift < 2 ^ k →
    binOf true shift origin v = min 31 k) ∧
  (∀ (origin v : Int) (k : Nat), 1 ≤ k → k ≤ 30 →
    (binOf true 0 origin v = k ↔ (2 : Int) ^ (k - 1) ≤ v - origin ∧ v - origin ≤ 2 ^ k - 1))

/-- σ = 512 + 48 × SIG: the table's ends and two of its rows, and spacings of different signatures lie at least 48 ticks apart, so that
no gap within ±16 ticks of one lies within ±16 ticks of another (R91, R142). -/
def Obligations.SignatureSpacingsStayApart : Prop :=
  sigmaOf 0 = 512 ∧ sigmaOf 3 = 656 ∧ sigmaOf 8 = 896 ∧ sigmaOf 15 = 1232 ∧
  (∀ a b : Nat, a ≠ b → 48 ≤ |(sigmaOf a : Int) - sigmaOf b|) ∧
  (∀ a b d : Nat, a ≠ b → d ≤ sigmaOf a + 16 → sigmaOf a ≤ d + 16 → ¬(d ≤ sigmaOf b + 16 ∧ sigmaOf b ≤ d + 16))

/-! ### Sector engines (R207, R221) -/

/-- Results land at their latency: of two writes on their way to one register, the one that lands later stands, whatever their order of
issue; before its landing a write changes nothing; X0 reads 0 and P0 reads 1 whatever lands on them; a byte sent to local memory is read
back once landed, and every other address reads as before (R207, R221, R222). -/
def Obligations.ResultsLandAtTheirLatency : Prop :=
  ∀ (s : State) (e cyc : Nat), (s.eng e).fly = [] →
    (∀ (r v w a b : Nat), r ≠ 0 → a < b → b ≤ cyc →
      ((((s.send e a (.x r) v).send e b (.x r) w).settle e cyc).eng e).rx r = w % 2 ^ 32 ∧
      ((((s.send e b (.x r) w).send e a (.x r) v).settle e cyc).eng e).rx r = w % 2 ^ 32 ∧
      ∀ j, j ≠ r → ((((s.send e a (.x r) v).send e b (.x r) w).settle e cyc).eng e).rx j = (s.eng e).rx j) ∧
    (∀ (d : Dest) (v a : Nat), cyc < a →
      { ((s.send e a d v).settle e cyc).eng e with fly := [] } = s.eng e ∧
      ∀ k, ((s.send e a d v).settle e cyc).sector k = s.sector k) ∧
    (∀ (v a : Nat), ((((s.send e a (.x 0) v).settle e cyc).eng e).rx 0 = 0 ∧
      (((s.send e a (.p 0) v).settle e cyc).eng e).rp 0 = true)) ∧
    (∀ (v a addr : Nat), a ≤ cyc →
      mget (((s.send e a (.mem addr) v).settle e cyc).eng e).mem addr = BitVec.ofNat 8 v ∧
      ∀ j, j ≠ addr → mget (((s.send e a (.mem addr) v).settle e cyc).eng e).mem j = mget (s.eng e).mem j)

/-- What an operation of a sector engine leaves as it was: every operation of the A, M, X and C slots but END, and a load or a store whose
address is in local memory, changes nothing but its own engine and its sector's state memory, and of the memories only what lands in that
cycle; one whose guard fails, SEL apart, only issues (R221). -/
def Obligations.EngineOperationsLeaveTheRest : Prop :=
  let keeps : (Nat → Fin 256 → Instr) → (Fin 256 → State → Prop) → Prop := fun mk cond =>
    ∀ (dt : Nat) (e : Fin 256) (s t : State), awake s →
      (∀ cyc, (s.advance dt).runCycle (e.val / 32) = some cyc → cond e (issuing (s.advance dt) e.val cyc)) →
      exec (mk dt e) s = .next t → onlyEngine e (s.advance dt) t ∧ landedOnly e (s.advance dt) t
  let free : Fin 256 → State → Prop := fun _ _ => True
  let loc : LSlot → Nat → Fin 256 → State → Prop := fun op z e u => (u.eng e.val).ea u.free op z / z * z < 0x10000
  let idle : (Nat → Fin 256 → Instr) → BitVec 3 → Bool → Prop := fun mk p n =>
    ∀ e : Fin 256, Issues (fun dt => mk dt e) e (fun u => ¬passes e p n u) (fun u _ => u)
  (∀ op : LSlot,
    keeps (fun dt e => .engLdb dt e op .clean) (loc op 1) ∧ keeps (fun dt e => .engLdh dt e op .clean) (loc op 2) ∧
    keeps (fun dt e => .engLdw dt e op .clean) (loc op 4) ∧ keeps (fun dt e => .engLdd dt e op .clean) (loc op 8) ∧
    keeps (fun dt e => .engLdb4 dt e op .clean) (loc op 1) ∧ keeps (fun dt e => .engStb dt e op) (loc op 1) ∧
    keeps (fun dt e => .engSth dt e op) (loc op 2) ∧ keeps (fun dt e => .engStw dt e op) (loc op 4) ∧
    keeps (fun dt e => .engStd dt e op) (loc op 8)) ∧
  (∀ op : ASlot,
    (∀ mk ∈ [fun dt e => Instr.engAdd dt e op, fun dt e => .engAdds dt e op, fun dt e => .engSub dt e op, fun dt e => .engSubs dt e op,
        fun dt e => .engAnd dt e op, fun dt e => .engOr dt e op, fun dt e => .engXor dt e op, fun dt e => .engShl dt e op,
        fun dt e => .engShr dt e op, fun dt e => .engAsr dt e op, fun dt e => .engAsrr dt e op, fun dt e => .engMin dt e op,
        fun dt e => .engMax dt e op, fun dt e => .engAbs dt e op, fun dt e => .engMov dt e op, fun dt e => .engMovi dt e op,
        fun dt e => .engSath dt e op, fun dt e => .engNorm dt e op, fun dt e => .engBexp dt e op, fun dt e => .engBxclr dt e op,
        fun dt e => .engCmpeq dt e op, fun dt e => .engCmplt dt e op, fun dt e => .engCmple dt e op, fun dt e => .engCmpltu dt e op,
        fun dt e => .engPand dt e op, fun dt e => .engPor dt e op, fun dt e => .engPnot dt e op, fun dt e => .engDiv dt e op,
        fun dt e => .engDivr dt e op, fun dt e => .engMts dt e op], keeps mk free ∧ idle mk op.pred op.pneg) ∧
    keeps (fun dt e => .engSel dt e op) free ∧ keeps (fun dt e => .engSqrt dt e op) free ∧ keeps (fun dt e => .engMfs dt e op) free) ∧
  (∀ op : MSlot,
    ∀ mk ∈ [fun dt e => Instr.engQmac dt e op, fun dt e => .engQmsu dt e op, fun dt e => .engQmul dt e op,
        fun dt e => .engAccrd dt e op, fun dt e => .engSmul dt e op, fun dt e => .engAccsum dt e op,
        fun dt e => .engAccnorm dt e op, fun dt e => .engAccclr dt e op], keeps mk free ∧ idle mk op.pred op.pneg) ∧
  (∀ op : XSlot,
    ∀ mk ∈ [fun dt e => Instr.engSetb dt e op, fun dt e => .engSeti dt e op, fun dt e => .engSetm dt e op, fun dt e => .engSetl dt e op,
        fun dt e => .engSetd dt e op, fun dt e => .engAddi dt e op, fun dt e => .engGeti dt e op], keeps mk free) ∧
  (∀ arg : BitVec 12, keeps (fun dt e => .engLoop0 dt e arg) free ∧ keeps (fun dt e => .engLoop1 dt e arg) free) ∧
  keeps (fun dt e => .engLend0 dt e) free ∧ keeps (fun dt e => .engLend1 dt e) free

/-! ### The monitor output (R458, R461, R464, R465) -/

/-- A pixel that no composed layer covers shows the background; a layer of alpha 255 hides what lies below it and one of alpha 0 shows it;
while the links restart DE is low at every pixel; and an output that is off drives no current on any pair (R458, R459, R461, R464, R465).
-/
def Obligations.MonitorComposesItsLayers : Prop :=
  (∀ (s : State) (host : Nat → Nat → Byte) (x y : Nat),
    (s.layerOn 0 0x100 = false ∨ s.monFld 0x108 0 12 = 0) → (s.layerOn 1 0x140 = false ∨ s.monFld 0x148 0 12 = 0) →
    (s.layerOn 2 0x180 = false ∨ s.monFld 0x188 0 12 = 0) → s.pixel host x y = rgbOf (s.monFld 0x00C 0 24)) ∧
  (∀ top below : Rgb, blend 255 top below = top ∧ blend 0 top below = below) ∧
  (∀ (s : State) (x y : Nat), s.mon.restart ≠ 0 → s.deAt x y = false) ∧
  (∀ (s : State) (host : Nat → Nat → Byte) (pair slot x y : Nat), s.monOn = false → s.pairAt host pair slot x y = none)
end

