-- ==== Sys2Proof/Laws/Command.lean ====
section
/-! SUPPORT. What an admitted command does, said once: every row of Command Reference is served alike. -/

namespace Sys2Proof.Laws

open Sys2Proof Sys2Proof.Machine

/-- Time passes and the command acts, in every state but OFF. -/
theorem run_awake (dt : Nat) (s : State) (f : State → State) (h : awake s) :
    run dt s f = .next (afterKeep dt s (f (s.advance dt))) := by
  unfold awake at h
  simp [run, afterKeep, h]

/-- As `run_awake`, for the commands that reach the one-time memory. -/
theorem runOtp_awake (dt : Nat) (s : State) (f : State → State) (h : awake s) :
    runOtp dt s f = .next (after dt s (f (s.advance dt))) := by
  unfold awake at h
  simp [runOtp, after, h]

/-- The arrival and loss of power reach an OFF device too. -/
theorem runAlways_eq (dt : Nat) (s : State) (f : State → State) :
    runAlways dt s f = .next (afterKeep dt s (f (s.advance dt))) := rfl

/-- A device that is OFF takes nothing but its power: only time passes. -/
theorem run_off (dt : Nat) (s : State) (f : State → State) (h : s.life.lcs = .off) :
    run dt s f = .next (afterKeep dt s (s.advance dt)) := by
  simp [run, afterKeep, h]

/-- An event row's guard holds and its effect happens. -/
theorem happens_of (mk : Nat → Instr) (cond : State → Prop) (eff f : State → State)
    (hexec : ∀ dt s, exec (mk dt) s = run dt s f) (h : ∀ s, cond s → f s = eff s) : Happens mk cond eff := by
  intro dt s hs hc
  rw [hexec, run_awake dt s f hs, h _ hc]

/-- What a taken command breaks does not depend on the data it brings, nor on byte 0 of its CMD message. -/
theorem breakXfer_congr (s : State) (c : Ctx) (y : List Byte) (b : Nat) : s.breakXfer { c with din := y, b0 := b } = s.breakXfer c := rfl

/-- The state on which a row's command is checked, from the fields of its context. -/
theorem takenState_of (d : CmdDef) (r : Req) (s : State) (y : List Byte) (b : Nat) :
    (s.refresh r.entry).breakXfer ⟨r.entry, r.mb.val, (slotFor d r).toNat, y, b⟩ = takenState d r s :=
  breakXfer_congr (s.refresh r.entry) (ctxFor d r) y b

/-- An admitted command is evaluated by its row's act, its data held against DATA_LEN, and answered. -/
theorem command_admitted (d : CmdDef) (r : Req) (s : State) (h : Admitted d r s) :
    State.command d r s = answered d r s
      ((evalState d r s).lengthCheck (ctxFor d r) (d.act (evalState d r s) (ctxFor d r))) := by
  obtain ⟨takes, slot, read, here, auth, row, whole⟩ := h
  have hread : (carriesData (slotFor d r).toNat && r.din.isNone) = false := by
    cases hc : carriesData (slotFor d r).toNat
    · rfl
    · have := read hc
      cases hd : r.din <;> simp_all
  have hhere : (r.entry.pair.isNone && slotDest (slotFor d r).toNat != 0xFFFF
      && slotDest (slotFor d r).toNat != s.chain.addr.toNat) = false := by
    rcases here with h | h | h
    · cases hp : r.entry.pair <;> simp_all
    · simp [h]
    · simp [h]
  have hpair : (takenState d r s).authenticate d (ctxFor d r) (ctxFor d r).din = (checkedState d r s, none) := by
    rw [← auth]; rfl
  unfold State.command
  rw [if_pos takes]
  unfold State.serve State.serveSteps
  simp only [onEthernet] at slot
  have hslot : BitVec.ofNat 512 (setFld r.slot.toNat 0 16 d.op) = slotFor d r := rfl
  simp only [hslot, slot]
  have hread' : ((!slotDir (slotFor d r).toNat && decide (0 < slotDlen (slotFor d r).toNat)) && r.din.isNone) = false := hread
  have hc : (if (!slotDir (slotFor d r).toNat && decide (0 < slotDlen (slotFor d r).toNat)) = true then
      List.take (slotDlen (slotFor d r).toNat) (r.din.getD []) else []) = (ctxFor d r).din := rfl
  simp only [hread', hhere, hc, if_false, Bool.false_eq_true]
  have hctx : ({ e := r.entry, mb := r.mb.val, slot := (slotFor d r).toNat, din := (ctxFor d r).din
                 b0 := cmdByte r.entry.port r.mb.val 0 } : Ctx) = ctxFor d r := rfl
  have hbreak := fun y b => takenState_of d r s y b
  simp only [hbreak, hctx, hpair]
  unfold State.evaluate
  simp only [row, whole, if_false, Bool.false_eq_true]
  rfl

/-- The outcome of an admitted command whose act answers OK with the effect, result and data named. -/
theorem command_ok (d : CmdDef) (r : Req) (dt : Nat) (s : State) (cond : State → Ctx → Prop) (eff : State → Ctx → State)
    (a dout : State → Ctx → List Byte) (hact : ∀ u c, cond u c → d.act u c = { st := eff u c, a := a u c, dout := dout u c })
    (hs : awake s) (hadm : Admitted d r (s.advance dt)) (hcond : cond (evalState d r (s.advance dt)) (ctxFor d r))
    (hlen : (dout (evalState d r (s.advance dt)) (ctxFor d r)).length ≤ slotDlen (ctxFor d r).slot) :
    (if d.writesOtp then runOtp dt s (State.command d r) else run dt s (State.command d r))
      = .next (after dt s (answered d r (s.advance dt)
        { st := eff (evalState d r (s.advance dt)) (ctxFor d r), status := 0, detail := 0
          a := a (evalState d r (s.advance dt)) (ctxFor d r), dout := dout (evalState d r (s.advance dt)) (ctxFor d r) })) := by
  have hc := command_admitted d r (s.advance dt) hadm
  rw [hact _ _ hcond] at hc
  have hl : (evalState d r (s.advance dt)).lengthCheck (ctxFor d r)
      { st := eff (evalState d r (s.advance dt)) (ctxFor d r), a := a (evalState d r (s.advance dt)) (ctxFor d r)
        dout := dout (evalState d r (s.advance dt)) (ctxFor d r) }
      = { st := eff (evalState d r (s.advance dt)) (ctxFor d r), a := a (evalState d r (s.advance dt)) (ctxFor d r)
          dout := dout (evalState d r (s.advance dt)) (ctxFor d r) } := by
    unfold State.lengthCheck
    simp only [stOk, Nat.not_lt.mpr hlen, decide_true, decide_false, Bool.and_false, Bool.false_eq_true, if_false]
  rw [hl] at hc
  cases hw : d.writesOtp
  · simp only [Bool.false_eq_true, if_false, run_awake dt s _ hs, hc]
    simp [afterKeep, after, answered, hw, State.advance]
  · simp only [if_true, runOtp_awake dt s _ hs, hc]

/-- A command row completes where its act answers OK with the effect, result and data named. -/
theorem completes_of_act (mk : Nat → Req → Instr) (d : CmdDef) (cond : State → Ctx → Prop) (eff : State → Ctx → State)
    (a dout : State → Ctx → List Byte)
    (hexec : ∀ dt r s, exec (mk dt r) s = if d.writesOtp then runOtp dt s (State.command d r) else run dt s (State.command d r))
    (hact : ∀ u c, cond u c → d.act u c = { st := eff u c, a := a u c, dout := dout u c }) :
    Completes mk d cond eff a dout :=
  fun dt r s hs hadm hcond hlen => (hexec dt r s).trans (command_ok d r dt s cond eff a dout hact hs hadm hcond hlen)

/-- As `completes_of_act`, for a row that is alone in its FAB_CK cycle. -/
theorem completesWhen_of_act (alone : Req → State → Prop) (mk : Nat → Req → Instr) (d : CmdDef) (cond : State → Ctx → Prop)
    (eff : State → Ctx → State) (a dout : State → Ctx → List Byte)
    (hexec : ∀ dt r s, alone r (s.advance dt) → exec (mk dt r) s =
      if d.writesOtp then runOtp dt s (State.command d r) else run dt s (State.command d r))
    (hact : ∀ u c, cond u c → d.act u c = { st := eff u c, a := a u c, dout := dout u c }) :
    CompletesWhen alone mk d cond eff a dout :=
  fun dt r s hs ha hadm hcond hlen => (hexec dt r s ha).trans (command_ok d r dt s cond eff a dout hact hs hadm hcond hlen)

/-- A row that meets nothing acts as if it stood alone (R27, R196). -/
theorem met_alone (s : State) (f : State → State) (h : s.foreseen = {}) : s.met f = f s := if_pos h

/-- A row that meets a cause of its FAB_CK cycle acts with it in view (R27, R196). -/
theorem met_race (s : State) (f : State → State) (h : s.foreseen ≠ {}) :
    s.met f = { f { s with race := s.foreseen } with race := {} } := if_neg h

/-- As `met_alone`, for a row. -/
theorem run_met_alone (dt : Nat) (s : State) (f : State → State) (h : (s.advance dt).foreseen = {}) :
    run dt s (fun u => u.met f) = run dt s f := by
  unfold run
  split
  · rfl
  · dsimp only
    rw [met_alone _ _ h]

end Sys2Proof.Laws
end

