-- ==== Sys2Proof/Laws/Table.lean ====
section
/-! SUPPORT. The laws of sparse tables and on-die memories: a read after a write to the same key gives the value written, a write leaves
every other key alone, and every write keeps the canonical form. -/

namespace Sys2Proof.Laws

open Sys2Proof Sys2Proof.Machine

variable {α : Type}

/-- A key taken out reads as the default. -/
theorem tget_tdel_same (d : α) (t : Tab α) (k : Nat) : tget d (tdel t k) k = d := by
  induction t with
  | nil => rfl
  | cons x r ih =>
    obtain ⟨k', v⟩ := x
    by_cases h : k' = k <;> simp [tdel, tget, h, ih]

/-- Taking a key out leaves every other key. -/
theorem tget_tdel_other (d : α) (t : Tab α) (k j : Nat) (h : j ≠ k) : tget d (tdel t k) j = tget d t j := by
  induction t with
  | nil => rfl
  | cons x r ih =>
    obtain ⟨k', v⟩ := x
    by_cases hk : k' = k
    · subst hk; simp [tdel, tget, ih, h.symm]
    · simp [tdel, tget, hk, ih]

/-- The entry put in its place is read at its key, where the key is new. -/
theorem tget_tins_same (d : α) (t : Tab α) (k : Nat) (v : α) : tget d (tins (tdel t k) k v) k = v := by
  induction t with
  | nil => simp [tdel, tins, tget]
  | cons x r ih =>
    obtain ⟨k', w⟩ := x
    by_cases hk : k' = k
    · simp [tdel, hk, ih]
    · by_cases hl : k < k'
      · simp [tdel, tins, tget, hk, hl]
      · simp [tdel, tins, tget, hk, hl, ih]

/-- The entry put in its place leaves every other key. -/
theorem tget_tins_other (d : α) (t : Tab α) (k j : Nat) (v : α) (h : j ≠ k) : tget d (tins t k v) j = tget d t j := by
  induction t with
  | nil => simp [tins, tget, h.symm]
  | cons x r ih =>
    obtain ⟨k', w⟩ := x
    by_cases hl : k < k'
    · simp [tins, tget, hl, h.symm]
    · simp [tins, tget, hl, ih]

/-- A read after a write to the same key gives the value written. -/
@[simp] theorem tget_tput_same [DecidableEq α] (d : α) (t : Tab α) (k : Nat) (v : α) : tget d (tput d t k v) k = v := by
  by_cases h : v = d <;> simp [tput, h, tget_tdel_same, tget_tins_same]

/-- A write leaves every other key alone. -/
theorem tget_tput_other [DecidableEq α] (d : α) (t : Tab α) (k j : Nat) (v : α) (h : j ≠ k) : tget d (tput d t k v) j = tget d t j := by
  by_cases hv : v = d <;> simp [tput, hv, tget_tdel_other, tget_tins_other, h]

/-- A change is read at its key. -/
@[simp] theorem tget_tmod_same [DecidableEq α] (d : α) (t : Tab α) (k : Nat) (f : α → α) : tget d (tmod d t k f) k = f (tget d t k) := by
  simp [tmod]

/-- A change leaves every other key alone. -/
theorem tget_tmod_other [DecidableEq α] (d : α) (t : Tab α) (k j : Nat) (f : α → α) (h : j ≠ k) : tget d (tmod d t k f) j = tget d t j := by
  simp [tmod, tget_tput_other, h]

/-- A change that does the same to its entry is the same change. -/
theorem tmod_congr [DecidableEq α] (d : α) (t : Tab α) (k : Nat) (f g : α → α) (h : f (tget d t k) = g (tget d t k)) : tmod d t k f = tmod d t k g := by
  simp [tmod, h]

/-- The canonical form above a bound holds above every lower bound. -/
theorem twfFrom_mono [DecidableEq α] (d : α) (t : Tab α) (lo hi : Nat) (h : lo ≤ hi) (ht : twfFrom d hi t = true) : twfFrom d lo t = true := by
  cases t with
  | nil => rfl
  | cons x r =>
    obtain ⟨k, v⟩ := x
    simp [twfFrom] at ht ⊢
    exact ⟨⟨by omega, ht.1.2⟩, ht.2⟩

/-- Taking a key out keeps the canonical form. -/
theorem twfFrom_tdel [DecidableEq α] (d : α) (t : Tab α) (lo k : Nat) (ht : twfFrom d lo t = true) : twfFrom d lo (tdel t k) = true := by
  induction t generalizing lo with
  | nil => rfl
  | cons x r ih =>
    obtain ⟨k', v⟩ := x
    simp [twfFrom] at ht
    by_cases hk : k' = k
    · simp only [tdel, hk, if_true]
      exact twfFrom_mono d _ lo (k' + 1) (by omega) (by rw [hk] at ht ⊢; exact ih _ ht.2)
    · simp [tdel, hk, twfFrom]
      exact ⟨⟨ht.1.1, ht.1.2⟩, ih _ ht.2⟩

/-- Putting an entry that is not the default in its place keeps the canonical form. -/
theorem twfFrom_tins [DecidableEq α] (d : α) (t : Tab α) (lo k : Nat) (v : α) (hv : v ≠ d) (hk : lo ≤ k) (hn : ∀ x ∈ t, x.1 ≠ k)
    (ht : twfFrom d lo t = true) : twfFrom d lo (tins t k v) = true := by
  induction t generalizing lo with
  | nil => simp [tins, twfFrom, hv, hk]
  | cons x r ih =>
    obtain ⟨k', w⟩ := x
    simp [twfFrom] at ht
    have hne : k' ≠ k := hn (k', w) (by simp)
    by_cases hl : k < k'
    · simp [tins, hl, twfFrom, hv, hk]
      exact ⟨ht.1.2, ht.2⟩
    · simp [tins, hl, twfFrom]
      exact ⟨ht.1, ih (k' + 1) (by omega) (fun x hx => hn x (by simp [hx])) ht.2⟩

/-- No entry of a table without a key has it. -/
theorem tdel_ne (t : Tab α) (k : Nat) : ∀ x ∈ tdel t k, x.1 ≠ k := by
  induction t with
  | nil => simp [tdel]
  | cons x r ih =>
    obtain ⟨k', v⟩ := x
    by_cases hk : k' = k
    · simpa [tdel, hk] using ih
    · simp [tdel, hk]; simpa using ih

/-- A write keeps the canonical form. -/
theorem twf_tput [DecidableEq α] (d : α) (t : Tab α) (k : Nat) (v : α) (ht : twf d t = true) : twf d (tput d t k v) = true := by
  unfold twf at ht ⊢
  by_cases h : v = d
  · simp [tput, h, twfFrom_tdel d t 0 k ht]
  · simp only [tput, h, if_false]
    exact twfFrom_tins d _ 0 k v h (by omega) (tdel_ne t k) (twfFrom_tdel d t 0 k ht)

/-- A change keeps the canonical form. -/
theorem twf_tmod [DecidableEq α] (d : α) (t : Tab α) (k : Nat) (f : α → α) (ht : twf d t = true) : twf d (tmod d t k f) = true :=
  twf_tput d t k _ ht

/-- A byte written is read back. -/
@[simp] theorem mget_mput_same (m : List (Nat × Byte)) (a : Nat) (b : Byte) : mget (mput m a b) a = b :=
  tget_tput_same 0 m a b

/-- A byte written leaves every other address. -/
theorem mget_mput_other (m : List (Nat × Byte)) (a j : Nat) (b : Byte) (h : j ≠ a) : mget (mput m a b) j = mget m j :=
  tget_tput_other 0 m a j b h

/-- A byte written keeps a memory in its canonical form. -/
theorem memory_wf_mput (m : List (Nat × Byte)) (a : Nat) (b : Byte) (h : twf 0 m = true) : twf 0 (mput m a b) = true :=
  twf_tput 0 m a b h

end Sys2Proof.Laws
end

