-- ==== Sys2Proof/Laws/State.lean ====
section
/-! SUPPORT. What each named operation on the state leaves as it was and what it changes, field by field, so that no proof unfolds a
record update. -/

namespace Sys2Proof.Laws

open Sys2Proof Sys2Proof.Machine

variable (s : State)

/-! ### advance -/

@[simp] theorem advance_pending (dt : Nat) : (s.advance dt).pending = s.pending := rfl
@[simp] theorem advance_free (dt : Nat) : (s.advance dt).free = s.free := rfl
@[simp] theorem advance_life (dt : Nat) : (s.advance dt).life = s.life := rfl
@[simp] theorem advance_power (dt : Nat) : (s.advance dt).power = s.power := rfl
@[simp] theorem advance_otp (dt : Nat) : (s.advance dt).otp = s.otp := rfl
@[simp] theorem advance_flash (dt : Nat) : (s.advance dt).flash = s.flash := rfl
@[simp] theorem advance_jobs (dt : Nat) : (s.advance dt).jobs = s.jobs := rfl
@[simp] theorem advance_hostA (dt : Nat) : (s.advance dt).hostA = s.hostA := rfl
@[simp] theorem advance_hostB (dt : Nat) : (s.advance dt).hostB = s.hostB := rfl
@[simp] theorem advance_sems (dt : Nat) : (s.advance dt).sems = s.sems := rfl
@[simp] theorem advance_auths (dt : Nat) : (s.advance dt).auths = s.auths := rfl
@[simp] theorem advance_xfers (dt : Nat) : (s.advance dt).xfers = s.xfers := rfl
@[simp] theorem advance_remote (dt : Nat) : (s.advance dt).remote = s.remote := rfl
@[simp] theorem advance_mapPort (dt : Nat) : (s.advance dt).mapPort = s.mapPort := rfl
@[simp] theorem advance_map (dt : Nat) : (s.advance dt).map = s.map := rfl
@[simp] theorem advance_prio (dt : Nat) : (s.advance dt).prio = s.prio := rfl
@[simp] theorem advance_early (dt : Nat) : (s.advance dt).early = s.early := rfl
@[simp] theorem advance_faults (dt : Nat) : (s.advance dt).faults = s.faults := rfl
@[simp] theorem advance_mode (dt : Nat) : (s.advance dt).mode = s.mode := rfl
@[simp] theorem advance_front (dt : Nat) : (s.advance dt).front = s.front := rfl
@[simp] theorem advance_emit (dt : Nat) : (s.advance dt).emit = s.emit := rfl
@[simp] theorem advance_scan (dt : Nat) : (s.advance dt).scan = s.scan := rfl
@[simp] theorem advance_sched (dt : Nat) : (s.advance dt).sched = s.sched := rfl
@[simp] theorem advance_chain (dt : Nat) : (s.advance dt).chain = s.chain := rfl
@[simp] theorem advance_safe (dt : Nat) : (s.advance dt).safe = s.safe := rfl
@[simp] theorem advance_hk (dt : Nat) : (s.advance dt).hk = s.hk := rfl
@[simp] theorem advance_mon (dt : Nat) : (s.advance dt).mon = s.mon := rfl
@[simp] theorem advance_out (dt : Nat) : (s.advance dt).out = s.out := rfl

/-! ### took -/

@[simp] theorem took_pending : (s.took).pending = s.pending := rfl
@[simp] theorem took_clk : (s.took).clk = s.clk := rfl
@[simp] theorem took_ct : (s.took).ct = s.ct := rfl
@[simp] theorem took_slew : (s.took).slew = s.slew := rfl
@[simp] theorem took_life : (s.took).life = s.life := rfl
@[simp] theorem took_power : (s.took).power = s.power := rfl
@[simp] theorem took_otp : (s.took).otp = s.otp := rfl
@[simp] theorem took_flash : (s.took).flash = s.flash := rfl
@[simp] theorem took_jobs : (s.took).jobs = s.jobs := rfl
@[simp] theorem took_hostA : (s.took).hostA = s.hostA := rfl
@[simp] theorem took_hostB : (s.took).hostB = s.hostB := rfl
@[simp] theorem took_sems : (s.took).sems = s.sems := rfl
@[simp] theorem took_auths : (s.took).auths = s.auths := rfl
@[simp] theorem took_xfers : (s.took).xfers = s.xfers := rfl
@[simp] theorem took_remote : (s.took).remote = s.remote := rfl
@[simp] theorem took_mapPort : (s.took).mapPort = s.mapPort := rfl
@[simp] theorem took_map : (s.took).map = s.map := rfl
@[simp] theorem took_prio : (s.took).prio = s.prio := rfl
@[simp] theorem took_early : (s.took).early = s.early := rfl
@[simp] theorem took_faults : (s.took).faults = s.faults := rfl
@[simp] theorem took_mode : (s.took).mode = s.mode := rfl
@[simp] theorem took_front : (s.took).front = s.front := rfl
@[simp] theorem took_emit : (s.took).emit = s.emit := rfl
@[simp] theorem took_scan : (s.took).scan = s.scan := rfl
@[simp] theorem took_sched : (s.took).sched = s.sched := rfl
@[simp] theorem took_chain : (s.took).chain = s.chain := rfl
@[simp] theorem took_safe : (s.took).safe = s.safe := rfl
@[simp] theorem took_hk : (s.took).hk = s.hk := rfl
@[simp] theorem took_mon : (s.took).mon = s.mon := rfl
@[simp] theorem took_out : (s.took).out = s.out := rfl

/-! ### say -/

@[simp] theorem say_pending (o : Out) : (s.say o).pending = s.pending := rfl
@[simp] theorem say_clk (o : Out) : (s.say o).clk = s.clk := rfl
@[simp] theorem say_ct (o : Out) : (s.say o).ct = s.ct := rfl
@[simp] theorem say_slew (o : Out) : (s.say o).slew = s.slew := rfl
@[simp] theorem say_free (o : Out) : (s.say o).free = s.free := rfl
@[simp] theorem say_life (o : Out) : (s.say o).life = s.life := rfl
@[simp] theorem say_power (o : Out) : (s.say o).power = s.power := rfl
@[simp] theorem say_otp (o : Out) : (s.say o).otp = s.otp := rfl
@[simp] theorem say_flash (o : Out) : (s.say o).flash = s.flash := rfl
@[simp] theorem say_jobs (o : Out) : (s.say o).jobs = s.jobs := rfl
@[simp] theorem say_hostA (o : Out) : (s.say o).hostA = s.hostA := rfl
@[simp] theorem say_hostB (o : Out) : (s.say o).hostB = s.hostB := rfl
@[simp] theorem say_sems (o : Out) : (s.say o).sems = s.sems := rfl
@[simp] theorem say_auths (o : Out) : (s.say o).auths = s.auths := rfl
@[simp] theorem say_xfers (o : Out) : (s.say o).xfers = s.xfers := rfl
@[simp] theorem say_remote (o : Out) : (s.say o).remote = s.remote := rfl
@[simp] theorem say_mapPort (o : Out) : (s.say o).mapPort = s.mapPort := rfl
@[simp] theorem say_map (o : Out) : (s.say o).map = s.map := rfl
@[simp] theorem say_prio (o : Out) : (s.say o).prio = s.prio := rfl
@[simp] theorem say_early (o : Out) : (s.say o).early = s.early := rfl
@[simp] theorem say_faults (o : Out) : (s.say o).faults = s.faults := rfl
@[simp] theorem say_mode (o : Out) : (s.say o).mode = s.mode := rfl
@[simp] theorem say_front (o : Out) : (s.say o).front = s.front := rfl
@[simp] theorem say_emit (o : Out) : (s.say o).emit = s.emit := rfl
@[simp] theorem say_scan (o : Out) : (s.say o).scan = s.scan := rfl
@[simp] theorem say_sched (o : Out) : (s.say o).sched = s.sched := rfl
@[simp] theorem say_chain (o : Out) : (s.say o).chain = s.chain := rfl
@[simp] theorem say_safe (o : Out) : (s.say o).safe = s.safe := rfl
@[simp] theorem say_hk (o : Out) : (s.say o).hk = s.hk := rfl
@[simp] theorem say_mon (o : Out) : (s.say o).mon = s.mon := rfl

/-! ### modAuth -/

@[simp] theorem modAuth_pending (e : Entry) (f : Auth → Auth) : (s.modAuth e f).pending = s.pending := rfl
@[simp] theorem modAuth_clk (e : Entry) (f : Auth → Auth) : (s.modAuth e f).clk = s.clk := rfl
@[simp] theorem modAuth_ct (e : Entry) (f : Auth → Auth) : (s.modAuth e f).ct = s.ct := rfl
@[simp] theorem modAuth_slew (e : Entry) (f : Auth → Auth) : (s.modAuth e f).slew = s.slew := rfl
@[simp] theorem modAuth_free (e : Entry) (f : Auth → Auth) : (s.modAuth e f).free = s.free := rfl
@[simp] theorem modAuth_life (e : Entry) (f : Auth → Auth) : (s.modAuth e f).life = s.life := rfl
@[simp] theorem modAuth_power (e : Entry) (f : Auth → Auth) : (s.modAuth e f).power = s.power := rfl
@[simp] theorem modAuth_otp (e : Entry) (f : Auth → Auth) : (s.modAuth e f).otp = s.otp := rfl
@[simp] theorem modAuth_flash (e : Entry) (f : Auth → Auth) : (s.modAuth e f).flash = s.flash := rfl
@[simp] theorem modAuth_jobs (e : Entry) (f : Auth → Auth) : (s.modAuth e f).jobs = s.jobs := rfl
@[simp] theorem modAuth_hostA (e : Entry) (f : Auth → Auth) : (s.modAuth e f).hostA = s.hostA := rfl
@[simp] theorem modAuth_hostB (e : Entry) (f : Auth → Auth) : (s.modAuth e f).hostB = s.hostB := rfl
@[simp] theorem modAuth_sems (e : Entry) (f : Auth → Auth) : (s.modAuth e f).sems = s.sems := rfl
@[simp] theorem modAuth_xfers (e : Entry) (f : Auth → Auth) : (s.modAuth e f).xfers = s.xfers := rfl
@[simp] theorem modAuth_remote (e : Entry) (f : Auth → Auth) : (s.modAuth e f).remote = s.remote := rfl
@[simp] theorem modAuth_mapPort (e : Entry) (f : Auth → Auth) : (s.modAuth e f).mapPort = s.mapPort := rfl
@[simp] theorem modAuth_map (e : Entry) (f : Auth → Auth) : (s.modAuth e f).map = s.map := rfl
@[simp] theorem modAuth_prio (e : Entry) (f : Auth → Auth) : (s.modAuth e f).prio = s.prio := rfl
@[simp] theorem modAuth_early (e : Entry) (f : Auth → Auth) : (s.modAuth e f).early = s.early := rfl
@[simp] theorem modAuth_faults (e : Entry) (f : Auth → Auth) : (s.modAuth e f).faults = s.faults := rfl
@[simp] theorem modAuth_mode (e : Entry) (f : Auth → Auth) : (s.modAuth e f).mode = s.mode := rfl
@[simp] theorem modAuth_front (e : Entry) (f : Auth → Auth) : (s.modAuth e f).front = s.front := rfl
@[simp] theorem modAuth_emit (e : Entry) (f : Auth → Auth) : (s.modAuth e f).emit = s.emit := rfl
@[simp] theorem modAuth_scan (e : Entry) (f : Auth → Auth) : (s.modAuth e f).scan = s.scan := rfl
@[simp] theorem modAuth_sched (e : Entry) (f : Auth → Auth) : (s.modAuth e f).sched = s.sched := rfl
@[simp] theorem modAuth_chain (e : Entry) (f : Auth → Auth) : (s.modAuth e f).chain = s.chain := rfl
@[simp] theorem modAuth_safe (e : Entry) (f : Auth → Auth) : (s.modAuth e f).safe = s.safe := rfl
@[simp] theorem modAuth_hk (e : Entry) (f : Auth → Auth) : (s.modAuth e f).hk = s.hk := rfl
@[simp] theorem modAuth_mon (e : Entry) (f : Auth → Auth) : (s.modAuth e f).mon = s.mon := rfl
@[simp] theorem modAuth_out (e : Entry) (f : Auth → Auth) : (s.modAuth e f).out = s.out := rfl

/-! ### modSem -/

@[simp] theorem modSem_pending (n : Nat) (f : Sem → Sem) : (s.modSem n f).pending = s.pending := rfl
@[simp] theorem modSem_clk (n : Nat) (f : Sem → Sem) : (s.modSem n f).clk = s.clk := rfl
@[simp] theorem modSem_ct (n : Nat) (f : Sem → Sem) : (s.modSem n f).ct = s.ct := rfl
@[simp] theorem modSem_slew (n : Nat) (f : Sem → Sem) : (s.modSem n f).slew = s.slew := rfl
@[simp] theorem modSem_free (n : Nat) (f : Sem → Sem) : (s.modSem n f).free = s.free := rfl
@[simp] theorem modSem_life (n : Nat) (f : Sem → Sem) : (s.modSem n f).life = s.life := rfl
@[simp] theorem modSem_power (n : Nat) (f : Sem → Sem) : (s.modSem n f).power = s.power := rfl
@[simp] theorem modSem_otp (n : Nat) (f : Sem → Sem) : (s.modSem n f).otp = s.otp := rfl
@[simp] theorem modSem_flash (n : Nat) (f : Sem → Sem) : (s.modSem n f).flash = s.flash := rfl
@[simp] theorem modSem_jobs (n : Nat) (f : Sem → Sem) : (s.modSem n f).jobs = s.jobs := rfl
@[simp] theorem modSem_hostA (n : Nat) (f : Sem → Sem) : (s.modSem n f).hostA = s.hostA := rfl
@[simp] theorem modSem_hostB (n : Nat) (f : Sem → Sem) : (s.modSem n f).hostB = s.hostB := rfl
@[simp] theorem modSem_auths (n : Nat) (f : Sem → Sem) : (s.modSem n f).auths = s.auths := rfl
@[simp] theorem modSem_xfers (n : Nat) (f : Sem → Sem) : (s.modSem n f).xfers = s.xfers := rfl
@[simp] theorem modSem_remote (n : Nat) (f : Sem → Sem) : (s.modSem n f).remote = s.remote := rfl
@[simp] theorem modSem_mapPort (n : Nat) (f : Sem → Sem) : (s.modSem n f).mapPort = s.mapPort := rfl
@[simp] theorem modSem_map (n : Nat) (f : Sem → Sem) : (s.modSem n f).map = s.map := rfl
@[simp] theorem modSem_prio (n : Nat) (f : Sem → Sem) : (s.modSem n f).prio = s.prio := rfl
@[simp] theorem modSem_early (n : Nat) (f : Sem → Sem) : (s.modSem n f).early = s.early := rfl
@[simp] theorem modSem_faults (n : Nat) (f : Sem → Sem) : (s.modSem n f).faults = s.faults := rfl
@[simp] theorem modSem_mode (n : Nat) (f : Sem → Sem) : (s.modSem n f).mode = s.mode := rfl
@[simp] theorem modSem_front (n : Nat) (f : Sem → Sem) : (s.modSem n f).front = s.front := rfl
@[simp] theorem modSem_emit (n : Nat) (f : Sem → Sem) : (s.modSem n f).emit = s.emit := rfl
@[simp] theorem modSem_scan (n : Nat) (f : Sem → Sem) : (s.modSem n f).scan = s.scan := rfl
@[simp] theorem modSem_sched (n : Nat) (f : Sem → Sem) : (s.modSem n f).sched = s.sched := rfl
@[simp] theorem modSem_chain (n : Nat) (f : Sem → Sem) : (s.modSem n f).chain = s.chain := rfl
@[simp] theorem modSem_safe (n : Nat) (f : Sem → Sem) : (s.modSem n f).safe = s.safe := rfl
@[simp] theorem modSem_hk (n : Nat) (f : Sem → Sem) : (s.modSem n f).hk = s.hk := rfl
@[simp] theorem modSem_mon (n : Nat) (f : Sem → Sem) : (s.modSem n f).mon = s.mon := rfl
@[simp] theorem modSem_out (n : Nat) (f : Sem → Sem) : (s.modSem n f).out = s.out := rfl
/-- The changed entry. -/
@[simp] theorem modSem_sem_same (n : Nat) (f : Sem → Sem) : (s.modSem n f).sem n = f (s.sem n) := tget_tmod_same _ _ _ _
/-- Every other entry stays. -/
theorem modSem_sem_other (n : Nat) (f : Sem → Sem) (j : Nat) (h : j ≠ n) : (s.modSem n f).sem j = s.sem j := tget_tmod_other _ _ _ _ _ h
/-- A change that does the same to its entry is the same change. -/
theorem modSem_congr (n : Nat) (f : Sem → Sem) (g : Sem → Sem) (h : f (s.sem n) = g (s.sem n)) : s.modSem n f = s.modSem n g := by
  unfold State.modSem; rw [tmod_congr _ _ _ f g h]

/-! ### modStr -/

@[simp] theorem modStr_pending (i : Nat) (f : Strng → Strng) : (s.modStr i f).pending = s.pending := rfl
@[simp] theorem modStr_clk (i : Nat) (f : Strng → Strng) : (s.modStr i f).clk = s.clk := rfl
@[simp] theorem modStr_ct (i : Nat) (f : Strng → Strng) : (s.modStr i f).ct = s.ct := rfl
@[simp] theorem modStr_slew (i : Nat) (f : Strng → Strng) : (s.modStr i f).slew = s.slew := rfl
@[simp] theorem modStr_free (i : Nat) (f : Strng → Strng) : (s.modStr i f).free = s.free := rfl
@[simp] theorem modStr_life (i : Nat) (f : Strng → Strng) : (s.modStr i f).life = s.life := rfl
@[simp] theorem modStr_power (i : Nat) (f : Strng → Strng) : (s.modStr i f).power = s.power := rfl
@[simp] theorem modStr_otp (i : Nat) (f : Strng → Strng) : (s.modStr i f).otp = s.otp := rfl
@[simp] theorem modStr_flash (i : Nat) (f : Strng → Strng) : (s.modStr i f).flash = s.flash := rfl
@[simp] theorem modStr_jobs (i : Nat) (f : Strng → Strng) : (s.modStr i f).jobs = s.jobs := rfl
@[simp] theorem modStr_hostA (i : Nat) (f : Strng → Strng) : (s.modStr i f).hostA = s.hostA := rfl
@[simp] theorem modStr_hostB (i : Nat) (f : Strng → Strng) : (s.modStr i f).hostB = s.hostB := rfl
@[simp] theorem modStr_sems (i : Nat) (f : Strng → Strng) : (s.modStr i f).sems = s.sems := rfl
@[simp] theorem modStr_auths (i : Nat) (f : Strng → Strng) : (s.modStr i f).auths = s.auths := rfl
@[simp] theorem modStr_xfers (i : Nat) (f : Strng → Strng) : (s.modStr i f).xfers = s.xfers := rfl
@[simp] theorem modStr_remote (i : Nat) (f : Strng → Strng) : (s.modStr i f).remote = s.remote := rfl
@[simp] theorem modStr_mapPort (i : Nat) (f : Strng → Strng) : (s.modStr i f).mapPort = s.mapPort := rfl
@[simp] theorem modStr_map (i : Nat) (f : Strng → Strng) : (s.modStr i f).map = s.map := rfl
@[simp] theorem modStr_prio (i : Nat) (f : Strng → Strng) : (s.modStr i f).prio = s.prio := rfl
@[simp] theorem modStr_early (i : Nat) (f : Strng → Strng) : (s.modStr i f).early = s.early := rfl
@[simp] theorem modStr_faults (i : Nat) (f : Strng → Strng) : (s.modStr i f).faults = s.faults := rfl
@[simp] theorem modStr_mode (i : Nat) (f : Strng → Strng) : (s.modStr i f).mode = s.mode := rfl
@[simp] theorem modStr_front (i : Nat) (f : Strng → Strng) : (s.modStr i f).front = s.front := rfl
@[simp] theorem modStr_scan (i : Nat) (f : Strng → Strng) : (s.modStr i f).scan = s.scan := rfl
@[simp] theorem modStr_sched (i : Nat) (f : Strng → Strng) : (s.modStr i f).sched = s.sched := rfl
@[simp] theorem modStr_chain (i : Nat) (f : Strng → Strng) : (s.modStr i f).chain = s.chain := rfl
@[simp] theorem modStr_safe (i : Nat) (f : Strng → Strng) : (s.modStr i f).safe = s.safe := rfl
@[simp] theorem modStr_hk (i : Nat) (f : Strng → Strng) : (s.modStr i f).hk = s.hk := rfl
@[simp] theorem modStr_mon (i : Nat) (f : Strng → Strng) : (s.modStr i f).mon = s.mon := rfl
@[simp] theorem modStr_out (i : Nat) (f : Strng → Strng) : (s.modStr i f).out = s.out := rfl
/-- The changed entry. -/
@[simp] theorem modStr_str_same (i : Nat) (f : Strng → Strng) : (s.modStr i f).str i = f (s.str i) := tget_tmod_same _ _ _ _
/-- Every other entry stays. -/
theorem modStr_str_other (i : Nat) (f : Strng → Strng) (j : Nat) (h : j ≠ i) : (s.modStr i f).str j = s.str j := tget_tmod_other _ _ _ _ _ h
/-- A change that does the same to its entry is the same change. -/
theorem modStr_congr (i : Nat) (f : Strng → Strng) (g : Strng → Strng) (h : f (s.str i) = g (s.str i)) : s.modStr i f = s.modStr i g := by
  unfold State.modStr; rw [tmod_congr _ _ _ f g h]

/-! ### modLine -/

@[simp] theorem modLine_pending (i : Nat) (f : Line → Line) : (s.modLine i f).pending = s.pending := rfl
@[simp] theorem modLine_clk (i : Nat) (f : Line → Line) : (s.modLine i f).clk = s.clk := rfl
@[simp] theorem modLine_ct (i : Nat) (f : Line → Line) : (s.modLine i f).ct = s.ct := rfl
@[simp] theorem modLine_slew (i : Nat) (f : Line → Line) : (s.modLine i f).slew = s.slew := rfl
@[simp] theorem modLine_free (i : Nat) (f : Line → Line) : (s.modLine i f).free = s.free := rfl
@[simp] theorem modLine_life (i : Nat) (f : Line → Line) : (s.modLine i f).life = s.life := rfl
@[simp] theorem modLine_power (i : Nat) (f : Line → Line) : (s.modLine i f).power = s.power := rfl
@[simp] theorem modLine_otp (i : Nat) (f : Line → Line) : (s.modLine i f).otp = s.otp := rfl
@[simp] theorem modLine_flash (i : Nat) (f : Line → Line) : (s.modLine i f).flash = s.flash := rfl
@[simp] theorem modLine_jobs (i : Nat) (f : Line → Line) : (s.modLine i f).jobs = s.jobs := rfl
@[simp] theorem modLine_hostA (i : Nat) (f : Line → Line) : (s.modLine i f).hostA = s.hostA := rfl
@[simp] theorem modLine_hostB (i : Nat) (f : Line → Line) : (s.modLine i f).hostB = s.hostB := rfl
@[simp] theorem modLine_sems (i : Nat) (f : Line → Line) : (s.modLine i f).sems = s.sems := rfl
@[simp] theorem modLine_auths (i : Nat) (f : Line → Line) : (s.modLine i f).auths = s.auths := rfl
@[simp] theorem modLine_xfers (i : Nat) (f : Line → Line) : (s.modLine i f).xfers = s.xfers := rfl
@[simp] theorem modLine_remote (i : Nat) (f : Line → Line) : (s.modLine i f).remote = s.remote := rfl
@[simp] theorem modLine_mapPort (i : Nat) (f : Line → Line) : (s.modLine i f).mapPort = s.mapPort := rfl
@[simp] theorem modLine_map (i : Nat) (f : Line → Line) : (s.modLine i f).map = s.map := rfl
@[simp] theorem modLine_prio (i : Nat) (f : Line → Line) : (s.modLine i f).prio = s.prio := rfl
@[simp] theorem modLine_early (i : Nat) (f : Line → Line) : (s.modLine i f).early = s.early := rfl
@[simp] theorem modLine_faults (i : Nat) (f : Line → Line) : (s.modLine i f).faults = s.faults := rfl
@[simp] theorem modLine_mode (i : Nat) (f : Line → Line) : (s.modLine i f).mode = s.mode := rfl
@[simp] theorem modLine_front (i : Nat) (f : Line → Line) : (s.modLine i f).front = s.front := rfl
@[simp] theorem modLine_scan (i : Nat) (f : Line → Line) : (s.modLine i f).scan = s.scan := rfl
@[simp] theorem modLine_sched (i : Nat) (f : Line → Line) : (s.modLine i f).sched = s.sched := rfl
@[simp] theorem modLine_chain (i : Nat) (f : Line → Line) : (s.modLine i f).chain = s.chain := rfl
@[simp] theorem modLine_safe (i : Nat) (f : Line → Line) : (s.modLine i f).safe = s.safe := rfl
@[simp] theorem modLine_hk (i : Nat) (f : Line → Line) : (s.modLine i f).hk = s.hk := rfl
@[simp] theorem modLine_mon (i : Nat) (f : Line → Line) : (s.modLine i f).mon = s.mon := rfl
@[simp] theorem modLine_out (i : Nat) (f : Line → Line) : (s.modLine i f).out = s.out := rfl
/-- The changed entry. -/
@[simp] theorem modLine_line_same (i : Nat) (f : Line → Line) : (s.modLine i f).line i = f (s.line i) := tget_tmod_same _ _ _ _
/-- Every other entry stays. -/
theorem modLine_line_other (i : Nat) (f : Line → Line) (j : Nat) (h : j ≠ i) : (s.modLine i f).line j = s.line j := tget_tmod_other _ _ _ _ _ h
/-- A change that does the same to its entry is the same change. -/
theorem modLine_congr (i : Nat) (f : Line → Line) (g : Line → Line) (h : f (s.line i) = g (s.line i)) : s.modLine i f = s.modLine i g := by
  unfold State.modLine; rw [tmod_congr _ _ _ f g h]

/-! ### modChan -/

@[simp] theorem modChan_pending (c : Nat) (f : Chan → Chan) : (s.modChan c f).pending = s.pending := rfl
@[simp] theorem modChan_clk (c : Nat) (f : Chan → Chan) : (s.modChan c f).clk = s.clk := rfl
@[simp] theorem modChan_ct (c : Nat) (f : Chan → Chan) : (s.modChan c f).ct = s.ct := rfl
@[simp] theorem modChan_slew (c : Nat) (f : Chan → Chan) : (s.modChan c f).slew = s.slew := rfl
@[simp] theorem modChan_free (c : Nat) (f : Chan → Chan) : (s.modChan c f).free = s.free := rfl
@[simp] theorem modChan_life (c : Nat) (f : Chan → Chan) : (s.modChan c f).life = s.life := rfl
@[simp] theorem modChan_power (c : Nat) (f : Chan → Chan) : (s.modChan c f).power = s.power := rfl
@[simp] theorem modChan_otp (c : Nat) (f : Chan → Chan) : (s.modChan c f).otp = s.otp := rfl
@[simp] theorem modChan_flash (c : Nat) (f : Chan → Chan) : (s.modChan c f).flash = s.flash := rfl
@[simp] theorem modChan_jobs (c : Nat) (f : Chan → Chan) : (s.modChan c f).jobs = s.jobs := rfl
@[simp] theorem modChan_hostA (c : Nat) (f : Chan → Chan) : (s.modChan c f).hostA = s.hostA := rfl
@[simp] theorem modChan_hostB (c : Nat) (f : Chan → Chan) : (s.modChan c f).hostB = s.hostB := rfl
@[simp] theorem modChan_sems (c : Nat) (f : Chan → Chan) : (s.modChan c f).sems = s.sems := rfl
@[simp] theorem modChan_auths (c : Nat) (f : Chan → Chan) : (s.modChan c f).auths = s.auths := rfl
@[simp] theorem modChan_xfers (c : Nat) (f : Chan → Chan) : (s.modChan c f).xfers = s.xfers := rfl
@[simp] theorem modChan_remote (c : Nat) (f : Chan → Chan) : (s.modChan c f).remote = s.remote := rfl
@[simp] theorem modChan_mapPort (c : Nat) (f : Chan → Chan) : (s.modChan c f).mapPort = s.mapPort := rfl
@[simp] theorem modChan_map (c : Nat) (f : Chan → Chan) : (s.modChan c f).map = s.map := rfl
@[simp] theorem modChan_prio (c : Nat) (f : Chan → Chan) : (s.modChan c f).prio = s.prio := rfl
@[simp] theorem modChan_early (c : Nat) (f : Chan → Chan) : (s.modChan c f).early = s.early := rfl
@[simp] theorem modChan_faults (c : Nat) (f : Chan → Chan) : (s.modChan c f).faults = s.faults := rfl
@[simp] theorem modChan_mode (c : Nat) (f : Chan → Chan) : (s.modChan c f).mode = s.mode := rfl
@[simp] theorem modChan_emit (c : Nat) (f : Chan → Chan) : (s.modChan c f).emit = s.emit := rfl
@[simp] theorem modChan_scan (c : Nat) (f : Chan → Chan) : (s.modChan c f).scan = s.scan := rfl
@[simp] theorem modChan_sched (c : Nat) (f : Chan → Chan) : (s.modChan c f).sched = s.sched := rfl
@[simp] theorem modChan_chain (c : Nat) (f : Chan → Chan) : (s.modChan c f).chain = s.chain := rfl
@[simp] theorem modChan_safe (c : Nat) (f : Chan → Chan) : (s.modChan c f).safe = s.safe := rfl
@[simp] theorem modChan_hk (c : Nat) (f : Chan → Chan) : (s.modChan c f).hk = s.hk := rfl
@[simp] theorem modChan_mon (c : Nat) (f : Chan → Chan) : (s.modChan c f).mon = s.mon := rfl
@[simp] theorem modChan_out (c : Nat) (f : Chan → Chan) : (s.modChan c f).out = s.out := rfl
/-- The changed entry. -/
@[simp] theorem modChan_chan_same (c : Nat) (f : Chan → Chan) : (s.modChan c f).chan c = f (s.chan c) := tget_tmod_same _ _ _ _
/-- Every other entry stays. -/
theorem modChan_chan_other (c : Nat) (f : Chan → Chan) (j : Nat) (h : j ≠ c) : (s.modChan c f).chan j = s.chan j := tget_tmod_other _ _ _ _ _ h
/-- A change that does the same to its entry is the same change. -/
theorem modChan_congr (c : Nat) (f : Chan → Chan) (g : Chan → Chan) (h : f (s.chan c) = g (s.chan c)) : s.modChan c f = s.modChan c g := by
  unfold State.modChan; rw [tmod_congr _ _ _ f g h]

/-! ### modTile -/

@[simp] theorem modTile_pending (t : Nat) (f : Tile → Tile) : (s.modTile t f).pending = s.pending := rfl
@[simp] theorem modTile_clk (t : Nat) (f : Tile → Tile) : (s.modTile t f).clk = s.clk := rfl
@[simp] theorem modTile_ct (t : Nat) (f : Tile → Tile) : (s.modTile t f).ct = s.ct := rfl
@[simp] theorem modTile_slew (t : Nat) (f : Tile → Tile) : (s.modTile t f).slew = s.slew := rfl
@[simp] theorem modTile_free (t : Nat) (f : Tile → Tile) : (s.modTile t f).free = s.free := rfl
@[simp] theorem modTile_life (t : Nat) (f : Tile → Tile) : (s.modTile t f).life = s.life := rfl
@[simp] theorem modTile_power (t : Nat) (f : Tile → Tile) : (s.modTile t f).power = s.power := rfl
@[simp] theorem modTile_otp (t : Nat) (f : Tile → Tile) : (s.modTile t f).otp = s.otp := rfl
@[simp] theorem modTile_flash (t : Nat) (f : Tile → Tile) : (s.modTile t f).flash = s.flash := rfl
@[simp] theorem modTile_jobs (t : Nat) (f : Tile → Tile) : (s.modTile t f).jobs = s.jobs := rfl
@[simp] theorem modTile_hostA (t : Nat) (f : Tile → Tile) : (s.modTile t f).hostA = s.hostA := rfl
@[simp] theorem modTile_hostB (t : Nat) (f : Tile → Tile) : (s.modTile t f).hostB = s.hostB := rfl
@[simp] theorem modTile_sems (t : Nat) (f : Tile → Tile) : (s.modTile t f).sems = s.sems := rfl
@[simp] theorem modTile_auths (t : Nat) (f : Tile → Tile) : (s.modTile t f).auths = s.auths := rfl
@[simp] theorem modTile_xfers (t : Nat) (f : Tile → Tile) : (s.modTile t f).xfers = s.xfers := rfl
@[simp] theorem modTile_remote (t : Nat) (f : Tile → Tile) : (s.modTile t f).remote = s.remote := rfl
@[simp] theorem modTile_mapPort (t : Nat) (f : Tile → Tile) : (s.modTile t f).mapPort = s.mapPort := rfl
@[simp] theorem modTile_map (t : Nat) (f : Tile → Tile) : (s.modTile t f).map = s.map := rfl
@[simp] theorem modTile_prio (t : Nat) (f : Tile → Tile) : (s.modTile t f).prio = s.prio := rfl
@[simp] theorem modTile_early (t : Nat) (f : Tile → Tile) : (s.modTile t f).early = s.early := rfl
@[simp] theorem modTile_faults (t : Nat) (f : Tile → Tile) : (s.modTile t f).faults = s.faults := rfl
@[simp] theorem modTile_mode (t : Nat) (f : Tile → Tile) : (s.modTile t f).mode = s.mode := rfl
@[simp] theorem modTile_emit (t : Nat) (f : Tile → Tile) : (s.modTile t f).emit = s.emit := rfl
@[simp] theorem modTile_scan (t : Nat) (f : Tile → Tile) : (s.modTile t f).scan = s.scan := rfl
@[simp] theorem modTile_sched (t : Nat) (f : Tile → Tile) : (s.modTile t f).sched = s.sched := rfl
@[simp] theorem modTile_chain (t : Nat) (f : Tile → Tile) : (s.modTile t f).chain = s.chain := rfl
@[simp] theorem modTile_safe (t : Nat) (f : Tile → Tile) : (s.modTile t f).safe = s.safe := rfl
@[simp] theorem modTile_hk (t : Nat) (f : Tile → Tile) : (s.modTile t f).hk = s.hk := rfl
@[simp] theorem modTile_mon (t : Nat) (f : Tile → Tile) : (s.modTile t f).mon = s.mon := rfl
@[simp] theorem modTile_out (t : Nat) (f : Tile → Tile) : (s.modTile t f).out = s.out := rfl
/-- The changed entry. -/
@[simp] theorem modTile_tile_same (t : Nat) (f : Tile → Tile) : (s.modTile t f).tile t = f (s.tile t) := tget_tmod_same _ _ _ _
/-- Every other entry stays. -/
theorem modTile_tile_other (t : Nat) (f : Tile → Tile) (j : Nat) (h : j ≠ t) : (s.modTile t f).tile j = s.tile j := tget_tmod_other _ _ _ _ _ h
/-- A change that does the same to its entry is the same change. -/
theorem modTile_congr (t : Nat) (f : Tile → Tile) (g : Tile → Tile) (h : f (s.tile t) = g (s.tile t)) : s.modTile t f = s.modTile t g := by
  unfold State.modTile; rw [tmod_congr _ _ _ f g h]

/-! ### modEng -/

@[simp] theorem modEng_pending (e : Nat) (f : Eng → Eng) : (s.modEng e f).pending = s.pending := rfl
@[simp] theorem modEng_clk (e : Nat) (f : Eng → Eng) : (s.modEng e f).clk = s.clk := rfl
@[simp] theorem modEng_ct (e : Nat) (f : Eng → Eng) : (s.modEng e f).ct = s.ct := rfl
@[simp] theorem modEng_slew (e : Nat) (f : Eng → Eng) : (s.modEng e f).slew = s.slew := rfl
@[simp] theorem modEng_free (e : Nat) (f : Eng → Eng) : (s.modEng e f).free = s.free := rfl
@[simp] theorem modEng_life (e : Nat) (f : Eng → Eng) : (s.modEng e f).life = s.life := rfl
@[simp] theorem modEng_power (e : Nat) (f : Eng → Eng) : (s.modEng e f).power = s.power := rfl
@[simp] theorem modEng_otp (e : Nat) (f : Eng → Eng) : (s.modEng e f).otp = s.otp := rfl
@[simp] theorem modEng_flash (e : Nat) (f : Eng → Eng) : (s.modEng e f).flash = s.flash := rfl
@[simp] theorem modEng_jobs (e : Nat) (f : Eng → Eng) : (s.modEng e f).jobs = s.jobs := rfl
@[simp] theorem modEng_hostA (e : Nat) (f : Eng → Eng) : (s.modEng e f).hostA = s.hostA := rfl
@[simp] theorem modEng_hostB (e : Nat) (f : Eng → Eng) : (s.modEng e f).hostB = s.hostB := rfl
@[simp] theorem modEng_sems (e : Nat) (f : Eng → Eng) : (s.modEng e f).sems = s.sems := rfl
@[simp] theorem modEng_auths (e : Nat) (f : Eng → Eng) : (s.modEng e f).auths = s.auths := rfl
@[simp] theorem modEng_xfers (e : Nat) (f : Eng → Eng) : (s.modEng e f).xfers = s.xfers := rfl
@[simp] theorem modEng_remote (e : Nat) (f : Eng → Eng) : (s.modEng e f).remote = s.remote := rfl
@[simp] theorem modEng_mapPort (e : Nat) (f : Eng → Eng) : (s.modEng e f).mapPort = s.mapPort := rfl
@[simp] theorem modEng_map (e : Nat) (f : Eng → Eng) : (s.modEng e f).map = s.map := rfl
@[simp] theorem modEng_prio (e : Nat) (f : Eng → Eng) : (s.modEng e f).prio = s.prio := rfl
@[simp] theorem modEng_early (e : Nat) (f : Eng → Eng) : (s.modEng e f).early = s.early := rfl
@[simp] theorem modEng_faults (e : Nat) (f : Eng → Eng) : (s.modEng e f).faults = s.faults := rfl
@[simp] theorem modEng_mode (e : Nat) (f : Eng → Eng) : (s.modEng e f).mode = s.mode := rfl
@[simp] theorem modEng_front (e : Nat) (f : Eng → Eng) : (s.modEng e f).front = s.front := rfl
@[simp] theorem modEng_emit (e : Nat) (f : Eng → Eng) : (s.modEng e f).emit = s.emit := rfl
@[simp] theorem modEng_scan (e : Nat) (f : Eng → Eng) : (s.modEng e f).scan = s.scan := rfl
@[simp] theorem modEng_chain (e : Nat) (f : Eng → Eng) : (s.modEng e f).chain = s.chain := rfl
@[simp] theorem modEng_safe (e : Nat) (f : Eng → Eng) : (s.modEng e f).safe = s.safe := rfl
@[simp] theorem modEng_hk (e : Nat) (f : Eng → Eng) : (s.modEng e f).hk = s.hk := rfl
@[simp] theorem modEng_mon (e : Nat) (f : Eng → Eng) : (s.modEng e f).mon = s.mon := rfl
@[simp] theorem modEng_out (e : Nat) (f : Eng → Eng) : (s.modEng e f).out = s.out := rfl
/-- The changed entry. -/
@[simp] theorem modEng_eng_same (e : Nat) (f : Eng → Eng) : (s.modEng e f).eng e = f (s.eng e) := tget_tmod_same _ _ _ _
/-- Every other entry stays. -/
theorem modEng_eng_other (e : Nat) (f : Eng → Eng) (j : Nat) (h : j ≠ e) : (s.modEng e f).eng j = s.eng j := tget_tmod_other _ _ _ _ _ h
/-- A change that does the same to its entry is the same change. -/
theorem modEng_congr (e : Nat) (f : Eng → Eng) (g : Eng → Eng) (h : f (s.eng e) = g (s.eng e)) : s.modEng e f = s.modEng e g := by
  unfold State.modEng; rw [tmod_congr _ _ _ f g h]

/-! ### modSector -/

@[simp] theorem modSector_pending (k : Nat) (f : Sector → Sector) : (s.modSector k f).pending = s.pending := rfl
@[simp] theorem modSector_clk (k : Nat) (f : Sector → Sector) : (s.modSector k f).clk = s.clk := rfl
@[simp] theorem modSector_ct (k : Nat) (f : Sector → Sector) : (s.modSector k f).ct = s.ct := rfl
@[simp] theorem modSector_slew (k : Nat) (f : Sector → Sector) : (s.modSector k f).slew = s.slew := rfl
@[simp] theorem modSector_free (k : Nat) (f : Sector → Sector) : (s.modSector k f).free = s.free := rfl
@[simp] theorem modSector_life (k : Nat) (f : Sector → Sector) : (s.modSector k f).life = s.life := rfl
@[simp] theorem modSector_power (k : Nat) (f : Sector → Sector) : (s.modSector k f).power = s.power := rfl
@[simp] theorem modSector_otp (k : Nat) (f : Sector → Sector) : (s.modSector k f).otp = s.otp := rfl
@[simp] theorem modSector_flash (k : Nat) (f : Sector → Sector) : (s.modSector k f).flash = s.flash := rfl
@[simp] theorem modSector_jobs (k : Nat) (f : Sector → Sector) : (s.modSector k f).jobs = s.jobs := rfl
@[simp] theorem modSector_hostA (k : Nat) (f : Sector → Sector) : (s.modSector k f).hostA = s.hostA := rfl
@[simp] theorem modSector_hostB (k : Nat) (f : Sector → Sector) : (s.modSector k f).hostB = s.hostB := rfl
@[simp] theorem modSector_sems (k : Nat) (f : Sector → Sector) : (s.modSector k f).sems = s.sems := rfl
@[simp] theorem modSector_auths (k : Nat) (f : Sector → Sector) : (s.modSector k f).auths = s.auths := rfl
@[simp] theorem modSector_xfers (k : Nat) (f : Sector → Sector) : (s.modSector k f).xfers = s.xfers := rfl
@[simp] theorem modSector_remote (k : Nat) (f : Sector → Sector) : (s.modSector k f).remote = s.remote := rfl
@[simp] theorem modSector_mapPort (k : Nat) (f : Sector → Sector) : (s.modSector k f).mapPort = s.mapPort := rfl
@[simp] theorem modSector_map (k : Nat) (f : Sector → Sector) : (s.modSector k f).map = s.map := rfl
@[simp] theorem modSector_prio (k : Nat) (f : Sector → Sector) : (s.modSector k f).prio = s.prio := rfl
@[simp] theorem modSector_early (k : Nat) (f : Sector → Sector) : (s.modSector k f).early = s.early := rfl
@[simp] theorem modSector_faults (k : Nat) (f : Sector → Sector) : (s.modSector k f).faults = s.faults := rfl
@[simp] theorem modSector_mode (k : Nat) (f : Sector → Sector) : (s.modSector k f).mode = s.mode := rfl
@[simp] theorem modSector_front (k : Nat) (f : Sector → Sector) : (s.modSector k f).front = s.front := rfl
@[simp] theorem modSector_emit (k : Nat) (f : Sector → Sector) : (s.modSector k f).emit = s.emit := rfl
@[simp] theorem modSector_scan (k : Nat) (f : Sector → Sector) : (s.modSector k f).scan = s.scan := rfl
@[simp] theorem modSector_chain (k : Nat) (f : Sector → Sector) : (s.modSector k f).chain = s.chain := rfl
@[simp] theorem modSector_safe (k : Nat) (f : Sector → Sector) : (s.modSector k f).safe = s.safe := rfl
@[simp] theorem modSector_hk (k : Nat) (f : Sector → Sector) : (s.modSector k f).hk = s.hk := rfl
@[simp] theorem modSector_mon (k : Nat) (f : Sector → Sector) : (s.modSector k f).mon = s.mon := rfl
@[simp] theorem modSector_out (k : Nat) (f : Sector → Sector) : (s.modSector k f).out = s.out := rfl
/-- The changed entry. -/
@[simp] theorem modSector_sector_same (k : Nat) (f : Sector → Sector) : (s.modSector k f).sector k = f (s.sector k) := tget_tmod_same _ _ _ _
/-- Every other entry stays. -/
theorem modSector_sector_other (k : Nat) (f : Sector → Sector) (j : Nat) (h : j ≠ k) : (s.modSector k f).sector j = s.sector j := tget_tmod_other _ _ _ _ _ h
/-- A change that does the same to its entry is the same change. -/
theorem modSector_congr (k : Nat) (f : Sector → Sector) (g : Sector → Sector) (h : f (s.sector k) = g (s.sector k)) : s.modSector k f = s.modSector k g := by
  unfold State.modSector; rw [tmod_congr _ _ _ f g h]

/-! ### modOut -/

@[simp] theorem modOut_pending (k : Nat) (f : SafeOut → SafeOut) : (s.modOut k f).pending = s.pending := rfl
@[simp] theorem modOut_clk (k : Nat) (f : SafeOut → SafeOut) : (s.modOut k f).clk = s.clk := rfl
@[simp] theorem modOut_ct (k : Nat) (f : SafeOut → SafeOut) : (s.modOut k f).ct = s.ct := rfl
@[simp] theorem modOut_slew (k : Nat) (f : SafeOut → SafeOut) : (s.modOut k f).slew = s.slew := rfl
@[simp] theorem modOut_free (k : Nat) (f : SafeOut → SafeOut) : (s.modOut k f).free = s.free := rfl
@[simp] theorem modOut_life (k : Nat) (f : SafeOut → SafeOut) : (s.modOut k f).life = s.life := rfl
@[simp] theorem modOut_power (k : Nat) (f : SafeOut → SafeOut) : (s.modOut k f).power = s.power := rfl
@[simp] theorem modOut_otp (k : Nat) (f : SafeOut → SafeOut) : (s.modOut k f).otp = s.otp := rfl
@[simp] theorem modOut_flash (k : Nat) (f : SafeOut → SafeOut) : (s.modOut k f).flash = s.flash := rfl
@[simp] theorem modOut_jobs (k : Nat) (f : SafeOut → SafeOut) : (s.modOut k f).jobs = s.jobs := rfl
@[simp] theorem modOut_hostA (k : Nat) (f : SafeOut → SafeOut) : (s.modOut k f).hostA = s.hostA := rfl
@[simp] theorem modOut_hostB (k : Nat) (f : SafeOut → SafeOut) : (s.modOut k f).hostB = s.hostB := rfl
@[simp] theorem modOut_sems (k : Nat) (f : SafeOut → SafeOut) : (s.modOut k f).sems = s.sems := rfl
@[simp] theorem modOut_auths (k : Nat) (f : SafeOut → SafeOut) : (s.modOut k f).auths = s.auths := rfl
@[simp] theorem modOut_xfers (k : Nat) (f : SafeOut → SafeOut) : (s.modOut k f).xfers = s.xfers := rfl
@[simp] theorem modOut_remote (k : Nat) (f : SafeOut → SafeOut) : (s.modOut k f).remote = s.remote := rfl
@[simp] theorem modOut_mapPort (k : Nat) (f : SafeOut → SafeOut) : (s.modOut k f).mapPort = s.mapPort := rfl
@[simp] theorem modOut_map (k : Nat) (f : SafeOut → SafeOut) : (s.modOut k f).map = s.map := rfl
@[simp] theorem modOut_prio (k : Nat) (f : SafeOut → SafeOut) : (s.modOut k f).prio = s.prio := rfl
@[simp] theorem modOut_early (k : Nat) (f : SafeOut → SafeOut) : (s.modOut k f).early = s.early := rfl
@[simp] theorem modOut_faults (k : Nat) (f : SafeOut → SafeOut) : (s.modOut k f).faults = s.faults := rfl
@[simp] theorem modOut_mode (k : Nat) (f : SafeOut → SafeOut) : (s.modOut k f).mode = s.mode := rfl
@[simp] theorem modOut_front (k : Nat) (f : SafeOut → SafeOut) : (s.modOut k f).front = s.front := rfl
@[simp] theorem modOut_emit (k : Nat) (f : SafeOut → SafeOut) : (s.modOut k f).emit = s.emit := rfl
@[simp] theorem modOut_scan (k : Nat) (f : SafeOut → SafeOut) : (s.modOut k f).scan = s.scan := rfl
@[simp] theorem modOut_sched (k : Nat) (f : SafeOut → SafeOut) : (s.modOut k f).sched = s.sched := rfl
@[simp] theorem modOut_chain (k : Nat) (f : SafeOut → SafeOut) : (s.modOut k f).chain = s.chain := rfl
@[simp] theorem modOut_hk (k : Nat) (f : SafeOut → SafeOut) : (s.modOut k f).hk = s.hk := rfl
@[simp] theorem modOut_mon (k : Nat) (f : SafeOut → SafeOut) : (s.modOut k f).mon = s.mon := rfl
@[simp] theorem modOut_out (k : Nat) (f : SafeOut → SafeOut) : (s.modOut k f).out = s.out := rfl
/-- The changed entry. -/
@[simp] theorem modOut_outp_same (k : Nat) (f : SafeOut → SafeOut) : (s.modOut k f).outp k = f (s.outp k) := tget_tmod_same _ _ _ _
/-- Every other entry stays. -/
theorem modOut_outp_other (k : Nat) (f : SafeOut → SafeOut) (j : Nat) (h : j ≠ k) : (s.modOut k f).outp j = s.outp j := tget_tmod_other _ _ _ _ _ h
/-- A change that does the same to its entry is the same change. -/
theorem modOut_congr (k : Nat) (f : SafeOut → SafeOut) (g : SafeOut → SafeOut) (h : f (s.outp k) = g (s.outp k)) : s.modOut k f = s.modOut k g := by
  unfold State.modOut; rw [tmod_congr _ _ _ f g h]

/-! ### modHkc -/

@[simp] theorem modHkc_pending (c : Nat) (f : HkChan → HkChan) : (s.modHkc c f).pending = s.pending := rfl
@[simp] theorem modHkc_clk (c : Nat) (f : HkChan → HkChan) : (s.modHkc c f).clk = s.clk := rfl
@[simp] theorem modHkc_ct (c : Nat) (f : HkChan → HkChan) : (s.modHkc c f).ct = s.ct := rfl
@[simp] theorem modHkc_slew (c : Nat) (f : HkChan → HkChan) : (s.modHkc c f).slew = s.slew := rfl
@[simp] theorem modHkc_free (c : Nat) (f : HkChan → HkChan) : (s.modHkc c f).free = s.free := rfl
@[simp] theorem modHkc_life (c : Nat) (f : HkChan → HkChan) : (s.modHkc c f).life = s.life := rfl
@[simp] theorem modHkc_power (c : Nat) (f : HkChan → HkChan) : (s.modHkc c f).power = s.power := rfl
@[simp] theorem modHkc_otp (c : Nat) (f : HkChan → HkChan) : (s.modHkc c f).otp = s.otp := rfl
@[simp] theorem modHkc_flash (c : Nat) (f : HkChan → HkChan) : (s.modHkc c f).flash = s.flash := rfl
@[simp] theorem modHkc_jobs (c : Nat) (f : HkChan → HkChan) : (s.modHkc c f).jobs = s.jobs := rfl
@[simp] theorem modHkc_hostA (c : Nat) (f : HkChan → HkChan) : (s.modHkc c f).hostA = s.hostA := rfl
@[simp] theorem modHkc_hostB (c : Nat) (f : HkChan → HkChan) : (s.modHkc c f).hostB = s.hostB := rfl
@[simp] theorem modHkc_sems (c : Nat) (f : HkChan → HkChan) : (s.modHkc c f).sems = s.sems := rfl
@[simp] theorem modHkc_auths (c : Nat) (f : HkChan → HkChan) : (s.modHkc c f).auths = s.auths := rfl
@[simp] theorem modHkc_xfers (c : Nat) (f : HkChan → HkChan) : (s.modHkc c f).xfers = s.xfers := rfl
@[simp] theorem modHkc_remote (c : Nat) (f : HkChan → HkChan) : (s.modHkc c f).remote = s.remote := rfl
@[simp] theorem modHkc_mapPort (c : Nat) (f : HkChan → HkChan) : (s.modHkc c f).mapPort = s.mapPort := rfl
@[simp] theorem modHkc_map (c : Nat) (f : HkChan → HkChan) : (s.modHkc c f).map = s.map := rfl
@[simp] theorem modHkc_prio (c : Nat) (f : HkChan → HkChan) : (s.modHkc c f).prio = s.prio := rfl
@[simp] theorem modHkc_early (c : Nat) (f : HkChan → HkChan) : (s.modHkc c f).early = s.early := rfl
@[simp] theorem modHkc_faults (c : Nat) (f : HkChan → HkChan) : (s.modHkc c f).faults = s.faults := rfl
@[simp] theorem modHkc_mode (c : Nat) (f : HkChan → HkChan) : (s.modHkc c f).mode = s.mode := rfl
@[simp] theorem modHkc_front (c : Nat) (f : HkChan → HkChan) : (s.modHkc c f).front = s.front := rfl
@[simp] theorem modHkc_emit (c : Nat) (f : HkChan → HkChan) : (s.modHkc c f).emit = s.emit := rfl
@[simp] theorem modHkc_scan (c : Nat) (f : HkChan → HkChan) : (s.modHkc c f).scan = s.scan := rfl
@[simp] theorem modHkc_sched (c : Nat) (f : HkChan → HkChan) : (s.modHkc c f).sched = s.sched := rfl
@[simp] theorem modHkc_chain (c : Nat) (f : HkChan → HkChan) : (s.modHkc c f).chain = s.chain := rfl
@[simp] theorem modHkc_safe (c : Nat) (f : HkChan → HkChan) : (s.modHkc c f).safe = s.safe := rfl
@[simp] theorem modHkc_mon (c : Nat) (f : HkChan → HkChan) : (s.modHkc c f).mon = s.mon := rfl
@[simp] theorem modHkc_out (c : Nat) (f : HkChan → HkChan) : (s.modHkc c f).out = s.out := rfl
/-- The changed entry. -/
@[simp] theorem modHkc_hkc_same (c : Nat) (f : HkChan → HkChan) : (s.modHkc c f).hkc c = f (s.hkc c) := tget_tmod_same _ _ _ _
/-- Every other entry stays. -/
theorem modHkc_hkc_other (c : Nat) (f : HkChan → HkChan) (j : Nat) (h : j ≠ c) : (s.modHkc c f).hkc j = s.hkc j := tget_tmod_other _ _ _ _ _ h
/-- A change that does the same to its entry is the same change. -/
theorem modHkc_congr (c : Nat) (f : HkChan → HkChan) (g : HkChan → HkChan) (h : f (s.hkc c) = g (s.hkc c)) : s.modHkc c f = s.modHkc c g := by
  unfold State.modHkc; rw [tmod_congr _ _ _ f g h]

/-! ### modRport -/

@[simp] theorem modRport_pending (q : Nat) (f : RidgePort → RidgePort) : (s.modRport q f).pending = s.pending := rfl
@[simp] theorem modRport_clk (q : Nat) (f : RidgePort → RidgePort) : (s.modRport q f).clk = s.clk := rfl
@[simp] theorem modRport_ct (q : Nat) (f : RidgePort → RidgePort) : (s.modRport q f).ct = s.ct := rfl
@[simp] theorem modRport_slew (q : Nat) (f : RidgePort → RidgePort) : (s.modRport q f).slew = s.slew := rfl
@[simp] theorem modRport_free (q : Nat) (f : RidgePort → RidgePort) : (s.modRport q f).free = s.free := rfl
@[simp] theorem modRport_life (q : Nat) (f : RidgePort → RidgePort) : (s.modRport q f).life = s.life := rfl
@[simp] theorem modRport_power (q : Nat) (f : RidgePort → RidgePort) : (s.modRport q f).power = s.power := rfl
@[simp] theorem modRport_otp (q : Nat) (f : RidgePort → RidgePort) : (s.modRport q f).otp = s.otp := rfl
@[simp] theorem modRport_flash (q : Nat) (f : RidgePort → RidgePort) : (s.modRport q f).flash = s.flash := rfl
@[simp] theorem modRport_jobs (q : Nat) (f : RidgePort → RidgePort) : (s.modRport q f).jobs = s.jobs := rfl
@[simp] theorem modRport_hostA (q : Nat) (f : RidgePort → RidgePort) : (s.modRport q f).hostA = s.hostA := rfl
@[simp] theorem modRport_hostB (q : Nat) (f : RidgePort → RidgePort) : (s.modRport q f).hostB = s.hostB := rfl
@[simp] theorem modRport_sems (q : Nat) (f : RidgePort → RidgePort) : (s.modRport q f).sems = s.sems := rfl
@[simp] theorem modRport_auths (q : Nat) (f : RidgePort → RidgePort) : (s.modRport q f).auths = s.auths := rfl
@[simp] theorem modRport_xfers (q : Nat) (f : RidgePort → RidgePort) : (s.modRport q f).xfers = s.xfers := rfl
@[simp] theorem modRport_remote (q : Nat) (f : RidgePort → RidgePort) : (s.modRport q f).remote = s.remote := rfl
@[simp] theorem modRport_mapPort (q : Nat) (f : RidgePort → RidgePort) : (s.modRport q f).mapPort = s.mapPort := rfl
@[simp] theorem modRport_map (q : Nat) (f : RidgePort → RidgePort) : (s.modRport q f).map = s.map := rfl
@[simp] theorem modRport_prio (q : Nat) (f : RidgePort → RidgePort) : (s.modRport q f).prio = s.prio := rfl
@[simp] theorem modRport_early (q : Nat) (f : RidgePort → RidgePort) : (s.modRport q f).early = s.early := rfl
@[simp] theorem modRport_faults (q : Nat) (f : RidgePort → RidgePort) : (s.modRport q f).faults = s.faults := rfl
@[simp] theorem modRport_mode (q : Nat) (f : RidgePort → RidgePort) : (s.modRport q f).mode = s.mode := rfl
@[simp] theorem modRport_front (q : Nat) (f : RidgePort → RidgePort) : (s.modRport q f).front = s.front := rfl
@[simp] theorem modRport_emit (q : Nat) (f : RidgePort → RidgePort) : (s.modRport q f).emit = s.emit := rfl
@[simp] theorem modRport_scan (q : Nat) (f : RidgePort → RidgePort) : (s.modRport q f).scan = s.scan := rfl
@[simp] theorem modRport_sched (q : Nat) (f : RidgePort → RidgePort) : (s.modRport q f).sched = s.sched := rfl
@[simp] theorem modRport_safe (q : Nat) (f : RidgePort → RidgePort) : (s.modRport q f).safe = s.safe := rfl
@[simp] theorem modRport_hk (q : Nat) (f : RidgePort → RidgePort) : (s.modRport q f).hk = s.hk := rfl
@[simp] theorem modRport_mon (q : Nat) (f : RidgePort → RidgePort) : (s.modRport q f).mon = s.mon := rfl
@[simp] theorem modRport_out (q : Nat) (f : RidgePort → RidgePort) : (s.modRport q f).out = s.out := rfl
/-- The changed entry. -/
@[simp] theorem modRport_rport_same (q : Nat) (f : RidgePort → RidgePort) : (s.modRport q f).rport q = f (s.rport q) := tget_tmod_same _ _ _ _
/-- Every other entry stays. -/
theorem modRport_rport_other (q : Nat) (f : RidgePort → RidgePort) (j : Nat) (h : j ≠ q) : (s.modRport q f).rport j = s.rport j := tget_tmod_other _ _ _ _ _ h
/-- A change that does the same to its entry is the same change. -/
theorem modRport_congr (q : Nat) (f : RidgePort → RidgePort) (g : RidgePort → RidgePort) (h : f (s.rport q) = g (s.rport q)) : s.modRport q f = s.modRport q g := by
  unfold State.modRport; rw [tmod_congr _ _ _ f g h]

/-! ### Ports -/

@[simp] theorem setPort_pending (p : HostPort) (h : HostSt) : (s.setPort p h).pending = s.pending := by cases p <;> rfl
@[simp] theorem setPort_clk (p : HostPort) (h : HostSt) : (s.setPort p h).clk = s.clk := by cases p <;> rfl
@[simp] theorem setPort_ct (p : HostPort) (h : HostSt) : (s.setPort p h).ct = s.ct := by cases p <;> rfl
@[simp] theorem setPort_slew (p : HostPort) (h : HostSt) : (s.setPort p h).slew = s.slew := by cases p <;> rfl
@[simp] theorem setPort_free (p : HostPort) (h : HostSt) : (s.setPort p h).free = s.free := by cases p <;> rfl
@[simp] theorem setPort_life (p : HostPort) (h : HostSt) : (s.setPort p h).life = s.life := by cases p <;> rfl
@[simp] theorem setPort_power (p : HostPort) (h : HostSt) : (s.setPort p h).power = s.power := by cases p <;> rfl
@[simp] theorem setPort_otp (p : HostPort) (h : HostSt) : (s.setPort p h).otp = s.otp := by cases p <;> rfl
@[simp] theorem setPort_flash (p : HostPort) (h : HostSt) : (s.setPort p h).flash = s.flash := by cases p <;> rfl
@[simp] theorem setPort_jobs (p : HostPort) (h : HostSt) : (s.setPort p h).jobs = s.jobs := by cases p <;> rfl
@[simp] theorem setPort_sems (p : HostPort) (h : HostSt) : (s.setPort p h).sems = s.sems := by cases p <;> rfl
@[simp] theorem setPort_auths (p : HostPort) (h : HostSt) : (s.setPort p h).auths = s.auths := by cases p <;> rfl
@[simp] theorem setPort_xfers (p : HostPort) (h : HostSt) : (s.setPort p h).xfers = s.xfers := by cases p <;> rfl
@[simp] theorem setPort_remote (p : HostPort) (h : HostSt) : (s.setPort p h).remote = s.remote := by cases p <;> rfl
@[simp] theorem setPort_mapPort (p : HostPort) (h : HostSt) : (s.setPort p h).mapPort = s.mapPort := by cases p <;> rfl
@[simp] theorem setPort_map (p : HostPort) (h : HostSt) : (s.setPort p h).map = s.map := by cases p <;> rfl
@[simp] theorem setPort_prio (p : HostPort) (h : HostSt) : (s.setPort p h).prio = s.prio := by cases p <;> rfl
@[simp] theorem setPort_early (p : HostPort) (h : HostSt) : (s.setPort p h).early = s.early := by cases p <;> rfl
@[simp] theorem setPort_faults (p : HostPort) (h : HostSt) : (s.setPort p h).faults = s.faults := by cases p <;> rfl
@[simp] theorem setPort_mode (p : HostPort) (h : HostSt) : (s.setPort p h).mode = s.mode := by cases p <;> rfl
@[simp] theorem setPort_front (p : HostPort) (h : HostSt) : (s.setPort p h).front = s.front := by cases p <;> rfl
@[simp] theorem setPort_emit (p : HostPort) (h : HostSt) : (s.setPort p h).emit = s.emit := by cases p <;> rfl
@[simp] theorem setPort_scan (p : HostPort) (h : HostSt) : (s.setPort p h).scan = s.scan := by cases p <;> rfl
@[simp] theorem setPort_sched (p : HostPort) (h : HostSt) : (s.setPort p h).sched = s.sched := by cases p <;> rfl
@[simp] theorem setPort_chain (p : HostPort) (h : HostSt) : (s.setPort p h).chain = s.chain := by cases p <;> rfl
@[simp] theorem setPort_safe (p : HostPort) (h : HostSt) : (s.setPort p h).safe = s.safe := by cases p <;> rfl
@[simp] theorem setPort_hk (p : HostPort) (h : HostSt) : (s.setPort p h).hk = s.hk := by cases p <;> rfl
@[simp] theorem setPort_mon (p : HostPort) (h : HostSt) : (s.setPort p h).mon = s.mon := by cases p <;> rfl
@[simp] theorem setPort_out (p : HostPort) (h : HostSt) : (s.setPort p h).out = s.out := by cases p <;> rfl
@[simp] theorem modPort_pending (p : HostPort) (f : HostSt → HostSt) : (s.modPort p f).pending = s.pending := by cases p <;> rfl
@[simp] theorem modPort_clk (p : HostPort) (f : HostSt → HostSt) : (s.modPort p f).clk = s.clk := by cases p <;> rfl
@[simp] theorem modPort_ct (p : HostPort) (f : HostSt → HostSt) : (s.modPort p f).ct = s.ct := by cases p <;> rfl
@[simp] theorem modPort_slew (p : HostPort) (f : HostSt → HostSt) : (s.modPort p f).slew = s.slew := by cases p <;> rfl
@[simp] theorem modPort_free (p : HostPort) (f : HostSt → HostSt) : (s.modPort p f).free = s.free := by cases p <;> rfl
@[simp] theorem modPort_life (p : HostPort) (f : HostSt → HostSt) : (s.modPort p f).life = s.life := by cases p <;> rfl
@[simp] theorem modPort_power (p : HostPort) (f : HostSt → HostSt) : (s.modPort p f).power = s.power := by cases p <;> rfl
@[simp] theorem modPort_otp (p : HostPort) (f : HostSt → HostSt) : (s.modPort p f).otp = s.otp := by cases p <;> rfl
@[simp] theorem modPort_flash (p : HostPort) (f : HostSt → HostSt) : (s.modPort p f).flash = s.flash := by cases p <;> rfl
@[simp] theorem modPort_jobs (p : HostPort) (f : HostSt → HostSt) : (s.modPort p f).jobs = s.jobs := by cases p <;> rfl
@[simp] theorem modPort_sems (p : HostPort) (f : HostSt → HostSt) : (s.modPort p f).sems = s.sems := by cases p <;> rfl
@[simp] theorem modPort_auths (p : HostPort) (f : HostSt → HostSt) : (s.modPort p f).auths = s.auths := by cases p <;> rfl
@[simp] theorem modPort_xfers (p : HostPort) (f : HostSt → HostSt) : (s.modPort p f).xfers = s.xfers := by cases p <;> rfl
@[simp] theorem modPort_remote (p : HostPort) (f : HostSt → HostSt) : (s.modPort p f).remote = s.remote := by cases p <;> rfl
@[simp] theorem modPort_mapPort (p : HostPort) (f : HostSt → HostSt) : (s.modPort p f).mapPort = s.mapPort := by cases p <;> rfl
@[simp] theorem modPort_map (p : HostPort) (f : HostSt → HostSt) : (s.modPort p f).map = s.map := by cases p <;> rfl
@[simp] theorem modPort_prio (p : HostPort) (f : HostSt → HostSt) : (s.modPort p f).prio = s.prio := by cases p <;> rfl
@[simp] theorem modPort_early (p : HostPort) (f : HostSt → HostSt) : (s.modPort p f).early = s.early := by cases p <;> rfl
@[simp] theorem modPort_faults (p : HostPort) (f : HostSt → HostSt) : (s.modPort p f).faults = s.faults := by cases p <;> rfl
@[simp] theorem modPort_mode (p : HostPort) (f : HostSt → HostSt) : (s.modPort p f).mode = s.mode := by cases p <;> rfl
@[simp] theorem modPort_front (p : HostPort) (f : HostSt → HostSt) : (s.modPort p f).front = s.front := by cases p <;> rfl
@[simp] theorem modPort_emit (p : HostPort) (f : HostSt → HostSt) : (s.modPort p f).emit = s.emit := by cases p <;> rfl
@[simp] theorem modPort_scan (p : HostPort) (f : HostSt → HostSt) : (s.modPort p f).scan = s.scan := by cases p <;> rfl
@[simp] theorem modPort_sched (p : HostPort) (f : HostSt → HostSt) : (s.modPort p f).sched = s.sched := by cases p <;> rfl
@[simp] theorem modPort_chain (p : HostPort) (f : HostSt → HostSt) : (s.modPort p f).chain = s.chain := by cases p <;> rfl
@[simp] theorem modPort_safe (p : HostPort) (f : HostSt → HostSt) : (s.modPort p f).safe = s.safe := by cases p <;> rfl
@[simp] theorem modPort_hk (p : HostPort) (f : HostSt → HostSt) : (s.modPort p f).hk = s.hk := by cases p <;> rfl
@[simp] theorem modPort_mon (p : HostPort) (f : HostSt → HostSt) : (s.modPort p f).mon = s.mon := by cases p <;> rfl
@[simp] theorem modPort_out (p : HostPort) (f : HostSt → HostSt) : (s.modPort p f).out = s.out := by cases p <;> rfl
@[simp] theorem modMb_pending (p : HostPort) (m : Nat) (f : Mailbox → Mailbox) : (s.modMb p m f).pending = s.pending := by cases p <;> rfl
@[simp] theorem modMb_clk (p : HostPort) (m : Nat) (f : Mailbox → Mailbox) : (s.modMb p m f).clk = s.clk := by cases p <;> rfl
@[simp] theorem modMb_ct (p : HostPort) (m : Nat) (f : Mailbox → Mailbox) : (s.modMb p m f).ct = s.ct := by cases p <;> rfl
@[simp] theorem modMb_slew (p : HostPort) (m : Nat) (f : Mailbox → Mailbox) : (s.modMb p m f).slew = s.slew := by cases p <;> rfl
@[simp] theorem modMb_free (p : HostPort) (m : Nat) (f : Mailbox → Mailbox) : (s.modMb p m f).free = s.free := by cases p <;> rfl
@[simp] theorem modMb_life (p : HostPort) (m : Nat) (f : Mailbox → Mailbox) : (s.modMb p m f).life = s.life := by cases p <;> rfl
@[simp] theorem modMb_power (p : HostPort) (m : Nat) (f : Mailbox → Mailbox) : (s.modMb p m f).power = s.power := by cases p <;> rfl
@[simp] theorem modMb_otp (p : HostPort) (m : Nat) (f : Mailbox → Mailbox) : (s.modMb p m f).otp = s.otp := by cases p <;> rfl
@[simp] theorem modMb_flash (p : HostPort) (m : Nat) (f : Mailbox → Mailbox) : (s.modMb p m f).flash = s.flash := by cases p <;> rfl
@[simp] theorem modMb_jobs (p : HostPort) (m : Nat) (f : Mailbox → Mailbox) : (s.modMb p m f).jobs = s.jobs := by cases p <;> rfl
@[simp] theorem modMb_sems (p : HostPort) (m : Nat) (f : Mailbox → Mailbox) : (s.modMb p m f).sems = s.sems := by cases p <;> rfl
@[simp] theorem modMb_auths (p : HostPort) (m : Nat) (f : Mailbox → Mailbox) : (s.modMb p m f).auths = s.auths := by cases p <;> rfl
@[simp] theorem modMb_xfers (p : HostPort) (m : Nat) (f : Mailbox → Mailbox) : (s.modMb p m f).xfers = s.xfers := by cases p <;> rfl
@[simp] theorem modMb_remote (p : HostPort) (m : Nat) (f : Mailbox → Mailbox) : (s.modMb p m f).remote = s.remote := by cases p <;> rfl
@[simp] theorem modMb_mapPort (p : HostPort) (m : Nat) (f : Mailbox → Mailbox) : (s.modMb p m f).mapPort = s.mapPort := by cases p <;> rfl
@[simp] theorem modMb_map (p : HostPort) (m : Nat) (f : Mailbox → Mailbox) : (s.modMb p m f).map = s.map := by cases p <;> rfl
@[simp] theorem modMb_prio (p : HostPort) (m : Nat) (f : Mailbox → Mailbox) : (s.modMb p m f).prio = s.prio := by cases p <;> rfl
@[simp] theorem modMb_early (p : HostPort) (m : Nat) (f : Mailbox → Mailbox) : (s.modMb p m f).early = s.early := by cases p <;> rfl
@[simp] theorem modMb_faults (p : HostPort) (m : Nat) (f : Mailbox → Mailbox) : (s.modMb p m f).faults = s.faults := by cases p <;> rfl
@[simp] theorem modMb_mode (p : HostPort) (m : Nat) (f : Mailbox → Mailbox) : (s.modMb p m f).mode = s.mode := by cases p <;> rfl
@[simp] theorem modMb_front (p : HostPort) (m : Nat) (f : Mailbox → Mailbox) : (s.modMb p m f).front = s.front := by cases p <;> rfl
@[simp] theorem modMb_emit (p : HostPort) (m : Nat) (f : Mailbox → Mailbox) : (s.modMb p m f).emit = s.emit := by cases p <;> rfl
@[simp] theorem modMb_scan (p : HostPort) (m : Nat) (f : Mailbox → Mailbox) : (s.modMb p m f).scan = s.scan := by cases p <;> rfl
@[simp] theorem modMb_sched (p : HostPort) (m : Nat) (f : Mailbox → Mailbox) : (s.modMb p m f).sched = s.sched := by cases p <;> rfl
@[simp] theorem modMb_chain (p : HostPort) (m : Nat) (f : Mailbox → Mailbox) : (s.modMb p m f).chain = s.chain := by cases p <;> rfl
@[simp] theorem modMb_safe (p : HostPort) (m : Nat) (f : Mailbox → Mailbox) : (s.modMb p m f).safe = s.safe := by cases p <;> rfl
@[simp] theorem modMb_hk (p : HostPort) (m : Nat) (f : Mailbox → Mailbox) : (s.modMb p m f).hk = s.hk := by cases p <;> rfl
@[simp] theorem modMb_mon (p : HostPort) (m : Nat) (f : Mailbox → Mailbox) : (s.modMb p m f).mon = s.mon := by cases p <;> rfl
@[simp] theorem modMb_out (p : HostPort) (m : Nat) (f : Mailbox → Mailbox) : (s.modMb p m f).out = s.out := by cases p <;> rfl

/-- A port set is the port read. -/
@[simp] theorem setPort_port (p : HostPort) (h : HostSt) : (s.setPort p h).port p = h := by cases p <;> rfl

/-- A port changed is the port read. -/
@[simp] theorem modPort_port (p : HostPort) (f : HostSt → HostSt) : (s.modPort p f).port p = f (s.port p) := by cases p <;> rfl

/-- The other port stays. -/
theorem setPort_other (p q : HostPort) (h : HostSt) (hq : q ≠ p) : (s.setPort p h).port q = s.port q := by
  cases p <;> cases q <;> first | rfl | exact absurd rfl hq

/-- A mailbox changed is the mailbox read. -/
@[simp] theorem modMb_mb (p : HostPort) (m : Nat) (f : Mailbox → Mailbox) : (s.modMb p m f).mb p m = f (s.mb p m) := by
  cases p <;> exact tget_tmod_same _ _ _ _

end Sys2Proof.Laws
end

