-- ==== Sys2Proof/Laws/Report.lean ====
section
/-! SUPPORT. Reporting changes nothing but what reports: the host ports, the queues of the Chain, what has left the device, and the
fault records with their health monitors. -/

namespace Sys2Proof.Laws

open Sys2Proof Sys2Proof.Machine

/-- The state `t` is `s` but for what reports. -/
def Talks (s t : State) : Prop :=
  t = { s with hostA := t.hostA, hostB := t.hostB, chain := t.chain, out := t.out, faults := t.faults }

theorem talks_refl (s : State) : Talks s s := rfl

theorem talks_trans {s t u : State} (h : Talks s t) (k : Talks t u) : Talks s u := by
  unfold Talks at *
  rw [k]
  rw [h]

/-- A fold of reports reports. -/
theorem talks_foldl {β : Type} (f : State → β → State) (h : ∀ s b, Talks s (f s b)) (l : List β) (s : State) : Talks s (l.foldl f s) := by
  induction l generalizing s with
  | nil => exact talks_refl s
  | cons b l ih => exact talks_trans (h s b) (ih _)

theorem talks_say (s : State) (o : Out) : Talks s (s.say o) := rfl

theorem talks_setPort (s : State) (p : HostPort) (h : HostSt) : Talks s (s.setPort p h) := by cases p <;> rfl

theorem talks_modPort (s : State) (p : HostPort) (f : HostSt → HostSt) : Talks s (s.modPort p f) := talks_setPort _ _ _

theorem talks_modMb (s : State) (p : HostPort) (m : Nat) (f : Mailbox → Mailbox) : Talks s (s.modMb p m f) := talks_modPort _ _ _

theorem talks_modRport (s : State) (q : Nat) (f : RidgePort → RidgePort) : Talks s (s.modRport q f) := rfl

theorem talks_signal (s : State) (p : HostPort) (src : Nat) : Talks s (s.signal p src) := by
  unfold State.signal
  split
  · dsimp only
    split
    · exact talks_setPort _ _ _
    · split
      · exact talks_setPort _ _ _
      · split
        · exact talks_setPort _ _ _
        · exact talks_trans (talks_setPort _ _ _) (talks_say _ _)
  · exact talks_refl s

theorem talks_writeBack (s : State) (p : HostPort) (r : Ring) : Talks s (s.writeBack p r) := by
  unfold State.writeBack
  split
  · exact talks_say _ _
  · exact talks_refl s

theorem talks_loseEvent (s : State) (p : HostPort) : Talks s (s.loseEvent p) := talks_modPort _ _ _

theorem talks_putEvent (s : State) (p : HostPort) (r : EventRec) : Talks s (s.putEvent p r) := by
  unfold State.putEvent
  dsimp only
  split
  · exact talks_loseEvent _ _
  · split
    · split
      · exact talks_loseEvent _ _
      · exact talks_trans (talks_trans (talks_trans (talks_setPort _ _ _) (talks_say _ _)) (talks_writeBack _ _ _)) (talks_signal _ _ _)
    · split
      · split
        · exact talks_setPort _ _ _
        · exact talks_loseEvent _ _
      · exact talks_refl s

theorem talks_toPort (s : State) (p : HostPort) (r : EventRec) : Talks s (s.toPort p r) := by
  unfold State.toPort
  dsimp only
  split
  · exact talks_putEvent _ _ _
  · split <;> exact talks_setPort _ _ _

theorem talks_sendMsg (s : State) (mtype dest : Nat) (payload : List Byte) : Talks s (s.sendMsg mtype dest payload) := by
  unfold State.sendMsg
  dsimp only
  split <;> rfl

/-- A message identifier taken. -/
theorem talks_msgId (s : State) : Talks s { s with chain.msgId := s.chain.msgId + 1 } := rfl

/-- An event reaches the ports and the Chain, and changes nothing else. -/
theorem talks_raise (s : State) (code : Nat) (payload : List Byte) (fault sev : Nat) : Talks s (s.raise code payload fault sev) := by
  unfold State.raise
  dsimp only
  have h2 : ∀ (t : State) (r : EventRec), Talks t ((t.toPort .A r).toPort .B r) := fun t r => talks_trans (talks_toPort _ _ _) (talks_toPort _ _ _)
  split
  · exact h2 _ _
  · split
    · exact talks_trans (h2 _ _) (talks_trans (talks_msgId _) (h2 _ _))
    · exact talks_trans (h2 _ _) (talks_sendMsg _ _ _ _)

/-- A sample changes the health monitors and can raise an event. -/
theorem talks_sample (s : State) (src idx : Nat) (v : Int) : Talks s (s.sample src idx v) := by
  unfold State.sample
  apply talks_foldl
  intro t i
  dsimp only
  split
  · exact talks_trans (t := { t with faults.monitors := tput {} t.faults.monitors i _ }) rfl
      (talks_foldl _ (fun _ _ => talks_raise _ _ _ _ _) _ _)
  · exact talks_refl t

/-- A packet counted as discarded. -/
theorem talks_dropPkt (s : State) : Talks s s.dropPkt := rfl

theorem talks_queuePacket (s : State) (p : Packet) : Talks s (s.queuePacket p) := by
  unfold State.queuePacket
  split
  · exact talks_refl s
  · split
    · split
      · exact talks_dropPkt s
      · exact talks_modRport _ _ _
    · exact talks_dropPkt s

theorem talks_queuePackets (s : State) (ps : List Packet) : Talks s (s.queuePackets ps) :=
  talks_foldl _ talks_queuePacket _ _

theorem talks_sendCmdMsg (s : State) (mtype dest b0 slot : Nat) (data : List Byte) : Talks s (s.sendCmdMsg mtype dest b0 slot data) :=
  talks_trans (talks_sendMsg _ _ _ _) (talks_queuePackets _ _)

theorem talks_sayRsp (s : State) (p : HostPort) (m : Nat) (src : Option Endpoint) (r : Rsp) : Talks s (s.sayRsp p m src r) :=
  talks_foldl _ (fun _ _ => talks_say _ _) _ _

theorem talks_writeRsp (s : State) (p : HostPort) (m : Nat) (src : Option Endpoint) (r : Rsp) : Talks s (s.writeRsp p m src r) := by
  unfold State.writeRsp
  dsimp only
  split
  · have h : ∀ t : State, Talks t (if r.dout.isEmpty then t else t.say (.dmaWrite p r.addr r.dout)) := by
      intro t
      split
      · exact talks_refl t
      · exact talks_say _ _
    exact talks_trans (talks_trans (talks_trans (talks_trans (talks_sample _ _ _ _) (h _)) (talks_modMb _ _ _ _)) (talks_say _ _))
      (talks_signal _ _ _)
  · exact talks_trans (talks_trans (talks_sample _ _ _ _) (talks_modMb _ _ _ _)) (talks_sayRsp _ _ _ _ _)

/-- A response changes nothing but what reports. -/
theorem talks_respond (s : State) (e : Entry) (m b0 : Nat) (src : Option Endpoint) (r : Rsp) : Talks s (s.respond e m b0 src r) := by
  unfold State.respond
  split
  · exact talks_writeRsp _ _ _ _ _
  · exact talks_trans (talks_sendCmdMsg _ _ _ _ _ _) (talks_say _ _)

theorem talks_forward (s : State) (p : HostPort) (m idx : Nat) (src : Option Endpoint) (r : Req) (data : List Byte) :
    Talks s (s.forward p m idx src r data) :=
  talks_trans (talks_sendCmdMsg _ _ _ _ _ _) (talks_modMb _ _ _ _)

/-- A fault of severity NOTE with no class 8 code changes nothing but what reports. -/
theorem talks_fault_note (s : State) (code kind idx : Nat) (r n c : Bool) (hs : s.sevOf code kind idx n = 0) (h8 : code / 0x1000 ≠ 8) :
    Talks s (s.fault code kind idx r n c) := by
  unfold State.fault
  simp only [hs, h8, Nat.zero_ne_one, decide_false, Bool.false_and, Bool.false_eq_true, if_false]
  have step : ∀ (u : State) (b : Bool) (pl : List Byte) (e : LogEntry), Talks s u →
      Talks s (if b then u.raise 0x0102 pl code 0 else { u with faults.bootHeld := u.faults.bootHeld ++ [e] }) := by
    intro u b pl e h
    cases b
    · exact talks_trans h rfl
    · exact talks_trans h (talks_raise _ _ _ _ _)
  cases r
  · rw [if_pos (by rfl)]
    exact step _ _ _ _ (Eq.refl _)
  · rw [if_neg (by decide), if_neg (by decide), if_neg (by decide)]
    exact step _ _ _ _ (Eq.refl _)

end Sys2Proof.Laws
end

