-- ==== Sys2Proof/Laws/Serve.lean ====
section
/-! SUPPORT. What serving a command changes beside the command's own effect: what reports, semaphore leases and the session's expiry,
authentication, transfers in parts, and the wait for a dump. -/

namespace Sys2Proof.Laws

open Sys2Proof Sys2Proof.Machine

/-- The state `t` is `s` but for what serving a command changes before its own evaluation. -/
def Serves (s t : State) : Prop :=
  t = { s with hostA := t.hostA, hostB := t.hostB, chain := t.chain, out := t.out, faults := t.faults, sems := t.sems
               auths := t.auths, remote := t.remote, life.session := t.life.session }

/-- As `Serves`, with the transfers in parts, the end of the schedule load they carry, and the free values drawn. -/
def Aside (s t : State) : Prop :=
  t = { s with free := t.free, hostA := t.hostA, hostB := t.hostB, chain := t.chain, out := t.out, faults := t.faults, sems := t.sems
               auths := t.auths, remote := t.remote, life.session := t.life.session, xfers := t.xfers
               sched := t.sched } ∧
  (t.sched = s.sched ∨ t.sched = s.endLoad.sched)

theorem serves_refl (s : State) : Serves s s := rfl

theorem aside_refl (s : State) : Aside s s := ⟨rfl, .inl rfl⟩

/-- A refusal leaves the state it refuses in. -/
theorem aside_fail (s : State) (st det : Nat) : Aside s (s.fail st det).st := aside_refl s

/-- A refusal leaves the state it refuses in. -/
theorem serves_fail (s : State) (st det : Nat) : Serves s (s.fail st det).st := serves_refl s

theorem serves_trans {s t u : State} (h : Serves s t) (k : Serves t u) : Serves s u := by
  unfold Serves at *
  rw [k]
  rw [h]

theorem aside_trans {s t u : State} (h : Aside s t) (k : Aside t u) : Aside s u := by
  obtain ⟨h, hs⟩ := h
  obtain ⟨k, ks⟩ := k
  refine ⟨?_, ?_⟩
  · rw [k]
    rw [h]
  · rcases ks with ks | ks
    · rwa [ks]
    · right
      rw [ks, h]
      rcases hs with hs | hs <;> rw [hs] <;> rfl

theorem serves_aside {s t : State} (h : Serves s t) : Aside s t := by
  unfold Serves at h
  rw [h]
  exact ⟨rfl, .inl rfl⟩

theorem talks_serves {s t : State} (h : Talks s t) : Serves s t := by
  unfold Talks at h
  unfold Serves
  rw [h]

theorem aside_sameDevice {s t : State} (h : Aside s t) : sameDevice s t := by
  obtain ⟨h, hs⟩ := h
  rw [h]
  exact ⟨rfl, rfl, rfl, rfl, rfl, rfl, rfl, rfl, rfl, hs, rfl, rfl, rfl⟩

theorem aside_took (s : State) : Aside s s.took := ⟨rfl, .inl rfl⟩

theorem aside_modRport (s : State) (q : Nat) (f : RidgePort → RidgePort) : Aside s (s.modRport q f) := ⟨rfl, .inl rfl⟩

/-- What a reading finds on a lane is a change of the Ridge ports and of the free values drawn. -/
theorem aside_observeLane (s : State) (q l : Nat) : Aside s (s.observeLane q l) := by
  have ha : Aside s (s.adapt q l) := by
    unfold State.adapt State.adaptTo
    split
    · exact aside_trans (aside_took s) (aside_trans (aside_took _) (aside_trans (aside_took _) (aside_modRport _ _ _)))
    · exact aside_refl s
  unfold State.observeLane
  revert ha
  generalize s.adapt q l = u
  intro ha
  unfold State.countLane
  dsimp only
  split <;> split
  · exact aside_trans ha (aside_trans (aside_took u) (aside_trans (aside_modRport _ _ _) (aside_trans (aside_took _) (aside_modRport _ _ _))))
  · exact aside_trans ha (aside_trans (aside_took u) (aside_modRport _ _ _))
  · exact aside_trans ha (aside_trans (aside_took u) (aside_modRport _ _ _))
  · exact ha

/-- As `aside_observeLane`, every lane of a port. -/
theorem aside_observeLanes (s : State) (q : Nat) : Aside s (s.observeLanes q) := by
  unfold State.observeLanes
  generalize List.range 4 = l
  induction l generalizing s with
  | nil => exact aside_refl s
  | cons a l ih => exact aside_trans (aside_observeLane s q a) (ih _)

theorem serves_sched {s t : State} (h : Serves s t) : t.sched = s.sched := by
  unfold Serves at h
  rw [h]

theorem serves_power {s t : State} (h : Serves s t) : t.power = s.power := by
  unfold Serves at h
  rw [h]

theorem aside_power {s t : State} (h : Aside s t) : t.power = s.power := by
  rw [h.1]

theorem aside_otp {s t : State} (h : Aside s t) : t.otp = s.otp := by
  rw [h.1]

/-- A fold of such changes is one. -/
theorem serves_foldl {β : Type} (f : State → β → State) (h : ∀ s b, Serves s (f s b)) (l : List β) (s : State) : Serves s (l.foldl f s) := by
  induction l generalizing s with
  | nil => exact serves_refl s
  | cons b l ih => exact serves_trans (h s b) (ih _)

theorem serves_session (s : State) (x : Option Session) : Serves s { s with life.session := x } := rfl

theorem serves_refresh (s : State) (e : Entry) : Serves s (s.refresh e) := by
  unfold State.refresh
  dsimp only
  have h : Serves s ((List.range 32).foldl (fun t n =>
      if t.holds e n then t.modSem n (fun x => { x with exp := t.clk + leaseTicks x.lease }) else t) s) := by
    apply serves_foldl
    intro t n
    split <;> rfl
  revert h
  generalize (List.range 32).foldl _ s = u
  intro h
  split
  · split
    · exact serves_trans h (serves_session _ _)
    · exact h
  · exact h

theorem serves_modAuth (s : State) (e : Entry) (f : Auth → Auth) : Serves s (s.modAuth e f) := rfl

theorem serves_authFailure (s : State) (e : Entry) : Serves s (s.authFailure e) := by
  unfold State.authFailure
  split
  · exact serves_modAuth _ _ _
  · dsimp only
    refine serves_trans (serves_modAuth _ _ _) (serves_trans (talks_serves (talks_raise _ _ _ _ _)) (talks_serves (talks_fault_note _ _ _ _ _ _ _ ?_ ?_)))
    · simp [State.sevOf]
    · decide

theorem serves_authenticate (s : State) (d : CmdDef) (c : Ctx) (data : List Byte) : Serves s (s.authenticate d c data).1 := by
  unfold State.authenticate
  generalize (if d.signed then [] else data) = tagged
  split
  · exact serves_refl s
  · split
    · exact serves_refl s
    · dsimp only
      split
      · exact serves_authFailure _ _
      · split
        · exact serves_authFailure _ _
        · split <;> exact serves_modAuth _ _ _

theorem aside_endLoad (s : State) : Aside s s.endLoad := ⟨rfl, .inr rfl⟩

theorem aside_dropLoad (s : State) (c : Ctx) : Aside s (s.dropLoad c) := by
  unfold State.dropLoad
  split
  · split
    · exact aside_endLoad s
    · exact aside_refl s
  · exact aside_refl s

theorem aside_xfers (s : State) (x : List (Nat × Option PartXfer)) : Aside s { s with xfers := x } := ⟨rfl, .inl rfl⟩

theorem aside_dropXfer (s : State) (c : Ctx) : Aside s (s.dropXfer c) :=
  aside_trans (aside_xfers s _) (aside_dropLoad _ c)

theorem aside_breakXfer (s : State) (c : Ctx) : Aside s (s.breakXfer c) := by
  unfold State.breakXfer
  split
  · split
    · exact aside_dropXfer s c
    · split
      · exact aside_refl s
      · split
        · exact aside_dropXfer s c
        · exact aside_trans (aside_xfers s _) (aside_dropLoad _ c)
  · exact aside_refl s

/-- A response leaves what serving leaves, where no reset waits for it. -/
theorem finish_serves (s : State) (c : Ctx) (r : Req) (src : Option Endpoint) (a : Ans) (hr : a.st.power.resetAt = none) :
    Serves a.st (s.finish c r src a) := by
  unfold State.finish
  split
  · dsimp only
    split
    · exact talks_serves (talks_modMb _ _ _ _)
    · rfl
  · have h := talks_serves (talks_respond a.st c.e c.mb c.b0 src (a.st.rspOf c.slot a))
    unfold State.afterRsp
    rw [serves_power h, hr]
    exact h

/-- The evaluation of a command whose act and parts only set aside does no more. -/
theorem evaluate_aside (d : CmdDef) (hact : ∀ u c, Aside u (d.act u c).st) (hpart : ∀ u c n l, Aside u (d.part u c n l)) (s : State) (c : Ctx) :
    Aside s (s.evaluate d c).st := by
  unfold State.evaluate
  split
  · exact aside_refl s
  · split
    · unfold State.evalPart
      dsimp only
      have parts : ∀ (b1 b2 b3 b4 : Prop) [Decidable b1] [Decidable b2] [Decidable b3] [Decidable b4] (a1 a2 a3 a4 a5 : Ans), Aside s a1.st →
          Aside s a2.st → Aside s a3.st → Aside s a4.st → Aside s a5.st →
          Aside s (if b1 then a1 else if b2 then a2 else if b3 then a3 else if b4 then a4 else a5).st := by
        intro b1 b2 b3 b4 _ _ _ _ a1 a2 a3 a4 a5 h1 h2 h3 h4 h5
        by_cases b1 <;> by_cases b2 <;> by_cases b3 <;> by_cases b4 <;> simp [*]
      exact parts _ _ _ _ _ _ _ _ _ (aside_dropXfer s c) (aside_dropXfer s c) (aside_dropXfer s c) (aside_trans (aside_xfers s _) (hact _ _))
        (aside_trans (aside_xfers s _) (hpart _ _ _ _))
    · have h := aside_trans (aside_dropXfer s c) (hact (s.dropXfer c) c)
      dsimp only
      unfold State.lengthCheck
      split
      · exact aside_dropXfer s c
      · exact h

/-- A command whose act and parts only set aside does no more, however it is served. -/
theorem command_aside (d : CmdDef) (hw : d.writesOtp = false) (hact : ∀ u c, Aside u (d.act u c).st)
    (hpart : ∀ u c n l, Aside u (d.part u c n l)) (r : Req) (s : State) (hr : s.power.resetAt = none) : Aside s (State.command d r s) := by
  have hf : ∀ (u t : State) (c : Ctx) (q : Req) (src : Option Endpoint) (a : Ans), Aside s u → Aside u a.st →
      Aside s { t.finish c q src a with otp := s.otp } := by
    intro u t c q src a h1 h2
    have h3 := aside_trans h1 h2
    have h4 := finish_serves t c q src a (by rw [aside_power h3, hr])
    have h5 := aside_trans h3 (serves_aside h4)
    rw [← aside_otp h5]
    exact h5
  have hk : ∀ v, Aside s v → Aside s { v with otp := s.otp } := by
    intro v h
    rw [← aside_otp h]
    exact h
  have hauth : ∀ (t : State) (c : Ctx) (data : List Byte) (x : State × Option Nat), t.authenticate d c data = x → Serves t x.1 := by
    rintro t c data _ rfl
    exact serves_authenticate _ _ _ _
  unfold State.command
  split
  · dsimp only
    unfold State.serve State.serveSteps
    dsimp only
    generalize hu : (s.refresh r.entry).breakXfer _ = u
    have h1 : Aside s u := hu ▸ aside_trans (serves_aside (serves_refresh s r.entry)) (aside_breakXfer _ _)
    split
    · exact hf _ _ _ _ _ _ h1 (aside_fail _ _ _)
    · split
      · have h2 : ∀ t : State, Serves t (t.fault 0x7003 17 (portIdx r.entry.port)) :=
          fun t => talks_serves (talks_fault_note _ _ _ _ _ _ _ (by simp [State.sevOf]) (by decide))
        exact hf _ _ _ _ _ _ (aside_trans h1 (serves_aside (h2 u))) (aside_fail _ _ _)
      · split
        · exact hk _ (aside_trans h1 (serves_aside (talks_serves (talks_forward _ _ _ _ _ _ _))))
        · split
          · rename_i heq
            have h2 := hauth _ _ _ _ heq
            exact hf _ _ _ _ _ _ (aside_trans h1 (serves_aside h2)) (aside_fail _ _ _)
          · rename_i heq
            have h2 := hauth _ _ _ _ heq
            rw [hw]
            exact hf _ _ _ _ _ _ (aside_trans h1 (serves_aside h2)) (evaluate_aside d hact hpart _ _)
  · exact aside_refl s

/-- A command that is not authenticated does no more than serving does, however it is served. -/
theorem refused_aside (d : CmdDef) (r : Req) (s : State) (hr : s.power.resetAt = none)
    (ha : ((takenState d r s).authenticate d (ctxFor d r) (ctxFor d r).din).2 ≠ none) : Aside s (State.command d r s) := by
  have hk : ∀ v, Aside s v → Aside s { v with otp := s.otp } := by
    intro v h
    rw [← aside_otp h]
    exact h
  have hf : ∀ (u t : State) (c : Ctx) (q : Req) (src : Option Endpoint) (a : Ans), Aside s u → Aside u a.st →
      Aside s { t.finish c q src a with otp := s.otp } := by
    intro u t c q src a h1 h2
    have h3 := aside_trans h1 h2
    exact hk _ (aside_trans h3 (serves_aside (finish_serves t c q src a ((congrArg _ (aside_power h3)).trans hr))))
  have hauth : ∀ (t : State) (c : Ctx) (data : List Byte) (x : State × Option Nat), t.authenticate d c data = x → Serves t x.1 := by
    rintro t c data _ rfl
    exact serves_authenticate _ _ _ _
  unfold State.command
  split
  · dsimp only
    unfold State.serve State.serveSteps
    dsimp only
    generalize hu : (s.refresh r.entry).breakXfer _ = u
    have h1 : Aside s u := hu ▸ aside_trans (serves_aside (serves_refresh s r.entry)) (aside_breakXfer _ _)
    split
    · exact hf _ _ _ _ _ _ h1 (aside_fail _ _ _)
    · split
      · have h2 : ∀ t : State, Serves t (t.fault 0x7003 17 (portIdx r.entry.port)) :=
          fun t => talks_serves (talks_fault_note _ _ _ _ _ _ _ (by simp [State.sevOf]) (by decide))
        exact hf _ _ _ _ _ _ (aside_trans h1 (serves_aside (h2 u))) (aside_fail _ _ _)
      · split
        · exact hk _ (aside_trans h1 (serves_aside (talks_serves (talks_forward _ _ _ _ _ _ _))))
        · split
          · rename_i heq
            have h2 := hauth _ _ _ _ heq
            exact hf _ _ _ _ _ _ (aside_trans h1 (serves_aside h2)) (aside_fail _ _ _)
          · rename_i heq
            subst hu
            have hx := takenState_of d r s
            unfold slotFor at hx
            rw [hx] at heq
            exact absurd (congrArg Prod.snd heq) ha
  · exact aside_refl s

end Sys2Proof.Laws
end

