-- ==== Sys2Proof/Laws/Hold.lean ====
section
/-! SUPPORT. What an entry into SAFE HOLD leaves, said once: the state SAFE HOLD with every safe output OFF, which is the safe state. -/

namespace Sys2Proof.Laws

open Sys2Proof Sys2Proof.Machine

/-- Every safe output is OFF. -/
def AllOff (s : State) : Prop :=
  ∀ k : Fin 4, (s.outp k).on = false

/-- The safety island and the lifecycle state are as they were. -/
def Keep (s t : State) : Prop :=
  t.safe = s.safe ∧ t.life = s.life

theorem keep_refl (s : State) : Keep s s := ⟨rfl, rfl⟩

theorem keep_trans {s t u : State} (h : Keep s t) (k : Keep t u) : Keep s u := ⟨k.1.trans h.1, k.2.trans h.2⟩

theorem keep_foldl {β : Type} (f : State → β → State) (h : ∀ s b, Keep s (f s b)) (l : List β) (s : State) : Keep s (l.foldl f s) := by
  induction l generalizing s with
  | nil => exact keep_refl s
  | cons b l ih => exact keep_trans (h s b) (ih _)

theorem keep_talks {s t : State} (h : Talks s t) : Keep s t := by
  unfold Talks at h
  rw [h]
  exact ⟨rfl, rfl⟩

theorem keep_modStr (s : State) (i : Nat) (f : Strng → Strng) : Keep s (s.modStr i f) := ⟨rfl, rfl⟩

theorem keep_modRport (s : State) (q : Nat) (f : RidgePort → RidgePort) : Keep s (s.modRport q f) := ⟨rfl, rfl⟩

theorem allOff_of {s t : State} (h : t.safe = s.safe) (o : AllOff s) : AllOff t := by
  intro k
  have := o k
  unfold State.outp at *
  rw [h]
  exact this

theorem keep_cutEmission (s : State) : Keep s s.cutEmission := by
  unfold State.cutEmission
  dsimp only
  have h1 := keep_foldl (fun (t : State) i => t.modStr i (fun x => { x with emgUntil := min x.emgUntil s.now }))
    (fun _ _ => keep_modStr _ _ _) (List.range 64) s
  revert h1
  generalize (List.range 64).foldl _ s = u
  intro h1
  have h2 := keep_foldl (fun (t : State) i => t.modStr i (fun x =>
    { x with cancelled := x.cancelled + 1, canTotal := (x.canTotal + 1) % 2 ^ 32 })) (fun _ _ => keep_modStr _ _ _)
    (onesOf 64 s.emit.debits.toNat) u
  revert h2
  generalize List.foldl _ u _ = v
  intro h2
  exact ⟨h2.1.trans h1.1, h2.2.trans h1.2⟩

theorem keep_endHeader (s : State) (c : Nat) : Keep s (s.endHeader c) := by
  unfold State.endHeader
  split
  · exact ⟨rfl, rfl⟩
  · exact keep_refl s

theorem keep_pulsers (s : State) : Keep s s.pulsers := by
  unfold State.pulsers
  refine keep_foldl _ ?_ _ _
  intro t k
  exact ⟨rfl, rfl⟩

theorem keep_endColumns (s : State) : Keep s s.endColumns := by
  unfold State.endColumns
  dsimp only
  have h := keep_foldl (fun (t : State) k => t.modSector k (fun x => { x with lostRun := false })) (fun _ _ => ⟨rfl, rfl⟩) (List.range 8) s
  revert h
  generalize (List.range 8).foldl _ s = u
  intro h
  exact keep_trans ⟨h.1, h.2⟩ (keep_pulsers _)

theorem keep_chargeOff (s : State) : Keep s s.chargeOff :=
  keep_foldl _ (fun _ _ => keep_modStr _ _ _) _ _

theorem keep_countLane (s : State) (q l : Nat) : Keep s (s.countLane q l) := by
  unfold State.countLane
  dsimp only
  split <;> split <;> exact ⟨rfl, rfl⟩

theorem keep_countLanes (s : State) (q : Nat) : Keep s (s.countLanes q) :=
  keep_foldl _ (fun _ _ => keep_countLane _ _ _) _ _

theorem keep_endTests (s : State) : Keep s s.endTests := by
  unfold State.endTests
  refine keep_foldl _ ?_ _ _
  intro t q
  dsimp only
  split
  · unfold State.portStart
    exact keep_trans (keep_countLanes _ _) (keep_trans (keep_modRport _ _ _) (keep_modRport _ _ _))
  · exact keep_trans (keep_countLanes _ _) (keep_modRport _ _ _)

theorem keep_originateStop (s : State) : Keep s s.originateStop := by
  unfold State.originateStop
  split
  · dsimp only
    generalize BitVec.ofNat 104 _ = body
    have h := keep_foldl (fun (t : State) q => if (t.rport q).up then
      t.modRport q (fun r => { r with safety := r.safety ++ [body, body] }) else t) (fun t q => by
        split
        · exact keep_modRport _ _ _
        · exact keep_refl _) (List.range 4) s
    revert h
    generalize (List.range 4).foldl _ s = u
    intro h
    exact ⟨h.1, h.2⟩
  · exact keep_refl s

/-- A change of every output that drives it OFF leaves them OFF. -/
theorem allOff_modOut (s : State) (f : SafeOut → SafeOut) (hf : ∀ o, (f o).on = false) :
    AllOff ((List.range 4).foldl (fun t k => t.modOut k f) s) := by
  have h4 : List.range 4 = [0, 1, 2, 3] := rfl
  rw [h4]
  simp only [List.foldl_cons, List.foldl_nil]
  intro ⟨k, hk⟩
  have h : k = 0 ∨ k = 1 ∨ k = 2 ∨ k = 3 := by omega
  rcases h with rfl | rfl | rfl | rfl <;>
    simp [State.outp, State.modOut, tget_tmod_other, hf]

/-- A change of state leaves the island, and the state changed to. -/
theorem toState_keep (s : State) (l : Lcs) : (s.toState l).safe = s.safe ∧ (s.toState l).life.lcs = l := by
  have h := talks_raise ({ s with life.lcs := l } : State) 0x0101 (bytesOf 1 (lcsCode l) ++ bytesOf 1 (lcsCode s.life.lcs)) 0 0
  unfold Talks at h
  unfold State.toState
  rw [h]
  exact ⟨rfl, rfl⟩

/-- SAFE HOLD with every output OFF is the safe state. -/
theorem safeState_of (t : State) (h : t.life.lcs = .safeHold) (o : AllOff t) : t.life.lcs = .safeHold ∧ safeState t :=
  ⟨h, by simp [State.permitted, State.running, h], by simp [State.permittedService, h], o, by simp [State.faultLow, h]⟩

/-- The end of an entry into SAFE HOLD, from a state whose outputs are OFF. -/
theorem hold_end (prop : Bool) (u : State) (h : AllOff u) :
    (if prop then (u.toState .safeHold).originateStop else u.toState .safeHold).life.lcs = .safeHold ∧
    AllOff (if prop then (u.toState .safeHold).originateStop else u.toState .safeHold) := by
  have hk := toState_keep u .safeHold
  cases prop
  · exact ⟨hk.2, allOff_of hk.1 h⟩
  · have k := keep_originateStop (u.toState .safeHold)
    exact ⟨by rw [if_pos rfl, k.2]; exact hk.2, by rw [if_pos rfl]; exact allOff_of (k.1.trans hk.1) h⟩

/-- The proofs that end send their events; the island and the lifecycle state are as they were. -/
theorem keep_endProofs (s : State) : Keep s s.endProofs := by
  unfold State.endProofs State.proofDone
  exact keep_foldl (fun (t : State) p => t.raise _ _) (fun _ _ => keep_talks (talks_raise _ _ _ _ _)) s.emit.service
    ({ s with emit.service := [] } : State)

/-- Ending all that runs leaves the island. -/
theorem endAll_safe (s : State) : s.endAll.safe = s.safe := by
  unfold State.endAll
  have h := keep_trans (keep_endColumns s) (keep_endProofs _)
  generalize s.endColumns.endProofs = t at *
  exact h.1

/-- The outputs stay OFF while the columns, the session and the tests end. -/
theorem hold_mid (b1 : Bool) (b2 : Prop) [Decidable b2] (u : State) (h : AllOff u) :
    AllOff (if b2 then (if b1 then u.endHeader 1 else u).endAll.endTests else (if b1 then u.endHeader 1 else u).endAll).chargeOff := by
  have h1 : AllOff (if b1 then u.endHeader 1 else u) := by
    cases b1
    · exact h
    · exact allOff_of (keep_endHeader u 1).1 h
  generalize (if b1 then u.endHeader 1 else u) = v at *
  have h2 : AllOff v.endAll := allOff_of (endAll_safe v) h1
  generalize v.endAll = w at *
  refine allOff_of (keep_chargeOff _).1 ?_
  by_cases hb : b2
  · rw [if_pos hb]
    exact allOff_of (keep_endTests w).1 h2
  · rw [if_neg hb]
    exact h2

/-- An entry into SAFE HOLD from an operating state leaves SAFE HOLD and its safe state (R26, R30, R376). -/
theorem safeHold_safeState (s : State) (prop endHdr : Bool) (ho : operating s) :
    (s.safeHold prop endHdr).life.lcs = .safeHold ∧ safeState (s.safeHold prop endHdr) := by
  have h : (s.safeHold prop endHdr).life.lcs = .safeHold ∧ AllOff (s.safeHold prop endHdr) := by
    unfold State.safeHold
    dsimp only
    rcases ho with h | h | h | h
    all_goals
      rw [h]
      dsimp only
      exact hold_end prop _ (hold_mid _ _ _ (allOff_modOut _ _ (fun _ => rfl)))
  exact safeState_of _ h.1 h.2

end Sys2Proof.Laws
end

