-- ==== Sys2Proof/Laws/PerInstr.lean ====
section
/-! SUPPORT. Statements made for every command, one lemma per constructor: the command as syntax. -/

namespace Sys2Proof.Laws.Timed

open Sys2Proof

/-- A well-formed command's time fits a chain-time word, and its operands keep their bounds. -/
def Statement (i : Instr) : Prop :=
  i.wellFormed = true ↔ i.ticks < 2 ^ 64 ∧ i.operandsOk = true

/-- The statement by the definition of well-formedness. -/
theorem of_def (i : Instr) : Statement i := by
  simp [Statement, Instr.wellFormed]

theorem devIdentify (dt : Nat) (r : Req) : Statement (.devIdentify dt r) :=
  of_def _

theorem devStatus (dt : Nat) (r : Req) : Statement (.devStatus dt r) :=
  of_def _

theorem devReset (dt : Nat) (r : Req) : Statement (.devReset dt r) :=
  of_def _

theorem modeStart (dt : Nat) (r : Req) : Statement (.modeStart dt r) :=
  of_def _

theorem modeStop (dt : Nat) (r : Req) : Statement (.modeStop dt r) :=
  of_def _

theorem modeSet (dt : Nat) (r : Req) : Statement (.modeSet dt r) :=
  of_def _

theorem modeStatus (dt : Nat) (r : Req) : Statement (.modeStatus dt r) :=
  of_def _

theorem serviceEnter (dt : Nat) (r : Req) : Statement (.serviceEnter dt r) :=
  of_def _

theorem serviceExit (dt : Nat) (r : Req) : Statement (.serviceExit dt r) :=
  of_def _

theorem serviceProof (dt : Nat) (r : Req) : Statement (.serviceProof dt r) :=
  of_def _

theorem feConfig (dt : Nat) (r : Req) : Statement (.feConfig dt r) :=
  of_def _

theorem feTrim (dt : Nat) (r : Req) : Statement (.feTrim dt r) :=
  of_def _

theorem feStatus (dt : Nat) (r : Req) : Statement (.feStatus dt r) :=
  of_def _

theorem pointConfig (dt : Nat) (r : Req) : Statement (.pointConfig dt r) :=
  of_def _

theorem pointStatus (dt : Nat) (r : Req) : Statement (.pointStatus dt r) :=
  of_def _

theorem calLoad (dt : Nat) (r : Req) : Statement (.calLoad dt r) :=
  of_def _

theorem calStatus (dt : Nat) (r : Req) : Statement (.calStatus dt r) :=
  of_def _

theorem emitConfig (dt : Nat) (r : Req) : Statement (.emitConfig dt r) :=
  of_def _

theorem emitStatus (dt : Nat) (r : Req) : Statement (.emitStatus dt r) :=
  of_def _

theorem ledgerSet (dt : Nat) (r : Req) : Statement (.ledgerSet dt r) :=
  of_def _

theorem ledgerStatus (dt : Nat) (r : Req) : Statement (.ledgerStatus dt r) :=
  of_def _

theorem loopClose (dt : Nat) (r : Req) : Statement (.loopClose dt r) :=
  of_def _

theorem loopOpen (dt : Nat) (r : Req) : Statement (.loopOpen dt r) :=
  of_def _

theorem loopCoef (dt : Nat) (r : Req) : Statement (.loopCoef dt r) :=
  of_def _

theorem loopSet (dt : Nat) (r : Req) : Statement (.loopSet dt r) :=
  of_def _

theorem loopRepClear (dt : Nat) (r : Req) : Statement (.loopRepClear dt r) :=
  of_def _

theorem loopStatus (dt : Nat) (r : Req) : Statement (.loopStatus dt r) :=
  of_def _

theorem schedLoad (dt : Nat) (r : Req) : Statement (.schedLoad dt r) :=
  of_def _

theorem schedStatus (dt : Nat) (r : Req) : Statement (.schedStatus dt r) :=
  of_def _

theorem safeConfig (dt : Nat) (r : Req) : Statement (.safeConfig dt r) :=
  of_def _

theorem safeStatus (dt : Nat) (r : Req) : Statement (.safeStatus dt r) :=
  of_def _

theorem hkConfig (dt : Nat) (r : Req) : Statement (.hkConfig dt r) :=
  of_def _

theorem hkSwitch (dt : Nat) (r : Req) : Statement (.hkSwitch dt r) :=
  of_def _

theorem hkTherm (dt : Nat) (r : Req) : Statement (.hkTherm dt r) :=
  of_def _

theorem hkUrgent (dt : Nat) (r : Req) : Statement (.hkUrgent dt r) :=
  of_def _

theorem hkRead (dt : Nat) (r : Req) : Statement (.hkRead dt r) :=
  of_def _

theorem pwrSet (dt : Nat) (r : Req) : Statement (.pwrSet dt r) :=
  of_def _

theorem pwrStatus (dt : Nat) (r : Req) : Statement (.pwrStatus dt r) :=
  of_def _

theorem ridgeLaneCfg (dt : Nat) (r : Req) : Statement (.ridgeLaneCfg dt r) :=
  of_def _

theorem ridgeLaneTest (dt : Nat) (r : Req) : Statement (.ridgeLaneTest dt r) :=
  of_def _

theorem ridgeLaneStatus (dt : Nat) (r : Req) : Statement (.ridgeLaneStatus dt r) :=
  of_def _

theorem chainConfig (dt : Nat) (r : Req) : Statement (.chainConfig dt r) :=
  of_def _

theorem chainDiscover (dt : Nat) (r : Req) : Statement (.chainDiscover dt r) :=
  of_def _

theorem chainTimeSet (dt : Nat) (r : Req) : Statement (.chainTimeSet dt r) :=
  of_def _

theorem chainStatus (dt : Nat) (r : Req) : Statement (.chainStatus dt r) :=
  of_def _

theorem hostNetConfig (dt : Nat) (r : Req) : Statement (.hostNetConfig dt r) :=
  of_def _

theorem hostStatus (dt : Nat) (r : Req) : Statement (.hostStatus dt r) :=
  of_def _

theorem semClaim (dt : Nat) (r : Req) : Statement (.semClaim dt r) :=
  of_def _

theorem semRelease (dt : Nat) (r : Req) : Statement (.semRelease dt r) :=
  of_def _

theorem semLease (dt : Nat) (r : Req) : Statement (.semLease dt r) :=
  of_def _

theorem semStatus (dt : Nat) (r : Req) : Statement (.semStatus dt r) :=
  of_def _

theorem keyRotate (dt : Nat) (r : Req) : Statement (.keyRotate dt r) :=
  of_def _

theorem keyProvision (dt : Nat) (r : Req) : Statement (.keyProvision dt r) :=
  of_def _

theorem keySchedDigest (dt : Nat) (r : Req) : Statement (.keySchedDigest dt r) :=
  of_def _

theorem keyStatus (dt : Nat) (r : Req) : Statement (.keyStatus dt r) :=
  of_def _

theorem fwWrite (dt : Nat) (r : Req) : Statement (.fwWrite dt r) :=
  of_def _

theorem fwCommit (dt : Nat) (r : Req) : Statement (.fwCommit dt r) :=
  of_def _

theorem fwStatus (dt : Nat) (r : Req) : Statement (.fwStatus dt r) :=
  of_def _

theorem monWrite (dt : Nat) (r : Req) : Statement (.monWrite dt r) :=
  of_def _

theorem monRead (dt : Nat) (r : Req) : Statement (.monRead dt r) :=
  of_def _

theorem faultLog (dt : Nat) (r : Req) : Statement (.faultLog dt r) :=
  of_def _

theorem faultUnits (dt : Nat) (r : Req) : Statement (.faultUnits dt r) :=
  of_def _

theorem healthConfig (dt : Nat) (r : Req) : Statement (.healthConfig dt r) :=
  of_def _

theorem healthRead (dt : Nat) (r : Req) : Statement (.healthRead dt r) :=
  of_def _

theorem histDump (dt : Nat) (r : Req) : Statement (.histDump dt r) :=
  of_def _

theorem histDumpComplete (dt : Nat) (p : HostPort) (m : Fin 4) : Statement (.histDumpComplete dt p m) :=
  of_def _

theorem doorbell (dt : Nat) (p : HostPort) (m : Fin 4) : Statement (.doorbell dt p m) :=
  of_def _

theorem mailboxTake (dt : Nat) (p : HostPort) (m : Fin 4) (din : Option (List Byte)) : Statement (.mailboxTake dt p m din) :=
  of_def _

theorem ethCommandDatagram (dt : Nat) (p : HostPort) (src : Endpoint) (bytes : List Byte) : Statement (.ethCommandDatagram dt p src bytes) :=
  of_def _

theorem commandTimeout (dt : Nat) (p : HostPort) (m : Fin 4) : Statement (.commandTimeout dt p m) :=
  of_def _

theorem semReadClaim (dt : Nat) (p : HostPort) (n : Fin 32) : Statement (.semReadClaim dt p n) :=
  of_def _

theorem semWriteRelease (dt : Nat) (p : HostPort) (n : Fin 32) (w : Word) : Statement (.semWriteRelease dt p n w) :=
  of_def _

theorem semLeaseExpiry (dt : Nat) (n : Fin 32) : Statement (.semLeaseExpiry dt n) :=
  of_def _

theorem lockoutEnd (dt : Nat) (who : Entry) : Statement (.lockoutEnd dt who) :=
  of_def _

theorem ctLatch (dt : Nat) (p : HostPort) : Statement (.ctLatch dt p) :=
  of_def _

theorem ringEnable (dt : Nat) (p : HostPort) (k : RingKind) (w : Word) : Statement (.ringEnable dt p k w) :=
  of_def _

theorem ringDisable (dt : Nat) (p : HostPort) (k : RingKind) (w : Word) : Statement (.ringDisable dt p k w) :=
  of_def _

theorem monCommit (dt : Nat) (p : HostPort) (w : Word) : Statement (.monCommit dt p w) :=
  of_def _

theorem bootGo (dt : Nat) (p : HostPort) (image : Option (List Byte)) : Statement (.bootGo dt p image) :=
  of_def _

theorem bootDatagram (dt : Nat) (p : HostPort) (src : Endpoint) (bytes : List Byte) : Statement (.bootDatagram dt p src bytes) :=
  of_def _

theorem registerWrite (dt : Nat) (p : HostPort) (off : BitVec 16) (w : Word) : Statement (.registerWrite dt p off w) :=
  of_def _

theorem hostSessionEnd (dt : Nat) (p : HostPort) (why : SessionEnd) : Statement (.hostSessionEnd dt p why) :=
  of_def _

theorem hostPerst (dt : Nat) (p : HostPort) : Statement (.hostPerst dt p) :=
  of_def _

theorem hostLinkDown (dt : Nat) (p : HostPort) : Statement (.hostLinkDown dt p) :=
  of_def _

theorem hostAerFatal (dt : Nat) (p : HostPort) : Statement (.hostAerFatal dt p) :=
  of_def _

theorem hostDmaTimeout (dt : Nat) (p : HostPort) : Statement (.hostDmaTimeout dt p) :=
  of_def _

theorem arpRequest (dt : Nat) (p : HostPort) (senderIp : Word) (senderMac : BitVec 48) (targetIp : Word) : Statement (.arpRequest dt p senderIp senderMac targetIp) :=
  of_def _

theorem arpCacheExpiry (dt : Nat) (p : HostPort) (ip : Word) : Statement (.arpCacheExpiry dt p ip) :=
  of_def _

theorem icmpEcho (dt : Nat) (p : HostPort) (srcIp : Word) (dstIp : Word) (idSeq : Word) (data : List Byte) : Statement (.icmpEcho dt p srcIp dstIp idSeq data) :=
  of_def _

theorem frameDiscard (dt : Nat) (p : HostPort) : Statement (.frameDiscard dt p) :=
  of_def _

theorem ptpSync (dt : Nat) (p : HostPort) (m : PtpSync) : Statement (.ptpSync dt p m) :=
  of_def _

theorem ptpFollowUp (dt : Nat) (p : HostPort) (master : BitVec 80) (seq : BitVec 16) (t1 : Nat) : Statement (.ptpFollowUp dt p master seq t1) :=
  of_def _

theorem ptpAnnounce (dt : Nat) (p : HostPort) (m : PtpAnnounce) : Statement (.ptpAnnounce dt p m) :=
  of_def _

theorem ptpDelayReq (dt : Nat) (p : HostPort) : Statement (.ptpDelayReq dt p) :=
  of_def _

theorem ptpDelayResp (dt : Nat) (p : HostPort) (master : BitVec 80) (seq : BitVec 16) (t4 : Nat) (logMinInterval : Int) : Statement (.ptpDelayResp dt p master seq t4 logMinInterval) :=
  of_def _

theorem timeMapTimeout (dt : Nat) (p : HostPort) : Statement (.timeMapTimeout dt p) :=
  of_def _

theorem timeMapReport (dt : Nat) (p : HostPort) : Statement (.timeMapReport dt p) :=
  of_def _

theorem eventDatagram (dt : Nat) (p : HostPort) : Statement (.eventDatagram dt p) :=
  of_def _

theorem pointInterrupt (dt : Nat) (p : HostPort) : Statement (.pointInterrupt dt p) :=
  of_def _

theorem columnDelivery (dt : Nat) : Statement (.columnDelivery dt) :=
  of_def _

theorem columnBoundary (dt : Nat) (gateTestOk : Bool) (badOwner : List (Fin 64)) : Statement (.columnBoundary dt gateTestOk badOwner) :=
  of_def _

theorem serviceRecordAppend (dt : Nat) : Statement (.serviceRecordAppend dt) :=
  of_def _

theorem writePipelineCheck (dt : Nat) (notEmpty : List (Fin 64)) (active : List (Fin 1024)) : Statement (.writePipelineCheck dt notEmpty active) :=
  of_def _

theorem decisionInstant (dt : Nat) (obs : List ChanObs) : Statement (.decisionInstant dt obs) :=
  of_def _

theorem shotFrame (dt : Nat) : Statement (.shotFrame dt) :=
  of_def _

theorem ledgerDecision (dt : Nat) : Statement (.ledgerDecision dt) :=
  of_def _

theorem shotInstant (dt : Nat) : Statement (.shotInstant dt) :=
  of_def _

theorem esnsCheck (dt : Nat) (sensed : BitVec 64) : Statement (.esnsCheck dt sensed) :=
  of_def _

theorem uncommandedCurrent (dt : Nat) (str : Fin 64) : Statement (.uncommandedCurrent dt str) :=
  of_def _

theorem gateReadback (dt : Nat) (str : Fin 64) : Statement (.gateReadback dt str) :=
  of_def _

theorem holdFrame (dt : Nat) (line : Fin 8) : Statement (.holdFrame dt line) :=
  of_def _

theorem corniceRead (dt : Nat) (str : Fin 64) (reg : Byte) : Statement (.corniceRead dt str reg) :=
  of_def _

theorem corniceWrite (dt : Nat) (str : Fin 64) (reg : Byte) (data : Word) : Statement (.corniceWrite dt str reg data) :=
  of_def _

theorem corniceReply (dt : Nat) (line : Fin 8) (reply : BitVec 48) : Statement (.corniceReply dt line reply) :=
  of_def _

theorem corniceNoReply (dt : Nat) (line : Fin 8) : Statement (.corniceNoReply dt line) :=
  of_def _

theorem corniceLineFault (dt : Nat) (line : Fin 8) : Statement (.corniceLineFault dt line) :=
  of_def _

theorem serviceProofShot (dt : Nat) : Statement (.serviceProofShot dt) :=
  of_def _

theorem refillTick (dt : Nat) (observed : List (Fin 64 × Nat)) (eccBad : Bool) : Statement (.refillTick dt observed eccBad) :=
  of_def _

theorem diagnosisAgeExpired (dt : Nat) (em : Fin 1024) : Statement (.diagnosisAgeExpired dt em) :=
  of_def _

theorem reservoirComparator (dt : Nat) (str : Fin 64) (volts : Nat) : Statement (.reservoirComparator dt str volts) :=
  of_def _

theorem chargeTimeout (dt : Nat) (str : Fin 64) : Statement (.chargeTimeout dt str) :=
  of_def _

theorem comparatorCrossing (dt : Nat) (ch : Fin 1024) (path : TdcPath) (edge : TdcEdge) (stage : Fin 40) (ecc : RiseEcc) :
    Statement (.comparatorCrossing dt ch path edge stage ecc) :=
  of_def _

theorem preDetector (dt : Nat) : Statement (.preDetector dt) :=
  of_def _

theorem calTableCompute (dt : Nat) (ch : Fin 1024) (path : TdcPath) : Statement (.calTableCompute dt ch path) :=
  of_def _

theorem tileDllUnlock (dt : Nat) (tile : Fin 64) : Statement (.tileDllUnlock dt tile) :=
  of_def _

theorem engineRunStart (dt : Nat) : Statement (.engineRunStart dt) :=
  of_def _

theorem engNop (dt : Nat) (e : Fin 256) (slot : SlotKind) (ecc : EccHit) : Statement (.engNop dt e slot ecc) :=
  of_def _

theorem engLdb (dt : Nat) (e : Fin 256) (op : LSlot) (ecc : EccHit) : Statement (.engLdb dt e op ecc) :=
  of_def _

theorem engLdh (dt : Nat) (e : Fin 256) (op : LSlot) (ecc : EccHit) : Statement (.engLdh dt e op ecc) :=
  of_def _

theorem engLdw (dt : Nat) (e : Fin 256) (op : LSlot) (ecc : EccHit) : Statement (.engLdw dt e op ecc) :=
  of_def _

theorem engLdd (dt : Nat) (e : Fin 256) (op : LSlot) (ecc : EccHit) : Statement (.engLdd dt e op ecc) :=
  of_def _

theorem engLdb4 (dt : Nat) (e : Fin 256) (op : LSlot) (ecc : EccHit) : Statement (.engLdb4 dt e op ecc) :=
  of_def _

theorem engStb (dt : Nat) (e : Fin 256) (op : LSlot) : Statement (.engStb dt e op) :=
  of_def _

theorem engSth (dt : Nat) (e : Fin 256) (op : LSlot) : Statement (.engSth dt e op) :=
  of_def _

theorem engStw (dt : Nat) (e : Fin 256) (op : LSlot) : Statement (.engStw dt e op) :=
  of_def _

theorem engStd (dt : Nat) (e : Fin 256) (op : LSlot) : Statement (.engStd dt e op) :=
  of_def _

theorem engAdd (dt : Nat) (e : Fin 256) (op : ASlot) : Statement (.engAdd dt e op) :=
  of_def _

theorem engAdds (dt : Nat) (e : Fin 256) (op : ASlot) : Statement (.engAdds dt e op) :=
  of_def _

theorem engSub (dt : Nat) (e : Fin 256) (op : ASlot) : Statement (.engSub dt e op) :=
  of_def _

theorem engSubs (dt : Nat) (e : Fin 256) (op : ASlot) : Statement (.engSubs dt e op) :=
  of_def _

theorem engAnd (dt : Nat) (e : Fin 256) (op : ASlot) : Statement (.engAnd dt e op) :=
  of_def _

theorem engOr (dt : Nat) (e : Fin 256) (op : ASlot) : Statement (.engOr dt e op) :=
  of_def _

theorem engXor (dt : Nat) (e : Fin 256) (op : ASlot) : Statement (.engXor dt e op) :=
  of_def _

theorem engShl (dt : Nat) (e : Fin 256) (op : ASlot) : Statement (.engShl dt e op) :=
  of_def _

theorem engShr (dt : Nat) (e : Fin 256) (op : ASlot) : Statement (.engShr dt e op) :=
  of_def _

theorem engAsr (dt : Nat) (e : Fin 256) (op : ASlot) : Statement (.engAsr dt e op) :=
  of_def _

theorem engAsrr (dt : Nat) (e : Fin 256) (op : ASlot) : Statement (.engAsrr dt e op) :=
  of_def _

theorem engMin (dt : Nat) (e : Fin 256) (op : ASlot) : Statement (.engMin dt e op) :=
  of_def _

theorem engMax (dt : Nat) (e : Fin 256) (op : ASlot) : Statement (.engMax dt e op) :=
  of_def _

theorem engAbs (dt : Nat) (e : Fin 256) (op : ASlot) : Statement (.engAbs dt e op) :=
  of_def _

theorem engMov (dt : Nat) (e : Fin 256) (op : ASlot) : Statement (.engMov dt e op) :=
  of_def _

theorem engMovi (dt : Nat) (e : Fin 256) (op : ASlot) : Statement (.engMovi dt e op) :=
  of_def _

theorem engSath (dt : Nat) (e : Fin 256) (op : ASlot) : Statement (.engSath dt e op) :=
  of_def _

theorem engSel (dt : Nat) (e : Fin 256) (op : ASlot) : Statement (.engSel dt e op) :=
  of_def _

theorem engNorm (dt : Nat) (e : Fin 256) (op : ASlot) : Statement (.engNorm dt e op) :=
  of_def _

theorem engBexp (dt : Nat) (e : Fin 256) (op : ASlot) : Statement (.engBexp dt e op) :=
  of_def _

theorem engBxclr (dt : Nat) (e : Fin 256) (op : ASlot) : Statement (.engBxclr dt e op) :=
  of_def _

theorem engCmpeq (dt : Nat) (e : Fin 256) (op : ASlot) : Statement (.engCmpeq dt e op) :=
  of_def _

theorem engCmplt (dt : Nat) (e : Fin 256) (op : ASlot) : Statement (.engCmplt dt e op) :=
  of_def _

theorem engCmple (dt : Nat) (e : Fin 256) (op : ASlot) : Statement (.engCmple dt e op) :=
  of_def _

theorem engCmpltu (dt : Nat) (e : Fin 256) (op : ASlot) : Statement (.engCmpltu dt e op) :=
  of_def _

theorem engPand (dt : Nat) (e : Fin 256) (op : ASlot) : Statement (.engPand dt e op) :=
  of_def _

theorem engPor (dt : Nat) (e : Fin 256) (op : ASlot) : Statement (.engPor dt e op) :=
  of_def _

theorem engPnot (dt : Nat) (e : Fin 256) (op : ASlot) : Statement (.engPnot dt e op) :=
  of_def _

theorem engDiv (dt : Nat) (e : Fin 256) (op : ASlot) : Statement (.engDiv dt e op) :=
  of_def _

theorem engDivr (dt : Nat) (e : Fin 256) (op : ASlot) : Statement (.engDivr dt e op) :=
  of_def _

theorem engSqrt (dt : Nat) (e : Fin 256) (op : ASlot) : Statement (.engSqrt dt e op) :=
  of_def _

theorem engMfs (dt : Nat) (e : Fin 256) (op : ASlot) : Statement (.engMfs dt e op) :=
  of_def _

theorem engMts (dt : Nat) (e : Fin 256) (op : ASlot) : Statement (.engMts dt e op) :=
  of_def _

theorem engQmac (dt : Nat) (e : Fin 256) (op : MSlot) : Statement (.engQmac dt e op) :=
  of_def _

theorem engQmsu (dt : Nat) (e : Fin 256) (op : MSlot) : Statement (.engQmsu dt e op) :=
  of_def _

theorem engQmul (dt : Nat) (e : Fin 256) (op : MSlot) : Statement (.engQmul dt e op) :=
  of_def _

theorem engAccrd (dt : Nat) (e : Fin 256) (op : MSlot) : Statement (.engAccrd dt e op) :=
  of_def _

theorem engAccclr (dt : Nat) (e : Fin 256) (op : MSlot) : Statement (.engAccclr dt e op) :=
  of_def _

theorem engSmul (dt : Nat) (e : Fin 256) (op : MSlot) : Statement (.engSmul dt e op) :=
  of_def _

theorem engAccsum (dt : Nat) (e : Fin 256) (op : MSlot) : Statement (.engAccsum dt e op) :=
  of_def _

theorem engAccnorm (dt : Nat) (e : Fin 256) (op : MSlot) : Statement (.engAccnorm dt e op) :=
  of_def _

theorem engSetb (dt : Nat) (e : Fin 256) (op : XSlot) : Statement (.engSetb dt e op) :=
  of_def _

theorem engSeti (dt : Nat) (e : Fin 256) (op : XSlot) : Statement (.engSeti dt e op) :=
  of_def _

theorem engSetm (dt : Nat) (e : Fin 256) (op : XSlot) : Statement (.engSetm dt e op) :=
  of_def _

theorem engSetl (dt : Nat) (e : Fin 256) (op : XSlot) : Statement (.engSetl dt e op) :=
  of_def _

theorem engSetd (dt : Nat) (e : Fin 256) (op : XSlot) : Statement (.engSetd dt e op) :=
  of_def _

theorem engAddi (dt : Nat) (e : Fin 256) (op : XSlot) : Statement (.engAddi dt e op) :=
  of_def _

theorem engGeti (dt : Nat) (e : Fin 256) (op : XSlot) : Statement (.engGeti dt e op) :=
  of_def _

theorem engLoop0 (dt : Nat) (e : Fin 256) (arg : BitVec 12) : Statement (.engLoop0 dt e arg) :=
  of_def _

theorem engLoop1 (dt : Nat) (e : Fin 256) (arg : BitVec 12) : Statement (.engLoop1 dt e arg) :=
  of_def _

theorem engLend0 (dt : Nat) (e : Fin 256) : Statement (.engLend0 dt e) :=
  of_def _

theorem engLend1 (dt : Nat) (e : Fin 256) : Statement (.engLend1 dt e) :=
  of_def _

theorem engEnd (dt : Nat) (e : Fin 256) : Statement (.engEnd dt e) :=
  of_def _

theorem resultLanding (dt : Nat) (e : Fin 256) : Statement (.resultLanding dt e) :=
  of_def _

theorem guardSlotEnd (dt : Nat) (sector : Fin 8) : Statement (.guardSlotEnd dt sector) :=
  of_def _

theorem stagingComplete (dt : Nat) (sector : Fin 8) (eccBad : Bool) : Statement (.stagingComplete dt sector eccBad) :=
  of_def _

theorem storeScrub (dt : Nat) (found : StoreScrub) : Statement (.storeScrub dt found) :=
  of_def _

theorem storeRestoreDone (dt : Nat) (idx : Nat) : Statement (.storeRestoreDone dt idx) :=
  of_def _

theorem schedLoadDone (dt : Nat) : Statement (.schedLoadDone dt) :=
  of_def _

theorem warmUpEnd (dt : Nat) : Statement (.warmUpEnd dt) :=
  of_def _

theorem orderlyStopComplete (dt : Nat) : Statement (.orderlyStopComplete dt) :=
  of_def _

theorem stopTimeout (dt : Nat) : Statement (.stopTimeout dt) :=
  of_def _

theorem degradedPeriodExpiry (dt : Nat) : Statement (.degradedPeriodExpiry dt) :=
  of_def _

theorem serviceSessionTimeout (dt : Nat) : Statement (.serviceSessionTimeout dt) :=
  of_def _

theorem safeResetRisingEdge (dt : Nat) : Statement (.safeResetRisingEdge dt) :=
  of_def _

theorem safeResetPress (dt : Nat) (fb : BitVec 4) (cmpOk : Bool) : Statement (.safeResetPress dt fb cmpOk) :=
  of_def _

theorem safeResetStuck (dt : Nat) : Statement (.safeResetStuck dt) :=
  of_def _

theorem resetStuckClear (dt : Nat) : Statement (.resetStuckClear dt) :=
  of_def _

theorem estopDemand (dt : Nat) : Statement (.estopDemand dt) :=
  of_def _

theorem estopRelease (dt : Nat) : Statement (.estopRelease dt) :=
  of_def _

theorem zoneCodeTaken (dt : Nat) (code : BitVec 4) : Statement (.zoneCodeTaken dt code) :=
  of_def _

theorem zoneCodeUnstable (dt : Nat) : Statement (.zoneCodeUnstable dt) :=
  of_def _

theorem encoderEdge (dt : Nat) (up : Bool) : Statement (.encoderEdge dt up) :=
  of_def _

theorem encoderIndex (dt : Nat) (abHigh : Bool) : Statement (.encoderIndex dt abHigh) :=
  of_def _

theorem facetCrossing (dt : Nat) (k : Fin 12) : Statement (.facetCrossing dt k) :=
  of_def _

theorem encEdgeTimeout (dt : Nat) : Statement (.encEdgeTimeout dt) :=
  of_def _

theorem slsEdgeWatchdog (dt : Nat) : Statement (.slsEdgeWatchdog dt) :=
  of_def _

theorem slpFrameTimeout (dt : Nat) : Statement (.slpFrameTimeout dt) :=
  of_def _

theorem le0Period (dt : Nat) (ia : BitVec 12) (ib : BitVec 12) (ic : BitVec 12) : Statement (.le0Period dt ia ib ic) :=
  of_def _

theorem phaseCurrentComparator (dt : Nat) (ph : Fin 3) (uV : Nat) : Statement (.phaseCurrentComparator dt ph uV) :=
  of_def _

theorem le1Period (dt : Nat) : Statement (.le1Period dt) :=
  of_def _

theorem le2Period (dt : Nat) : Statement (.le2Period dt) :=
  of_def _

theorem le3Period (dt : Nat) (frame : SsiFrame) (island : SsiFrame) : Statement (.le3Period dt frame island) :=
  of_def _

theorem le4Period (dt : Nat) : Statement (.le4Period dt) :=
  of_def _

theorem le5Period (dt : Nat) : Statement (.le5Period dt) :=
  of_def _

theorem referenceInstant (dt : Nat) : Statement (.referenceInstant dt) :=
  of_def _

theorem alignmentEnd (dt : Nat) : Statement (.alignmentEnd dt) :=
  of_def _

theorem overcurrentA (dt : Nat) (ph : Fin 3) (uV : Nat) : Statement (.overcurrentA dt ph uV) :=
  of_def _

theorem busOvervolt (dt : Nat) (mV : Nat) : Statement (.busOvervolt dt mV) :=
  of_def _

theorem spinupTimeout (dt : Nat) : Statement (.spinupTimeout dt) :=
  of_def _

theorem lockRegainTimeout (dt : Nat) : Statement (.lockRegainTimeout dt) :=
  of_def _

theorem trackingErrorLimit (dt : Nat) : Statement (.trackingErrorLimit dt) :=
  of_def _

theorem loopEngineUpset (dt : Nat) (hit : LoopUpset) : Statement (.loopEngineUpset dt hit) :=
  of_def _

theorem brakeStopCondition (dt : Nat) (axis : Axis) : Statement (.brakeStopCondition dt axis) :=
  of_def _

theorem periodInEdge (dt : Nat) : Statement (.periodInEdge dt) :=
  of_def _

theorem zoneEvaluation (dt : Nat) (testOk : Bool) (arrived : Bool) : Statement (.zoneEvaluation dt testOk arrived) :=
  of_def _

theorem offTest (dt : Nat) (k : Fin 4) : Statement (.offTest dt k) :=
  of_def _

theorem offTestEnd (dt : Nat) (k : Fin 4) : Statement (.offTestEnd dt k) :=
  of_def _

theorem safeFbReadback (dt : Nat) (k : Fin 4) (level : Bool) : Statement (.safeFbReadback dt k level) :=
  of_def _

theorem lockstepMismatch (dt : Nat) (selfTestOk : Bool) : Statement (.lockstepMismatch dt selfTestOk) :=
  of_def _

theorem lockstepSelfTest (dt : Nat) (detected : Bool) : Statement (.lockstepSelfTest dt detected) :=
  of_def _

theorem safetyMemEcc (dt : Nat) : Statement (.safetyMemEcc dt) :=
  of_def _

theorem islandClock (dt : Nat) : Statement (.islandClock dt) :=
  of_def _

theorem faultNReadback (dt : Nat) : Statement (.faultNReadback dt) :=
  of_def _

theorem selfTestComplete (dt : Nat) (res : SelfTest) : Statement (.selfTestComplete dt res) :=
  of_def _

theorem roundStart (dt : Nat) : Statement (.roundStart dt) :=
  of_def _

theorem excitationSwap (dt : Nat) : Statement (.excitationSwap dt) :=
  of_def _

theorem conversionEnd (dt : Nat) (raw : List Int) : Statement (.conversionEnd dt raw) :=
  of_def _

theorem openDetect (dt : Nat) (ch : Fin 48) : Statement (.openDetect dt ch) :=
  of_def _

theorem dieMonitorRead (dt : Nat) (ts : List Int) : Statement (.dieMonitorRead dt ts) :=
  of_def _

theorem hardTrip (dt : Nat) : Statement (.hardTrip dt) :=
  of_def _

theorem hardTripRelease (dt : Nat) : Statement (.hardTripRelease dt) :=
  of_def _

theorem pmbusPoll (dt : Nat) (readings : List PmbReading) : Statement (.pmbusPoll dt readings) :=
  of_def _

theorem pmbAlert (dt : Nat) (words : List PmbReading) : Statement (.pmbAlert dt words) :=
  of_def _

theorem flashWriteDone (dt : Nat) : Statement (.flashWriteDone dt) :=
  of_def _

theorem healthWindow (dt : Nat) (m : Fin 64) : Statement (.healthWindow dt m) :=
  of_def _

theorem powerOn (dt : Nat) : Statement (.powerOn dt) :=
  of_def _

theorem powerLoss (dt : Nat) : Statement (.powerLoss dt) :=
  of_def _

theorem porstAssert (dt : Nat) : Statement (.porstAssert dt) :=
  of_def _

theorem porstRelease (dt : Nat) (low : PorstLow) : Statement (.porstRelease dt low) :=
  of_def _

theorem vddIoLow (dt : Nat) : Statement (.vddIoLow dt) :=
  of_def _

theorem resetCauseEnd (dt : Nat) : Statement (.resetCauseEnd dt) :=
  of_def _

theorem rootPllLock (dt : Nat) : Statement (.rootPllLock dt) :=
  of_def _

theorem rootPllUnlock (dt : Nat) : Statement (.rootPllUnlock dt) :=
  of_def _

theorem refclkLost (dt : Nat) : Statement (.refclkLost dt) :=
  of_def _

theorem refclkHoldoverExpired (dt : Nat) : Statement (.refclkHoldoverExpired dt) :=
  of_def _

theorem referenceHoldoverEnd (dt : Nat) : Statement (.referenceHoldoverEnd dt) :=
  of_def _

theorem railPgGood (dt : Nat) (rail : Fin 6) : Statement (.railPgGood dt rail) :=
  of_def _

theorem railPgTimeout (dt : Nat) (rail : Fin 6) : Statement (.railPgTimeout dt rail) :=
  of_def _

theorem railPgLost (dt : Nat) (rail : Fin 6) : Statement (.railPgLost dt rail) :=
  of_def _

theorem domainPowerGood (dt : Nat) (d : Fin 34) : Statement (.domainPowerGood dt d) :=
  of_def _

theorem domainSwitch (dt : Nat) (d : Fin 34) : Statement (.domainSwitch dt d) :=
  of_def _

theorem safetyWatchdog (dt : Nat) : Statement (.safetyWatchdog dt) :=
  of_def _

theorem appWatchdog (dt : Nat) : Statement (.appWatchdog dt) :=
  of_def _

theorem appRestartDone (dt : Nat) : Statement (.appRestartDone dt) :=
  of_def _

theorem startWatchdog (dt : Nat) : Statement (.startWatchdog dt) :=
  of_def _

theorem imageLoaded (dt : Nat) : Statement (.imageLoaded dt) :=
  of_def _

theorem signalDetect (dt : Nat) (port : Fin 4) : Statement (.signalDetect dt port) :=
  of_def _

theorem cdrLock (dt : Nat) (port : Fin 4) (lane : Fin 4) : Statement (.cdrLock dt port lane) :=
  of_def _

theorem commaAlignment (dt : Nat) (port : Fin 4) : Statement (.commaAlignment dt port) :=
  of_def _

theorem ctsReceived (dt : Nat) (port : Fin 4) (sym : BitVec 48) (inverted : Bool) : Statement (.ctsReceived dt port sym inverted) :=
  of_def _

theorem dtpReceived (dt : Nat) (port : Fin 4) (phys : Fin 3) (inverted : Bool) (code : BitVec 17) : Statement (.dtpReceived dt port phys inverted code) :=
  of_def _

theorem blockLock (dt : Nat) (port : Fin 4) (lane : Fin 3) : Statement (.blockLock dt port lane) :=
  of_def _

theorem dskBlock (dt : Nat) (port : Fin 4) (phys : Fin 3) (payload : BitVec 64) (inPlace : Bool) : Statement (.dskBlock dt port phys payload inPlace) :=
  of_def _

theorem dskSend (dt : Nat) (port : Fin 4) : Statement (.dskSend dt port) :=
  of_def _

theorem creditInitialisation (dt : Nat) (port : Fin 4) (type : Byte) (content : BitVec 56) :
    Statement (.creditInitialisation dt port type content) :=
  of_def _

theorem bringupTimeout (dt : Nat) (port : Fin 4) (lane : Fin 4) : Statement (.bringupTimeout dt port lane) :=
  of_def _

theorem bringupRestart (dt : Nat) (port : Fin 4) : Statement (.bringupRestart dt port) :=
  of_def _

theorem dataLockLost (dt : Nat) (port : Fin 4) (loss : LockLoss) : Statement (.dataLockLost dt port loss) :=
  of_def _

theorem ctlLaneLost (dt : Nat) (port : Fin 4) : Statement (.ctlLaneLost dt port) :=
  of_def _

theorem excludedLaneRetrain (dt : Nat) (port : Fin 4) : Statement (.excludedLaneRetrain dt port) :=
  of_def _

theorem sleepEntry (dt : Nat) (port : Fin 4) : Statement (.sleepEntry dt port) :=
  of_def _

theorem wake (dt : Nat) (port : Fin 4) : Statement (.wake dt port) :=
  of_def _

theorem controlSlotSend (dt : Nat) (port : Fin 4) : Statement (.controlSlotSend dt port) :=
  of_def _

theorem controlCycleStart (dt : Nat) : Statement (.controlCycleStart dt) :=
  of_def _

theorem syncSlot (dt : Nat) (port : Fin 4) (body : BitVec 120) (frac : Byte) : Statement (.syncSlot dt port body frac) :=
  of_def _

theorem linkSlot (dt : Nat) (port : Fin 4) (body : BitVec 120) : Statement (.linkSlot dt port body) :=
  of_def _

theorem keepaliveLost (dt : Nat) (port : Fin 4) : Statement (.keepaliveLost dt port) :=
  of_def _

theorem stopHoldReceived (dt : Nat) (port : Fin 4) (body : BitVec 120) : Statement (.stopHoldReceived dt port body) :=
  of_def _

theorem msgFragment (dt : Nat) (port : Fin 4) (body : BitVec 120) : Statement (.msgFragment dt port body) :=
  of_def _

theorem reassemblyTimeout (dt : Nat) (src : BitVec 16) (id : Byte) : Statement (.reassemblyTimeout dt src id) :=
  of_def _

theorem discAssign (dt : Nat) (port : Fin 4) (gen : Byte) (addr : BitVec 16) (down : Bool) (hops : Byte) : Statement (.discAssign dt port gen addr down hops) :=
  of_def _

theorem discDone (dt : Nat) (port : Fin 4) (gen : Byte) (next : BitVec 16) (down : Bool) (refused : Bool) : Statement (.discDone dt port gen next down refused) :=
  of_def _

theorem discChange (dt : Nat) (port : Fin 4) (gen : Byte) (addr : BitVec 16) (cause : Byte) : Statement (.discChange dt port gen addr cause) :=
  of_def _

theorem discoveryStart (dt : Nat) : Statement (.discoveryStart dt) :=
  of_def _

theorem discoveryFailed (dt : Nat) : Statement (.discoveryFailed dt) :=
  of_def _

theorem discoveryRetry (dt : Nat) : Statement (.discoveryRetry dt) :=
  of_def _

theorem addressLoss (dt : Nat) : Statement (.addressLoss dt) :=
  of_def _

theorem dataPacket (dt : Nat) (port : Fin 4) (pkt : Packet) (crc : Word) (inside : Option (BitVec 64)) :
    Statement (.dataPacket dt port pkt crc inside) :=
  of_def _

theorem packetSend (dt : Nat) (port : Fin 4) : Statement (.packetSend dt port) :=
  of_def _

theorem creditBlock (dt : Nat) (port : Fin 4) (payload : BitVec 64) : Statement (.creditBlock dt port payload) :=
  of_def _

theorem creditReturn (dt : Nat) (port : Fin 4) : Statement (.creditReturn dt port) :=
  of_def _

theorem slotReportSend (dt : Nat) (port : Fin 4) : Statement (.slotReportSend dt port) :=
  of_def _

theorem verticalBlanking (dt : Nat) : Statement (.verticalBlanking dt) :=
  of_def _

theorem idleCommit (dt : Nat) : Statement (.idleCommit dt) :=
  of_def _

theorem layerUnderrun (dt : Nat) (layer : Fin 3) (timedOut : Bool) : Statement (.layerUnderrun dt layer timedOut) :=
  of_def _

theorem monGridEcc (dt : Nat) : Statement (.monGridEcc dt) :=
  of_def _

theorem hostPerstRelease (dt : Nat) (p : HostPort) : Statement (.hostPerstRelease dt p) :=
  of_def _

theorem hostLinkUp (dt : Nat) (p : HostPort) : Statement (.hostLinkUp dt p) :=
  of_def _

theorem refclkReturn (dt : Nat) : Statement (.refclkReturn dt) :=
  of_def _

theorem emissionFaultEnd (dt : Nat) (code : BitVec 16) (str : Fin 64) : Statement (.emissionFaultEnd dt code str) :=
  of_def _

theorem arpReply (dt : Nat) (p : HostPort) (ip : Word) (mac : BitVec 48) : Statement (.arpReply dt p ip mac) :=
  of_def _

theorem netConfigApply (dt : Nat) (p : HostPort) : Statement (.netConfigApply dt p) :=
  of_def _

end Sys2Proof.Laws.Timed
end

