-- ==== Sys2Proof/Tests/Slice0.lean ====
section
/-! SUPPORT. Checks of the author's own work: states and operands that meet the hypotheses of every statement of the certificate, the
refusals of well-formedness, and a few results that the spec gives in numbers. -/

namespace Sys2Proof.Tests

set_option Elab.async false
set_option linter.unusedVariables false

open Sys2Proof Sys2Proof.Machine

/-! ### States and values that the checks share -/

/-- A device in a lifecycle state with every domain powered, its clock at 100 s, port A on PCI Express and port B on Ethernet. -/
def up (l : Lcs) : State :=
  { State.reset with
    clk := 16000000000000, ct := 4096000000000000, life.lcs := l, life.open_ := true, power.pll := true, power.dom := 0x3FFFFFFFF
    power.boot.causes := [], power.boot.porst := false
    power.boot.straps := { chainRoot := false, bootSrc := 1, hostA := 1, hostB := 2 } }

/-- A far endpoint. -/
def far : Endpoint := ⟨0x0A000001, 5000⟩

/-- A response. -/
def kept : Rsp := ⟨0, 0, 0, 0, false, 0, 0, 0, 0, [], [], 0⟩

/-- A command in execution whose timeout has expired. -/
def inExec (d : Option HistDump) : Exec :=
  { req := ⟨localEntry .A, 0, 0, none⟩, src := none, since := 0, until_ := 0, dump := d, b0 := 0 }

/-- A column of mode 0. -/
def column (k : ColKind) (start stop : Nat) : Column :=
  { kind := k, start := start, stop := stop, mode := 0, frame := 1, col := 0, variants := 0, contrib := 0xFF, settling := false
    partialFrame := false, degraded := false, partner := 0xFFFF, angleA := 0, angleB := 0, sampled := false, permitted := true
    index := 0 }

/-- A column's result whose processing has ended. -/
def ended (cause : Option Nat) : Result :=
  { col := column .home 0 30000000, recs := [], lost := 0, chanLost := 0, suppressed := false, ended := 0xFF, endCause := cause }

/-- A training symbol with its check. -/
def ctsSym : BitVec 48 := BitVec.ofNat 48 (ctsChk 0 * 2 ^ 40)

/-- A deskew block. -/
def dskWord : BitVec 64 :=
  BitVec.ofNat 64 (0xD5 + crc8 (bytesOf 7 0xD5) * 2 ^ 56)

/-- A control slot's body with its CRC-16. -/
def withCrc (n : Nat) : BitVec 120 :=
  BitVec.ofNat 120 (n + crc16 (bytesOf 13 n) * 2 ^ 104)

/-- A Cornice reply of head 7 with its CRC-8. -/
def goodReply : BitVec 48 :=
  BitVec.ofNat 48 (7 * 2 ^ 45 + crc8 (bytesBE 5 (7 * 2 ^ 37)))

/-- A full count of hits, every stage with the same share. -/
def fullHits : Tab Nat :=
  (List.range 40).map (fun k => (k, 1639))

/-- The head of a safety configuration that agrees with the loop coefficients at reset: one zone set, four outputs used. -/
def safeCfg : List Byte :=
  [0x5A, 0x53, 0x41, 0x46, 0x84, 0x04, 1, 0x0F, 20, 0, 20, 50, 0, 0x10, 8, 20, 0, 0, 0, 0xB0, 0, 0x50] ++ zeros 1130

/-- A condition on the state in which a command acts is met by a device that is not OFF. -/
abbrev Meets (cond : State → Prop) : Prop :=
  ∃ s : State, s.life.lcs ≠ .off ∧ cond (s.advance 0)

/-- As `Meets`, for the rows that an OFF device takes too. -/
abbrev MeetsAny (cond : State → Prop) : Prop :=
  ∃ s : State, cond (s.advance 0)

/-- The public key of the signed files below: the base point, whose private key is 1. -/
def signerKey : List Byte :=
  bytesOf 32 p256g.1 ++ bytesOf 32 p256g.2

/-- Its digest. -/
def signerDigest : BitVec 256 :=
  BitVec.ofNat 256 (sha256 signerKey)

/-- A firmware image of the smallest length, signed. -/
def signedImage : List Byte :=
  bytesOf 4 0x5A465731 ++ [3, 0x41] ++ zeros 6 ++ bytesOf 4 576 ++ zeros 16 ++ signerKey ++ zeros 416 ++ bytesBE 32 p256g.1
    ++ bytesBE 32 0xC8AC608296456309228E778129E80B41ACF929B5D902EEF08AAFCCF3FD0867A3

/-- A schedule set of mode 7 alone: a mode block, three images for each of its four sectors, and a slice, signed; its library identifier
is 9. -/
def signedSet : List Byte :=
  bytesOf 4 0x5A534854 ++ [1, 0, 0, 0x41] ++ bytesOf 4 7 ++ bytesOf 4 9 ++ bytesOf 4 1072 ++ [0x81, 0x80] ++ bytesOf 2 13
    ++ bytesOf 4 928 ++ bytesOf 4 80 ++ signerKey ++ zeros 416 ++ bytesOf 16 (7 * 4 + 720 * 2 ^ 32 + 16 * 2 ^ 64)
    ++ (List.range 12).flatMap (fun j => bytesOf 16 (1 + 7 * 4 + (2 + j / 3) * 2 ^ 6 + j % 3 * 2 ^ 9 + (736 + 16 * j) * 2 ^ 32 + 16 * 2 ^ 64))
    ++ zeros 208 ++ bytesOf 64 (19 * 2 ^ 164 + 0xFFFF * 2 ^ 32) ++ zeros 16 ++ bytesBE 32 p256g.1
    ++ bytesBE 32 0x94A2423C221B9E163D661B55221A309DB97276B1D22AF2CA02419D76849CCB53

/-- A mode block of mode 0 that passes every check of its own: one column of its plan, no shot. -/
def plainBlock : ModeBlock :=
  { params := parOf 0, sweeps := 1, targets := [0], plan := [⟨[], []⟩], proofs := []
    pw := (List.range 64).map (fun i => (i, 64)), proofW := (List.range 64).map (fun i => (i, 224)), cost := [], pcost := []
    tl := 8, th := 24, pdMin := (List.range 8).map (fun k => (k, 1)), pats := [] }

/-- As `plainBlock`, for mode 7. -/
def lullBlock : ModeBlock :=
  { plainBlock with params := parOf 7 }

/-- A sector image whose one program ends at once. -/
def anImage : SectorImage :=
  { slotEnd := 20, programs := [[BitVec.ofNat 128 (5 * 2 ^ 112)]], map := List.replicate 30 0, tokens := [], init := [], params := {}
    calAt := [], parAt := [], skewAt := none, thr := [] }

/-- The directory of the signed set. -/
def setDir : List DirEntry :=
  ⟨0, 7, 0, 0, false, 720, 16⟩ :: (List.range 12).map (fun j => ⟨1, 7, 2 + j / 3, j % 3, false, 736 + 16 * j, 16⟩)

/-- What the validator sees of the signed set where the firmware reads a part's 16 bytes as `lullBlock` or `anImage`. -/
def plainSet : SetFile :=
  { file := signedSet, dir := setDir, slice := sliceOf signedSet
    blocks := (setDir.filter (fun e => e.kind = 0)).map (fun e => (e, some lullBlock))
    images := (setDir.filter (fun e => e.kind = 1)).map (fun e => (e, some anImage)) }

/-- The signed set is as `plainSet` where the firmware's reading of its parts makes it so. -/
theorem signed_set_read (h : Config.modeBlockOf (zeros 16) = some lullBlock) (k : Config.sectorImageOf (zeros 16) = some anImage) :
    fileSet signedSet = plainSet := by
  have hd : dirOf signedSet = setDir := by decide +kernel
  have hp : ∀ e ∈ setDir, partOf signedSet e = zeros 16 := by decide +kernel
  simp only [fileSet, plainSet, hd, SetFile.mk.injEq, true_and]
  constructor
  · apply List.map_congr_left
    intro e he
    rw [hp e (List.mem_filter.mp he).1, h]
  · apply List.map_congr_left
    intro e he
    rw [hp e (List.mem_filter.mp he).1, k]

/-- The signed set passes every check where the running firmware lists its library. -/
theorem signed_set_valid (h : Config.libIds.contains 9#32 = true) : validate 3 plainSet = none := by
  have h2 : check02 plainSet = none := by
    have e : BitVec.ofNat 32 (leAt plainSet.file 12 4) = 9#32 := by decide +kernel
    simp only [check02, e, h]
    rfl
  have h9 : check01 3 plainSet = none ∧ check03 plainSet = none ∧ check04 plainSet = none ∧ check05 plainSet = none ∧
      check06 plainSet = none ∧ check07 plainSet = none ∧ check08 plainSet = none ∧ check09 plainSet = none ∧
      check0A plainSet = none ∧ check0B plainSet = none ∧ check10 plainSet = none ∧ check11 plainSet = none ∧
      onRuns plainSet 0x12 = none ∧ onRuns plainSet 0x13 = none ∧ onRuns plainSet 0x14 = none ∧ onRuns plainSet 0x15 = none ∧
      onRuns plainSet 0x16 = none ∧ check17 plainSet = none ∧ check18 plainSet = none ∧ check19 plainSet = none ∧
      check20 plainSet = none := by
    simp only [← Option.isNone_iff_eq_none]
    decide +kernel
  obtain ⟨a1, a3, a4, a5, a6, a7, a8, a9, aA, aB, b0, b1, b2, b3, b4, b5, b6, b7, b8, b9, c0⟩ := h9
  simp [validate, a1, h2, a3, a4, a5, a6, a7, a8, a9, aA, aB, b0, b1, b2, b3, b4, b5, b6, b7, b8, b9, c0]

/-- The signature of the signed set is good. -/
theorem signed_set_good : (keyKnown [(0, { st := .active, dig := signerDigest })] signedSet && signedOk signedSet) = true := by
  decide +kernel

/-! MailboxEventsComplete -/

theorem met_MailboxEvents_1 : ∃ (p : HostPort) (m : Fin 4), Meets (fun u => u.window p = true ∧ u.meetsBell p = false ∧ ringCount
    (u.mb p m.val).cmdHead (u.mb p m.val).cmdTail ≤ 32) :=
  ⟨.A, 0, { up .standby with hostA.mbs := [(0, { cmdTail := 32 })] }, by decide +kernel⟩

theorem met_MailboxEvents_2 : ∃ (p : HostPort) (m : Fin 4), Meets (fun u => u.window p = true ∧ u.meetsBell p = false ∧ 32 <
    ringCount (u.mb p m.val).cmdHead (u.mb p m.val).cmdTail) :=
  ⟨.A, 3, { up .standby with hostA.mbs := [(3, { cmdTail := 33 })] }, by decide +kernel⟩

theorem met_MailboxEvents_3 : ∃ (p : HostPort) (m : Fin 4), Meets (fun u => u.window p = true ∧ u.meetsBell p = true) :=
  ⟨.B, 3, { up .standby with power.boot.straps := ⟨false, 1, 1, 1⟩, pending := [.doorbell 0 .A 0] }, by decide +kernel⟩

theorem met_MailboxEvents_10 : ∃ (p q : HostPort) (m : Fin 4) (din : Option (List Byte)) (n k : Nat), Meets (fun u => u.foreseen =
    {} ∧ u.early ≠ some (p, m.val) ∧ u.meetsTake p m.val = none ∧ u.claimWaits p m.val = some n ∧ rivalClaim u p = some (q, k)) :=
  ⟨.A, .B, 0, none, 0, 31,
    { up .standby with
      power.boot.straps := ⟨false, 1, 2, 1⟩
      hostA.mbs := [(0, { queue := [⟨far, BitVec.ofNat 512 cmdSemClaim.op, [], 0⟩] })]
      pending := [.semReadClaim 0 .B 31] },
    by decide +kernel⟩

theorem met_MailboxEvents_11 : ∃ (p : HostPort) (m : Fin 4) (din : Option (List Byte)), Meets (fun u => u.foreseen = {} ∧ u.early
    = some (p, m.val)) :=
  ⟨.A, 3, none, { up .standby with early := some (.A, 3) }, by decide +kernel⟩

theorem met_MailboxEvents_12 : ∃ (p : HostPort) (m : Fin 4) (din : Option (List Byte)), Meets (fun u => u.foreseen ≠ {}) :=
  ⟨.A, 0, none, { up .run with pending := [.islandClock 0] }, by decide +kernel⟩

theorem met_MailboxEvents_13 : ∃ (p : HostPort) (src : Endpoint) (m : Fin 4) (slot : BitVec 512) (data : List Byte), Meets (fun u
    => u.ethOn p = true ∧ data.length = (if slotDir slot.toNat then 0 else slotDlen slot.toNat) ∧ data.length ≤ 1400 ∧ (u.mb p
    m.val).keep.find? (fun k => k.2.tag.toNat = slotTag slot.toNat && k.2.counter.toNat = slotCounter slot.toNat) = none ∧ (u.mb p
    m.val).queue.length < 32) :=
  ⟨.B, far, 3, BitVec.ofNat 512 (1400 * 2 ^ 160), zeros 1400, up .standby, by decide +kernel⟩

theorem met_MailboxEvents_14 : ∃ (p : HostPort) (src : Endpoint) (m : Fin 4) (slot : BitVec 512) (data : List Byte) (k : Endpoint
    × Rsp), Meets (fun u => u.ethOn p = true ∧ data.length = (if slotDir slot.toNat then 0 else slotDlen slot.toNat) ∧ data.length
    ≤ 1400 ∧ (u.mb p m.val).keep.find? (fun k => k.2.tag.toNat = slotTag slot.toNat && k.2.counter.toNat = slotCounter slot.toNat)
    = some k) :=
  ⟨.B, far, 0, 0, [], ⟨far, kept⟩, { up .standby with hostB.mbs := [(0, { keep := [⟨far, kept⟩] })] }, by decide +kernel⟩

theorem met_MailboxEvents_15 : ∃ (p : HostPort) (src : Endpoint) (m : Fin 4) (slot : BitVec 512) (data : List Byte), Meets (fun u
    => u.ethOn p = true ∧ data.length = (if slotDir slot.toNat then 0 else slotDlen slot.toNat) ∧ data.length ≤ 1400 ∧ (u.mb p
    m.val).keep.find? (fun k => k.2.tag.toNat = slotTag slot.toNat && k.2.counter.toNat = slotCounter slot.toNat) = none ∧ 32 ≤
    (u.mb p m.val).queue.length) :=
  ⟨.B, far, 0, 0, [], { up .standby with hostB.mbs := [(0, { queue := List.replicate 32 ⟨far, 0, [], 0⟩ })] }, by decide +kernel⟩

theorem met_MailboxEvents_16 : ∃ (p : HostPort) (m : Fin 4) (x : Exec), Meets (fun u => (u.mb p m.val).exec = some x ∧ x.until_ ≤
    u.clk) :=
  ⟨.A, 0, inExec none, { up .standby with hostA.mbs := [(0, { exec := some (inExec none) })] }, by decide +kernel⟩

theorem met_MailboxEvents_17 : ∃ (p : HostPort) (m : Fin 4) (x : Exec) (d : HistDump), Meets (fun u => (u.mb p m.val).exec = some
    x ∧ x.dump = some d ∧ d.left = 0) :=
  ⟨.B, 0, inExec (some ⟨5, 0, []⟩), ⟨5, 0, []⟩,
    { up .standby with
      hostB.mbs := [(0, { exec := some (inExec (some ⟨5, 0, []⟩)) })] },
    by decide +kernel⟩

/-! SemaphoreAndLockoutEventsComplete -/

theorem met_SemaphoreAndLockoutEvents_1 : ∃ (p : HostPort) (n : Fin 32), Meets (fun u => u.window p = true ∧ rivalClaim u p = none
    ∧ (u.sem n.val).owner = none) :=
  ⟨.A, 31, up .standby, by decide +kernel⟩

theorem met_SemaphoreAndLockoutEvents_2 : ∃ (p : HostPort) (n : Fin 32) (e : Entry), Meets (fun u => u.window p = true ∧
    rivalClaim u p = none ∧ (u.sem n.val).owner = some e) :=
  ⟨.A, 31, localEntry .B, { up .standby with sems := [(31, { owner := some (localEntry .B) })] }, by decide +kernel⟩

theorem met_SemaphoreAndLockoutEvents_3 : ∃ (p q : HostPort) (n : Fin 32) (k : Nat), Meets (fun u => u.window p = true ∧
    rivalClaim u p = some (q, k) ∧ k = n.val ∧ u.prio = (q == .B)) :=
  ⟨.A, .B, 31, 31,
    { up .standby with
      power.boot.straps := ⟨false, 1, 1, 1⟩
      pending := [.semReadClaim 0 .B 31]
      prio := true },
    by decide +kernel⟩

theorem met_SemaphoreAndLockoutEvents_4 : ∃ (p q : HostPort) (n : Fin 32) (k : Nat), Meets (fun u => u.window p = true ∧
    rivalClaim u p = some (q, k) ∧ (k ≠ n.val ∨ u.prio ≠ (q == .B))) :=
  ⟨.A, .B, 31, 31,
    { up .standby with
      power.boot.straps := ⟨false, 1, 1, 1⟩
      pending := [.semReadClaim 0 .B 31] },
    by decide +kernel⟩

theorem met_SemaphoreAndLockoutEvents_5 : ∃ (p : HostPort) (n : Fin 32) (w : Word), Meets (fun u => u.window p = true ∧ (u.sem
    n.val).owner = some (localEntry p) ∧ bitN w.toNat 7 = false) :=
  ⟨.A, 0, 0, { up .standby with sems := [(0, { owner := some (localEntry .A) })] }, by decide +kernel⟩

theorem met_SemaphoreAndLockoutEvents_6 : ∃ (p : HostPort) (n : Fin 32) (w : Word), Meets (fun u => u.window p = true ∧ (u.sem
    n.val).owner ≠ some (localEntry p)) :=
  ⟨.A, 0, 0x80, { up .standby with sems := [(0, { owner := some (localEntry .B) })] }, by decide +kernel⟩

theorem met_SemaphoreAndLockoutEvents_7 : ∃ (p : HostPort) (n : Fin 32) (w : Word), Meets (fun u => u.window p = true ∧ (u.sem
    n.val).owner = some (localEntry p) ∧ bitN w.toNat 7 = true) :=
  ⟨.A, 0, 0x80, { up .standby with sems := [(0, { owner := some (localEntry .A) })] }, by decide +kernel⟩

theorem met_SemaphoreAndLockoutEvents_8 : ∃ (n : Fin 32) (e : Entry), Meets (fun u => (u.sem n.val).owner = some e ∧ (u.sem
    n.val).exp ≤ u.clk) :=
  ⟨31, localEntry .A,
    { up .standby with
      sems := [(31, { owner := some (localEntry .A), exp := (up .standby).clk })] },
    by decide +kernel⟩

theorem met_SemaphoreAndLockoutEvents_9 : ∃ (who : Entry) (t : Nat), Meets (fun u => (u.auth who).lockUntil = some t ∧ t ≤ u.clk)
    :=
  ⟨localEntry .A, (up .standby).clk,
    { up .standby with
      auths := [(0, { lockUntil := some (up .standby).clk })] },
    by decide +kernel⟩

/-! RegisterAndSessionEventsComplete -/

theorem met_RegisterAndSessionEvents_1 : ∃ p : HostPort, Meets (fun u => u.window p = true) :=
  ⟨.A, up .standby, by decide +kernel⟩

theorem met_RegisterAndSessionEvents_2 : ∃ (p : HostPort) (w : Word), Meets (fun u => u.window p = true ∧ bitN (u.port
    p).points.ctrl.toNat 0 = false) :=
  ⟨.A, 0x401, up .standby, by decide +kernel⟩

theorem met_RegisterAndSessionEvents_3 : ∃ (p : HostPort) (w : Word), Meets (fun u => u.window p = true ∧ bitN (u.port
    p).events.ctrl.toNat 0 = false ∧ bitN (setFld w.toNat 0 1 1) 0 = true) :=
  ⟨.A, 1, up .standby, by decide +kernel⟩

theorem met_RegisterAndSessionEvents_4 : ∃ (p : HostPort) (k : RingKind) (w : Word), Meets (fun u => u.window p = true) :=
  ⟨.A, .event, 0, up .standby, by decide +kernel⟩

theorem met_RegisterAndSessionEvents_5 : ∃ (p : HostPort) (w : Word), Meets (fun u => u.window p = true) :=
  ⟨.A, 1, up .standby, by decide +kernel⟩

theorem met_RegisterAndSessionEvents_6 : ∃ (p : HostPort) (w : Word), Meets (fun u => u.window p = true) :=
  ⟨.A, 1, up .standby, by decide +kernel⟩

theorem met_RegisterAndSessionEvents_7 : ∃ (p : HostPort) (m : Fin 4) (w : Word), Meets (fun u => u.window p = true) :=
  ⟨.A, 3, 33, up .standby, by decide +kernel⟩

theorem met_RegisterAndSessionEvents_8 : ∃ (p : HostPort) (why : SessionEnd), Meets (fun u => u.isPcie p = true ∧ (why = .flr ∨
    why = .hotReset)) :=
  ⟨.A, .flr, up .standby, by decide +kernel⟩

theorem met_RegisterAndSessionEvents_9 : ∃ p : HostPort, Meets (fun u => u.isPcie p = true) :=
  ⟨.A, up .standby, by decide +kernel⟩

theorem met_RegisterAndSessionEvents_11 : ∃ p : HostPort, Meets (fun u => u.portMode p ≠ 0 ∧ u.domOn (28 + portIdx p) = true ∧
    u.isPcie p = true ∧ (u.port p).perst = false) :=
  ⟨.A, up .standby, by decide +kernel⟩

theorem met_RegisterAndSessionEvents_12 : ∃ p : HostPort, Meets (fun u => u.portMode p ≠ 0 ∧ u.domOn (28 + portIdx p) = true ∧
    u.isPcie p = false) :=
  ⟨.B, up .standby, by decide +kernel⟩

theorem met_RegisterAndSessionEvents_13 : ∃ p : HostPort, Meets (fun u => u.isPcie p = true) :=
  ⟨.A, up .standby, by decide +kernel⟩

theorem met_RegisterAndSessionEvents_15 : ∃ p : HostPort, Meets (fun u => u.isPcie p = true ∧ u.domOn (28 + portIdx p) = true) :=
  ⟨.A, up .standby, by decide +kernel⟩

theorem met_RegisterAndSessionEvents_16 : ∃ p : HostPort, Meets (fun u => u.isPcie p = true ∧ u.domOn (28 + portIdx p) = true) :=
  ⟨.A, up .standby, by decide +kernel⟩

/-! StreamEventsComplete -/

theorem met_StreamEvents_1 : ∃ x : Result, Meets (fun u => nextResult u.front.results = some x ∧ x.complete = true ∧ x.endCause =
    none) :=
  ⟨ended none, { up .run with front.results := [ended none] }, by decide +kernel⟩

theorem met_StreamEvents_2 : ∃ x : Result, Meets (fun u => nextResult u.front.results = some x ∧ x.complete = true ∧ x.endCause =
    some 0) :=
  ⟨ended (some 0), { up .run with front.results := [ended (some 0)] }, by decide +kernel⟩

theorem met_StreamEvents_3 : ∃ p : HostPort, Meets (fun u => 0 < (u.port p).points.units ∧ (fld (u.port p).points.ctrl.toNat 8 12
    = 0 ∨ 64 * fld (u.port p).points.ctrl.toNat 8 12 ≤ (u.port p).points.units ∨ (u.port p).points.first + us (fld (u.port
    p).points.ctrl.toNat 20 12) ≤ u.clk)) :=
  ⟨.A, { up .run with hostA.points.units := 64, hostA.points.ctrl := 0x100 }, by decide +kernel⟩

theorem met_StreamEvents_4 : ∃ (p : HostPort) (d : Endpoint), Meets (fun u => u.ethOn p = true ∧ (u.port p).net.evDst = some d ∧
    (u.port p).evQ ≠ [] ∧ u.resolved p d = true) :=
  ⟨.B, far,
    { up .run with
      hostB.net.evDst := some far
      hostB.net.mask := 0
      hostB.evQ := [⟨0, 0, 0, 0, 0, false, false, 0⟩]
      hostB.arp := [⟨0x0A000001, 0, (up .run).clk + 1⟩] },
    by decide +kernel⟩

theorem met_StreamEvents_5 : ∃ (p : HostPort) (d : Endpoint) (ip : Word), Meets (fun u => u.ethOn p = true ∧ (u.port p).net.evDst
    = some d ∧ (u.port p).evQ ≠ [] ∧ u.resolved p d = false ∧ (u.port p).net.nextHop d.ip = some ip) :=
  ⟨.B, far, 0x0A000001,
    { up .run with
      hostB.net.evDst := some far
      hostB.net.mask := 0
      hostB.evQ := [⟨0, 0, 0, 0, 0, false, false, 0⟩] },
    by decide +kernel⟩

theorem met_StreamEvents_6 : Meets (fun u => u.faults.toRecord ≠ [] ∧ u.flashAllowed = true ∧ u.flash.ok = true ∧ u.flash.service
    = none) :=
  ⟨{ up .run with faults.toRecord := [(1, 2)] }, by decide +kernel⟩

theorem met_StreamEvents_7 : ∃ l : List (Nat × Nat), Meets (fun u => u.faults.toRecord ≠ [] ∧ u.flashAllowed = true ∧ u.flash.ok =
    true ∧ u.flash.service = some (u.otp.uid, l)) :=
  ⟨[(3, 4)], { up .run with faults.toRecord := [(1, 2)], flash.service := some (0, [(3, 4)]) }, by decide +kernel⟩

/-! EthernetEventsComplete -/

theorem met_EthernetEvents_1 : ∃ (p : HostPort) (ip tip : Word) (mac : BitVec 48), Meets (fun u => u.ethOn p = true ∧ tip =
    (u.port p).net.ip) :=
  ⟨.B, 5, 0xA9FE5A0B, 0, up .run, by decide +kernel⟩

theorem met_EthernetEvents_2 : ∃ (p : HostPort) (ip tip : Word) (mac : BitVec 48), Meets (fun u => u.ethOn p = true ∧ tip ≠
    (u.port p).net.ip) :=
  ⟨.B, 5, 0xA9FE5A0A, 0, up .run, by decide +kernel⟩

theorem met_EthernetEvents_3 : ∃ (p : HostPort) (ip : Word) (mac : BitVec 48), Meets (fun u => u.ethOn p = true ∧ (u.port
    p).net.asked.contains ip = true) :=
  ⟨.B, 5, 0, { up .run with hostB.net.evDst := some ⟨5, 6⟩ }, by decide +kernel⟩

theorem met_EthernetEvents_8 : ∃ (p : HostPort) (src dst idSeq : Word) (data : List Byte), Meets (fun u => u.ethOn p = true ∧ dst
    = (u.port p).net.ip ∧ data.length ≤ 1472) :=
  ⟨.B, 5, 0xA9FE5A0B, 0, zeros 1472, up .run, by decide +kernel⟩

theorem met_EthernetEvents_9 : ∃ p : HostPort, Meets (fun u => u.ethOn p = true) :=
  ⟨.B, up .run, by decide +kernel⟩

theorem met_EthernetEvents_10 : ∃ (p : HostPort) (n : NetCfg) (t : Nat), Meets (fun u => (u.port p).netNew = some (n, t) ∧ t ≤
    u.clk) :=
  ⟨.B, {}, 7, { up .run with hostB.netNew := some ({}, 7) }, by decide +kernel⟩

/-! PtpEventsComplete -/

theorem met_PtpEvents_1 : ∃ (p : HostPort) (m : PtpAnnounce), Meets (fun u => u.ptpOn p = true ∧ m.domain = (u.port p).net.ptpDom)
    :=
  ⟨.B, ⟨1, 0, 0, 0, 0, 0, 0, 0, 0, 0⟩, { up .run with hostB.net.ptp := 1 }, by decide +kernel⟩

theorem met_PtpEvents_2 : ∃ (p : HostPort) (m : PtpSync), Meets (fun u => u.ptpOn p = true ∧ (u.port p).ptp.best = some m.master ∧
    m.twoStep = true) :=
  ⟨.B, ⟨1, 2, true, 0⟩, { up .run with hostB.net.ptp := 1, hostB.ptp.best := some 1 }, by decide +kernel⟩

theorem met_PtpEvents_3 : ∃ (p : HostPort) (m : BitVec 80) (q : BitVec 16) (t1 t2 : Nat), Meets (fun u => u.ptpOn p = true ∧
    (u.port p).ptp.best = some m ∧ (u.port p).ptp.sync = some (q, t2)) :=
  ⟨.B, 1, 2, 3, 4,
    { up .run with
      hostB.net.ptp := 2
      hostB.ptp.best := some 1
      hostB.ptp.sync := some (2, 4) },
    by decide +kernel⟩

theorem met_PtpEvents_4 : ∃ p : HostPort, Meets (fun u => u.ptpOn p = true ∧ (u.port p).ptp.best.isSome = true ∧ (u.port
    p).ptp.reqDue ≤ u.clk) :=
  ⟨.B, { up .run with hostB.net.ptp := 1, hostB.ptp.best := some 1 }, by decide +kernel⟩

theorem met_PtpEvents_5 : ∃ (p : HostPort) (m : BitVec 80) (q : BitVec 16) (t1 t2 t3 t4 : Nat) (n : Int), Meets (fun u => u.ptpOn
    p = true ∧ (u.port p).ptp.best = some m ∧ (u.port p).ptp.req = some (q, t3) ∧ (u.port p).ptp.last = some (t1, t2)) :=
  ⟨.B, 1, 2, 3, 4, 5, 6, 0,
    { up .run with
      hostB.net.ptp := 1
      hostB.ptp.best := some 1
      hostB.ptp.req := some (2, 5)
      hostB.ptp.last := some (3, 4) },
    by decide +kernel⟩

theorem met_PtpEvents_6 : ∃ p : HostPort, Meets (fun u => (u.port p).ptp.valid = true ∧ (u.port p).ptp.lastSync + 3 * (u.port
    p).ptp.interval ≤ u.clk) :=
  ⟨.B, { up .run with hostB.ptp.valid := true }, by decide +kernel⟩

theorem met_PtpEvents_7 : ∃ p : HostPort, Meets (fun u => (u.port p).ptp.valid = true ∧ (u.port p).ptp.told + sec 1 ≤ u.clk) :=
  ⟨.B, { up .run with hostB.ptp.valid := true, hostB.ptp.told := (up .run).clk - sec 1 }, by decide +kernel⟩

/-! ResetAndClockEventsComplete -/

theorem met_ResetAndClockEvents_1 : MeetsAny (fun u => u.life.lcs = .off ∧ u.power.boot.aon = false) :=
  ⟨{ up .off with power.boot.aon := false }, by decide +kernel⟩

theorem met_ResetAndClockEvents_2 : MeetsAny (fun u => u.life.lcs ≠ .off ∨ u.power.boot.aon = true) :=
  ⟨up .run, by decide +kernel⟩

theorem met_ResetAndClockEvents_4 : MeetsAny (fun u => u.power.boot.porst = false ∧ u.life.lcs ≠ .off) :=
  ⟨up .run, by decide +kernel⟩

theorem met_ResetAndClockEvents_5 : MeetsAny (fun u => u.power.boot.porst = false ∧ u.life.lcs = .off) :=
  ⟨up .off, by decide +kernel⟩

theorem met_ResetAndClockEvents_6 : ∃ low : PorstLow, MeetsAny (fun u => u.power.boot.porst = true ∧ u.life.lcs = .boot) :=
  ⟨⟨⟨true, 1, 1, 2⟩, []⟩, { up .boot with power.boot.porst := true }, by decide +kernel⟩

theorem met_ResetAndClockEvents_7 : ∃ low : PorstLow, MeetsAny (fun u => u.power.boot.porst = true ∧ u.life.lcs = .off ∧
    u.power.boot.aon = true) :=
  ⟨⟨⟨true, 1, 1, 2⟩, []⟩, { up .off with power.boot.porst := true }, by decide +kernel⟩

theorem met_ResetAndClockEvents_8 : ∃ low : PorstLow, MeetsAny (fun u => u.power.boot.porst = true ∧ u.life.lcs ≠ .boot ∧
    (u.life.lcs ≠ .off ∨ u.power.boot.aon = false)) :=
  ⟨⟨⟨true, 1, 1, 2⟩, []⟩, { up .off with power.boot.porst := true, power.boot.aon := false }, by decide +kernel⟩

theorem met_ResetAndClockEvents_11 : Meets (fun u => u.power.pll = false ∧ u.power.boot.porst = false ∧ u.power.refclk = true) :=
  ⟨{ up .boot with power.pll := false }, by decide +kernel⟩

theorem met_ResetAndClockEvents_12 : Meets (fun u => u.power.pll = true) :=
  ⟨up .run, by decide +kernel⟩

theorem met_ResetAndClockEvents_13 : Meets (fun u => u.power.refclk = true ∧ u.power.ref = none) :=
  ⟨up .run, by decide +kernel⟩

theorem met_ResetAndClockEvents_14 : Meets (fun u => u.power.refclk = true ∧ u.power.ref ≠ none) :=
  ⟨{ up .run with power.ref := some 0 }, by decide +kernel⟩

theorem met_ResetAndClockEvents_16 : ∃ t : Nat, Meets (fun u => u.power.refLost = some t ∧ t + ms 1 ≤ u.clk) :=
  ⟨(up .run).clk - ms 1, { up .run with power.refLost := some ((up .run).clk - ms 1) }, by decide +kernel⟩

theorem met_ResetAndClockEvents_17 : ∃ t : Nat, Meets (fun u => u.power.holdAt = some t ∧ t + ms 10 ≤ u.clk) :=
  ⟨(up .run).clk - ms 10, { up .run with power.holdAt := some ((up .run).clk - ms 10) }, by decide +kernel⟩

theorem met_ResetAndClockEvents_18 : Meets (fun u => u.power.boot.causes = []) :=
  ⟨up .run, by decide +kernel⟩

theorem met_ResetAndClockEvents_19 : ∃ t : Nat, Meets (fun u => u.power.boot.started = some t ∧ u.life.lcs = .boot ∧ t + sec 3 ≤
    u.clk) :=
  ⟨0, { up .boot with power.boot.started := some 0 }, by decide +kernel⟩

theorem met_ResetAndClockEvents_20 : Meets (fun u => u.life.lcs ≠ .boot ∧ u.domOn 33 = true ∧ u.power.appDown = false ∧
    (u.power.appHits.filter (fun t => u.clk ≤ t + sec 10)).length < 2) :=
  ⟨up .run, by decide +kernel⟩

theorem met_ResetAndClockEvents_21 : Meets (fun u => u.life.lcs ≠ .boot ∧ u.domOn 33 = true ∧ u.power.appDown = false ∧ 2 ≤
    (u.power.appHits.filter (fun t => u.clk ≤ t + sec 10)).length) :=
  ⟨{ up .run with power.appHits := [(up .run).clk, (up .run).clk - sec 10] }, by decide +kernel⟩

theorem met_ResetAndClockEvents_22 : Meets (fun u => u.power.appDown = true ∧ u.domOn 33 = true ∧ u.power.afterTrip = false) :=
  ⟨{ up .run with power.appDown := true }, by decide +kernel⟩

theorem met_ResetAndClockEvents_23 : Meets (fun u => u.power.appDown = true ∧ u.domOn 33 = true ∧ u.power.afterTrip = true) :=
  ⟨{ up .run with power.appDown := true, power.afterTrip := true }, by decide +kernel⟩

/-! RailAndDomainEventsComplete -/

theorem met_RailAndDomainEvents_1 : ∃ rail : Fin 6, Meets (fun u => bitN u.power.railEn.toNat rail.val = true ∧ u.railSettled
    rail.val = false) :=
  ⟨5, { up .run with power.railEn := 32 }, by decide +kernel⟩

theorem met_RailAndDomainEvents_2 : ∃ rail : Fin 6, Meets (fun u => bitN u.power.railEn.toNat rail.val = true ∧ u.railSettled
    rail.val = false ∧ tget 0 u.power.railAt rail.val + ms 8 ≤ u.clk ∧ rail.val ≠ 2 ∧ rail.val ≠ 3) :=
  ⟨5, { up .run with power.railEn := 32, power.railAt := [(5, (up .run).clk - ms 8)] }, by decide +kernel⟩

theorem met_RailAndDomainEvents_3 : ∃ rail : Fin 6, Meets (fun u => bitN u.power.railEn.toNat rail.val = true ∧ u.railSettled
    rail.val = false ∧ tget 0 u.power.railAt rail.val + ms 8 ≤ u.clk ∧ (rail.val = 2 ∨ rail.val = 3)) :=
  ⟨3, { up .run with power.railEn := 8, power.railAt := [(3, (up .run).clk - ms 8)] }, by decide +kernel⟩

theorem met_RailAndDomainEvents_4 : ∃ rail : Fin 6, Meets (fun u => bitN u.power.railPg.toNat rail.val = true ∧ rail.val ≤ 1) :=
  ⟨1, { up .run with power.railPg := 2 }, by decide +kernel⟩

theorem met_RailAndDomainEvents_5 : ∃ rail : Fin 6, Meets (fun u => bitN u.power.railPg.toNat rail.val = true ∧ 2 ≤ rail.val) :=
  ⟨2, { up .run with power.railPg := 4 }, by decide +kernel⟩

theorem met_RailAndDomainEvents_6 : ∃ d : Fin 34, Meets (fun u => u.power.ramping.any (fun x => x.1 = d.val) = true ∧ u.mayPower
    d.val = false) :=
  ⟨32, { up .run with power.dom := 0, power.ramping := [(32, 0)] }, by decide +kernel⟩

theorem met_RailAndDomainEvents_7 : ∃ d : Fin 34, Meets (fun u => u.power.ramping.any (fun x => x.1 = d.val) = true ∧ u.mayPower
    d.val = true) :=
  ⟨33, { up .run with power.ramping := [(33, 0)] }, by decide +kernel⟩

theorem met_RailAndDomainEvents_8 : ∃ d : Fin 34, Meets (fun u => u.power.ramping.any (fun x => x.1 = d.val && x.2 + us 500 ≤
    u.clk) = true) :=
  ⟨33, { up .run with power.ramping := [(33, (up .run).clk - us 500)] }, by decide +kernel⟩

theorem met_RailAndDomainEvents_9 : Meets (fun u => u.hk.trip = false ∧ u.life.lcs ≠ .boot) :=
  ⟨up .run, by decide +kernel⟩

theorem met_RailAndDomainEvents_10 : Meets (fun u => u.hk.trip = false ∧ u.life.lcs = .boot) :=
  ⟨up .boot, by decide +kernel⟩

theorem met_RailAndDomainEvents_11 : Meets (fun u => u.hk.trip = true ∧ u.life.lcs ≠ .boot) :=
  ⟨{ up .run with hk.trip := true }, by decide +kernel⟩

theorem met_RailAndDomainEvents_12 : Meets (fun u => u.hk.trip = true ∧ u.life.lcs = .boot ∧ u.power.boot.causes = []) :=
  ⟨{ up .boot with hk.trip := true }, by decide +kernel⟩

/-! BootImageEventsComplete -/

theorem met_BootImageEvents_1 : Meets (fun u => u.life.lcs = .boot ∧ u.power.boot.phase = 4 ∧ u.imageOk u.power.boot.image = true)
    :=
  ⟨{ up .boot with
      power.boot.phase := 4
      power.boot.image := signedImage
      otp.fw := [(0, { st := .active, dig := signerDigest })] },
    by decide +kernel⟩

theorem met_BootImageEvents_2 : Meets (fun u => u.life.lcs = .boot ∧ u.power.boot.phase = 4 ∧ u.imageOk u.power.boot.image =
    false) :=
  ⟨{ up .boot with power.boot.phase := 4 }, by decide +kernel⟩

theorem met_BootImageEvents_3 : Meets (fun u => u.life.lcs = .boot ∧ u.power.boot.phase = 3 ∧ u.power.boot.fault ≠ 6 ∧ u.slotOk
    u.power.boot.slot = true) :=
  ⟨{ up .boot with
      power.boot.phase := 3
      flash.slotA := signedImage
      otp.fw := [(0, { st := .active, dig := signerDigest })] },
    by decide +kernel⟩

theorem met_BootImageEvents_4 : Meets (fun u => u.life.lcs = .boot ∧ u.power.boot.phase = 3 ∧ u.power.boot.fault ≠ 6 ∧ u.slotOk
    u.power.boot.slot = false ∧ u.power.boot.tried.contains (1 - u.power.boot.slot) = false) :=
  ⟨{ up .boot with power.boot.phase := 3 }, by decide +kernel⟩

theorem met_BootImageEvents_5 : Meets (fun u => u.life.lcs = .boot ∧ u.power.boot.phase = 3 ∧ u.power.boot.fault ≠ 6 ∧ u.slotOk
    u.power.boot.slot = false ∧ u.power.boot.tried.contains (1 - u.power.boot.slot) = true) :=
  ⟨{ up .boot with power.boot.phase := 3, power.boot.tried := [1] }, by decide +kernel⟩

theorem met_BootImageEvents_6 : ∃ (p : HostPort) (l : List Byte), Meets (fun u => u.life.lcs = .boot ∧ u.power.boot.phase = 8 ∧
    u.isPcie p = true ∧ u.domOn (28 + portIdx p) = true ∧ (u.port p).perst = false) :=
  ⟨.A, [1], { up .boot with power.boot.phase := 8 }, by decide +kernel⟩

theorem met_BootImageEvents_7 : ∃ p : HostPort, Meets (fun u => u.life.lcs = .boot ∧ u.power.boot.phase = 8 ∧ u.isPcie p = true ∧
    u.domOn (28 + portIdx p) = true ∧ (u.port p).perst = false) :=
  ⟨.A, { up .boot with power.boot.phase := 8 }, by decide +kernel⟩

theorem met_BootImageEvents_8 : ∃ (p : HostPort) (src : Endpoint) (bytes : List Byte), Meets (fun u => u.ethOn p = true ∧
    u.life.lcs = .boot ∧ leAt bytes 0 4 = 0x00044D5A ∧ 13 ≤ bytes.length ∧ bytes.length ≤ 1412) :=
  ⟨.B, far, [0x5A, 0x4D, 0x04, 0x00] ++ zeros 9, up .boot, by decide +kernel⟩

theorem met_BootImageEvents_9 : ∃ res : SelfTest, Meets (fun u => u.life.lcs = .boot ∧ u.power.boot.phase = 6 ∧ u.power.boot.fault
    ≠ 8 ∧ u.storedSafe.isSome = true ∧ res.comparator = true ∧ res.secded = true ∧ res.oscillator = true ∧ res.gateLow = true ∧
    res.safeFbOff = true ∧ res.faultN = true) :=
  ⟨⟨true, true, true, true, true, true⟩,
    { up .boot with
      power.boot.phase := 6
      flash.safe := some (bytesOf 4 (crc32 []), 20) },
    by decide +kernel⟩

theorem met_BootImageEvents_10 : ∃ res : SelfTest, Meets (fun u => u.life.lcs = .boot ∧ u.power.boot.phase = 6 ∧
    u.power.boot.fault ≠ 8 ∧ (res.comparator && res.secded && res.oscillator && res.gateLow && res.safeFbOff && res.faultN) =
    false) :=
  ⟨⟨true, true, false, true, true, true⟩, { up .boot with power.boot.phase := 6 }, by decide +kernel⟩

/-! RidgeBringupEventsComplete -/

theorem met_RidgeBringupEvents_1 : ∃ q : Fin 4, Meets (fun u => u.portAlive q.val = true ∧ (u.rport q.val).up = false ∧ ((u.rport
    q.val).lane 0).stage = 1) :=
  ⟨3, { up .run with chain.ports := [(3, { active := true, cfg := 0 })] }, by decide +kernel⟩

theorem met_RidgeBringupEvents_2 : ∃ q l : Fin 4, Meets (fun u => u.portAlive q.val = true ∧ ((u.rport q.val).lane l.val).stage =
    2 ∧ (if l.val = 0 then (u.rport q.val).up = false else (u.rport q.val).dataRuns = true ∧ (u.rport q.val).takesPart (l.val - 1)
    = true)) :=
  ⟨3, 3,
    { up .run with
      chain.ports := [(3, { active := true, lanes := [(0, { stage := 2 }), (3, { stage := 2 })] })] },
    by decide +kernel⟩

theorem met_RidgeBringupEvents_3 : ∃ q : Fin 4, Meets (fun u => u.portAlive q.val = true ∧ (u.rport q.val).up = false ∧ ((u.rport
    q.val).lane 0).stage = 3) :=
  ⟨0, { up .run with chain.ports := [(0, { active := true, lanes := [(0, { stage := 3 })] })] }, by decide +kernel⟩

theorem met_RidgeBringupEvents_4 : ∃ (q : Fin 4) (sym : BitVec 48) (inv : Bool), Meets (fun u => u.portAlive q.val = true ∧
    (u.rport q.val).up = false ∧ ((u.rport q.val).lane 0).stage = 4 ∧ ctsChk sym.toNat = fld sym.toNat 40 8 ∧ runOf ((u.rport
    q.val).lane 0) (b2n inv) < 4) :=
  ⟨0, ctsSym, true, { up .run with chain.ports := [(0, { active := true, lanes := [(0, { stage := 4 })] })] }, by decide +kernel⟩

theorem met_RidgeBringupEvents_5 : ∃ (q : Fin 4) (sym : BitVec 48) (inv : Bool), Meets (fun u => u.portAlive q.val = true ∧
    (u.rport q.val).up = false ∧ ((u.rport q.val).lane 0).stage = 4 ∧ ctsChk sym.toNat = fld sym.toNat 40 8 ∧ 4 ≤ runOf ((u.rport
    q.val).lane 0) (b2n inv)) :=
  ⟨0, ctsSym, true,
    { up .run with
      chain.ports := [(0, { active := true, lanes := [(0, { stage := 4, run := 3, last := 1 })] })] },
    by decide +kernel⟩

theorem met_RidgeBringupEvents_6 : ∃ (q : Fin 4) (sym : BitVec 48) (inv : Bool), Meets (fun u => u.portAlive q.val = true ∧
    (u.rport q.val).up = false ∧ ((u.rport q.val).lane 0).stage = 9 ∧ ctsChk sym.toNat = fld sym.toNat 40 8) :=
  ⟨0, ctsSym, true, { up .run with chain.ports := [(0, { active := true, lanes := [(0, { stage := 9 })] })] }, by decide +kernel⟩

theorem met_RidgeBringupEvents_7 : ∃ (q : Fin 4) (m : Fin 3) (inv : Bool) (code : BitVec 17), Meets (fun u => u.portAlive q.val =
    true ∧ (u.rport q.val).dataRuns = true ∧ (u.rport q.val).takesPart m.val = true ∧ ((u.rport q.val).lane (m.val + 1)).stage = 4
    ∧ 4 ≤ runOf ((u.rport q.val).lane (m.val + 1)) (b2n inv)) :=
  ⟨0, 2, false, 0,
    { up .run with
      chain.ports := [(0, { active := true, lanes := [(0, { stage := 2 }), (3, { stage := 4, run := 3 })] })] },
    by decide +kernel⟩

theorem met_RidgeBringupEvents_8 : ∃ (q : Fin 4) (m : Fin 3) (inv : Bool) (code : BitVec 17), Meets (fun u => u.portAlive q.val =
    true ∧ (u.rport q.val).dataRuns = true ∧ (u.rport q.val).takesPart m.val = true ∧ ((u.rport q.val).lane (m.val + 1)).stage = 5
    ∧ popN 17 code.toNat % 2 = 1 ∧ 3 ≤ runOf ((u.rport q.val).lane (m.val + 1)) (fld code.toNat 15 2)) :=
  ⟨0, 2, false, 1,
    { up .run with
      chain.ports := [(0, { active := true, lanes := [(0, { stage := 2 }), (3, { stage := 5, run := 3 })] })] },
    by decide +kernel⟩

theorem met_RidgeBringupEvents_9 : ∃ (q : Fin 4) (m : Fin 3), Meets (fun u => u.portAlive q.val = true ∧ (u.rport q.val).dataRuns
    = true ∧ (u.rport q.val).takesPart m.val = true ∧ ((u.rport q.val).lane (m.val + 1)).stage = 6) :=
  ⟨0, 2,
    { up .run with
      chain.ports := [(0, { active := true, retrain := true, lanes := [(3, { stage := 6 })] })] },
    by decide +kernel⟩

theorem met_RidgeBringupEvents_10 : ∃ (q : Fin 4) (m : Fin 3) (seq : BitVec 16) (sleep : Bool), Meets (fun u => u.portAlive q.val
    = true ∧ (u.rport q.val).dataRuns = true ∧ (u.rport q.val).takesPart m.val = true ∧ ((u.rport q.val).lane (m.val + 1)).stage =
    7) :=
  ⟨0, 2, 0, false,
    { up .run with
      chain.ports := [(0, { active := true, retrain := true, lanes := [(3, { stage := 7 })] })] },
    by decide +kernel⟩

theorem met_RidgeBringupEvents_11 : ∃ (q : Fin 4) (m : Fin 3) (seq : BitVec 16) (sleep : Bool), Meets (fun u => u.portAlive q.val
    = true ∧ (u.rport q.val).dataRuns = true ∧ (u.rport q.val).takesPart m.val = true ∧ ((u.rport q.val).lane (m.val + 1)).stage =
    7) :=
  ⟨0, 2, 0, false,
    { up .run with
      chain.ports := [(0, { active := true, retrain := true, lanes := [(3, { stage := 7 })] })] },
    by decide +kernel⟩

theorem met_RidgeBringupEvents_12 : ∃ (q : Fin 4) (m : Fin 3) (seq : BitVec 16) (sleep : Bool), Meets (fun u => u.portAlive q.val
    = true ∧ (u.rport q.val).dataRuns = true ∧ (u.rport q.val).takesPart m.val = true ∧ ((u.rport q.val).lane (m.val + 1)).stage =
    8 ∧ (((u.rport q.val).lane (m.val + 1)).last + 1) % 65536 = seq.toNat) :=
  ⟨0, 2, 0, false,
    { up .run with
      chain.ports := [(0, { active := true, retrain := true, lanes := [(3, { stage := 8, last := 65535 })] })] },
    by decide +kernel⟩

theorem met_RidgeBringupEvents_13 : ∃ (q : Fin 4) (m : Fin 3) (seq : BitVec 16) (sleep : Bool), Meets (fun u => u.portAlive q.val
    = true ∧ (u.rport q.val).dataRuns = true ∧ (u.rport q.val).takesPart m.val = true ∧ ((u.rport q.val).lane (m.val + 1)).stage =
    8 ∧ (((u.rport q.val).lane (m.val + 1)).last + 1) % 65536 ≠ seq.toNat) :=
  ⟨0, 2, 65535, true,
    { up .run with
      chain.ports := [(0, { active := true, retrain := true, lanes := [(3, { stage := 8, last := 65535 })] })] },
    by decide +kernel⟩

theorem met_RidgeBringupEvents_14 : ∃ q : Fin 4, Meets (fun u => u.dskDue q.val = true ∧ (u.repeatInit q.val).maySleep q.val =
    false) :=
  ⟨0, { up .run with chain.ports := [(0, { active := true, switched := true })] }, by decide +kernel⟩

theorem met_RidgeBringupEvents_15 : ∃ q : Fin 4, Meets (fun u => u.dskDue q.val = false) :=
  ⟨0,
    { up .run with
      chain.ports := [(0, { active := true, switched := true, dskAt := some ((up .run).clk - 1024 * blockTicks + 1) })] },
    by decide +kernel⟩

theorem met_RidgeBringupEvents_19 : ∃ (q : Fin 4) (n : BitVec 16) (ack : Bool) (b0 : Byte) (rest : BitVec 56), Meets (fun u =>
    u.portAlive q.val = true ∧ (u.rport q.val).inStage8 = true ∧ rest ++ b0 = controlBlock 0x2D (bytesOf 2 n.toNat ++
    [BitVec.ofNat 8 (b2n ack)])) :=
  ⟨0, 0xFFFF, true, 0x2D, (controlBlock 0x2D (bytesOf 2 0xFFFF ++ [1])).extractLsb' 8 56,
    { up .run with
      chain.ports := [(0, { active := true, retrain := true, lanes := [(1, { stage := 8 }), (2, { stage := 8 }), (3, { stage := 8 })] })] },
    by decide +kernel⟩

theorem met_RidgeBringupEvents_20 : ∃ (q : Fin 4) (b0 : Byte) (rest : BitVec 56), Meets (fun u => u.portAlive q.val = true ∧
    (u.rport q.val).inStage8 = true ∧ unknownBlock (rest ++ b0) = true) :=
  ⟨0, 0, 0,
    { up .run with
      chain.ports := [(0, { active := true, retrain := true, lanes := [(1, { stage := 8 }), (2, { stage := 8 }), (3, { stage := 8 })] })] },
    by decide +kernel⟩

theorem met_RidgeBringupEvents_21 : ∃ (q : Fin 4) (b0 : Byte) (rest : BitVec 56), Meets (fun u => u.portAlive q.val = true ∧
    (u.rport q.val).inStage8 = true ∧ isBlock 0x2D (rest ++ b0) = false ∧ unknownBlock (rest ++ b0) = false) :=
  ⟨0, 0x33, (controlBlock 0x33 []).extractLsb' 8 56,
    { up .run with
      chain.ports := [(0, { active := true, retrain := true, lanes := [(1, { stage := 8 }), (2, { stage := 8 }), (3, { stage := 8 })] })] },
    by decide +kernel⟩

/-! RidgeServiceEventsComplete -/

theorem met_RidgeServiceEvents_1 : ∃ q : Fin 4, Meets (fun u => u.portAlive q.val = true ∧ (u.rport q.val).up = false ∧ ((u.rport
    q.val).lane 0).stage = 1 ∧ ((u.rport q.val).lane 0).since + stageLimit (u.rport q.val).retrain 0 1 ≤ u.clk) :=
  ⟨0, { up .run with chain.ports := [(0, { active := true, lanes := [(0, { stage := 1 })] })] }, by decide +kernel⟩

theorem met_RidgeServiceEvents_2 : ∃ (q : Fin 4) (n : Nat), Meets (fun u => u.portAlive q.val = true ∧ (u.rport q.val).up = false
    ∧ ((u.rport q.val).lane 0).stage = n ∧ n ≠ 1 ∧ (n ≤ 4 ∨ n = 8) ∧ ((u.rport q.val).lane 0).since + stageLimit (u.rport
    q.val).retrain 0 n ≤ u.clk) :=
  ⟨0, 8, { up .run with chain.ports := [(0, { active := true, lanes := [(0, { stage := 8 })] })] }, by decide +kernel⟩

theorem met_RidgeServiceEvents_3 : ∃ (q : Fin 4) (l : Fin 3) (n : Nat), Meets (fun u => u.portAlive q.val = true ∧ (u.rport
    q.val).dataRuns = true ∧ (u.rport q.val).takesPart l.val = true ∧ ((u.rport q.val).lane (l.val + 1)).stage = n ∧ n ≤ 6 ∧
    ((u.rport q.val).lane (l.val + 1)).since + stageLimit (u.rport q.val).retrain (l.val + 1) n ≤ u.clk) :=
  ⟨0, 2, 6,
    { up .run with
      chain.ports := [(0, { active := true, retrain := true, lanes := [(3, { stage := 6 })] })] },
    by decide +kernel⟩

theorem met_RidgeServiceEvents_4 : ∃ (q : Fin 4) (l : Fin 3), Meets (fun u => u.portAlive q.val = true ∧ (u.rport q.val).dataRuns
    = true ∧ (u.rport q.val).takesPart l.val = true ∧ ((u.rport q.val).lane (l.val + 1)).stage = 8 ∧ ((u.rport q.val).lane (l.val
    + 1)).since + stageLimit (u.rport q.val).retrain (l.val + 1) 8 ≤ u.clk) :=
  ⟨0, 2,
    { up .run with
      chain.ports := [(0, { active := true, retrain := true, lanes := [(3, { stage := 8 })] })] },
    by decide +kernel⟩

theorem met_RidgeServiceEvents_5 : ∃ (q : Fin 4) (t : Nat), Meets (fun u => (u.rport q.val).idleTo = some t ∧ t ≤ u.clk ∧
    u.portRuns q.val = true) :=
  ⟨1, 0, { up .run with chain.ports := [(1, { word := 0x01000000, idleTo := some 0 })] }, by decide +kernel⟩

theorem met_RidgeServiceEvents_6 : ∃ (q : Fin 4) (l : Fin 3) (t : Nat), Meets (fun u => u.portAlive q.val = true ∧ (u.rport
    q.val).dataRuns = true ∧ (u.rport q.val).takesPart l.val = true ∧ ((u.rport q.val).lane (l.val + 1)).stage = 7 ∧ (u.rport
    q.val).singledOut ≠ [] ∧ (u.rport q.val).stageFrom (l.val + 1) = some t ∧ t + us 20 ≤ u.clk) :=
  ⟨0, 2, 0,
    { up .run with
      chain.ports := [(0, { active := true, retrain := true, lanes := [(1, { stage := 7 }), (2, { stage := 7 }), (3, { stage := 7, late := true })] })] },
    by decide +kernel⟩

theorem met_RidgeServiceEvents_7 : ∃ (q : Fin 4) (l : Fin 3) (t : Nat), Meets (fun u => u.portAlive q.val = true ∧ (u.rport
    q.val).dataRuns = true ∧ (u.rport q.val).takesPart l.val = true ∧ ((u.rport q.val).lane (l.val + 1)).stage = 7 ∧ (u.rport
    q.val).singledOut = [] ∧ (u.rport q.val).stageFrom (l.val + 1) = some t ∧ t + us 20 ≤ u.clk) :=
  ⟨0, 2, 0,
    { up .run with
      chain.ports := [(0, { active := true, retrain := true, lanes := [(1, { stage := 7 }), (2, { stage := 7 }), (3, { stage := 7 })] })] },
    by decide +kernel⟩

theorem met_RidgeServiceEvents_8 : ∃ (q : Fin 4) (l : Fin 3), Meets (fun u => u.portAlive q.val = true ∧ ((u.rport q.val).lane
    (l.val + 1)).stage = 7 ∧ (∃ k ∈ (u.rport q.val).parts, ((u.rport q.val).lane (k + 1)).stage < 7)) :=
  ⟨0, 2,
    { up .run with
      chain.ports := [(0, { active := true, retrain := true, lanes := [(3, { stage := 7 })] })] },
    by decide +kernel⟩

theorem met_RidgeServiceEvents_9 : ∃ (q : Fin 4) (x : LockLoss), Meets (fun u => u.portAlive q.val = true ∧ (u.rport q.val).up =
    true ∧ (u.rport q.val).retrain = false ∧ (u.rport q.val).parts.filter (fun m => bitN x.lanes.toNat ((u.rport q.val).logical m)
    && 6 ≤ ((u.rport q.val).lane (m + 1)).stage && ((u.rport q.val).lane (m + 1)).asleep == x.preamble) ≠ []) :=
  ⟨0, ⟨4, true⟩,
    { up .run with
      chain.ports := [(0, { active := true, up := true, lanes := [(3, { stage := 9, asleep := true })] })] },
    by decide +kernel⟩

theorem met_RidgeServiceEvents_10 : ∃ (q : Fin 4) (x : LockLoss), Meets (fun u => u.portAlive q.val = true ∧ (u.rport
    q.val).dataRuns = true ∧ (u.rport q.val).parts.filter (fun m => bitN x.lanes.toNat ((u.rport q.val).logical m) && 6 ≤
    ((u.rport q.val).lane (m + 1)).stage && ((u.rport q.val).lane (m + 1)).asleep == x.preamble) ≠ []) :=
  ⟨0, ⟨4, false⟩,
    { up .run with
      chain.ports := [(0, { active := true, retrain := true, lanes := [(3, { stage := 8 })] })] },
    by decide +kernel⟩

theorem met_RidgeServiceEvents_11 : ∃ (q : Fin 4) (m : Fin 3) (x : BitVec 64), Meets (fun u => u.portAlive q.val = true ∧ (u.rport
    q.val).up = true ∧ (u.rport q.val).retrain = false ∧ u.locksGo q.val m.val = false ∧ (u.rport q.val).takesPart m.val = true ∧
    leAt (bytesOf 8 x.toNat) 0 1 = 0xD5 ∧ ((u.rport q.val).lane (m.val + 1)).asleep = false) :=
  ⟨0, 2, 0xD5,
    { up .run with
      chain.ports := [(0, { active := true, up := true, lanes := [(3, { stage := 9, last := 65535 })] })] },
    by decide +kernel⟩

theorem met_RidgeServiceEvents_12 : ∃ (q : Fin 4) (m : Fin 3) (seq : BitVec 16) (sleep : Bool), Meets (fun u => u.portAlive q.val
    = true ∧ (u.rport q.val).up = true ∧ (u.rport q.val).retrain = false ∧ u.locksGo q.val m.val = false ∧ (u.rport
    q.val).takesPart m.val = true ∧ ((u.rport q.val).lane (m.val + 1)).asleep = false ∧ (((u.rport q.val).lane (m.val + 1)).last +
    1) % 65536 ≠ seq.toNat) :=
  ⟨0, 2, 65535, true,
    { up .run with
      chain.ports := [(0, { active := true, up := true, lanes := [(3, { stage := 9, last := 65535 })] })] },
    by decide +kernel⟩

theorem met_RidgeServiceEvents_13 : ∃ (q : Fin 4) (m : Fin 3) (seq : BitVec 16), Meets (fun u => u.portAlive q.val = true ∧
    (u.rport q.val).up = true ∧ (u.rport q.val).retrain = false ∧ u.locksGo q.val m.val = false ∧ (u.rport q.val).takesPart m.val
    = true ∧ ((u.rport q.val).lane (m.val + 1)).asleep = false ∧ (((u.rport q.val).lane (m.val + 1)).last + 1) % 65536 =
    seq.toNat) :=
  ⟨0, 2, 0,
    { up .run with
      chain.ports := [(0, { active := true, up := true, lanes := [(3, { stage := 9, last := 65535 })] })] },
    by decide +kernel⟩

theorem met_RidgeServiceEvents_14 : ∃ (q : Fin 4) (m : Fin 3) (seq : BitVec 16), Meets (fun u => u.portAlive q.val = true ∧
    (u.rport q.val).up = true ∧ (u.rport q.val).retrain = false ∧ u.locksGo q.val m.val = false ∧ (u.rport q.val).takesPart m.val
    = true ∧ ((u.rport q.val).lane (m.val + 1)).asleep = false ∧ (((u.rport q.val).lane (m.val + 1)).last + 1) % 65536 =
    seq.toNat) :=
  ⟨0, 2, 0,
    { up .run with
      chain.ports := [(0, { active := true, up := true, lanes := [(3, { stage := 9, last := 65535 })] })] },
    by decide +kernel⟩

theorem met_RidgeServiceEvents_15 : ∃ (q : Fin 4) (m : Fin 3) (seq : BitVec 16), Meets (fun u => u.portAlive q.val = true ∧
    (u.rport q.val).up = true ∧ (u.rport q.val).retrain = false ∧ u.locksGo q.val m.val = false ∧ (u.rport q.val).takesPart m.val
    = true ∧ ((u.rport q.val).lane (m.val + 1)).asleep = true ∧ (u.rport q.val).retDue = 0) :=
  ⟨0, 2, 0,
    { up .run with
      chain.ports := [(0, { active := true, up := true, lanes := [(3, { stage := 9, asleep := true })] })] },
    by decide +kernel⟩

theorem met_RidgeServiceEvents_16 : ∃ (q : Fin 4) (m : Fin 3) (x : BitVec 64) (inPlace : Bool), Meets (fun u => (u.rport q.val).up
    = true ∧ (u.rport q.val).retrain = false ∧ u.locksGo q.val m.val = true) :=
  ⟨0, 2, 0, false,
    { up .run with
      chain.ports := [(0, { active := true, up := true, lanes := [(3, { stage := 9, last := 65535 })] })]
      pending := [.dataLockLost 0 0 ⟨4, false⟩] },
    by decide +kernel⟩

theorem met_RidgeServiceEvents_17 : ∃ q : Fin 4, Meets (fun u => u.portAlive q.val = true ∧ (u.rport q.val).up = true) :=
  ⟨0, { up .run with chain.ports := [(0, { active := true, up := true })] }, by decide +kernel⟩

theorem met_RidgeServiceEvents_18 : ∃ q : Fin 4, Meets (fun u => u.portAlive q.val = true ∧ (u.rport q.val).up = false ∧ 2 ≤
    ((u.rport q.val).lane 0).stage) :=
  ⟨0, { up .run with chain.ports := [(0, { active := true, lanes := [(0, { stage := 2 })] })] }, by decide +kernel⟩

theorem met_RidgeServiceEvents_19 : ∃ q : Fin 4, Meets (fun u => u.portAlive q.val = true ∧ (u.rport q.val).up = true ∧ (u.rport
    q.val).retrain = false ∧ ((u.rport q.val).excl ||| (u.rport q.val).pExcl) &&& ~~~((u.rport q.val).ret ||| (u.rport
    q.val).pRet) ≠ 0 ∧ (u.rport q.val).upAt + sec 1 ≤ u.clk ∧ (∀ t, (u.rport q.val).askAt = some t → t + sec 10 ≤ u.clk)) :=
  ⟨0, { up .run with chain.ports := [(0, { active := true, up := true, pExcl := 4 })] }, by decide +kernel⟩

theorem met_RidgeServiceEvents_21 : ∃ q : Fin 4, Meets (fun u => u.portAlive q.val = true ∧ (u.rport q.val).up = true ∧ (u.rport
    q.val).retrain = false ∧ (u.rport q.val).txSleep = true ∧ (u.hasData q.val = true ∨ ∃ w ∈ u.windows q.val, w.1 ≤ u.now + us 20
    ∧ u.now < w.2)) :=
  ⟨0,
    { up .run with
      chain.ports := [(0, { active := true, up := true, txSleep := true, txQ := [(⟨5, 6, 3, [1], false⟩, none)] })] },
    by decide +kernel⟩

/-! ControlClassEventsComplete -/

theorem met_ControlClassEvents_1 : ∃ q : Fin 4, Meets (fun u => u.linkOn q.val = true ∧ u.now % refillTicks / 1600 = 0) :=
  ⟨0, { up .run with chain.ports := [(0, { active := true, up := true })] }, by decide +kernel⟩

theorem met_ControlClassEvents_2 : ∃ (q : Fin 4) (x : BitVec 104) (rest : List (BitVec 104)), Meets (fun u => u.linkOn q.val =
    true ∧ u.now % refillTicks / 1600 ≠ 0 ∧ (u.rport q.val).safety = x :: rest) :=
  ⟨0, 5, [],
    { up .run with
      chain.ports := [(0, { active := true, up := true, safety := [5] })]
      ct := ((up .run).clk + 1600) * 256 },
    by decide +kernel⟩

theorem met_ControlClassEvents_3 : ∃ q : Fin 4, Meets (fun u => u.linkOn q.val = true ∧ u.now % refillTicks / 1600 % 250 = 1 ∧
    (u.rport q.val).safety = []) :=
  ⟨0,
    { up .run with
      chain.ports := [(0, { active := true, up := true })]
      ct := ((up .run).clk + 1600) * 256 },
    by decide +kernel⟩

theorem met_ControlClassEvents_4 : ∃ (q : Fin 4) (f : Frag) (rest : List Frag), Meets (fun u => u.linkOn q.val = true ∧ u.now %
    refillTicks / 1600 ≠ 0 ∧ u.now % refillTicks / 1600 % 250 ≠ 1 ∧ (u.rport q.val).safety = [] ∧ (u.rport q.val).msgs = f :: rest
    ∧ (u.rport q.val).conflict = false) :=
  ⟨0, ⟨5⟩, [],
    { up .run with
      chain.ports := [(0, { active := true, up := true, msgs := [⟨5⟩] })]
      ct := ((up .run).clk + 3200) * 256 },
    by decide +kernel⟩

theorem met_ControlClassEvents_5 : ∃ q : Fin 4, Meets (fun u => u.linkOn q.val = true ∧ u.now % refillTicks / 1600 ≠ 0 ∧ u.now %
    refillTicks / 1600 % 250 ≠ 1 ∧ (u.rport q.val).safety = [] ∧ (u.rport q.val).msgs = []) :=
  ⟨0,
    { up .run with
      chain.ports := [(0, { active := true, up := true })]
      ct := ((up .run).clk + 3200) * 256 },
    by decide +kernel⟩

theorem met_ControlClassEvents_9 : Meets (fun u => u.now % refillTicks < 1600 ∧ u.chain.setTo = none) :=
  ⟨up .run, by decide +kernel⟩

theorem met_ControlClassEvents_10 : ∃ v : Nat, Meets (fun u => u.now % refillTicks < 1600 ∧ u.chain.setTo = some v) :=
  ⟨5, { up .run with chain.setTo := some 5 }, by decide +kernel⟩

theorem met_ControlClassEvents_11 : ∃ (q : Fin 4) (body : BitVec 120) (frac : Byte), Meets (fun u => u.linkOn q.val = true ∧
    slotGood body = true) :=
  ⟨0, withCrc 1, 0, { up .run with chain.ports := [(0, { active := true, up := true })] }, by decide +kernel⟩

theorem met_ControlClassEvents_12 : ∃ (q : Fin 4) (body : BitVec 120) (frac : Byte), Meets (fun u => u.linkOn q.val = true ∧
    slotGood body = false) :=
  ⟨0, 1, 0, { up .run with chain.ports := [(0, { active := true, up := true })] }, by decide +kernel⟩

theorem met_ControlClassEvents_13 : ∃ (q : Fin 4) (body : BitVec 120), Meets (fun u => u.linkOn q.val = true ∧ slotGood body =
    true) :=
  ⟨0, withCrc 1, { up .run with chain.ports := [(0, { active := true, up := true })] }, by decide +kernel⟩

theorem met_ControlClassEvents_14 : ∃ (q : Fin 4) (body : BitVec 120), Meets (fun u => u.linkOn q.val = true ∧ slotGood body =
    false) :=
  ⟨0, 1, { up .run with chain.ports := [(0, { active := true, up := true })] }, by decide +kernel⟩

theorem met_ControlClassEvents_15 : ∃ q : Fin 4, Meets (fun u => u.linkOn q.val = true ∧ (u.rport q.val).alive + us 100 ≤ u.clk)
    :=
  ⟨0, { up .run with chain.ports := [(0, { active := true, up := true, alive := (up .run).clk - us 100 })] }, by decide +kernel⟩

theorem met_ControlClassEvents_16 : ∃ (q : Fin 4) (body : BitVec 120), Meets (fun u => u.linkOn q.val = true ∧ slotGood body =
    true ∧ fld body.toNat 0 8 = 1 ∧ (u.chain.stops.filter (fun c => u.clk ≤ c.2.2 + ms 10)).any (fun c => c.1 = BitVec.ofNat 16
    (fld body.toNat 8 16) && c.2.1 = BitVec.ofNat 8 (fld body.toNat 24 8)) = true) :=
  ⟨0, withCrc 1,
    { up .run with
      chain.ports := [(0, { active := true, up := true })]
      chain.stops := [(0, 0, (up .run).clk - ms 10)] },
    by decide +kernel⟩

theorem met_ControlClassEvents_17 : ∃ (q : Fin 4) (body : BitVec 120), Meets (fun u => u.linkOn q.val = true ∧ slotGood body =
    true ∧ fld body.toNat 0 8 = 1 ∧ (u.chain.stops.filter (fun c => u.clk ≤ c.2.2 + ms 10)).any (fun c => c.1 = BitVec.ofNat 16
    (fld body.toNat 8 16) && c.2.1 = BitVec.ofNat 8 (fld body.toNat 24 8)) = false) :=
  ⟨0, withCrc 1,
    { up .run with
      chain.ports := [(0, { active := true, up := true })]
      chain.stops := [(0, 0, (up .run).clk - ms 10 - 1)] },
    by decide +kernel⟩

/-! DiscoveryAndMessageEventsComplete -/

theorem met_DiscoveryAndMessageEvents_1 : ∃ (q : Fin 4) (gen : Byte) (a : BitVec 16) (down : Bool) (hops : Byte), Meets (fun u =>
    u.discOn q.val = true ∧ (u.isRoot = true ∨ newer gen u.chain.gen = false)) :=
  ⟨0, 1, 0, true, 0,
    { up .run with
      chain.ports := [(0, { active := true, up := true })]
      power.boot.straps := ⟨true, 1, 1, 2⟩ },
    by decide +kernel⟩

theorem met_DiscoveryAndMessageEvents_2 : ∃ (q : Fin 4) (gen : Byte) (a : BitVec 16) (down : Bool) (hops : Byte), Meets (fun u =>
    u.discOn q.val = true ∧ u.isRoot = false ∧ newer gen u.chain.gen = true) :=
  ⟨0, 127, 0, true, 0, { up .run with chain.ports := [(0, { active := true, up := true })] }, by decide +kernel⟩

theorem met_DiscoveryAndMessageEvents_3 : ∃ (q : Fin 4) (gen : Byte) (next : BitVec 16) (down : Bool) (d : Disc), Meets (fun u =>
    u.discOn q.val = true ∧ u.chain.disc = some d ∧ d.wait = some q.val ∧ gen = u.chain.gen) :=
  ⟨0, 0, 5, true, ⟨[], some 0, 1, false, 0, 0xFFFF, 0xFFFF, none, 0⟩,
    { up .run with
      chain.ports := [(0, { active := true, up := true })]
      chain.disc := some ⟨[], some 0, 1, false, 0, 0xFFFF, 0xFFFF, none, 0⟩ },
    by decide +kernel⟩

theorem met_DiscoveryAndMessageEvents_4 : ∃ (q : Fin 4) (gen : Byte) (next : BitVec 16) (down : Bool) (d : Disc), Meets (fun u =>
    u.discOn q.val = true ∧ u.chain.disc = some d ∧ d.wait = some q.val ∧ gen = u.chain.gen) :=
  ⟨0, 0, 5, true, ⟨[], some 0, 1, false, 0, 0xFFFF, 0xFFFF, none, 0⟩,
    { up .run with
      chain.ports := [(0, { active := true, up := true })]
      chain.disc := some ⟨[], some 0, 1, false, 0, 0xFFFF, 0xFFFF, none, 0⟩ },
    by decide +kernel⟩

theorem met_DiscoveryAndMessageEvents_5 : ∃ (q : Fin 4) (gen : Byte) (a : BitVec 16) (cause : Byte), Meets (fun u => u.discOn
    q.val = true ∧ u.isRoot = true) :=
  ⟨0, 0, 0, 0,
    { up .run with
      chain.ports := [(0, { active := true, up := true })]
      power.boot.straps := ⟨true, 1, 1, 2⟩ },
    by decide +kernel⟩

theorem met_DiscoveryAndMessageEvents_6 : ∃ (q o : Fin 4) (gen : Byte) (a : BitVec 16) (cause : Byte), Meets (fun u => u.discOn
    q.val = true ∧ u.isRoot = false ∧ u.upPort = some o.val ∧ (u.rport o.val).up = true) :=
  ⟨1, 0, 0, 0, 0,
    { up .run with
      chain.ports := [(0, { active := true, up := true }), (1, { active := true, up := true })] },
    by decide +kernel⟩

theorem met_DiscoveryAndMessageEvents_7 : Meets (fun u => u.discDue = true ∧ u.chain.retry = false) :=
  ⟨{ up .run with power.boot.straps := ⟨true, 1, 1, 2⟩, chain.discAt := some (up .run).clk }, by decide +kernel⟩

theorem met_DiscoveryAndMessageEvents_8 : Meets (fun u => u.discDue = true ∧ u.chain.retry = true) :=
  ⟨{ up .run with
      power.boot.straps := ⟨true, 1, 1, 2⟩
      chain.discAt := some (up .run).clk
      chain.retry := true },
    by decide +kernel⟩

theorem met_DiscoveryAndMessageEvents_9 : ∃ d : Disc, Meets (fun u => u.chain.disc = some d ∧ u.isRoot = true ∧ d.since + ms 500 ≤
    u.clk ∧ u.chain.retry = false) :=
  ⟨⟨[], some 0, 1, false, 0, 0xFFFF, 0xFFFF, none, (up .run).clk - ms 500⟩,
    { up .run with
      power.boot.straps := ⟨true, 1, 1, 2⟩
      chain.disc := some ⟨[], some 0, 1, false, 0, 0xFFFF, 0xFFFF, none, (up .run).clk - ms 500⟩ },
    by decide +kernel⟩

theorem met_DiscoveryAndMessageEvents_10 : ∃ d : Disc, Meets (fun u => u.chain.disc = some d ∧ u.isRoot = true ∧ d.since + ms 500
    ≤ u.clk ∧ u.chain.retry = true) :=
  ⟨⟨[], some 0, 1, false, 0, 0xFFFF, 0xFFFF, none, (up .run).clk - ms 500⟩,
    { up .run with
      power.boot.straps := ⟨true, 1, 1, 2⟩
      chain.retry := true
      chain.disc := some ⟨[], some 0, 1, false, 0, 0xFFFF, 0xFFFF, none, (up .run).clk - ms 500⟩ },
    by decide +kernel⟩

theorem met_DiscoveryAndMessageEvents_11 : ∃ t : Nat, Meets (fun u => u.chain.lostUp = some t ∧ u.isRoot = false ∧ t + ms 10 ≤
    u.clk) :=
  ⟨(up .run).clk - ms 10, { up .run with chain.lostUp := some ((up .run).clk - ms 10) }, by decide +kernel⟩

theorem met_DiscoveryAndMessageEvents_12 : ∃ (q : Fin 4) (body : BitVec 120), Meets (fun u => u.linkOn q.val = true ∧ (u.rport
    q.val).conflict = false ∧ slotGood body = true) :=
  ⟨0, withCrc 1, { up .run with chain.ports := [(0, { active := true, up := true })] }, by decide +kernel⟩

theorem met_DiscoveryAndMessageEvents_13 : ∃ (q : Fin 4) (body : BitVec 120), Meets (fun u => u.linkOn q.val = true ∧ slotGood
    body = false) :=
  ⟨0, 1, { up .run with chain.ports := [(0, { active := true, up := true })] }, by decide +kernel⟩

theorem met_DiscoveryAndMessageEvents_14 : ∃ (src : BitVec 16) (id : Byte), Meets (fun u => u.chain.partials.any (fun x => x.src =
    src && x.id = id && x.since + ms 10 ≤ u.clk) = true ∨ u.chain.bulk.any (fun x => x.src = src && x.id.getD id = id && x.since +
    ms 10 ≤ u.clk) = true) :=
  ⟨5, 6, { up .run with chain.partials := [⟨5, 6, 0, [], 0, (up .run).clk - ms 10⟩] }, by decide +kernel⟩

/-! DataClassEventsComplete -/

theorem met_DataClassEvents_1 : ∃ (q : Fin 4) (p : Packet) (crc : Word) (x : Option (BitVec 64)), Meets (fun u => u.dataOn q.val =
    true ∧ (u.rport q.val).width ≠ 0 ∧ 256 < (u.rport q.val).held + packetCost p) :=
  ⟨0, ⟨5, 6, 3, [1], false⟩, 0, none,
    { up .run with
      chain.ports := [(0, { active := true, up := true, held := 256 })] },
    by decide +kernel⟩

theorem met_DataClassEvents_2 : ∃ (q : Fin 4) (p : Packet) (crc : Word) (x : Option (BitVec 64)), Meets (fun u => u.dataOn q.val =
    true ∧ (u.rport q.val).width ≠ 0 ∧ (u.rport q.val).held + packetCost p ≤ 256 ∧ crc.toNat = crc32 p.data ∧ stomps x = false ∧
    p.dest = u.chain.addr ∧ u.chain.addr ≠ 0xFFFF ∧ p.stomp = false) :=
  ⟨0, ⟨5, 6, 3, [1], false⟩, BitVec.ofNat 32 (crc32 [1]), none,
    { up .run with
      chain.ports := [(0, { active := true, up := true })]
      chain.addr := 5 },
    by decide +kernel⟩

theorem met_DataClassEvents_3 : ∃ (q : Fin 4) (p : Packet) (crc : Word) (x : Option (BitVec 64)), Meets (fun u => u.dataOn q.val =
    true ∧ (u.rport q.val).width ≠ 0 ∧ (u.rport q.val).held + packetCost p ≤ 256 ∧ crc.toNat = crc32 p.data ∧ stomps x = false ∧
    p.dest = u.chain.addr ∧ u.chain.addr ≠ 0xFFFF ∧ p.stomp = true) :=
  ⟨0, ⟨5, 6, 3, [1], true⟩, BitVec.ofNat 32 (crc32 [1]), some (controlBlock 0x33 []),
    { up .run with
      chain.ports := [(0, { active := true, up := true })]
      chain.addr := 5 },
    by decide +kernel⟩

theorem met_DataClassEvents_4 : ∃ (q : Fin 4) (p : Packet) (crc : Word) (x : Option (BitVec 64)), Meets (fun u => u.dataOn q.val =
    true ∧ (u.rport q.val).width ≠ 0 ∧ (u.rport q.val).held + packetCost p ≤ 256 ∧ crc.toNat = crc32 p.data ∧ stomps x = false ∧
    u.chain.addr = 0xFFFF) :=
  ⟨0, ⟨5, 6, 3, [1], false⟩, BitVec.ofNat 32 (crc32 [1]), some (dskPayload 0 0 false),
    { up .run with
      chain.ports := [(0, { active := true, up := true })] },
    by decide +kernel⟩

theorem met_DataClassEvents_5 : ∃ (q : Fin 4) (p : Packet) (crc : Word) (x : Option (BitVec 64)) (o : Nat), Meets (fun u =>
    u.dataOn q.val = true ∧ (u.rport q.val).width ≠ 0 ∧ (u.rport q.val).held + packetCost p ≤ 256 ∧ p.dest ≠ u.chain.addr ∧
    ((u.modRport q.val (fun r => { r with held := r.held + packetCost p })).route p.dest.toNat = some o) ∧ ((u.modRport q.val (fun
    r => { r with held := r.held + packetCost p })).rport o).allRetired = false ∧ crc.toNat = crc32 p.data ∧ stomps x = false) :=
  ⟨0, ⟨5, 6, 3, [1], false⟩, BitVec.ofNat 32 (crc32 [1]), none, 1,
    { up .run with
      chain.addr := 4
      chain.ports := [(0, { up := true }), (1, { up := true, range := some (5, 5) })] },
    by decide +kernel⟩

theorem met_DataClassEvents_8 : ∃ (q : Fin 4) (x : Packet × Option Nat), Meets (fun u => nextPacket (u.inWindow q.val) (u.rport
    q.val).txQ = some x ∧ u.dataOn q.val = true ∧ (u.rport q.val).width ≠ 0 ∧ (u.rport q.val).txSleep = true) :=
  ⟨0, (⟨5, 6, 3, [1], false⟩, none),
    { up .run with
      chain.ports := [(0, { active := true, up := true, txSleep := true, txQ := [(⟨5, 6, 3, [1], false⟩, none)] })] },
    by decide +kernel⟩

theorem met_DataClassEvents_9 : ∃ (q : Fin 4) (p : Packet), Meets (fun u => nextPacket (u.inWindow q.val) (u.rport q.val).txQ =
    some (p, none) ∧ u.dataOn q.val = true ∧ (u.rport q.val).width ≠ 0 ∧ (u.rport q.val).txSleep = false ∧ u.mayStart q.val p =
    true) :=
  ⟨0, ⟨5, 6, 3, [1], false⟩,
    { up .run with
      chain.ports := [(0, { active := true, up := true, offered := 1, txQ := [(⟨5, 6, 3, [1], false⟩, none)] })] },
    by decide +kernel⟩

theorem met_DataClassEvents_10 : ∃ (q : Fin 4) (p : Packet) (i : Nat), Meets (fun u => nextPacket (u.inWindow q.val) (u.rport
    q.val).txQ = some (p, some i) ∧ u.dataOn q.val = true ∧ (u.rport q.val).width ≠ 0 ∧ (u.rport q.val).txSleep = false ∧
    u.mayStart q.val p = true) :=
  ⟨0, ⟨5, 6, 3, [1], false⟩, 1,
    { up .run with
      chain.ports := [(0, { active := true, up := true, offered := 1, txQ := [(⟨5, 6, 3, [1], false⟩, some 1)] })] },
    by decide +kernel⟩

theorem met_DataClassEvents_11 : ∃ (q : Fin 4) (n : BitVec 16), Meets (fun u => u.dataOn q.val = true) :=
  ⟨0, 65535, { up .run with chain.ports := [(0, { active := true, up := true })] }, by decide +kernel⟩

theorem met_DataClassEvents_12 : ∃ (q : Fin 4) (x : BitVec 64), Meets (fun u => u.dataOn q.val = true ∧ unknownBlock x = true) :=
  ⟨0, 0, { up .run with chain.ports := [(0, { active := true, up := true })] }, by decide +kernel⟩

theorem met_DataClassEvents_13 : ∃ (q : Fin 4) (x : BitVec 64), Meets (fun u => u.dataOn q.val = true ∧ isBlock 0x33 x = false ∧
    unknownBlock x = false) :=
  ⟨0, controlBlock 0x4B [], { up .run with chain.ports := [(0, { active := true, up := true })] }, by decide +kernel⟩

theorem met_DataClassEvents_14 : ∃ q : Fin 4, Meets (fun u => u.dataOn q.val = true ∧ 0 < (u.rport q.val).pendCr ∧ (16 ≤ (u.rport
    q.val).pendCr ∨ (u.rport q.val).pendAt + 32000 ≤ u.clk) ∧ (u.rport q.val).txSleep = false) :=
  ⟨0, { up .run with chain.ports := [(0, { active := true, up := true, pendCr := 16 })] }, by decide +kernel⟩

theorem met_DataClassEvents_15 : ∃ q : Fin 4, Meets (fun u => u.dataOn q.val = true ∧ 0 < (u.rport q.val).pendCr ∧ (16 ≤ (u.rport
    q.val).pendCr ∨ (u.rport q.val).pendAt + 32000 ≤ u.clk) ∧ (u.rport q.val).txSleep = true) :=
  ⟨0, { up .run with chain.ports := [(0, { active := true, up := true, pendCr := 16, txSleep := true })] }, by decide +kernel⟩

theorem met_DataClassEvents_16 : ∃ (q : Fin 4) (p : Packet) (t : Nat), Meets (fun u => u.chain.toReport.find? (fun x => x.1 =
    q.val && x.2.2 ≤ u.now) = some (q.val, p, t) ∧ u.dataOn q.val = true ∧ (u.rport q.val).allRetired = false ∧ (u.rport
    q.val).txSleep = false ∧ u.mayStart q.val p = true) :=
  ⟨0, ⟨5, 6, 4, [1], false⟩, 7,
    { up .run with
      chain.ports := [(0, { active := true, up := true, offered := 1 })]
      chain.toReport := [(0, ⟨5, 6, 4, [1], false⟩, 7)] },
    by decide +kernel⟩

theorem met_DataClassEvents_17 : ∃ (q : Fin 4) (p : Packet) (t : Nat), Meets (fun u => u.chain.toReport.find? (fun x => x.1 =
    q.val && x.2.2 ≤ u.now) = some (q.val, p, t) ∧ u.dataOn q.val = true ∧ (u.rport q.val).allRetired = true) :=
  ⟨0, ⟨5, 6, 4, [1], false⟩, 7,
    { up .run with
      chain.ports := [(0, { active := true, up := true, ret := 7 })]
      chain.toReport := [(0, ⟨5, 6, 4, [1], false⟩, 7)] },
    by decide +kernel⟩

/-! TileEventsComplete -/

theorem met_TileEvents_1 : ∃ (c : Fin 1024) (path : TdcPath) (stage : Fin 40) (ecc : RiseEcc), Meets (fun u => u.chanOn c.val =
    true) :=
  ⟨1023, .L, 39, ⟨.clean, .corrected, { sum := .bad }⟩, up .run, by decide +kernel⟩

theorem met_TileEvents_2 : ∃ (c : Fin 1024) (path : TdcPath) (stage : Fin 40) (ecc : RiseEcc), Meets (fun u => u.chanOn c.val =
    true) :=
  ⟨1023, .H, 39, ⟨.clean, .clean, {}⟩, up .run, by decide +kernel⟩

theorem met_TileEvents_3 : ∃ (c : Fin 1024) (path : TdcPath) (edge : TdcEdge) (stage : Fin 40) (ecc : RiseEcc), Meets (fun u =>
    u.chanOn c.val = false) :=
  ⟨0, .L, .rise, 0, ⟨.clean, .clean, {}⟩, { up .run with front.chans := [(0, { down := true })] }, by decide +kernel⟩

theorem met_TileEvents_4 : ∃ (c : Fin 1024) (h : Tab Nat), Meets (fun u => u.secOn (secOf c.val) = true ∧ u.gathered c.val (u.chan
    c.val).intL = h ∧ 65536 ≤ sumTo 40 (fun k => tget 0 h k) ∧ stageBad h (sumTo 40 (fun k => tget 0 h k)) = false) :=
  ⟨1023, fullHits, { up .run with front.chans := [(1023, { intL := { hits := fullHits } })] }, by decide +kernel⟩

theorem met_TileEvents_5 : ∃ (c : Fin 1024) (h : Tab Nat), Meets (fun u => u.secOn (secOf c.val) = true ∧ u.gathered c.val (u.chan
    c.val).intH = h ∧ 65536 ≤ sumTo 40 (fun k => tget 0 h k) ∧ stageBad h (sumTo 40 (fun k => tget 0 h k)) = false) :=
  ⟨1023, fullHits, { up .run with front.chans := [(1023, { intH := { hits := fullHits } })] }, by decide +kernel⟩

theorem met_TileEvents_6 : ∃ (c : Fin 1024) (h : Tab Nat), Meets (fun u => u.secOn (secOf c.val) = true ∧ u.gathered c.val (u.chan
    c.val).intL = h ∧ 65536 ≤ sumTo 40 (fun k => tget 0 h k) ∧ stageBad h (sumTo 40 (fun k => tget 0 h k)) = true) :=
  ⟨0, [(0, 65536)], { up .run with front.chans := [(0, { intL := { hits := [(0, 65536)] } })] }, by decide +kernel⟩

theorem met_TileEvents_7 : ∃ (c : Fin 1024) (h : Tab Nat), Meets (fun u => u.secOn (secOf c.val) = true ∧ u.gathered c.val (u.chan
    c.val).intH = h ∧ 65536 ≤ sumTo 40 (fun k => tget 0 h k) ∧ stageBad h (sumTo 40 (fun k => tget 0 h k)) = true) :=
  ⟨0, [(0, 65536)], { up .run with front.chans := [(0, { intH := { hits := [(0, 65536)] } })] }, by decide +kernel⟩

theorem met_TileEvents_8 : ∃ (c : Fin 1024) (p : TdcPath), Meets (fun u => sumTo 40 (fun k => tget 0 (u.gathered c.val (match p
    with | .L => (u.chan c.val).intL | .H => (u.chan c.val).intH)) k) < 65536) :=
  ⟨0, .L, { up .run with front.chans := [(0, { intL := { hits := [(0, 65535)] } })] }, by decide +kernel⟩

theorem met_TileEvents_9 : ∃ t : Fin 64, Meets (fun u => u.secOn (t.val / 8) = true ∧ u.retired 2 t.val = false ∧ (u.tile
    t.val).locked = true) :=
  ⟨63, up .run, by decide +kernel⟩

theorem met_TileEvents_10 : ∃ col : Column, Meets (fun u => u.mode.cur = some col ∧ col.active = true ∧ slotStart col ((parOf
    col.mode).coarse - 1) + u.slotDither col ((parOf col.mode).coarse - 1) + (parOf col.mode).window ≤ u.now) :=
  ⟨column .home 0 30000000, { up .run with mode.cur := some (column .home 0 30000000) }, by decide +kernel⟩

theorem met_TileEvents_11 : ∃ (col : Column) (obs : List ChanObs), Meets (fun u => u.columnNow = some col ∧ u.mode.decided = false
    ∧ u.decisionAt col ≤ u.now) :=
  ⟨column .home 0 30000000, [], { up .run with mode.cur := some (column .home 0 30000000) }, by decide +kernel⟩

theorem met_TileEvents_12 : ∃ obs : List ChanObs, Meets (fun u => u.mode.decided = true) :=
  ⟨[], { up .run with mode.decided := true }, by decide +kernel⟩

theorem met_TileEvents_13 : ∃ (col : Column) (notEmpty : List (Fin 64)) (act : List (Fin 1024)), Meets (fun u => u.columnNow =
    some col ∧ u.mode.checked = false ∧ col.stop ≤ u.now + engCk) :=
  ⟨column .home 0 30000000, [], [], { up .run with mode.cur := some (column .home 0 30000000) }, by decide +kernel⟩

/-! ColumnEventsComplete -/

theorem met_ColumnEvents_1 : ∃ (gate : Bool) (bad : List (Fin 64)) (c : Column), Meets (fun u => u.mode.cur = some c ∧ c.stop ≤
    u.now) :=
  ⟨true, [], column .home 0 (up .run).clk, { up .run with mode.cur := some (column .home 0 (up .run).clk) }, by decide +kernel⟩

theorem met_ColumnEvents_2 : ∃ (gate : Bool) (bad : List (Fin 64)) (ch : Change), Meets (fun u => u.mode.cur = none ∧
    u.mode.change = some ch ∧ ch.isStart = true ∧ ch.warm = true ∧ ch.b ≤ u.now) :=
  ⟨true, [], ⟨true, 0, 0, 0, 0, true, (up .run).clk, 0⟩,
    { up .run with
      mode.change := some ⟨true, 0, 0, 0, 0, true, (up .run).clk, 0⟩ },
    by decide +kernel⟩

theorem met_ColumnEvents_6 : Meets (fun u => u.foreseen.hold = true ∨ u.foreseen.degraded = true) :=
  ⟨{ up .run with pending := [.islandClock 0] }, by decide +kernel⟩

theorem met_ColumnEvents_7 : Meets (fun u => u.foreseen.hold = true ∨ u.foreseen.degraded = true) :=
  ⟨{ up .run with pending := [.islandClock 0] }, by decide +kernel⟩

/-! ShotEventsComplete -/

theorem met_ShotEvents_1 : ∃ w : Work, Meets (fun u => u.work = some w ∧ u.emit.framed = false ∧ w.t0 ≤ u.now + 600 * ticksPerNs ∧
    u.permitted = true) :=
  ⟨⟨0, 0, 0, (up .run).clk⟩,
    { up .run with
      mode.cur := some (column .home (up .run).clk ((up .run).clk + 2 ^ 25))
      safe.sls := ⟨true, true⟩
      safe.sdi := ⟨true, true⟩
      safe.slp := ⟨true, true⟩ },
    by decide +kernel⟩

theorem met_ShotEvents_2 : ∃ w : Work, Meets (fun u => u.work = some w ∧ u.emit.framed = false ∧ w.t0 ≤ u.now + 600 * ticksPerNs ∧
    u.permitted = false) :=
  ⟨⟨0, 0, 0, (up .run).clk⟩,
    { up .run with
      mode.cur := some (column .home (up .run).clk ((up .run).clk + 2 ^ 25)) },
    by decide +kernel⟩

theorem met_ShotEvents_4 : ∃ w : Work, Meets (fun u => u.work = some w ∧ u.emit.framed = true ∧ u.emit.decided = false ∧ w.t0 ≤
    u.now + 40 * ticksPerNs) :=
  ⟨⟨0, 0, 0, (up .run).clk⟩,
    { up .run with
      mode.cur := some (column .home (up .run).clk ((up .run).clk + 2 ^ 25))
      emit.framed := true },
    by decide +kernel⟩

theorem met_ShotEvents_5 : ∃ c : Column, Meets (fun u => u.mode.cur = some c ∧ c.kind = .listen ∧ u.otherMode c = false ∧
    u.emit.slot < (parOf c.mode).shots ∧ slotStart c u.emit.slot + u.slotDither c u.emit.slot ≤ u.now) :=
  ⟨column .listen 0 (2 ^ 25), { up .run with mode.cur := some (column .listen 0 (2 ^ 25)), emit.slot := 11 }, by decide +kernel⟩

theorem met_ShotEvents_6 : ∃ c : Column, Meets (fun u => u.mode.cur = some c ∧ c.kind = .home ∧ u.otherMode c = false ∧
    u.emit.slot < (parOf c.mode).shots ∧ slotStart c u.emit.slot + u.slotDither c u.emit.slot ≤ u.now ∧ u.emit.decided = true) :=
  ⟨column .home 0 (2 ^ 25),
    { up .run with
      mode.cur := some (column .home 0 (2 ^ 25))
      emit.slot := 11
      emit.decided := true },
    by decide +kernel⟩

theorem met_ShotEvents_7 : ∃ c : Column, Meets (fun u => u.mode.cur = some c ∧ c.active = true ∧ u.otherMode c = true ∧
    u.emit.slot < (parOf c.mode).shots ∧ slotStart c u.emit.slot + u.slotDither c u.emit.slot ≤ u.now) :=
  ⟨column .listen 0 (2 ^ 25),
    { up .run with
      mode.cur := some (column .listen 0 (2 ^ 25))
      front.reports := [⟨0, 1, 0⟩] },
    by decide +kernel⟩

theorem met_ShotEvents_9 : ∃ i : Fin 64, Meets (fun u => u.domOn 32 = true ∧ u.currentAllowed i.val = false) :=
  ⟨63, up .run, by decide +kernel⟩

theorem met_ShotEvents_10 : ∃ i : Fin 64, Meets (fun u => u.domOn 32 = true) :=
  ⟨63, up .run, by decide +kernel⟩

theorem met_ShotEvents_11 : ∃ (code : BitVec 16) (i : Fin 64), Meets (fun u => (code = 0x4001 ∨ code = 0x4002 ∨ code = 0x4005 ∧
    u.rsvOver i.val = false) ∧ u.faults.active.any (fun a => a.code = code && a.unit = ⟨6, i.val⟩ && a.seen + ms 1 ≤ u.clk) =
    true) :=
  ⟨0x4001, 63, { up .run with faults.active := [⟨0x4001, ⟨6, 63⟩, (up .run).clk - ms 1⟩] }, by decide +kernel⟩

theorem met_ShotEvents_12 : ∃ l : Fin 8, Meets (fun u => (u.running = true ∨ u.life.lcs = .service) ∧ u.permitBase = true ∧
    (u.line l.val).lastFrame + us 20 ≤ u.clk ∧ u.lineFree l.val (wireTicks holdBits + 20 * ticksPerNs) none = true) :=
  ⟨7, { up .run with safe.sls := ⟨true, true⟩, safe.sdi := ⟨true, true⟩, safe.slp := ⟨true, true⟩ }, by decide +kernel⟩

theorem met_ShotEvents_13 : ∃ (i : Fin 64) (v : Nat), Meets (fun u => u.domOn 32 = true) :=
  ⟨63, 5, up .run, by decide +kernel⟩

theorem met_ShotEvents_14 : ∃ i : Fin 64, Meets (fun u => (u.str i.val).chg = true ∧ (u.str i.val).chgSince + us (100 * fld
    u.emit.word.toNat 24 8) < u.clk) :=
  ⟨63, { up .run with emit.strs := [(63, { chg := true })] }, by decide +kernel⟩

theorem met_ShotEvents_15 : ∃ (obs : List (Fin 64 × Nat)) (ecc : Bool), Meets (fun u => u.emit.tick < u.now / refillTicks) :=
  ⟨[], true, up .run, by decide +kernel⟩

theorem met_ShotEvents_16 : ∃ e : Fin 1024, Meets (fun u => u.undiagnosed e.val = true) :=
  ⟨1023, up .run, by decide +kernel⟩

theorem met_ShotEvents_17 : ∃ p : ServProof, Meets (fun u => u.nextService = some p ∧ u.life.lcs = .service ∧ p.paid ≠ none ∧
    p.slot ≤ u.now) :=
  ⟨⟨63, 0, 0, 0, true, some true, none⟩,
    { up .service with
      emit.service := [⟨63, 0, 0, 0, true, some true, none⟩] },
    by decide +kernel⟩

/-! CorniceEventsComplete -/

theorem met_CorniceEvents_2 : ∃ (i : Fin 64) (reg : Byte), Meets (fun u => u.canRead i.val reg = true) :=
  ⟨63, 1, { up .run with emit.strWord := [(63, 1)] }, by decide +kernel⟩

theorem met_CorniceEvents_3 : ∃ (i : Fin 64) (reg : Byte) (d : Word), Meets (fun u => u.canWrite i.val reg = true ∧ ¬ (0x40 ≤
    reg.toNat ∧ reg.toNat < 0x80)) :=
  ⟨63, 0x80, 5, { up .run with emit.strWord := [(63, 1)] }, by decide +kernel⟩

theorem met_CorniceEvents_4 : ∃ (i : Fin 64) (reg : Byte) (d : Word), Meets (fun u => u.canWrite i.val reg = true ∧ 0x40 ≤
    reg.toNat ∧ reg.toNat < 0x80) :=
  ⟨63, 0x7F, 5, { up .run with emit.strWord := [(63, 1)] }, by decide +kernel⟩

theorem met_CorniceEvents_5 : ∃ (l : Fin 8) (x : BitVec 48) (a : Access), Meets (fun u => (u.line l.val).pending = some a ∧ u.clk
    ≤ a.close ∧ (crc8 (bytesBE 5 (fld x.toNat 8 40)) ≠ fld x.toNat 0 8 ∨ fld x.toNat 45 3 ≠ a.str % 8)) :=
  ⟨7, 0, ⟨63, 1, none, (up .run).clk⟩,
    { up .run with
      emit.lines := [(7, { pending := some ⟨63, 1, none, (up .run).clk⟩ })] },
    by decide +kernel⟩

theorem met_CorniceEvents_6 : ∃ (l : Fin 8) (x : BitVec 48) (a : Access), Meets (fun u => (u.line l.val).pending = some a ∧ u.clk
    ≤ a.close ∧ crc8 (bytesBE 5 (fld x.toNat 8 40)) = fld x.toNat 0 8 ∧ fld x.toNat 45 3 = a.str % 8) :=
  ⟨7, goodReply, ⟨63, 1, none, (up .run).clk⟩,
    { up .run with
      emit.lines := [(7, { pending := some ⟨63, 1, none, (up .run).clk⟩ })] },
    by decide +kernel⟩

theorem met_CorniceEvents_7 : ∃ (l : Fin 8) (a : Access), Meets (fun u => (u.line l.val).pending = some a ∧ a.close ≤ u.clk) :=
  ⟨7, ⟨63, 1, none, (up .run).clk⟩,
    { up .run with
      emit.lines := [(7, { pending := some ⟨63, 1, none, (up .run).clk⟩ })] },
    by decide +kernel⟩

theorem met_CorniceEvents_8 : ∃ l : Fin 8, Meets (fun u => u.domOn 32 = true) :=
  ⟨7, up .run, by decide +kernel⟩

/-! LoopEnginePeriodsComplete -/

theorem met_LoopEnginePeriods_1 : ∃ ia ib ic : BitVec 12, Meets (fun u => (u.loopDue 0).brakeLost.periodDue 0 160000 = true ∧
    (((((u.loopDue 0).brakeLost.ranNow 0).readPhase 0 (isnsOf ia)).readPhase 1 (isnsOf ib)).readPhase 2 (isnsOf
    ic)).scan.a.driving = true) :=
  ⟨1, 2, 3, { up .standby with scan.a.st := .closed }, by decide +kernel⟩

theorem met_LoopEnginePeriods_2 : Meets (fun u => (u.loopDue 1).brakeLost.periodDue 1 3200000 = true ∧ live (((u.loopDue
    1).brakeLost.ranNow 1).modA (fun a => { a with w := ((u.loopDue 1).brakeLost.ranNow 1).speedNow })).scan.a.st = true ∧
    (((u.loopDue 1).brakeLost.ranNow 1).modA (fun a => { a with w := ((u.loopDue 1).brakeLost.ranNow 1).speedNow
    })).scan.a.alignEnd = none) :=
  ⟨{ up .standby with scan.a.st := .closing }, by decide +kernel⟩

theorem met_LoopEnginePeriods_3 : Meets (fun u => (u.loopDue 2).brakeLost.periodDue 2 3200000 = true) :=
  ⟨up .standby, by decide +kernel⟩

theorem met_LoopEnginePeriods_4 : ∃ f g : SsiFrame, Meets (fun u => (u.loopDue 3).brakeLost.periodDue 3 1600000 = true) :=
  ⟨⟨true, true, 0⟩, ⟨true, true, 0⟩, up .standby, by decide +kernel⟩

theorem met_LoopEnginePeriods_5 : Meets (fun u => (u.loopDue 4).brakeLost.periodDue 4 1600000 = true) :=
  ⟨up .standby, by decide +kernel⟩

/-! DriveEventsComplete -/

theorem met_DriveEvents_1 : ∃ (ph : Fin 3) (i : Nat), Meets (fun u => u.domOn 31 = true ∧ (u.readPhase ph.val i).scan.a.driving =
    true ∧ (tget {} (u.readPhase ph.val i).scan.a.ph ph.val).swAt = none ∧ (((u.readPhase ph.val i).aCoef 96 12 : Nat) : Rat) <
    (tget {} (u.readPhase ph.val i).scan.a.ph ph.val).i - tget 0 (u.readPhase ph.val i).scan.a.iref ph.val) :=
  ⟨2, 1800000, { up .standby with scan.a.st := .closed }, by decide +kernel⟩

theorem met_DriveEvents_2 : ∃ k : Fin 12, Meets (fun u => u.domOn 31 = true ∧ u.fnLost 5 = false ∧ u.scan.a.indexed = true ∧
    u.scan.a.crossed = false ∧ k.val < u.coefFacets ∧ (u.scan.a.count - (u.aCoef 192 17 + k.val * u.revCounts / u.coefFacets :
    Nat)) % (u.revCounts : Int) = 0) :=
  ⟨7, { up .standby with scan.a.indexed := true, scan.a.count := 14336 }, by decide +kernel⟩

theorem met_DriveEvents_3 : ∃ c : Column, Meets (fun u => u.mode.cur = some c ∧ c.sampled = false ∧ refInstant c ≤ u.now ∧ c.kind
    ≠ .home ∧ c.kind ≠ .listen) :=
  ⟨column .prime 0 30000000, { up .run with mode.cur := some (column .prime 0 30000000) }, by decide +kernel⟩

theorem met_DriveEvents_4 : ∃ c : Column, Meets (fun u => u.mode.cur = some c ∧ c.sampled = false ∧ refInstant c ≤ u.now ∧ (c.kind
    = .home ∨ c.kind = .listen)) :=
  ⟨column .listen 0 30000000, { up .run with mode.cur := some (column .listen 0 30000000) }, by decide +kernel⟩

theorem met_DriveEvents_5 : ∃ t : Nat, Meets (fun u => u.scan.a.alignEnd = some t ∧ t ≤ u.clk ∧ live u.scan.a.st = true) :=
  ⟨(up .standby).clk, { up .standby with scan.a.st := .closing, scan.a.alignEnd := some (up .standby).clk }, by decide +kernel⟩

theorem met_DriveEvents_6 : ∃ t : Nat, Meets (fun u => u.scan.a.watch = some t ∧ u.scan.a.edges = [] ∧ u.domOn 31 = true ∧ live
    u.scan.a.st = true ∧ 4 * u.countPeriod ≤ ((u.clk - t : Nat) : Rat)) :=
  ⟨0, { up .standby with scan.a.st := .closed, scan.a.watch := some 0 }, by decide +kernel⟩

theorem met_DriveEvents_7 : ∃ (t e : Nat) (r : List Nat), Meets (fun u => u.scan.a.watch = some t ∧ u.scan.a.edges = e :: r ∧
    u.domOn 31 = true ∧ live u.scan.a.st = true ∧ 4 * u.countPeriod ≤ ((u.clk - max t e : Nat) : Rat)) :=
  ⟨0, 0, [], { up .standby with scan.a.st := .closed, scan.a.watch := some 0, scan.a.edges := [0] }, by decide +kernel⟩

theorem met_DriveEvents_8 : ∃ (ph : Fin 3) (i : Nat), Meets (fun u => u.domOn 31 = true ∧ ((5 * u.aCoef 64 16 : Nat) : Rat) < 4 *
    absQ (u.phaseCurrent i)) :=
  ⟨2, 1800000, up .standby, by decide +kernel⟩

theorem met_DriveEvents_9 : ∃ v : Nat, Meets (fun u => u.domOn 31 = true ∧ u.aCoef 241 12 < v ∧ u.scan.a.driving = true) :=
  ⟨1501, { up .standby with scan.a.st := .closed }, by decide +kernel⟩

theorem met_DriveEvents_10 : ∃ t : Nat, Meets (fun u => u.scan.a.closeAt = some t ∧ t + sec (u.aCoef 186 6) ≤ u.clk) :=
  ⟨((up .standby).clk - sec 30), { up .standby with scan.a.closeAt := some ((up .standby).clk - sec 30) }, by decide +kernel⟩

theorem met_DriveEvents_11 : ∃ t : Nat, Meets (fun u => u.scan.a.lostAt = some t ∧ t + sec 1 ≤ u.clk) :=
  ⟨((up .standby).clk - sec 1), { up .standby with scan.a.lostAt := some ((up .standby).clk - sec 1) }, by decide +kernel⟩

theorem met_DriveEvents_12 : ∃ t : Nat, Meets (fun u => u.scan.b.overAt = some t ∧ t + ms 1 ≤ u.clk) :=
  ⟨((up .standby).clk - ms 1), { up .standby with scan.b.overAt := some ((up .standby).clk - ms 1) }, by decide +kernel⟩

theorem met_DriveEvents_13 : ∃ e : Fin 16, Meets (fun u => u.domOn 31 = true ∧ u.retired 9 e.val = false ∧ (List.range 14).find?
    (fun f => u.fnEngine f = some e.val) = none) :=
  ⟨14, up .standby, by decide +kernel⟩

theorem met_DriveEvents_14 : ∃ (e : Fin 16) (f : Nat), Meets (fun u => u.domOn 31 = true ∧ u.retired 9 e.val = false ∧ (List.range
    14).find? (fun f => u.fnEngine f = some e.val) = some f ∧ 6 ≤ f) :=
  ⟨13, 13, up .standby, by decide +kernel⟩

theorem met_DriveEvents_15 : ∃ (e : Fin 16) (f : Nat), Meets (fun u => u.domOn 31 = true ∧ u.retired 9 e.val = false ∧ (List.range
    14).find? (fun f => u.fnEngine f = some e.val) = some f ∧ f < 6) :=
  ⟨5, 5, up .standby, by decide +kernel⟩

theorem met_DriveEvents_16 : ∃ i : Fin 2048, Meets (fun u => u.domOn 31 = true ∧ i.val < repCells u.scan.a.repCfg) :=
  ⟨1023, up .standby, by decide +kernel⟩

theorem met_DriveEvents_17 : ∃ i : Fin 2048, Meets (fun u => u.domOn 31 = true ∧ i.val < repCells u.scan.b.repCfg) :=
  ⟨1023, up .standby, by decide +kernel⟩

theorem met_DriveEvents_18 : ∃ t : Nat, Meets (fun u => u.scan.a.st = .braking ∧ (u.scan.a.brake = some .regen ∨ u.scan.a.brake =
    some .short) ∧ u.scan.a.slowAt = some t ∧ t + ms 100 ≤ u.clk) :=
  ⟨((up .standby).clk - ms 100),
    { up .standby with
      scan.a.st := .braking
      scan.a.brake := some .short
      scan.a.slowAt := some ((up .standby).clk - ms 100) },
    by decide +kernel⟩

theorem met_DriveEvents_19 : Meets (fun u => u.scan.a.st = .braking ∧ (u.scan.a.brake = some .shortTmax ∨ u.scan.a.brake = some
    .coast) ∧ u.scan.a.brakeAt + sec (u.aCoef 217 8) ≤ u.clk) :=
  ⟨{ up .standby with
      scan.a.st := .braking
      scan.a.brake := some .coast
      scan.a.brakeAt := ((up .standby).clk - sec 10) },
    by decide +kernel⟩

theorem met_DriveEvents_20 : Meets (fun u => u.scan.b.st = .braking ∧ u.scan.b.parking = true ∧ u.scan.b.r = (clampI (u.bSigned
    160 20) (u.bSigned 192 20) (u.bSigned 212 20) : Int)) :=
  ⟨{ up .standby with scan.b.st := .braking, scan.b.parking := true }, by decide +kernel⟩

theorem met_DriveEvents_21 : ∃ t : Nat, Meets (fun u => u.hk.pinAt = some t) :=
  ⟨0, { up .standby with hk.pinAt := some 0 }, by decide +kernel⟩

theorem met_DriveEvents_22 : Meets (fun u => u.hk.pinAt = none) :=
  ⟨up .standby, by decide +kernel⟩

/-! IslandAxisEventsComplete -/

theorem met_IslandAxisEvents_2 : Meets (fun u => u.safe.indexed = true ∧ u.scan.a.indexed = true ∧ u.domOn 31 = true ∧
    (u.safe.count - u.scan.a.count).natAbs ≤ 8) :=
  ⟨{ up .standby with safe.indexed := true, scan.a.indexed := true, safe.count := 8 }, by decide +kernel⟩

theorem met_IslandAxisEvents_3 : Meets (fun u => u.safe.indexed = true ∧ u.scan.a.indexed = true ∧ u.domOn 31 = true ∧ 8 <
    (u.safe.count - u.scan.a.count).natAbs) :=
  ⟨{ up .standby with safe.indexed := true, scan.a.indexed := true, safe.count := 9 }, by decide +kernel⟩

theorem met_IslandAxisEvents_4 : ∃ t : Nat, Meets (fun u => u.safe.edgeAt = some t ∧ u.safe.sls = ⟨true, true⟩ ∧ u.slsLimit ≤
    ((u.clk - t : Nat) : Rat)) :=
  ⟨0,
    { up .standby with
      safe.edgeAt := some 0
      safe.sls := ⟨true, true⟩
      safe.cfg := safeCfg
      sched.sweep := ms 50 },
    by decide +kernel⟩

theorem met_IslandAxisEvents_5 : ∃ t : Nat, Meets (fun u => u.safe.frameAt = some t ∧ t + us 50 ≤ u.clk ∧ u.safe.slp = ⟨true,
    true⟩) :=
  ⟨((up .standby).clk - us 50),
    { up .standby with
      safe.frameAt := some ((up .standby).clk - us 50)
      safe.slp := ⟨true, true⟩ },
    by decide +kernel⟩

/-! SafeOutputEventsComplete -/

theorem met_SafeOutputEvents_1 : ∃ (arrived : Bool) (r : Result), Meets (fun u => u.front.results.find? (fun x => !x.evaluated &&
    x.endCause.isNone) = some r) :=
  ⟨false, ended none, { up .run with front.results := [ended none] }, by decide +kernel⟩

theorem met_SafeOutputEvents_2 : ∃ (arrived : Bool) (r : Result), Meets (fun u => u.front.results.find? (fun x => !x.evaluated &&
    x.endCause.isNone) = some r) :=
  ⟨false, ended none, { up .run with front.results := [ended none] }, by decide +kernel⟩

theorem met_SafeOutputEvents_3 : ∃ k : Fin 4, Meets (fun u => (u.outp k.val).on = true ∧ (u.outp k.val).test = none ∧ u.outUsed
    k.val = true ∧ (∀ t, (u.outp k.val).lastTest = some t → t + sec 1 ≤ u.clk) ∧ ∀ j : Fin 4, j ≠ k → ∀ t, (u.outp j.val).lastTest
    = some t → t + ms 250 ≤ u.clk) :=
  ⟨3,
    { up .run with
      safe.outs := [(0, { lastTest := some ((up .standby).clk - ms 250) }), (3, { on := true, lastTest := some ((up .standby).clk - sec 1) })]
      safe.cfg := safeCfg },
    by decide +kernel⟩

theorem met_SafeOutputEvents_4 : ∃ (k : Fin 4) (t : Nat), Meets (fun u => (u.outp k.val).test = some t ∧ t + us 200 ≤ u.clk ∧
    (u.outp k.val).demanded = false ∧ (u.outp k.val).on = true) :=
  ⟨3, ((up .standby).clk - us 200),
    { up .run with
      safe.outs := [(3, { on := true, test := some ((up .standby).clk - us 200) })] },
    by decide +kernel⟩

theorem met_SafeOutputEvents_5 : ∃ (k : Fin 4) (t : Nat), Meets (fun u => (u.outp k.val).test = some t ∧ t + us 200 ≤ u.clk ∧
    (u.outp k.val).demanded = true ∧ (u.outp k.val).on = false) :=
  ⟨3, ((up .standby).clk - us 200),
    { up .run with
      safe.outs := [(3, { demanded := true, test := some ((up .standby).clk - us 200) })] },
    by decide +kernel⟩

theorem met_SafeOutputEvents_6 : ∃ (k : Fin 4) (level : Bool), Meets (fun u => level = (u.outp k.val).driven) :=
  ⟨3, true, { up .run with safe.outs := [(3, { on := true })] }, by decide +kernel⟩

theorem met_SafeOutputEvents_7 : ∃ k : Fin 4, Meets (fun u => (u.outp k.val).on = false ∧ (u.outp k.val).test = none ∧ (u.outp
    k.val).changed + us (u.safeFld 11 1) ≤ u.clk ∧ u.isActiveAt 0x800A 14 k.val = false) :=
  ⟨3, { up .run with safe.cfg := safeCfg }, by decide +kernel⟩

theorem met_SafeOutputEvents_8 : ∃ k : Fin 4, Meets (fun u => (u.outp k.val).on = true ∧ (u.outp k.val).test = none ∧ (u.outp
    k.val).changed + us (u.safeFld 11 1) ≤ u.clk ∧ u.isActiveAt 0x800B 14 k.val = false) :=
  ⟨3, { up .run with safe.cfg := safeCfg, safe.outs := [(3, { on := true })] }, by decide +kernel⟩

/-! SafetyPairEventsComplete -/

theorem met_SafetyPairEvents_2 : Meets (fun u => u.safe.latched = false) :=
  ⟨up .run, by decide +kernel⟩

theorem met_SafetyPairEvents_3 : Meets (fun u => u.safe.latched = true) :=
  ⟨{ up .run with safe.latched := true }, by decide +kernel⟩

theorem met_SafetyPairEvents_8 : Meets (fun u => u.safe.estop = true) :=
  ⟨up .run, by decide +kernel⟩

theorem met_SafetyPairEvents_9 : Meets (fun u => u.safe.estop = false) :=
  ⟨{ up .run with safe.estop := false }, by decide +kernel⟩

theorem met_SafetyPairEvents_11 : ∃ code : BitVec 4, Meets (fun u => popN 4 code.toNat % 2 = 1 ∧ (u.safe.cfg = [] ∨ fld code.toNat
    0 3 < u.safeFld 6 1) ∧ u.mode.cur.isSome = true) :=
  ⟨8, { up .run with mode.cur := some (column .home 0 30000000) }, by decide +kernel⟩

theorem met_SafetyPairEvents_12 : ∃ code : BitVec 4, Meets (fun u => popN 4 code.toNat % 2 = 1 ∧ (u.safe.cfg = [] ∨ fld code.toNat
    0 3 < u.safeFld 6 1) ∧ u.mode.cur.isSome = false) :=
  ⟨8, { up .run with safe.cfg := safeCfg }, by decide +kernel⟩

theorem met_SafetyPairEvents_13 : ∃ code : BitVec 4, Meets (fun u => ¬(popN 4 code.toNat % 2 = 1 ∧ (u.safe.cfg = [] ∨ fld
    code.toNat 0 3 < u.safeFld 6 1))) :=
  ⟨0, { up .run with safe.cfg := safeCfg }, by decide +kernel⟩

/-! RestartEventsComplete -/

theorem met_RestartEvents_1 : Meets (fun u => u.safe.button = false ∧ u.life.lcs = .safeHold ∧ u.safe.buttonAt + ms 100 ≤ u.clk)
    :=
  ⟨{ up .safeHold with safe.buttonAt := ((up .standby).clk - ms 100) }, by decide +kernel⟩

theorem met_RestartEvents_2 : Meets (fun u => u.safe.button = false ∧ ¬(u.life.lcs = .safeHold ∧ u.safe.buttonAt + ms 100 ≤
    u.clk)) :=
  ⟨up .run, by decide +kernel⟩

theorem met_RestartEvents_3 : ∃ (t : Nat) (fb : BitVec 4) (ok : Bool), Meets (fun u => u.safe.button = true ∧ u.safe.press = some
    t ∧ t + ms 100 ≤ u.clk ∧ u.clk ≤ t + sec 5 ∧ u.life.lcs = .safeHold ∧ u.race.hold = false ∧ u.foreseen.hold = false) :=
  ⟨((up .standby).clk - ms 100), 0, true,
    { up .safeHold with
      safe.button := true
      safe.press := some ((up .standby).clk - ms 100) },
    by decide +kernel⟩

theorem met_RestartEvents_4 : ∃ (fb : BitVec 4) (ok : Bool), Meets (fun u => u.safe.button = true ∧ ∀ t, u.safe.press = some t →
    u.clk < t + ms 100 ∨ t + sec 5 < u.clk ∨ u.life.lcs ≠ .safeHold ∨ u.foreseen.hold = true) :=
  ⟨0, true, { up .safeHold with safe.button := true }, by decide +kernel⟩

theorem met_RestartEvents_5 : Meets (fun u => u.safe.button = true ∧ u.safe.stuck = false ∧ u.safe.buttonAt + sec 5 < u.clk ∧
    u.life.lcs ≠ .boot) :=
  ⟨{ up .run with safe.button := true, safe.buttonAt := ((up .standby).clk - sec 5 - 1) }, by decide +kernel⟩

theorem met_RestartEvents_6 : Meets (fun u => u.safe.button = false ∧ u.safe.stuck = true ∧ u.safe.buttonAt + ms 100 ≤ u.clk) :=
  ⟨{ up .run with safe.stuck := true }, by decide +kernel⟩

theorem met_RestartEvents_7 : ∃ t : Nat, Meets (fun u => u.life.degEnd = some t ∧ u.life.lcs = .degraded ∧ t ≤ u.clk) :=
  ⟨(up .run).clk, { up .degraded with life.degEnd := some (up .run).clk }, by decide +kernel⟩

theorem met_RestartEvents_8 : ∃ x : Session, Meets (fun u => u.life.session = some x ∧ u.life.lcs = .service ∧ x.exp ≤ u.clk) :=
  ⟨⟨localEntry .A, 10, (up .run).clk⟩,
    { up .service with
      life.session := some ⟨localEntry .A, 10, (up .run).clk⟩ },
    by decide +kernel⟩

/-! HousekeepingRoundEventsComplete -/

theorem met_HousekeepingRoundEvents_1 : Meets (fun u => u.hk.pos = 12 ∧ u.life.lcs ≠ .boot ∧ (({ u.sample 0x08 48 u.hk.dropped
    with hk.dropped := 0 } : State).newGlobal.tIntNow).2 = true) :=
  ⟨up .standby, by decide +kernel⟩

theorem met_HousekeepingRoundEvents_2 : Meets (fun u => u.hk.pos = 12 ∧ u.life.lcs ≠ .boot ∧ (({ u.sample 0x08 48 u.hk.dropped
    with hk.dropped := 0 } : State).newGlobal.tIntNow).2 = false ∧ (({ u.sample 0x08 48 u.hk.dropped with hk.dropped := 0 } :
    State).newGlobal).hk.pinTold = false) :=
  ⟨{ up .standby with hk.word := 0x10000 }, by decide +kernel⟩

theorem met_HousekeepingRoundEvents_3 : Meets (fun u => u.hk.pos < 12 ∧ u.hk.swapped = false ∧ u.hk.posAt + u.hk.tInt * hkCk / 2 ≤
    u.clk) :=
  ⟨{ up .standby with hk.pos := 11 }, by decide +kernel⟩

theorem met_HousekeepingRoundEvents_4 : ∃ raw : List Int, Meets (fun u => u.hk.pos < 12 ∧ u.hk.posAt + u.hk.tInt * hkCk ≤ u.clk)
    :=
  ⟨[], { up .standby with hk.pos := 11 }, by decide +kernel⟩

theorem met_HousekeepingRoundEvents_5 : ∃ ch : Fin 48, Meets (fun u => u.hk.pos < 12 ∧ (u.hkc ch.val).rtd = true ∧ u.convOf
    (ch.val / 12) = ch.val) :=
  ⟨47, { up .standby with hk.pos := 11, hk.chans := [(47, { cfg := 0x80 })] }, by decide +kernel⟩

/-! HousekeepingServiceEventsComplete -/

theorem met_HousekeepingServiceEvents_1 : ∃ ts : List Int, Meets (fun u => ∀ t, u.hk.dieAt = some t → t + ms 1 ≤ u.clk) :=
  ⟨[], up .standby, by decide +kernel⟩

theorem met_HousekeepingServiceEvents_2 : ∃ rs : List PmbReading, Meets (fun u => u.power.probed = true) :=
  ⟨[], { up .standby with power.probed := true }, by decide +kernel⟩

theorem met_HousekeepingServiceEvents_3 : ∃ rs : List PmbReading, Meets (fun u => u.power.probed = false ∧ u.domOn 33 = true) :=
  ⟨[], up .standby, by decide +kernel⟩

theorem met_HousekeepingServiceEvents_4 : ∃ rs : List PmbReading, Meets (fun u => u.power.probed = false ∧ u.domOn 33 = false) :=
  ⟨[], { up .standby with power.dom := 0 }, by decide +kernel⟩

theorem met_HousekeepingServiceEvents_6 : ∃ (j : FlashJob) (rest : List FlashJob), Meets (fun u => u.jobs = j :: rest ∧ j.stopped
    = false) :=
  ⟨⟨.cal [], 0x0601, 0, localEntry .A, false⟩, [],
    { up .standby with
      jobs := [⟨.cal [], 0x0601, 0, localEntry .A, false⟩] },
    by decide +kernel⟩

theorem met_HousekeepingServiceEvents_7 : ∃ (j : FlashJob) (rest : List FlashJob), Meets (fun u => u.jobs = j :: rest ∧ j.stopped
    = true) :=
  ⟨⟨.cal [], 0x0601, 0, localEntry .A, true⟩, [],
    { up .standby with
      jobs := [⟨.cal [], 0x0601, 0, localEntry .A, true⟩] },
    by decide +kernel⟩

theorem met_HousekeepingServiceEvents_8 : ∃ (m : Fin 64) (x : Monitor), Meets (fun u => tget {} u.faults.monitors m.val = x ∧ bitN
    x.cfg.toNat 32 = true ∧ bitN x.cfg.toNat 34 = true ∧ 0 < ms (10 * fld x.cfg.toNat 160 16) ∧ x.start + ms (10 * fld x.cfg.toNat
    160 16) ≤ u.clk) :=
  ⟨63, { cfg := BitVec.ofNat 256 (2 ^ 160 + 5 * 2 ^ 32) },
    { up .standby with
      faults.monitors := [(63, { cfg := BitVec.ofNat 256 (2 ^ 160 + 5 * 2 ^ 32) })] },
    by decide +kernel⟩

/-! MonitorEventsComplete -/

theorem met_MonitorEvents_1 : ∃ (p : HostPort) (w : Word), Meets (fun u => u.isPcie p = true ∧ u.domOn (28 + portIdx p) = true ∧
    u.holds (localEntry p) 4 = true) :=
  ⟨.A, 5, { up .standby with sems := [(4, { owner := some (localEntry .A), exp := 2 ^ 60 })] }, by decide +kernel⟩

theorem met_MonitorEvents_2 : Meets (fun u => u.monOn = true ∧ u.mon.vblankAt + u.monFld 0x018 16 12 * u.lineTicks ≤ u.clk) :=
  ⟨{ up .standby with mon.live := [(0, 1)] }, by decide +kernel⟩

theorem met_MonitorEvents_3 : Meets (fun u => u.domOn 30 = true ∧ u.monOn = false ∧ u.mon.pend = true ∧ u.mon.pendAt + us 1 ≤
    u.clk ∧ u.commitErr ≠ 0) :=
  ⟨{ up .standby with mon.pend := true, mon.shadow := [(4, 1)] }, by decide +kernel⟩

theorem met_MonitorEvents_4 : Meets (fun u => u.domOn 30 = true ∧ u.monOn = false ∧ u.mon.pend = true ∧ u.mon.pendAt + us 1 ≤
    u.clk ∧ u.commitErr = 0) :=
  ⟨{ up .standby with
      mon.pend := true
      mon.shadow := [(66, 131074), (67, 131074), (68, 4194368), (82, 65537), (85, 1), (98, 65537), (99, 64)] },
    by decide +kernel⟩

theorem met_MonitorEvents_5 : Meets (fun u => u.monOn = true ∧ u.monFld 0x100 0 1 = 1 ∧ u.mon.restart = 0 ∧ bitN u.mon.skip.toNat
    0 = false) :=
  ⟨{ up .standby with mon.live := [(0, 1), (64, 1)] }, by decide +kernel⟩

theorem met_MonitorEvents_6 : Meets (fun u => u.monOn = true ∧ u.monFld 0x180 0 1 = 1 ∧ u.mon.restart = 0 ∧ bitN u.mon.skip.toNat
    2 = false) :=
  ⟨{ up .standby with mon.live := [(0, 1), (96, 1)] }, by decide +kernel⟩

theorem met_MonitorEvents_7 : Meets (fun u => u.monOn = true ∧ u.monFld 0x100 0 1 = 1 ∧ u.mon.restart = 0 ∧ bitN u.mon.skip.toNat
    0 = false) :=
  ⟨{ up .standby with mon.live := [(0, 1), (64, 1)] }, by decide +kernel⟩

theorem met_MonitorEvents_8 : Meets (fun u => u.domOn 30 = true) :=
  ⟨up .standby, by decide +kernel⟩

/-! ScheduleEventsComplete -/

theorem met_ScheduleEvents_1 : ∃ col : Column, Meets (fun u => u.mode.prev = some col ∧ u.mode.ran = false ∧ col.stop + 2 * engCk
    ≤ u.now) :=
  ⟨column .home 0 30000000, { up .run with mode.prev := some (column .home 0 30000000), mode.ran := false }, by decide +kernel⟩

theorem met_ScheduleEvents_2 : ∃ (e : Fin 256) (cyc : Nat), Meets (fun u => u.runCycle (e.val / 32) = some cyc) :=
  ⟨255, (up .run).clk / engCk, { up .run with sched.sectors := [(7, { runFrom := some 0 })] }, by decide +kernel⟩

theorem met_ScheduleEvents_3 : ∃ (k : Fin 8) (cyc : Nat), Meets (fun u => u.runCycle k.val = some cyc ∧ u.slotEnd k.val ≤ cyc) :=
  ⟨7, (up .run).clk / engCk, { up .run with sched.sectors := [(7, { runFrom := some 0 })] }, by decide +kernel⟩

theorem met_ScheduleEvents_4 : ∃ k : Fin 8, Meets (fun u => u.secOn k.val = true ∧ (u.sector k.val).staged = false ∧
    u.sched.damaged.contains (storeIdx u.mode.mode k.val (min 2 (u.runVariant k.val + 1))) = false ∧ u.sched.restore.any (fun r =>
    r.1 = storeIdx u.mode.mode k.val (min 2 (u.runVariant k.val + 1))) = false) :=
  ⟨7, { up .run with sched.sectors := [(7, { staged := false })] }, by decide +kernel⟩

theorem met_ScheduleEvents_5 : ∃ k : Fin 8, Meets (fun u => u.sched.damaged.contains (storeIdx u.mode.mode k.val (min 2
    (u.runVariant k.val + 1))) = true ∨ u.sched.restore.any (fun r => r.1 = storeIdx u.mode.mode k.val (min 2 (u.runVariant k.val
    + 1))) = true) :=
  ⟨7, { up .run with sched.damaged := [storeIdx (up .run).mode.mode 7 1] }, by decide +kernel⟩

theorem met_ScheduleEvents_6 : ∃ k : Fin 8, Meets (fun u => u.secOn k.val = true ∧ (u.sector k.val).staged = false) :=
  ⟨7, { up .run with sched.sectors := [(7, { staged := false })] }, by decide +kernel⟩

theorem met_ScheduleEvents_7 : ∃ found : StoreScrub, Meets (fun u => u.sched.file ≠ []) :=
  ⟨⟨[], 1⟩, { up .run with sched.file := [1] }, by decide +kernel⟩

theorem met_ScheduleEvents_8 : ∃ idx : Nat, Meets (fun u => u.sched.restore.any (fun r => r.1 = idx) = true) :=
  ⟨5, { up .run with sched.restore := [(5, 6)] }, by decide +kernel⟩

theorem met_ScheduleEvents_9 : ∃ l : Load, Meets (fun u => u.sched.load = some l ∧ l.whole = true ∧ (keyKnown u.otp.sched l.file
    && signedOk l.file) = false) :=
  ⟨⟨true, [], 0, 0, localEntry .A, true⟩,
    { up .standby with
      sched.load := some ⟨true, [], 0, 0, localEntry .A, true⟩ },
    by decide +kernel⟩

theorem met_ScheduleEvents_10 : ∃ (l : Load) (r : Nat) (p : Pos), Meets (fun u => u.sched.load = some l ∧ l.whole = true ∧
    (keyKnown u.otp.sched l.file && signedOk l.file) = true ∧ validate u.power.boot.ifl (fileSet l.file) = some (r, p)) := by
  have h : (validate 3 (fileSet signedImage)).map Prod.fst = some 1 := by decide +kernel
  obtain ⟨⟨r, p⟩, hv, hr⟩ := Option.map_eq_some_iff.mp h
  exact ⟨⟨true, signedImage, 0, 0, localEntry .A, true⟩, r, p,
    { up .standby with
      sched.load := some ⟨true, signedImage, 0, 0, localEntry .A, true⟩
      otp.sched := [(0, { st := .active, dig := signerDigest })] },
    by decide, rfl, rfl, by decide +kernel, hv⟩

/-- The library identifiers and the reading of a mode block are the firmware's and open here (log entries 12 and 13): where the firmware
lists the set's library and reads its parts, a set passes every check. -/
theorem met_ScheduleEvents_11 (h1 : Config.libIds.contains 9#32 = true) (h2 : Config.modeBlockOf (zeros 16) = some lullBlock)
    (h3 : Config.sectorImageOf (zeros 16) = some anImage) :
    ∃ (l : Load), Meets (fun u => u.sched.load = some l ∧ l.whole = true ∧ (keyKnown u.otp.sched l.file && signedOk l.file) = true ∧
      validate u.power.boot.ifl (fileSet l.file) = none) :=
  ⟨⟨true, signedSet, 0, 0, localEntry .A, true⟩,
    { up .standby with
      sched.load := some ⟨true, signedSet, 0, 0, localEntry .A, true⟩
      otp.sched := [(0, { st := .active, dig := signerDigest })] },
    by decide, rfl, rfl, signed_set_good, (signed_set_read h2 h3).symm ▸ signed_set_valid h1⟩

/-! ### Operations of a sector engine -/

/-- A condition on the state in which an engine issues is met where the engine runs in a cycle of its sector's run up to SLOT_END. -/
abbrev MeetsIn (e : Fin 256) (cond : State → Prop) : Prop :=
  ∃ (cyc : Nat) (s : State), s.life.lcs ≠ .off ∧ (s.advance 0).runCycle (e.val / 32) = some cyc ∧
    cyc ≤ (s.advance 0).slotEnd (e.val / 32) ∧ ((s.advance 0).eng e.val).run = true ∧ cond (issuing (s.advance 0) e.val cyc)

/-- Tokens for logical engine 29 over every cycle, of the last banks of the tiles, those of the state memory and the output port. -/
def allTokens : List (BitVec 64) :=
  [0, 63, 64, 65, 66, 67, 68].map (fun b => BitVec.ofNat 64 (b + 29 * 2 ^ 7 + 4095 * 2 ^ 30))

/-- The cycle that `issuer` runs in. -/
def issuerCycle : Nat :=
  100

/-- Sector 7 runs in the 100th cycle of a column of mode 0 with two engines retired, its engine 31, which is logical engine 29, with the
contents given. -/
def issuer (x : Eng) : State :=
  { up .run with
    mode.mode := 0
    faults.retired := [⟨4, 252⟩, ⟨4, 253⟩]
    sched.images := [(storeIdx 0 7 0, { anImage with slotEnd := 2000, tokens := allTokens })]
    sched.sectors := [(7, { runFrom := some ((up .run).now - issuerCycle * engCk) })]
    sched.engs := [(255, { x with run := true })] }

/-- An engine whose first address register points at a byte of its space, with predicate 7 set. -/
def pointing (a : Nat) : Eng :=
  { gb := [(0, BitVec.ofNat 23 a)], p := 0x81 }

/-- An L slot under predicate 7. -/
def slotL : LSlot := ⟨7, false, 0, 31, true, 0⟩

/-- An A slot under the inverse of predicate 7. -/
def slotA : ASlot := ⟨7, true, 31, 0, false, 0, 8⟩

/-- A condition that can be evaluated is met by `issuer` where it holds of its issuing state. -/
theorem meets_issuer (x : Eng) (cond : State → Prop) (h : cond (issuing ((issuer x).advance 0) 255 issuerCycle))
    (hr : ((issuer x).advance 0).runCycle 7 = some issuerCycle ∧ issuerCycle ≤ ((issuer x).advance 0).slotEnd 7 ∧
      (((issuer x).advance 0).eng 255).run = true) : MeetsIn 255 cond :=
  ⟨issuerCycle, issuer x, by simp [issuer, up], hr.1, hr.2.1, hr.2.2, h⟩

/-- A claim in the cycle of `issuer` is covered by a token and comes before SLOT_END. -/
theorem granted_of {u : State} {ar : Area} (hc : u.runCycle 7 = some issuerCycle)
    (h : u.tokenOk 255 issuerCycle ar = true ∧ u.tooLate 255 issuerCycle ar = false) :
    ∀ cyc, u.runCycle ((255 : Fin 256).val / 32) = some cyc → u.tokenOk (255 : Fin 256).val cyc ar = true ∧
      u.tooLate (255 : Fin 256).val cyc ar = false := by
  intro cyc hcyc
  have e : some issuerCycle = some cyc := hc.symm.trans hcyc
  cases e
  exact h

/-- Loads and stores at the first and the last address of local memory. -/
theorem met_LoadStoreAndNopOperations : ∀ z ∈ [(1, 0xFFFF), (2, 0xFFFE), (4, 0xFFFC), (8, 0xFFF8), (1, 0), (2, 0), (4, 0), (8, 0)],
    MeetsIn 255 (fun u => passes 255 slotL.pred slotL.pneg u ∧ (u.eng (255 : Fin 256).val).ea u.free slotL z.1 / z.1 * z.1 < 0x10000 ∧
      (u.eng (255 : Fin 256).val).ea u.free slotL z.1 / z.1 * z.1 = z.2) := by
  intro z hz
  apply meets_issuer (pointing z.2)
  · simp only [passes]
    revert z
    decide +kernel
  · revert z
    decide +kernel

/-- Loads from the last tile's last bytes. -/
theorem met_LoadStoreAndNopOperations_hist : ∀ z ∈ [(1, 0x23FFFF), (2, 0x23FFFE), (4, 0x23FFFC), (8, 0x23FFF8)],
    MeetsIn 255 (fun u => passes 255 slotL.pred slotL.pneg u ∧
      (∃ t off, areaOf ((u.eng (255 : Fin 256).val).ea u.free slotL z.1 / z.1 * z.1) = .hist t off) ∧
      ∀ cyc, u.runCycle ((255 : Fin 256).val / 32) = some cyc →
        u.tokenOk (255 : Fin 256).val cyc (areaOf ((u.eng (255 : Fin 256).val).ea u.free slotL z.1 / z.1 * z.1)) = true ∧
        u.tooLate (255 : Fin 256).val cyc (areaOf ((u.eng (255 : Fin 256).val).ea u.free slotL z.1 / z.1 * z.1)) = false) := by
  intro z hz
  refine meets_issuer (pointing z.2) _ ⟨?_, ⟨7, z.2 - 0x218000, ?_⟩, granted_of ?_ ?_⟩ ?_ <;> try simp only [passes]
  all_goals
    revert z
    decide +kernel

/-- Loads from the state memory and stores to it, at its first and last bytes. -/
theorem met_LoadStoreAndNopOperations_state : ∀ z ∈ [(1, 0x303FFF), (2, 0x303FFE), (4, 0x303FFC), (8, 0x303FF8), (8, 0x300000)],
    ∃ off : Nat, MeetsIn 255 (fun u => passes 255 slotL.pred slotL.pneg u ∧
      areaOf ((u.eng (255 : Fin 256).val).ea u.free slotL z.1 / z.1 * z.1) = .state off ∧
      ∀ cyc, u.runCycle ((255 : Fin 256).val / 32) = some cyc →
        u.tokenOk (255 : Fin 256).val cyc (areaOf ((u.eng (255 : Fin 256).val).ea u.free slotL z.1 / z.1 * z.1)) = true ∧
        u.tooLate (255 : Fin 256).val cyc (areaOf ((u.eng (255 : Fin 256).val).ea u.free slotL z.1 / z.1 * z.1)) = false) := by
  intro z hz
  refine ⟨z.2 - 0x300000, meets_issuer (pointing z.2) _ ⟨?_, ?_, granted_of ?_ ?_⟩ ?_⟩ <;> try simp only [passes]
  all_goals
    revert z
    decide +kernel

/-- Stores to both addresses of the output port. -/
theorem met_LoadStoreAndNopOperations_port : ∀ summary ∈ [false, true],
    MeetsIn 255 (fun u => passes 255 slotL.pred slotL.pneg u ∧
      (u.eng (255 : Fin 256).val).ea u.free slotL 8 / 8 * 8 = (if summary then 0x400008 else 0x400000) ∧
      ∀ cyc, u.runCycle ((255 : Fin 256).val / 32) = some cyc →
        u.tokenOk (255 : Fin 256).val cyc (areaOf ((u.eng (255 : Fin 256).val).ea u.free slotL 8 / 8 * 8)) = true ∧
        u.tooLate (255 : Fin 256).val cyc (areaOf ((u.eng (255 : Fin 256).val).ea u.free slotL 8 / 8 * 8)) = false) := by
  intro b hb
  refine meets_issuer (pointing (if b then 0x400008 else 0x400000)) _ ⟨?_, ?_, granted_of ?_ ?_⟩ ?_ <;> try simp only [passes]
  all_goals
    revert b
    decide +kernel

theorem met_LoadStoreAndNopOperations_nop : ∀ k ∈ [SlotKind.L, .A, .M, .X, .C],
    MeetsIn 255 (fun u => reservedOpc k (slotOpc ((u.eng 255).active.getD (u.eng 255).pc 0).toNat k) = false) ∧
    MeetsIn 255 (fun u => reservedOpc k (slotOpc ((u.eng 255).active.getD (u.eng 255).pc 0).toNat k) = true) := by
  intro k hk
  refine ⟨meets_issuer {} _ ?_ ?_, meets_issuer { bank0 := List.replicate 101 (BitVec.ofNat 128 (2 ^ 128 - 1)) } _ ?_ ?_⟩
  all_goals
    revert k
    decide +kernel

theorem met_LoadStoreAndNopOperations_fetch : ∃ (i : SectorImage) (l : Nat), MeetsIn 255 (fun u =>
    u.imageInForce ((255 : Fin 256).val / 32) = some i ∧ u.logicalOf (255 : Fin 256).val = some l) :=
  ⟨_, 29, meets_issuer {} _ ⟨rfl, by decide +kernel⟩ (by decide +kernel)⟩

theorem met_LoadStoreAndNopOperations_unmapped : ∃ e : Fin 256, MeetsIn e (fun u => u.logicalOf e.val = none) :=
  ⟨252, issuerCycle, { issuer {} with sched.engs := [(252, { run := true })] }, by simp [issuer, up], by decide +kernel, by decide +kernel,
    by decide +kernel, by decide +kernel⟩

/-- What the operations of the A slot ask of their operands. -/
theorem met_ArithmeticOperations : ∃ op : ASlot, MeetsIn 255 (fun u => passes 255 op.pred op.pneg u) ∧
    MeetsIn 255 (fun u => passes 255 op.pred op.pneg u ∧ opB (u.eng (255 : Fin 256).val) op ≠ 0) ∧ shOf op ≤ 8 :=
  ⟨{ slotA with immf := true, sb := 31 }, meets_issuer {} _ (by simp only [passes]; decide +kernel) (by decide +kernel),
    meets_issuer {} _ ⟨by simp only [passes]; decide +kernel, by decide +kernel⟩ (by decide +kernel), by decide⟩

theorem met_ArithmeticOperations_zero : ∃ op : ASlot, shOf op = 8 ∧
    MeetsIn 255 (fun u => passes 255 op.pred op.pneg u ∧ opB (u.eng (255 : Fin 256).val) op = 0) :=
  ⟨slotA, by decide, meets_issuer {} _ ⟨by simp only [passes]; decide +kernel, by decide +kernel⟩ (by decide +kernel)⟩

theorem met_ArithmeticOperations_sqrt : ∃ op : ASlot, 8 < shOf op ∧ MeetsIn 255 (fun u => passes 255 op.pred op.pneg u) :=
  ⟨{ slotA with sh := 9 }, by decide, meets_issuer {} _ (by simp only [passes]; decide +kernel) (by decide +kernel)⟩

theorem met_ArithmeticOperations_mfs : ∀ sa ∈ [0#5, 1#5, 2#5, 31#5], ∃ op : ASlot, op.sa = sa ∧
    MeetsIn 255 (fun u => passes 255 op.pred op.pneg u) := by
  intro sa hs
  refine ⟨{ slotA with sa := sa }, rfl, meets_issuer {} _ ?_ (by decide +kernel)⟩
  simp only [passes]
  decide +kernel

theorem met_MultiplyOperations : ∃ op : MSlot, MeetsIn 255 (fun u => passes 255 op.pred op.pneg u) :=
  ⟨⟨0, false, 7, 31, 3, 31, 63⟩, meets_issuer {} _ (by simp only [passes]; decide +kernel) (by decide +kernel)⟩

/-- Every mode of an address generator, the bit-reversed one at both ends of its lengths. -/
theorem met_AddressAndControlOperations_addi : ∃ op : XSlot,
    (∀ d ∈ [0#2, 3#2], MeetsIn 255 (fun u => tget 0#2 (u.eng (255 : Fin 256).val).gd op.ag.toNat ≠ 1 ∧
      tget 0#2 (u.eng (255 : Fin 256).val).gd op.ag.toNat ≠ 2 ∧ tget 0#2 (u.eng (255 : Fin 256).val).gd op.ag.toNat = d)) ∧
    MeetsIn 255 (fun u => tget 0#2 (u.eng (255 : Fin 256).val).gd op.ag.toNat = 1 ∧
      tget 1#16 (u.eng (255 : Fin 256).val).gl op.ag.toNat ≠ 0) ∧
    ∀ b ∈ [0, 15], b < 16 ∧ MeetsIn 255 (fun u => tget 0#2 (u.eng (255 : Fin 256).val).gd op.ag.toNat = 2 ∧
      (tget 1#16 (u.eng (255 : Fin 256).val).gl op.ag.toNat).toNat = 2 ^ b) := by
  refine ⟨⟨3, 31, 0x7FF⟩, fun d hd => meets_issuer { gd := [(3, d)] } _ ?_ ?_,
    meets_issuer { gd := [(3, 1)], gl := [(3, 0xFFFF)] } _ (by decide +kernel) (by decide +kernel),
    fun b hb => ⟨?_, meets_issuer { gd := [(3, 2)], gl := [(3, BitVec.ofNat 16 (2 ^ b))] } _ ?_ ?_⟩⟩
  · revert d
    decide +kernel
  · revert d
    decide +kernel
  all_goals
    revert b
    decide +kernel

theorem met_AddressAndControlOperations_lend :
    MeetsIn 255 (fun u => (u.eng (255 : Fin 256).val).lc0 ≠ 0 ∧ (u.eng (255 : Fin 256).val).lc1 ≠ 0) ∧
    MeetsIn 255 (fun u => (u.eng (255 : Fin 256).val).lc0 = 0 ∧ (u.eng (255 : Fin 256).val).lc1 = 0) :=
  ⟨meets_issuer { lc0 := 0xFFF, lc1 := 1 } _ (by decide +kernel) (by decide +kernel),
    meets_issuer {} _ (by decide +kernel) (by decide +kernel)⟩

theorem met_AddressAndControlOperations_end : MeetsIn 255 (fun u => (u.eng (255 : Fin 256).val).half = none) ∧
    MeetsIn 255 (fun u => (u.eng (255 : Fin 256).val).half ≠ none) :=
  ⟨meets_issuer {} _ (by decide +kernel) (by decide +kernel), meets_issuer { half := some 5 } _ (by decide +kernel) (by decide +kernel)⟩

/-! ### Mailbox commands -/

/-- What `Admitted` asks, as one check. -/
def admits (d : CmdDef) (r : Req) (s : State) : Bool :=
  s.canServe r.entry r.mb.val && (slotBad (onEthernet s r.entry) (slotFor d r).toNat).isNone
    && (!carriesData (slotFor d r).toNat || r.din.isSome)
    && (r.entry.pair.isSome || slotDest (slotFor d r).toNat = 0xFFFF || slotDest (slotFor d r).toNat = s.chain.addr.toNat)
    && ((takenState d r s).authenticate d (ctxFor d r) (ctxFor d r).din).2.isNone
    && ((checkedState d r s).rowChecks d (ctxFor d r)).isNone && !(checkedState d r s).inParts d (ctxFor d r)

/-- The check is `Admitted`. -/
theorem admitted_of_admits {d : CmdDef} {r : Req} {s : State} (h : admits d r s = true) : Admitted d r s := by
  simp only [admits, Bool.and_eq_true, Bool.or_eq_true, Bool.not_eq_true', decide_eq_true_eq, Option.isNone_iff_eq_none] at h
  obtain ⟨⟨⟨⟨⟨⟨h1, h2⟩, h3⟩, h4⟩, h5⟩, h6⟩, h7⟩ := h
  refine ⟨h1, h2, fun hc => ?_, ?_, h5, h6, h7⟩
  · rcases h3 with h3 | h3
    · rw [hc] at h3
      exact absurd h3 (by decide)
    · exact h3
  · rcases h4 with (h4 | h4) | h4
    · exact Or.inl h4
    · exact Or.inr (Or.inl h4)
    · exact Or.inr (Or.inr h4)

/-- A command of a port is admitted and meets its condition, and its data fits. -/
abbrev MeetsCmd (d : CmdDef) (cond : State → Ctx → Prop) (dout : State → Ctx → List Byte) : Prop :=
  ∃ (r : Req) (s : State), s.life.lcs ≠ .off ∧ Admitted d r (s.advance 0) ∧
    cond (evalState d r (s.advance 0)) (ctxFor d r) ∧
    (dout (evalState d r (s.advance 0)) (ctxFor d r)).length ≤ slotDlen (ctxFor d r).slot

/-- The whole as one check. -/
theorem met_of {d : CmdDef} {cond : State → Ctx → Prop} {dout : State → Ctx → List Byte} (r : Req) (s : State)
    (h : s.life.lcs ≠ .off ∧ admits d r (s.advance 0) = true ∧ cond (evalState d r (s.advance 0)) (ctxFor d r) ∧
      (dout (evalState d r (s.advance 0)) (ctxFor d r)).length ≤ slotDlen (ctxFor d r).slot) : MeetsCmd d cond dout :=
  ⟨r, s, h.1, admitted_of_admits h.2.1, h.2.2⟩

/-- As `MeetsCmd`, with what the row's FAB_CK cycle brings. -/
abbrev MeetsCmdWhen (alone : Req → State → Prop) (d : CmdDef) (cond : State → Ctx → Prop) (dout : State → Ctx → List Byte) : Prop :=
  ∃ (r : Req) (s : State), alone r (s.advance 0) ∧ s.life.lcs ≠ .off ∧ Admitted d r (s.advance 0) ∧
    cond (evalState d r (s.advance 0)) (ctxFor d r) ∧
    (dout (evalState d r (s.advance 0)) (ctxFor d r)).length ≤ slotDlen (ctxFor d r).slot

/-- The row meets no cause of its FAB_CK cycle. -/
abbrev alone (_ : Req) (u : State) : Prop :=
  u.foreseen = {}

/-- The whole as one check. -/
theorem met_when {al : Req → State → Prop} {d : CmdDef} {cond : State → Ctx → Prop} {dout : State → Ctx → List Byte} (r : Req)
    (s : State) (h : al r (s.advance 0) ∧ s.life.lcs ≠ .off ∧ admits d r (s.advance 0) = true ∧
      cond (evalState d r (s.advance 0)) (ctxFor d r) ∧
      (dout (evalState d r (s.advance 0)) (ctxFor d r)).length ≤ slotDlen (ctxFor d r).slot) : MeetsCmdWhen al d cond dout :=
  ⟨r, s, h.1, h.2.1, admitted_of_admits h.2.2.1, h.2.2.2⟩

theorem met_race : ∃ s : State, awake s ∧ (s.advance 0).foreseen ≠ {} ∧ s.race.hold = true :=
  ⟨{ up .standby with race.hold := true, pending := [.islandClock 0] }, by unfold awake; decide +kernel,
    by decide +kernel, rfl⟩

/-- A command of port `p` in mailbox 0, for this device, its parameters, DATA_LEN, MAC and data as given and its counter 1. -/
def call (d : CmdDef) (p : HostPort) (par dlen mac : Nat) (din : List Byte) : Req :=
  { entry := localEntry p, mb := 0, din := some din
    slot := BitVec.ofNat 512 (0xFFFF * 2 ^ 32 + b2n (d.data == .out) * 2 ^ 50 + d.plen * 2 ^ 96 + 2 ^ 128 + dlen * 2 ^ 160
      + mac * 2 ^ 192 + par * 2 ^ 320) }

/-- As `up`, with an active key of zeros for each port, and every semaphore held by port A. -/
def holder (l : Lcs) : State :=
  { up l with
    otp.keys := [(0, { st := .active }), (4, { st := .active })]
    sems := (List.range 32).map (fun n => (n, { owner := some (localEntry .A), exp := 2 ^ 60 })) }

/-- As `holder`, ready for MODE.START: mode 0 loaded, both axes ready, the island's gates open on a safety configuration that agrees
with the loop coefficients. -/
def ready (l : Lcs) : State :=
  { holder l with
    sched.modes := [(0, plainBlock)]
    sched.images := (List.range 8).flatMap (fun k => (List.range 3).map (fun v => (storeIdx 0 k v, anImage)))
    sched.facets := 8
    sched.slice := some { planId := 0, device := 0xFFFF, epoch := 0, seed := 0, sig := 0, hops := [], listen := [], ridge := [] }
    chain.aligned := true
    scan.a.locked := true
    scan.b.st := .closed
    emit.strSet := [(63, 1)]
    emit.strWord := [(63, 1)]
    safe.cfg := safeCfg
    safe.sls := ⟨true, true⟩
    safe.sdi := ⟨true, true⟩
    safe.slp := ⟨true, true⟩ }

/-- An emission configuration of the words at reset. -/
def emitWords : List Byte :=
  bytesOf 4 0x14643C46 ++ (List.range 64).flatMap (fun _ => bytesOf 4 0x00FC4000)

/-- The Chain words of the reset with PERSIST as given. -/
def chainBytes (persist : Nat) : List Byte :=
  bytesOf 4 (0xFFFF000D + 16 * persist) ++ bytesOf 4 0xFFFF ++ bytesOf 4 0x01000000 ++ bytesOf 4 0x01000000 ++ zeros 8

/-- Network settings, with PERSIST as given. -/
def netBytes (persist : Nat) : List Byte :=
  bytesBE 4 0x0A000002 ++ bytesBE 4 0xFF000000 ++ zeros 6 ++ [BitVec.ofNat 8 (8 * persist), 0] ++ bytesOf 2 23040 ++ [90, 0]
    ++ zeros 20

/-- The coefficients and the repetitive block of an axis at reset. -/
def coefBytes (coef : BitVec 256) (rep : BitVec 64) : List Byte :=
  bytesOf 32 coef.toNat ++ bytesOf 8 rep.toNat

/-- A key. -/
def wrappedKey : BitVec 128 := 0x0F0E0D0C0B0A09080706050403020100

/-- It, wrapped under a key of zeros. -/
def wrapped : Nat := 0x5AC9DFCD9309A240F504A2BAAC175EF59063F8ECC06C9301

/-- The length of a padded list. -/
theorem padTo_length (n : Nat) (l : List Byte) : (padTo n l).length = n := by
  simp [padTo, zeros]

/-! DeviceModeAndServiceCommandsComplete -/

theorem met_DeviceModeAndServiceCommands_1 :
    MeetsCmd cmdDevIdentify (fun _ _ => True) (fun _ _ => []) :=
  met_of (call cmdDevIdentify .A (0) 0 0 ([]))
    (holder .standby)
    (by decide +kernel)

theorem met_DeviceModeAndServiceCommands_2 :
    MeetsCmd cmdDevStatus (fun _ _ => True) (fun _ _ => []) :=
  met_of (call cmdDevStatus .A (0) 0 0 ([]))
    (holder .service)
    (by decide +kernel)

theorem met_DeviceModeAndServiceCommands_3 :
    MeetsCmd cmdDevReset (fun _ _ => True) (fun _ _ => []) :=
  met_of (call cmdDevReset .A (0) 0 0x35ED4607EDEC7106 ([]))
    (holder .standby)
    (by decide +kernel)

theorem met_DeviceModeAndServiceCommands_4 :
    MeetsCmdWhen alone cmdModeStart (fun u c => (modeParams (c.p 0 1)).isSome = true ∧ u.badStart (c.p 4 8) (ms 5) = false ∧ u.mode.stop = none ∧ u.usable (c.p 0 1) = true ∧ u.sliceFits = true ∧ u.chain.aligned = true ∧ u.scan.a.locked = true ∧ u.scan.b.st = .closed ∧ u.islandReady = true ∧ u.supplyOk = true ∧ u.canMeasure (c.p 0 1) = true) (fun _ _ => []) :=
  met_when (call cmdModeStart .A ((16000000000000 + ms 5) * 2 ^ 32) 0 0x410E74D6C0BE8ED5 ([]))
    (ready .standby)
    (by decide +kernel)

theorem met_DeviceModeAndServiceCommands_5 :
    MeetsCmd cmdModeStop (fun u _ => u.running = true ∧ u.mode.stop = none) (fun _ _ => []) :=
  met_of (call cmdModeStop .A (0) 0 0xC59B72FCFD1481F0 ([]))
    (holder .run)
    (by decide +kernel)

theorem met_DeviceModeAndServiceCommands_6 :
    MeetsCmd cmdModeStop (fun u _ => u.running = false ∨ u.mode.stop ≠ none) (fun _ _ => []) :=
  met_of (call cmdModeStop .A (0) 0 0xC59B72FCFD1481F0 ([]))
    (holder .standby)
    (by decide +kernel)

theorem met_DeviceModeAndServiceCommands_7 :
    MeetsCmdWhen alone cmdModeSet (fun u c => (modeParams (c.p 0 1)).isSome = true ∧ u.badStart (c.p 4 8) (us 2500) = false ∧ u.mode.stop = none ∧ u.mode.change = none ∧ c.p 0 1 ≠ u.mode.mode ∧ u.loaded (c.p 0 1) = true) (fun _ _ => []) :=
  met_when (call cmdModeSet .A ((16000000000000 + us 2500) * 2 ^ 32) 0 0x79A3B6E578F59883 ([]))
    ({ ready .run with mode.mode := 1 })
    (by decide +kernel)

theorem met_DeviceModeAndServiceCommands_8 :
    MeetsCmdWhen alone cmdModeSet (fun u c => (modeParams (c.p 0 1)).isSome = true ∧ u.badStart (c.p 4 8) (us 2500) = false ∧ u.mode.stop = none ∧ u.mode.change = none ∧ c.p 0 1 = u.mode.mode) (fun _ _ => []) :=
  met_when (call cmdModeSet .A (0) 0 0x265AAABA362F7326 ([]))
    ({ ready .run with mode.mode := 0 })
    (by decide +kernel)

theorem met_DeviceModeAndServiceCommands_9 :
    MeetsCmd cmdModeStatus (fun _ _ => True) (fun _ _ => []) :=
  met_of (call cmdModeStatus .A (0) 0 0 ([]))
    (holder .run)
    (by decide +kernel)

theorem met_DeviceModeAndServiceCommands_10 :
    MeetsCmdWhen alone cmdServiceEnter (fun u c => (c.p 0 2 = 0 ∨ (10 ≤ c.p 0 2 ∧ c.p 0 2 ≤ 3600)) ∧ u.mode.stop = none) (fun _ _ => []) :=
  met_when (call cmdServiceEnter .A (10) 0 0x5F53E356EF8851ED ([]))
    (holder .standby)
    (by decide +kernel)

theorem met_DeviceModeAndServiceCommands_11 :
    MeetsCmd cmdServiceExit (fun _ _ => True) (fun _ _ => []) :=
  met_of (call cmdServiceExit .A (0) 0 0x84EE1C1A33AB251 ([]))
    (holder .service)
    (by decide +kernel)

theorem met_DeviceModeAndServiceCommands_12 :
    MeetsCmd cmdServiceProof (fun u c => c.p 0 1 ≤ 63 ∧ c.p 1 1 ≤ 63 ∧ (modeParams (c.p 2 1)).isSome = true ∧ u.retired 6 (c.p 0 1) = false ∧ u.present (c.p 0 1) = true ∧ u.usable (c.p 2 1) = true ∧ u.islandReady = true) (fun _ _ => []) :=
  met_of (call cmdServiceProof .A (63 + 63 * 2 ^ 8) 0 0x796B1AB8EE75E67C ([]))
    (ready .service)
    (by decide +kernel)

/-! FrontEndPointAndCalibrationCommandsComplete -/

theorem met_FrontEndPointAndCalibrationCommands_1 :
    MeetsCmd cmdFeConfig (fun _ c => feBad (c.p 4 4) = none) (fun _ _ => []) :=
  met_of (call cmdFeConfig .A (0xFF + 0x39C * 2 ^ 32) 0 0x904768132920E4A0 ([]))
    (holder .standby)
    (by decide +kernel)

theorem met_FrontEndPointAndCalibrationCommands_2 :
    MeetsCmd cmdFeTrim (fun u c => c.din.length = 4 * c.p 2 2 ∧ ∀ i < c.p 2 2, leAt c.din (4 * i) 4 < 64 ∧ (u.retired 1 (c.p 0 2 + i) = true → bitN (leAt c.din (4 * i) 4) 5 = false → bitN (tget 0#32 u.front.trimSet (c.p 0 2 + i)).toNat 5 = false)) (fun _ _ => []) :=
  met_of (call cmdFeTrim .A (1023 + 2 ^ 16) (([63, 0, 0, 0]).length) 0xCCD9CDE1BF982256 ([63, 0, 0, 0]))
    (holder .service)
    (by decide +kernel)

theorem met_FrontEndPointAndCalibrationCommands_3 :
    MeetsCmd cmdFeStatus (fun _ _ => True) (fun u c => (List.range (c.p 2 2)).flatMap (fun i => bytesOf 4 (u.feStatus (c.p 0 2 + i)))) :=
  met_of (call cmdFeStatus .A (1023 + 2 ^ 16) 4 0 ([]))
    (holder .run)
    (by decide +kernel)

theorem met_FrontEndPointAndCalibrationCommands_4 :
    MeetsCmd cmdPointConfig (fun _ c => fld (c.p 0 4) 0 16 ≤ 1000 ∧ bitN (c.p 0 4) 16 = true) (fun _ _ => []) :=
  met_of (call cmdPointConfig .A (0x000F03E8) 0 0x105FB4B69D2682DC ([]))
    (holder .standby)
    (by decide +kernel)

theorem met_FrontEndPointAndCalibrationCommands_5 :
    MeetsCmd cmdPointStatus (fun _ _ => True) (fun _ _ => []) :=
  met_of (call cmdPointStatus .A (0) 0 0 ([]))
    (holder .run)
    (by decide +kernel)

theorem met_FrontEndPointAndCalibrationCommands_7 :
    MeetsCmd cmdCalStatus (fun _ _ => True) (fun _ _ => []) :=
  met_of (call cmdCalStatus .A (0) 0 0 ([]))
    (holder .run)
    (by decide +kernel)

/-! EmissionLedgerAndPowerCommandsComplete -/

theorem met_EmissionLedgerAndPowerCommands_1 :
    MeetsCmd cmdEmitConfig (fun u c => c.din.length = 260 ∧ emissionBad (leAt c.din 0 4) = none ∧ (∀ i < 64, stringBad (leAt c.din 0 4) (leAt c.din (4 + 4 * i) 4) = none) ∧ u.life.lcs ≠ .service) (fun _ _ => []) :=
  met_of (call cmdEmitConfig .A (0) (emitWords).length 0xE0930F7D03612FD2 (emitWords))
    (holder .standby)
    (by decide +kernel)

theorem met_EmissionLedgerAndPowerCommands_2 :
    MeetsCmd cmdEmitConfig (fun u c => c.din.length = 260 ∧ emissionBad (leAt c.din 0 4) = none ∧ (∀ i < 64, stringBad (leAt c.din 0 4) (leAt c.din (4 + 4 * i) 4) = none) ∧ u.life.lcs = .service) (fun _ _ => []) :=
  met_of (call cmdEmitConfig .A (0) (emitWords).length 0xE0930F7D03612FD2 (emitWords))
    (holder .service)
    (by decide +kernel)

theorem met_EmissionLedgerAndPowerCommands_3 :
    MeetsCmd cmdEmitStatus (fun _ _ => True) (fun u _ => bytesOf 4 u.emit.wordSet.toNat ++ zeros 12 ++ (List.range 64).flatMap u.emitRecord) :=
  met_of (call cmdEmitStatus .A (0) 100000 0 ([]))
    (holder .run)
    (by decide +kernel)

theorem met_EmissionLedgerAndPowerCommands_4 :
    MeetsCmd cmdLedgerSet (fun u c => c.din.length = 1040 ∧ sharesBad c.din = none ∧ u.flashAllowed = true) (fun _ _ => []) :=
  met_of (call cmdLedgerSet .A (0) ((zeros 1040).length) 0xA4A642326E38A173 (zeros 1040))
    (holder .standby)
    (by decide +kernel)

theorem met_EmissionLedgerAndPowerCommands_5 :
    MeetsCmd cmdLedgerStatus (fun _ _ => True) (fun u _ => (List.range 65).flatMap (fun i => bytesOf 16 (u.share i)) ++ (List.range 1024).flatMap (fun e => bytesOf 4 (tget 0 u.emit.bEm e)) ++ (List.range 64).flatMap (fun i => bytesOf 4 (tget 0 u.emit.bStr i)) ++ bytesOf 4 u.emit.bDev) :=
  met_of (call cmdLedgerStatus .A (0) 100000 0 ([]))
    (holder .run)
    (by decide +kernel)

theorem met_EmissionLedgerAndPowerCommands_7 :
    MeetsCmd cmdPwrStatus (fun _ _ => True) (fun _ _ => []) :=
  met_of (call cmdPwrStatus .A (0) 0 0 ([]))
    (holder .run)
    (by decide +kernel)

/-! LoopCommandsComplete -/

theorem met_LoopCommands_1 :
    MeetsCmdWhen alone cmdLoopClose (fun u c => u.loopSt c.axis ≠ .braking ∧ (u.running = true ∨ live (u.loopSt c.axis) = true)) (fun _ _ => []) :=
  met_when (call cmdLoopClose .A (0) 0 0x43EEBD00C5D66E35 ([]))
    (holder .run)
    (by decide +kernel)

theorem met_LoopCommands_2 :
    MeetsCmdWhen alone cmdLoopClose (fun u c => u.loopSt c.axis = .open_ ∧ u.running = false ∧ (axisFns c.axis).any u.fnLost = false ∧ u.domOn 31 = true ∧ bitN u.power.domDead.toNat 32 = false) (fun _ _ => []) :=
  met_when (call cmdLoopClose .A (1) 0 0x113791A025BFAC4A ([]))
    (holder .standby)
    (by decide +kernel)

theorem met_LoopCommands_3 :
    MeetsCmdWhen alone cmdLoopOpen (fun u c => u.loopSt c.axis = .braking) (fun _ _ => []) :=
  met_when (call cmdLoopOpen .A (1) 0 0x74A151B8AA21D818 ([]))
    ({ holder .standby with scan.b.st := .braking })
    (by decide +kernel)

theorem met_LoopCommands_4 :
    MeetsCmdWhen alone cmdLoopOpen (fun u c => u.loopSt c.axis ≠ .braking) (fun _ _ => []) :=
  met_when (call cmdLoopOpen .A (1) 0 0x74A151B8AA21D818 ([]))
    (holder .standby)
    (by decide +kernel)

theorem met_LoopCommands_5 :
    MeetsCmdWhen alone cmdLoopCoef (fun u c => c.axis = .A ∧ u.loopSt .A = .open_ ∧ c.din.length = 40 ∧ coefBadA (leAt c.din 0 32) = none ∧ repBad .A (fld (leAt c.din 0 32) 64 16) (leAt c.din 32 8) = none) (fun _ _ => []) :=
  met_when (call cmdLoopCoef .A (0) ((coefBytes State.reset.scan.a.coef State.reset.scan.a.repCfg).length) 0x64F806E26B71C83D (coefBytes State.reset.scan.a.coef State.reset.scan.a.repCfg))
    (holder .standby)
    (by decide +kernel)

theorem met_LoopCommands_6 :
    MeetsCmdWhen alone cmdLoopCoef (fun u c => c.axis = .B ∧ u.loopSt .B = .open_ ∧ c.din.length = 40 ∧ coefBadB (leAt c.din 0 32) = none ∧ repBad .B (fld (leAt c.din 0 32) 48 16) (leAt c.din 32 8) = none) (fun _ _ => []) :=
  met_when (call cmdLoopCoef .A (1) ((coefBytes State.reset.scan.b.coef State.reset.scan.b.repCfg).length) 0x7A37502DB9F2096A (coefBytes State.reset.scan.b.coef State.reset.scan.b.repCfg))
    (holder .standby)
    (by decide +kernel)

theorem met_LoopCommands_7 :
    MeetsCmd cmdLoopSet (fun u c => c.axis = .A ∧ c.p 4 4 ≤ 1200000 ∧ u.setLoaded = false) (fun _ _ => []) :=
  met_of (call cmdLoopSet .A (1200000 * 2 ^ 32) 0 0xABFC8554078B1E36 ([]))
    (holder .standby)
    (by decide +kernel)

theorem met_LoopCommands_8 :
    MeetsCmd cmdLoopSet (fun u c => c.axis = .B ∧ u.bSigned 160 20 ≤ sgn 32 (c.p 4 4) ∧ sgn 32 (c.p 4 4) ≤ u.bSigned 192 20) (fun _ _ => []) :=
  met_of (call cmdLoopSet .A (1 + 327680 * 2 ^ 32) 0 0x842F3D1ABDD90A77 ([]))
    (holder .standby)
    (by decide +kernel)

theorem met_LoopCommands_9 :
    MeetsCmdWhen alone cmdLoopRepClear (fun u c => c.axis = .A ∧ u.loopSt .A = .open_) (fun _ _ => []) :=
  met_when (call cmdLoopRepClear .A (0) 0 0x7772A4A03C7C3930 ([]))
    (holder .standby)
    (by decide +kernel)

theorem met_LoopCommands_10 :
    MeetsCmdWhen alone cmdLoopRepClear (fun u c => c.axis = .B ∧ u.loopSt .B = .open_) (fun _ _ => []) :=
  met_when (call cmdLoopRepClear .A (1) 0 0x83829FBA26BB163D ([]))
    (holder .standby)
    (by decide +kernel)

theorem met_LoopCommands_11 :
    MeetsCmd cmdLoopStatus (fun _ _ => True) (fun _ _ => []) :=
  met_of (call cmdLoopStatus .A (1) 0 0 ([]))
    (holder .run)
    (by decide +kernel)

/-! ScheduleAndSafetyCommandsComplete -/

theorem met_ScheduleAndSafetyCommands_1 :
    MeetsCmd cmdSchedLoad (fun _ _ => True) (fun _ _ => []) :=
  met_of (call cmdSchedLoad .A (1) (([1, 2, 3]).length) 0x124C72665D2E9BB3 ([1, 2, 3]))
    (holder .standby)
    (by decide +kernel)

theorem met_ScheduleAndSafetyCommands_2 :
    MeetsCmd cmdSchedStatus (fun _ _ => True) (fun u _ => (List.range 8).flatMap (fun k => bytesOf 4 (u.slotEnd k) ++ bytesOf 4 (u.sector k).lastEnd ++ bytesOf 4 (uns 32 (u.slack k)) ++ zeros 4)) :=
  met_of (call cmdSchedStatus .A (0) 100000 0 ([]))
    (holder .run)
    (by decide +kernel)

theorem met_ScheduleAndSafetyCommands_4 :
    MeetsCmd cmdSafeStatus (fun _ _ => True) (fun u _ => u.safeStatus) :=
  met_of (call cmdSafeStatus .A (0) 100000 0 ([]))
    (holder .run)
    (by decide +kernel)

/-! HousekeepingCommandsComplete -/

theorem met_HousekeepingCommands_1 :
    MeetsCmd cmdHkConfig (fun u c => 16 ≤ c.din.length ∧ c.din.length % 16 = 0 ∧ u.hkConfigBad c.din = none) (fun _ _ => []) :=
  met_of (call cmdHkConfig .A (0) ((bytesOf 16 (200 + 10000 * 2 ^ 32)).length) 0x90A0998F375DADAC (bytesOf 16 (200 + 10000 * 2 ^ 32)))
    (holder .standby)
    (by decide +kernel)

theorem met_HousekeepingCommands_2 :
    MeetsCmd cmdHkSwitch (fun _ c => c.din.length = 256 ∧ ∀ i < 16, switchBad ((c.din.drop (16 * i)).take 16) = none) (fun _ _ => []) :=
  met_of (call cmdHkSwitch .A (0) ((zeros 256).length) 0xC6E0732D2504A2F7 (zeros 256))
    (holder .standby)
    (by decide +kernel)

theorem met_HousekeepingCommands_3 :
    MeetsCmd cmdHkTherm (fun u c => 16 ≤ c.din.length ∧ c.din.length % 16 = 0 ∧ limitsBad c.din = none ∧ ∀ i < (recordsOf c.din).length, u.extraBad (((recordsOf c.din).take i).map (fun x => leAt x 0 1)) ((recordsOf c.din).getD i []) = none) (fun _ _ => []) :=
  met_of (call cmdHkTherm .A (0) ((bytesOf 2 1840 ++ bytesOf 2 2080 ++ bytesOf 2 640 ++ bytesOf 2 1536 ++ zeros 8).length) 0x8A2CA8A791B23729 (bytesOf 2 1840 ++ bytesOf 2 2080 ++ bytesOf 2 640 ++ bytesOf 2 1536 ++ zeros 8))
    (holder .safeHold)
    (by decide +kernel)

theorem met_HousekeepingCommands_4 :
    MeetsCmd cmdHkUrgent (fun u c => c.p 0 1 ≤ 47 ∧ hkKind (u.hkc (c.p 0 1)).cfg ≠ 0 ∧ u.hk.urgent = none ∧ u.hk.pos ≠ 11) (fun _ _ => []) :=
  met_of (call cmdHkUrgent .A (47) 0 0 ([]))
    ({ holder .run with hk.chans := [(47, { cfg := 0x80 })] })
    (by decide +kernel)

theorem met_HousekeepingCommands_5 :
    MeetsCmd cmdHkRead (fun _ c => c.p 0 1 ≤ 47 ∧ c.p 1 1 ≠ 0 ∧ c.p 0 1 + c.p 1 1 ≤ 48) (fun u c => (List.range (c.p 1 1)).flatMap (fun i => u.hkReport (c.p 0 1 + i) ++ zeros 3)) :=
  met_of (call cmdHkRead .A (47 + 2 ^ 8) 1000 0 ([]))
    (holder .run)
    (by decide +kernel)

/-! RidgeChainAndHostCommandsComplete -/

theorem met_RidgeChainAndHostCommands_1 :
    MeetsCmd cmdRidgeLaneCfg (fun u c => fld (c.p 4 4) 3 3 ≤ 5 ∧ 10 ≤ fld (c.p 4 4) 8 8 ∧ u.retired 8 (c.p 0 1) = false ∧ bitN (c.p 4 4) 16 = false) (fun _ _ => []) :=
  met_of (call cmdRidgeLaneCfg .A (3 + 0x0A14 * 2 ^ 32) 0 0x38AA6B75D8C205DB ([]))
    (holder .standby)
    (by decide +kernel)

theorem met_RidgeChainAndHostCommands_2 :
    MeetsCmd cmdRidgeLaneCfg (fun u c => fld (c.p 4 4) 3 3 ≤ 5 ∧ 10 ≤ fld (c.p 4 4) 8 8 ∧ u.retired 8 (c.p 0 1) = false ∧ bitN (c.p 4 4) 16 = true ∧ (u.rport (c.p 0 1)).up = true ∧ (u.rport (c.p 0 1)).retrain = false) (fun _ _ => []) :=
  met_of (call cmdRidgeLaneCfg .A (3 + 0x10A14 * 2 ^ 32) 0 0x6DE589E40F85647D ([]))
    ({ holder .standby with
      chain.ports := [(3, { up := true })] })
    (by decide +kernel)

theorem met_RidgeChainAndHostCommands_3 :
    MeetsCmd cmdRidgeLaneTest (fun u c => fld (c.p 4 4) 0 3 ≤ 4 ∧ u.retired 8 (c.p 0 1) = false ∧ (fld (c.p 4 4) 0 3 = 0 ↔ fld (u.rport (c.p 0 1)).test.toNat 0 3 = 0)) (fun _ _ => []) :=
  met_of (call cmdRidgeLaneTest .A (3) 0 0x1E53DE733DB66AF3 ([]))
    (holder .service)
    (by decide +kernel)

theorem met_RidgeChainAndHostCommands_4 :
    MeetsCmd cmdRidgeLaneStatus (fun _ _ => True) (fun u c => (u.observeLanes (c.p 0 1)).laneStatus (c.p 0 1)) :=
  met_of (call cmdRidgeLaneStatus .A (3) 1000 0 ([]))
    (holder .run)
    (by decide +kernel)

theorem met_RidgeChainAndHostCommands_5 :
    MeetsCmd cmdChainConfig (fun _ c => c.din.length = 24 ∧ chainBad c.din = none ∧ bitN ((chainWords c.din).getD 0 0) 4 = false) (fun _ _ => []) :=
  met_of (call cmdChainConfig .A (0) ((chainBytes 0).length) 0x7CA72CBE2F028927 (chainBytes 0))
    (holder .standby)
    (by decide +kernel)

theorem met_RidgeChainAndHostCommands_6 :
    MeetsCmd cmdChainConfig (fun u c => c.din.length = 24 ∧ chainBad c.din = none ∧ bitN ((chainWords c.din).getD 0 0) 4 = true ∧ u.flashAllowed = true) (fun _ _ => []) :=
  met_of (call cmdChainConfig .A (0) ((chainBytes 1).length) 0xE021FB43038D182E (chainBytes 1))
    (holder .standby)
    (by decide +kernel)

theorem met_RidgeChainAndHostCommands_7 :
    MeetsCmd cmdChainDiscover (fun u _ => u.chain.disc = none) (fun _ _ => []) :=
  met_of (call cmdChainDiscover .A (0) 0 0x558379A734C7CB31 ([]))
    ({ holder .standby with
      power.boot.straps := ⟨true, 1, 1, 2⟩ })
    (by decide +kernel)

theorem met_RidgeChainAndHostCommands_8 :
    MeetsCmd cmdChainTimeSet (fun _ c => c.p 0 8 % 6400000 = 0) (fun _ _ => []) :=
  met_of (call cmdChainTimeSet .A (6400000) 0 0x8B110C0D5C9B3F37 ([]))
    ({ holder .standby with
      power.boot.straps := ⟨true, 1, 1, 2⟩ })
    (by decide +kernel)

theorem met_RidgeChainAndHostCommands_9 :
    MeetsCmd cmdChainStatus (fun _ _ => True) (fun u _ => padTo 256 (Config.chainStatusBytes u.chainItems)) :=
  ⟨call cmdChainStatus .A (0) 256 0 ([]),
    holder .run,
    by decide +kernel, admitted_of_admits (by decide +kernel), by decide +kernel, (padTo_length _ _).le.trans (by decide +kernel)⟩

theorem met_RidgeChainAndHostCommands_10 :
    MeetsCmd cmdHostNetConfig (fun u c => c.din.length = 40 ∧ netBad (u.portMode c.e.port = 3) c.din = none ∧ bitN (leAt c.din 14 1) 3 = false) (fun _ _ => []) :=
  met_of (call cmdHostNetConfig .B (0) ((netBytes 0).length) 0xCB9F3018DCABF456 (netBytes 0))
    (holder .standby)
    (by decide +kernel)

theorem met_RidgeChainAndHostCommands_11 :
    MeetsCmd cmdHostNetConfig (fun u c => c.din.length = 40 ∧ netBad (u.portMode c.e.port = 3) c.din = none ∧ bitN (leAt c.din 14 1) 3 = true ∧ u.flashAllowed = true) (fun _ _ => []) :=
  met_of (call cmdHostNetConfig .B (0) ((netBytes 1).length) 0x7A9443ABAF4841A7 (netBytes 1))
    (holder .standby)
    (by decide +kernel)

theorem met_RidgeChainAndHostCommands_12 :
    MeetsCmd cmdHostStatus (fun _ c => c.p 0 1 ≤ 1) (fun u c => padTo 128 (Config.hostStatusBytes (u.hostItems (if c.p 0 1 = 0 then .A else .B)))) :=
  ⟨call cmdHostStatus .A (1) 128 0 ([]),
    holder .run,
    by decide +kernel, admitted_of_admits (by decide +kernel), by decide +kernel, (padTo_length _ _).le.trans (by decide +kernel)⟩

/-! SemaphoreAndKeyCommandsComplete -/

theorem met_SemaphoreAndKeyCommands_1 :
    MeetsCmdWhen (fun r u => r.entry.pair.isSome = true ∨ rivalClaim u r.entry.port = none) cmdSemClaim (fun _ _ => True) (fun _ _ => []) :=
  met_when (call cmdSemClaim .A (31) 0 0 ([]))
    (holder .run)
    (by decide +kernel)

theorem met_SemaphoreAndKeyCommands_4 :
    MeetsCmd cmdSemRelease (fun u c => u.holds c.e (c.p 0 1) = true) (fun _ _ => []) :=
  met_of (call cmdSemRelease .A (31) 0 0 ([]))
    (holder .run)
    (by decide +kernel)

theorem met_SemaphoreAndKeyCommands_5 :
    MeetsCmd cmdSemLease (fun u c => BitVec.ofNat 8 (c.p 1 1) ≠ 0 ∧ u.holds c.e (c.p 0 1) = true) (fun _ _ => []) :=
  met_of (call cmdSemLease .A (31 + 255 * 2 ^ 8) 0 0 ([]))
    (holder .run)
    (by decide +kernel)

theorem met_SemaphoreAndKeyCommands_6 :
    MeetsCmd cmdSemStatus (fun _ _ => True) (fun u c => (List.range 32).flatMap (fun n => bytesOf 4 (u.semWord (some c.e) n))) :=
  met_of (call cmdSemStatus .A (0) 1000 0 ([]))
    (holder .run)
    (by decide +kernel)

theorem met_SemaphoreAndKeyCommands_7 :
    ∃ (key : BitVec 128) (n : Nat), MeetsCmd cmdKeyRotate (fun u c => keyUnwrap (u.key c.e.port (slotKey c.slot)).key (bytesOf 24 (c.p 0 24)) = some key ∧ u.blankKey c.e.port = some n ∧ u.otpAllowed = true) (fun _ _ => []) :=
  ⟨wrappedKey, 1,
    met_of (call cmdKeyRotate .A (wrapped) 0 0x5F5164CF156919C4 ([]))
    (holder .standby)
    (by decide +kernel)⟩

theorem met_SemaphoreAndKeyCommands_8 :
    MeetsCmd cmdKeyProvision (fun u c => c.e.pair = none ∧ (∀ k < 4, (u.key c.e.port k).st = .blank) ∧ u.holds c.e 5 = true ∧ u.otpAllowed = true) (fun _ _ => []) :=
  met_of (call cmdKeyProvision .A (7) 0 0 ([]))
    ({ holder .standby with otp.keys := [] })
    (by decide +kernel)

theorem met_SemaphoreAndKeyCommands_9 :
    MeetsCmd cmdKeySchedDigest (fun u c => c.p 1 1 = 0 ∧ c.din.length = 32 ∧ (tget {} u.otp.sched (c.p 0 1)).st = .blank ∧ u.otpAllowed = true) (fun _ _ => []) :=
  met_of (call cmdKeySchedDigest .A (1) ((zeros 32).length) 0x955F16A3621F8478 (zeros 32))
    (holder .standby)
    (by decide +kernel)

theorem met_SemaphoreAndKeyCommands_10 :
    MeetsCmd cmdKeySchedDigest (fun u c => c.p 1 1 = 1 ∧ c.din.length = 0 ∧ (tget {} u.otp.sched (c.p 0 1)).st = .active ∧ (∃ i < 2, i ≠ c.p 0 1 ∧ (tget {} u.otp.sched i).st = .active) ∧ u.otpAllowed = true) (fun _ _ => []) :=
  met_of (call cmdKeySchedDigest .A (1 + 2 ^ 8) 0 0xF23CB553BF89DC5E ([]))
    ({ holder .standby with
      otp.sched := [(0, { st := .active }), (1, { st := .active })] })
    (by decide +kernel)

theorem met_SemaphoreAndKeyCommands_11 :
    MeetsCmd cmdKeyStatus (fun _ _ => True) (fun _ _ => []) :=
  met_of (call cmdKeyStatus .A (0) 0 0 ([]))
    (holder .run)
    (by decide +kernel)

/-! FirmwareMonitorAndReportCommandsComplete -/

theorem met_FirmwareMonitorAndReportCommands_1 :
    MeetsCmd cmdFwWrite (fun _ _ => True) (fun _ _ => []) :=
  met_of (call cmdFwWrite .A (1 + 0x1FFFF0 * 2 ^ 32) ((zeros 16).length) 0x3DA7908AC542B68E (zeros 16))
    (holder .standby)
    (by decide +kernel)

theorem met_FirmwareMonitorAndReportCommands_2 :
    MeetsCmd cmdFwCommit (fun u c => u.imageOk (u.fwSlot (c.p 0 1)) = true ∧ u.flash.ok = true ∧ u.flashAllowed = true) (fun _ _ => []) :=
  met_of (call cmdFwCommit .A (1) 0 0x3B7A9B3C03C2EAF9 ([]))
    ({ holder .standby with
      flash.slotB := signedImage
      otp.fw := [(0, { st := .active, dig := signerDigest })] })
    (by decide +kernel)

theorem met_FirmwareMonitorAndReportCommands_3 :
    MeetsCmd cmdFwStatus (fun _ _ => True) (fun _ _ => []) :=
  met_of (call cmdFwStatus .A (0) 0 0 ([]))
    (holder .run)
    (by decide +kernel)

theorem met_FirmwareMonitorAndReportCommands_4 :
    MeetsCmd cmdMonWrite (fun _ _ => True) (fun _ _ => []) :=
  met_of (call cmdMonWrite .A (0x010 + 5 * 2 ^ 32) 0 0xBF994922F033C7B1 ([]))
    (holder .run)
    (by decide +kernel)

theorem met_FirmwareMonitorAndReportCommands_5 :
    MeetsCmd cmdMonRead (fun _ _ => True) (fun _ _ => []) :=
  met_of (call cmdMonRead .A (0x010) 0 0 ([]))
    (holder .run)
    (by decide +kernel)

theorem met_FirmwareMonitorAndReportCommands_6 :
    MeetsCmd cmdFaultLog (fun _ c => c.p 0 2 ≤ 255 ∧ c.p 2 1 ≠ 0 ∧ c.p 2 1 ≤ 64) (fun u c => (List.range (c.p 2 1)).flatMap (fun i => logBytes (u.faults.log[c.p 0 2 + i]?))) :=
  met_of (call cmdFaultLog .A (255 + 64 * 2 ^ 16) 10000 0 ([]))
    (holder .run)
    (by decide +kernel)

theorem met_FirmwareMonitorAndReportCommands_7 :
    MeetsCmd cmdFaultUnits (fun _ _ => True) (fun u _ => u.unitsMap) :=
  met_of (call cmdFaultUnits .A (0) 10000 0 ([]))
    (holder .run)
    (by decide +kernel)

theorem met_FirmwareMonitorAndReportCommands_8 :
    MeetsCmd cmdHealthConfig (fun _ c => c.p 0 1 / 32 = portIdx c.e.port ∧ c.din.length = 32 ∧ healthBad (leAt c.din 0 32) = none) (fun _ _ => []) :=
  met_of (call cmdHealthConfig .A (31) ((bytesOf 32 1).length) 0 (bytesOf 32 1))
    (holder .run)
    (by decide +kernel)

theorem met_FirmwareMonitorAndReportCommands_9 :
    MeetsCmd cmdHealthRead (fun _ c => c.p 0 1 ≤ 63 ∧ c.p 1 1 ≠ 0 ∧ c.p 0 1 + c.p 1 1 ≤ 64) (fun u c => (List.range (c.p 1 1)).flatMap (fun i => (tget {} u.faults.monitors (c.p 0 1 + i)).bytes)) :=
  met_of (call cmdHealthRead .A (63 + 2 ^ 8) 10000 0 ([]))
    (holder .run)
    (by decide +kernel)

/-! ### Commands with long data

The tag is not computed: the slot carries whatever tag its key gives (R348). -/

/-- A slot of three parts: what stands below its MAC, the MAC, its parameters. -/
def slotWith (lo m hi : Nat) : Nat :=
  lo + m * 2 ^ 192 + hi * 2 ^ 320

/-- A field below the MAC does not depend on it. -/
theorem fld_below (lo m hi a n : Nat) (h : a + n ≤ 192) : fld (slotWith lo m hi) a n = fld lo a n := by
  obtain ⟨k, hk⟩ := Nat.exists_eq_add_of_le h
  have e : slotWith lo m hi = lo + 2 ^ a * (2 ^ n * (2 ^ k * (m + hi * 2 ^ 128))) := by
    have h1 : (2 : Nat) ^ a * (2 ^ n * 2 ^ k) = 2 ^ 192 := by rw [hk, pow_add, pow_add]; ring
    have h2 : (2 : Nat) ^ 320 = 2 ^ 192 * 2 ^ 128 := by rw [← pow_add]
    calc slotWith lo m hi = lo + 2 ^ 192 * (m + hi * 2 ^ 128) := by unfold slotWith; rw [h2, Nat.mul_add]; ac_rfl
      _ = _ := by rw [← h1]; ac_rfl
  rw [fld, fld, e, Nat.add_mul_div_left _ _ (Nat.two_pow_pos a), Nat.add_mul_mod_self_left]

/-- The parameters do not depend on the MAC. -/
theorem fld_above (lo m hi a n : Nat) (hl : lo < 2 ^ 192) (hm : m < 2 ^ 64) : fld (slotWith lo m hi) (320 + a) n = fld hi a n := by
  have e : slotWith lo m hi / 2 ^ 320 = hi := by unfold slotWith; omega
  rw [fld, fld, pow_add, ← Nat.div_div_eq_div_mul, e]

/-- The MAC of a slot. -/
theorem fld_mac (lo m hi : Nat) (hl : lo < 2 ^ 192) (hm : m < 2 ^ 64) : fld (slotWith lo m hi) 192 64 = m := by
  unfold fld slotWith; omega

/-- DATA_ADDR of a slot of three parts is 0. -/
theorem fld_addr (lo m hi : Nat) (hl : lo < 2 ^ 192) (hm : m < 2 ^ 64) : fld (slotWith lo m hi) 256 64 = 0 := by
  unfold fld slotWith; omega

/-- A flag of the slot does not depend on its MAC. -/
theorem bit_below (lo m hi a : Nat) (h : a < 192) : bitN (slotWith lo m hi) a = bitN lo a := by
  have := fld_below lo m hi a 1 h
  unfold bitN
  simp only [fld, pow_one] at this
  rw [this]

/-- A field that holds its value already. -/
theorem setFld_same (x v : Nat) (h : fld x 0 16 = v) (hv : v < 2 ^ 16) : setFld x 0 16 v = x := by
  unfold setFld
  rw [h, Nat.mod_eq_of_lt hv]
  have : v ≤ x := by rw [← h]; unfold fld; omega
  omega

/-- Bytes that a number is made of are its bytes. -/
theorem bytesOf_ofBytes (l : List Byte) : bytesOf l.length (ofBytes l) = l := by
  induction l with
  | nil => rfl
  | cons b r ih =>
    have h : (b.toNat + 256 * ofBytes r) / 256 = ofBytes r := by have := b.isLt; omega
    simp only [List.length_cons, bytesOf, ofBytes, h, ih]
    congr 1
    apply BitVec.eq_of_toNat_eq
    simpa using b.isLt

/-- The number of `n` bytes. -/
theorem ofBytes_lt (l : List Byte) : ofBytes l < 256 ^ l.length := by
  induction l with
  | nil => decide
  | cons b r ih =>
    simp only [ofBytes, List.length_cons, pow_succ]
    have := b.isLt
    omega

/-- The length of the bytes of a number. -/
@[simp] theorem bytesOf_length (n x : Nat) : (bytesOf n x).length = n := by
  induction n generalizing x with
  | zero => rfl
  | succ n ih => simp [bytesOf, ih]

/-- The state after authentication: the counter is taken (R349). -/
def authed (u : State) (k : Nat) (n : Nat) : State :=
  u.modAuth (localEntry .A) (fun a => { a with fails := 0, counters := tput 0#32 a.counters k (BitVec.ofNat 32 n) })

/-- The context of a command of port A in mailbox 0. -/
def ctxA (lo m hi : Nat) (din : List Byte) : Ctx :=
  { e := localEntry .A, mb := 0, slot := slotWith lo m hi, din := din, b0 := cmdByte .A 0 0 }

set_option exponentiation.threshold 600 in
/-- A critical command of port A whose slot holds the tag that its key gives is admitted, where every other check passes whatever the
tag. -/
theorem meets_signed (d : CmdDef) (cond : State → Ctx → Prop) (s : State) (lo hi : Nat) (din : List Byte)
    (hl : lo < 2 ^ 192) (hh : hi < 2 ^ 192) (hop : fld lo 0 16 = d.op) (hcr : d.critical = true) (hsg : d.signed = false)
    (hs : s.life.lcs ≠ .off) (hcan : (s.advance 0).canServe (localEntry .A) 0 = true) (hbad : slotBad false lo = none)
    (heth : onEthernet (s.advance 0) (localEntry .A) = false) (hcar : carriesData lo = true) (hdl : slotDlen lo = din.length)
    (hdst : slotDest lo = 0xFFFF) (hlock : ((s.advance 0).refresh (localEntry .A)).locked (localEntry .A) = false)
    (hx : ((s.advance 0).refresh (localEntry .A)).xfers = [])
    (hkey : (((s.advance 0).refresh (localEntry .A)).key .A (slotKey lo)).st = .active)
    (hcnt : (tget 0#32 (((s.advance 0).refresh (localEntry .A)).auth (localEntry .A)).counters (slotKey lo)).toNat
      < slotCounter lo)
    (hrest : ∀ m < 2 ^ 64,
      let t := authed ((s.advance 0).refresh (localEntry .A)) (slotKey lo) (slotCounter lo)
      (d.sem (ctxA lo m hi din) < 32 → t.holds (localEntry .A) (d.sem (ctxA lo m hi din)) = true) ∧
      t.rowChecks d (ctxA lo m hi din) = none ∧ t.inParts d (ctxA lo m hi din) = false ∧
      cond (t.dropXfer (ctxA lo m hi din)) (ctxA lo m hi din)) :
    MeetsCmd d cond (fun _ _ => []) := by
  let u := (s.advance 0).refresh (localEntry .A)
  let key := (u.key .A (slotKey lo)).key
  let msg := bytesOf 8 u.otp.uid.toNat ++ bytesOf 4 u.life.bootId.toNat ++ [BitVec.ofNat 8 (portLetter .A)]
    ++ [BitVec.ofNat 8 (slotKey lo)] ++ zeros 2 ++ bytesOf 24 (fld lo 0 192) ++ bytesOf 24 (fld hi 0 192) ++ din
  let tag := (cmac key msg).take 8
  have htl : tag.length = 8 := by simp [tag, cmac]
  have hm : ofBytes tag < 2 ^ 64 := by
    have := ofBytes_lt tag
    rwa [htl] at this
  generalize hmm : ofBytes tag = m at hm
  have hmac : bytesOf 8 m = tag := by rw [← hmm, ← htl]; exact bytesOf_ofBytes tag
  let r : Req := { entry := localEntry .A, mb := 0, slot := BitVec.ofNat 512 (slotWith lo m hi), din := some din }
  have hy : slotWith lo m hi < 2 ^ 512 := by unfold slotWith; omega
  have hslot : slotFor d r = BitVec.ofNat 512 (slotWith lo m hi) := by
    have e : (BitVec.ofNat 512 (slotWith lo m hi)).toNat = slotWith lo m hi := by
      rw [BitVec.toNat_ofNat, Nat.mod_eq_of_lt hy]
    have h16 : d.op < 2 ^ 16 := by rw [← hop]; exact Nat.mod_lt _ (by decide)
    simp only [slotFor, r, e]
    rw [setFld_same _ _ ((fld_below lo m hi 0 16 (by decide)).trans hop) h16]
  have hn : (slotFor d r).toNat = slotWith lo m hi := by rw [hslot, BitVec.toNat_ofNat, Nat.mod_eq_of_lt hy]
  have b1 : ∀ a n, a + n ≤ 192 → fld (slotWith lo m hi) a n = fld lo a n := fun a n h => fld_below lo m hi a n h
  have k1 : slotKey (slotWith lo m hi) = slotKey lo := b1 48 2 (by decide)
  have k2 : slotCounter (slotWith lo m hi) = slotCounter lo := b1 128 32 (by decide)
  have k3 : slotDlen (slotWith lo m hi) = slotDlen lo := b1 160 32 (by decide)
  have k4 : slotDest (slotWith lo m hi) = slotDest lo := b1 32 16 (by decide)
  have k5 : carriesData (slotWith lo m hi) = carriesData lo := by
    simp only [carriesData, slotDir, k3, bit_below lo m hi 50 (by decide)]
  have k6 : slotBad false (slotWith lo m hi) = slotBad false lo := by
    simp only [slotBad, slotDest, slotPlen, b1 32 16 (by decide), b1 51 29 (by decide), b1 80 16 (by decide), b1 96 16 (by decide),
      b1 112 16 (by decide), Bool.false_and]
  have hctx : ctxFor d r = ctxA lo m hi din := by
    simp only [ctxFor, hn, k5, hcar, if_true, k3, hdl, r, ctxA, Option.getD_some, List.take_length]
    rfl
  have hauth : u.authenticate d (ctxA lo m hi din) din = (authed u (slotKey lo) (slotCounter lo), none) := by
    have hms : u.tagMessage (ctxA lo m hi din) din = msg := by
      have e320 : fld (slotWith lo m hi) 320 192 = fld hi 0 192 := fld_above lo m hi 0 192 hl hm
      simp only [State.tagMessage, ctxA, k1, b1 0 192 (by decide), e320, msg]
      rfl
    have hmc : slotMac (slotWith lo m hi) = tag := by
      simp only [slotMac, fld_mac lo m hi hl hm, hmac]
    have hsm := (hrest m hm).1
    simp only [State.authenticate, hcr, hsg, Bool.not_true, Bool.false_eq_true, if_false]
    rw [show u.locked (ctxA lo m hi din).e = false from hlock]
    simp only [Bool.false_eq_true, if_false, hms]
    rw [show slotKey (ctxA lo m hi din).slot = slotKey lo from k1, show slotMac (ctxA lo m hi din).slot = tag from hmc,
      show slotCounter (ctxA lo m hi din).slot = slotCounter lo from k2]
    rw [show (u.key (ctxA lo m hi din).e.port (slotKey lo)).st = .active from hkey]
    rw [if_neg (by simp [tag, key, ctxA, localEntry]), if_neg (by simpa [ctxA] using hcnt)]
    rw [if_neg]
    · rfl
    · simp only [Bool.and_eq_true, decide_eq_true_eq, not_and, Bool.not_eq_true', Bool.not_eq_false]
      exact hsm
  have htk : takenState d r (s.advance 0) = u := by
    have hx' : tget none u.xfers (xferKey (ctxFor d r)) = none := by
      rw [show u.xfers = [] from hx]
      rfl
    show u.breakXfer (ctxFor d r) = u
    rw [State.breakXfer, hx']
  have hck : checkedState d r (s.advance 0) = authed u (slotKey lo) (slotCounter lo) := by
    simp only [checkedState, hctx, htk]
    rw [show u.authenticate d (ctxA lo m hi din) (ctxA lo m hi din).din
      = (authed u (slotKey lo) (slotCounter lo), none) from hauth]
  obtain ⟨-, hrow, hpart, hcond⟩ := hrest m hm
  refine ⟨r, s, hs, ⟨hcan, ?_, fun _ => rfl, Or.inr (Or.inl ?_), ?_, ?_, ?_⟩, ?_, ?_⟩
  · rw [hn, heth, k6, hbad]
  · rw [hn, k4, hdst]
  · rw [hctx, htk]
    exact congrArg Prod.snd hauth
  · rw [hck, hctx, hrow]
  · rw [hck, hctx, hpart]
  · rw [evalState, hck, hctx]
    exact hcond
  · exact Nat.zero_le _

/-- The bits of a number turned about are below 2 to their number. -/
theorem revBits_lt (n x : Nat) : revBits n x < 2 ^ n := by
  have h : ∀ (l : List Bool) (r k : Nat), r < 2 ^ k → l.foldl (fun r b => r * 2 + b2n b) r < 2 ^ (k + l.length) := by
    intro l
    induction l with
    | nil => intro r k h; simpa using h
    | cons b l ih =>
      intro r k h
      have hb : b2n b ≤ 1 := by cases b <;> decide
      have := ih (r * 2 + b2n b) (k + 1) (by rw [pow_succ]; omega)
      simpa [Nat.add_assoc, Nat.add_comm 1] using this
  simpa [revBits, bitsLsb] using h (bitsLsb n x) 0 0 (by decide)

/-- A file that ends in its CRC-32. -/
theorem crc_at_end (b : List Byte) (n : Nat) (h : b.length = n) :
    leAt (b ++ bytesOf 4 (crc32 b)) n 4 = crc32 ((b ++ bytesOf 4 (crc32 b)).take n) := by
  have hc : crc32 b < 2 ^ 32 := Nat.xor_lt_two_pow (revBits_lt 32 _) (by decide)
  have e : ofBytes (bytesOf 4 (crc32 b)) = crc32 b := by
    generalize crc32 b = x at hc
    simp only [bytesOf, ofBytes, BitVec.toNat_ofNat]
    omega
  subst h
  simp only [leAt, List.drop_left', List.take_left']
  rw [List.take_of_length_le (by simp), e]

@[simp] theorem zeros_length (n : Nat) : (zeros n).length = n :=
  List.length_replicate

/-- Bytes of zeros read 0. -/
theorem leAt_zeros (k off n : Nat) : leAt (zeros k) off n = 0 := by
  have h : ∀ j, ofBytes (List.replicate j 0#8) = 0 := by
    intro j
    induction j with
    | zero => rfl
    | succ j ih => rw [List.replicate_succ, ofBytes, ih]; rfl
  rw [leAt, zeros, List.drop_replicate, List.take_replicate]
  exact h _

/-- What stands before the sectors of a calibration block. -/
def calHead : List Byte :=
  [0x5A, 0x43, 0x41, 0x4C] ++ bytesOf 4 12596 ++ zeros 8

/-- A calibration block of zeros, but for its head and its CRC-32. -/
def calBody : List Byte :=
  calHead ++ zeros 12576

/-- With its CRC-32. -/
def calBytes : List Byte :=
  calBody ++ bytesOf 4 (crc32 calBody)

theorem cal_head_length : calHead.length = 16 := by
  decide

theorem cal_body_length : calBody.length = 12592 := by
  rw [calBody, List.length_append, cal_head_length, zeros_length]

theorem cal_length : calBytes.length = 12596 := by
  rw [calBytes, List.length_append, cal_body_length, bytesOf_length]

theorem cal_good : calBad calBytes = none := by
  have h1 : calBytes.take 4 = [0x5A, 0x43, 0x41, 0x4C] := rfl
  have h2 : leAt calBytes 4 4 = 12596 := by decide +kernel
  have h3 : leAt calBytes 8 8 = 0 := by decide +kernel
  have h4 : ∀ k < 8, (calBytes.drop (16 + 1060 * k)).take 1060 = zeros 1060 := by
    intro k hk
    rw [calBytes, calBody, List.append_assoc, ← cal_head_length, List.drop_length_add_append,
      List.drop_append_of_le_length (by rw [zeros_length]; omega), zeros, List.drop_replicate,
      List.take_append_of_le_length (by rw [List.length_replicate]; omega), List.take_replicate, zeros]
    congr 1
    omega
  have h5 : calSectorBad (zeros 1060) = none := by
    have e : ∀ n, (List.range n).find? (fun _ => false) = none := fun n => List.find?_eq_none.mpr (by simp)
    simp [calSectorBad, leAt_zeros, e]
  have h6 : (List.range 8).findSome? (fun k =>
      (calSectorBad ((calBytes.drop (16 + 1060 * k)).take 1060)).map (fun i => 16 + 1060 * k + i)) = none := by
    rw [List.findSome?_eq_none_iff]
    intro k hk
    rw [h4 k (List.mem_range.mp hk), h5]
    rfl
  have h7 : leAt calBytes 12592 4 = crc32 (calBytes.take 12592) := crc_at_end calBody 12592 cal_body_length
  simp only [calBad, h1, h2, h3, h6, ← h7, bne_self_eq_false, Bool.false_eq_true, if_false]

/-- What stands below the MAC of a CAL.LOAD. -/
def calLow : Nat :=
  0x0601 + 0xFFFF * 2 ^ 32 + 2 ^ 128 + 12596 * 2 ^ 160

/-- Abandoning a transfer leaves the temperatures. -/
theorem dropXfer_flash (t : State) (c : Ctx) : (t.dropXfer c).flashAllowed = t.flashAllowed := by
  unfold State.dropXfer State.dropLoad
  split
  · split <;> rfl
  · rfl

/-- The row's checks pass, one by one, for a command that carries data and does not come in parts. -/
theorem rowChecks_ok (t : State) (d : CmdDef) (c : Ctx) (n : Nat) (h1 : d.states t c = true) (h2 : t.inParts d c = false)
    (h3 : d.data = .inp n) (h4 : slotDir c.slot = false) (h5 : slotPlen c.slot = d.plen) (h6 : slotDlen c.slot ≤ n)
    (h7 : firstBad 24 d.mask (fld c.slot 320 192) = none) (h8 : d.args t c = none) : t.rowChecks d c = none := by
  have e : (DataUse.inp n == DataUse.out) = false := rfl
  simp only [State.rowChecks, h1, h2, h3, h4, h7, h8, e, Bool.not_true, Bool.false_eq_true, if_false, bne_self_eq_false,
    h5, decide_eq_true_eq, Nat.not_lt.mpr h6]

theorem met_FrontEndPointAndCalibrationCommands_6 :
    MeetsCmd cmdCalLoad (fun u c => c.din.length = 12596 ∧ calBad c.din = none ∧ u.flashAllowed = true) (fun _ _ => []) := by
  refine meets_signed cmdCalLoad _ (holder .standby) calLow 0 calBytes (by decide) (by decide) (by decide +kernel) rfl rfl (by decide)
    (by decide +kernel) (by decide +kernel) (by decide +kernel) (by decide +kernel) (by rw [cal_length]; decide +kernel)
    (by decide +kernel) (by decide +kernel) (by decide +kernel) (by decide +kernel) (by decide +kernel) ?_
  intro m hm
  have c : ∀ a n, fld (slotWith calLow m 0) (320 + a) n = fld 0 a n := fun a n => fld_above _ m 0 a n (by decide) hm
  have hp : ∀ t : State, t.inParts cmdCalLoad (ctxA calLow m 0 calBytes) = false := by
    intro t
    have e : (ctxA calLow m 0 calBytes).p 20 4 = 0 := (c 160 32).trans (by decide)
    simp only [State.inParts, cmdCalLoad, e]
    rfl
  refine ⟨fun _ => ?_, ?_, hp _, cal_length, cal_good, ?_⟩
  · show (authed ((holder .standby).advance 0 |>.refresh (localEntry .A)) (slotKey calLow) (slotCounter calLow)).holds (localEntry .A) 0
      = true
    decide +kernel
  · refine rowChecks_ok _ _ _ 12596 ?_ (hp _) rfl ?_ ?_ ?_ ?_ rfl
    · simp only [cmdCalLoad]
      decide +kernel
    · exact (bit_below calLow m 0 50 (by decide)).trans (by decide +kernel)
    · exact ((fld_below calLow m 0 96 16 (by decide)).trans (by decide +kernel : fld calLow 96 16 = 0))
    · exact ((fld_below calLow m 0 160 32 (by decide)).trans (by decide +kernel : fld calLow 160 32 = 12596)).le
    · have c0 : fld (slotWith calLow m 0) 320 192 = fld 0 0 192 := by simpa only [Nat.add_zero] using c 0 192
      have e : firstBad 24 cmdCalLoad.mask (fld 0 0 192) = none := by decide +kernel
      show firstBad 24 cmdCalLoad.mask (fld (slotWith calLow m 0) 320 192) = none
      rw [c0]
      exact e
  · rw [dropXfer_flash]
    decide +kernel

/-- A safety configuration of one zone set, whose four zones need one record each, without its CRC-32. -/
def safeBody : List Byte :=
  safeCfg.take 64 ++ (List.range 4).flatMap (fun _ => [1, 1, 1] ++ zeros 269)

/-- With its CRC-32. -/
def safeBytes : List Byte :=
  safeBody ++ bytesOf 4 (crc32 safeBody)

theorem safe_body_length : safeBody.length = 1152 := by
  decide +kernel

theorem safe_length : safeBytes.length = 1156 := by
  rw [safeBytes, List.length_append, safe_body_length, bytesOf_length]

theorem safe_good : safeBad safeBytes = none := by
  have hc : leAt safeBytes 1152 4 = crc32 (safeBytes.take 1152) := crc_at_end safeBody 1152 safe_body_length
  have h6 : leAt safeBytes 6 1 = 1 := by decide +kernel
  have hz : (List.range (4 * leAt safeBytes 6 1)).findSome? (fun z =>
      (zoneBad (safeBytes.drop (64 + 272 * z))).map (fun i => 64 + 272 * z + i)) = none := by
    rw [h6]
    decide +kernel
  have h32 : notZero safeBytes 32 32 = none := by decide +kernel
  unfold safeBad
  dsimp only
  split
  · rename_i i hi
    exfalso
    rw [safe_length] at hi
    have h := congrArg Option.isSome hi
    rw [Option.isSome_some] at h
    revert h
    decide +kernel
  · rw [h32, hz, safe_length]
    simp only [Nat.reduceSub, ← hc, bne_self_eq_false, Bool.false_eq_true, if_false]

/-- What stands below the MAC of a SAFE.CONFIG. -/
def safeLow : Nat :=
  0x0B01 + 0xFFFF * 2 ^ 32 + 2 ^ 96 + 2 ^ 128 + 1156 * 2 ^ 160

theorem met_ScheduleAndSafetyCommands_3 :
    MeetsCmd cmdSafeConfig (fun u c => 68 ≤ c.din.length ∧ safeBad c.din = none ∧ u.flashAllowed = true) (fun _ _ => []) := by
  refine meets_signed cmdSafeConfig _ (holder .safeHold) safeLow 60 safeBytes (by decide) (by decide) (by decide +kernel) rfl rfl
    (by decide) (by decide +kernel) (by decide +kernel) (by decide +kernel) (by decide +kernel) (by rw [safe_length]; decide +kernel)
    (by decide +kernel) (by decide +kernel) (by decide +kernel) (by decide +kernel) (by decide +kernel) ?_
  intro m hm
  have c : ∀ a n, fld (slotWith safeLow m 60) (320 + a) n = fld 60 a n := fun a n => fld_above _ m 60 a n (by decide) hm
  have hp : ∀ t : State, t.inParts cmdSafeConfig (ctxA safeLow m 60 safeBytes) = false := by
    intro t
    have e : (ctxA safeLow m 60 safeBytes).p 20 4 = 0 := (c 160 32).trans (by decide)
    simp only [State.inParts, cmdSafeConfig, e]
    rfl
  refine ⟨fun _ => ?_, ?_, hp _, ?_, safe_good, ?_⟩
  · show (authed ((holder .safeHold).advance 0 |>.refresh (localEntry .A)) (slotKey safeLow) (slotCounter safeLow)).holds
      (localEntry .A) 1 = true
    decide +kernel
  · refine rowChecks_ok _ _ _ 16384 ?_ (hp _) rfl ?_ ?_ ?_ ?_ ?_
    · simp only [cmdSafeConfig]
      decide +kernel
    · exact (bit_below safeLow m 60 50 (by decide)).trans (by decide +kernel)
    · exact ((fld_below safeLow m 60 96 16 (by decide)).trans (by decide +kernel : fld safeLow 96 16 = 1))
    · exact ((fld_below safeLow m 60 160 32 (by decide)).trans (by decide +kernel : fld safeLow 160 32 = 1156)).le.trans (by decide)
    · have c0 : fld (slotWith safeLow m 60) 320 192 = fld 60 0 192 := by simpa only [Nat.add_zero] using c 0 192
      have e : firstBad 24 cmdSafeConfig.mask (fld 60 0 192) = none := by decide +kernel
      show firstBad 24 cmdSafeConfig.mask (fld (slotWith safeLow m 60) 320 192) = none
      rw [c0]
      exact e
    · have e : (ctxA safeLow m 60 safeBytes).p 0 1 = 60 := by
        have c0 : fld (slotWith safeLow m 60) 320 8 = fld 60 0 8 := by simpa only [Nat.add_zero] using c 0 8
        exact c0.trans (by decide)
      simp only [cmdSafeConfig, e]
      decide
  · exact (by decide : 68 ≤ 1156).trans safe_length.ge
  · rw [dropXfer_flash]
    decide +kernel

/-- A dump of the last channel's next four columns. -/
theorem met_FirmwareMonitorAndReportCommands_10 :
    MeetsCmd cmdHistDump (fun u c => c.p 0 2 ≤ 1023 ∧ c.p 2 1 ≠ 0 ∧ c.p 2 1 ≤ 4 ∧ u.chanRetired (c.p 0 2) = false
      ∧ 10248 * c.p 2 1 ≤ slotDlen c.slot) (fun _ _ => []) :=
  met_of (call cmdHistDump .A (1023 + 4 * 2 ^ 16) 40992 0 []) (holder .run) (by decide +kernel)

/-! ### The rules over states and steps -/

theorem met_StepRunsTheFrontCommand : ∃ (c : Instr) (q : List Instr) (s : State), s.pending = c :: q :=
  ⟨.refclkLost 1, [], { up .run with pending := [.refclkLost 1] }, rfl⟩

theorem met_StepRunsTheFrontCommand_idle : ∃ s : State, s.pending = [] :=
  ⟨State.reset, rfl⟩

theorem met_OffDeviceTakesOnlyItsPower : ∃ (c : Instr) (s : State), s.life.lcs = .off ∧ powerRow c = false :=
  ⟨.refclkLost 1, up .off, rfl, rfl⟩

theorem met_EveryCommandGoesOn : ∃ (c : Instr), otpRow c = false :=
  ⟨.refclkLost 1, rfl⟩

theorem met_OneTimeMemoryOnlyGoesOnward : ∃ s t : State, oneActive s.otp ∧ step s = .next t :=
  ⟨{ holder .standby with pending := [] }, { holder .standby with pending := [] }, by
    intro p j k
    revert p j k
    simp only [holder]
    intro p
    cases p <;> decide +kernel, rfl⟩

/-- A critical command of a state without a key of its port. -/
theorem met_UnauthenticatedCommandsActOnNothing_keys : ∃ (d : CmdDef) (s : State) (c : Ctx), d.critical = true ∧
    ∀ k < 4, (s.key c.e.port k).st ≠ .active :=
  ⟨cmdModeStart, up .standby, ctxFor cmdModeStart (call cmdModeStart .A 0 0 0 []), by decide, by decide +kernel⟩

/-- Every critical row's command with a wrong tag, from a device with keys, meets what the statement asks. -/
theorem met_UnauthenticatedCommandsActOnNothing : ∀ d ∈ [cmdDevReset, cmdModeStart, cmdModeStop, cmdModeSet, cmdServiceEnter,
    cmdServiceExit, cmdServiceProof, cmdFeConfig, cmdFeTrim, cmdPointConfig, cmdCalLoad, cmdEmitConfig, cmdLedgerSet, cmdLoopClose,
    cmdLoopOpen, cmdLoopCoef, cmdLoopSet, cmdLoopRepClear, cmdSchedLoad, cmdSafeConfig, cmdHkConfig, cmdHkSwitch, cmdHkTherm,
    cmdPwrSet, cmdRidgeLaneCfg, cmdRidgeLaneTest, cmdChainConfig, cmdChainDiscover, cmdChainTimeSet, cmdHostNetConfig, cmdKeyRotate,
    cmdKeySchedDigest, cmdFwWrite, cmdFwCommit, cmdMonWrite], ∃ (r : Req) (s : State), s.life.lcs ≠ .off ∧ s.power.resetAt = none ∧
      ((takenState d r (s.advance 0)).authenticate d (ctxFor d r) (ctxFor d r).din).2 ≠ none := by
  intro d hd
  refine ⟨call d .A 0 0 0 [], holder .standby, by decide, rfl, ?_⟩
  fin_cases hd <;> decide +kernel

/-- A reading command is served at this device. -/
theorem met_ReadingCommandsLeaveTheDevice : ∃ (r : Req) (s t : State), s.life.lcs ≠ .off ∧ s.power.resetAt = none ∧
    exec (.devIdentify 0 r) s = .next t :=
  ⟨call cmdDevIdentify .A 0 300 0 [], holder .standby, _, by decide, rfl, rfl⟩

theorem met_ResponseSlotRoundTrip : ∃ r : Rsp, r.rlen < 2 ^ 32 ∧ r.detail < 2 ^ 32 ∧ r.result.length ≤ 44 ∧ r.dout.length ≤ r.rlen :=
  ⟨{ kept with rlen := 2 ^ 32 - 1, detail := 2 ^ 32 - 1, result := zeros 44, dout := [1] }, by decide⟩

theorem met_SafetyFaultsReachTheSafeState : ∀ l ∈ [Lcs.standby, .run, .degraded, .service], operating (up l) := by
  intro l h
  unfold operating
  revert l
  decide

theorem met_SafetyFaultsReachTheSafeState_estop : ∃ s : State, operating s ∧ s.safe.estop = true :=
  ⟨{ up .service with safe.estop := true }, Or.inr (Or.inr (Or.inr rfl)), rfl⟩

theorem met_SafetyFaultsReachTheSafeState_code : ∃ code : BitVec 4, popN 4 code.toNat % 2 = 0 :=
  ⟨15, by decide⟩

/-- Two states that agree on what a reset keeps and differ in their lifecycle state and registers. -/
theorem met_ResetKeepsOnlyWhatIsNamed : ∃ s u : State, sameKept s u ∧ s ≠ u := by
  refine ⟨up .run, { up .run with life.lcs := .safeHold, ct := 5 }, ?_, ?_⟩
  · exact ⟨rfl, rfl, rfl, rfl, rfl, rfl, rfl, rfl, rfl, rfl, rfl, rfl, rfl, rfl,
      rfl, rfl, rfl, rfl, rfl, rfl, rfl, rfl, rfl, rfl, rfl, rfl, rfl, rfl, fun _ _ => ⟨rfl, rfl⟩⟩
  · intro h
    exact absurd (congrArg (fun z => z.life.lcs) h) (by decide)

/-- MODE.START is admitted while axis A is not locked, or while the loop of axis B is open. -/
theorem met_ModeStartNeedsBothAxes : ∀ x ∈ [(false, LoopState.closed), (true, .open_)], ∃ (r : Req) (s u : State) (c : Ctx),
    s.life.lcs ≠ .off ∧ (s.advance 0).foreseen = {} ∧ Admitted cmdModeStart r (s.advance 0) ∧ u = evalState cmdModeStart r (s.advance 0) ∧ c = ctxFor cmdModeStart r ∧
    (modeParams (c.p 0 1)).isSome = true ∧ u.badStart (c.p 4 8) (ms 5) = false ∧ u.mode.stop = none ∧
    ¬(u.scan.a.locked = true ∧ u.scan.b.st = .closed) := by
  intro x hx
  refine ⟨call cmdModeStart .A ((16000000000000 + ms 5) * 2 ^ 32) 0 0x410E74D6C0BE8ED5 [],
    { ready .standby with scan.a.locked := x.1, scan.b.st := x.2 }, _, _, ?_, ?_, admitted_of_admits ?_, rfl, rfl, ?_⟩ <;>
    fin_cases hx <;> decide +kernel

/-- A full count whose last stage holds far too many hits. -/
def badHits : Tab Nat :=
  fullHits.map (fun x => if x.1 = 39 then (39, 3000) else x)

/-- A count of `h` hits of the interpolator L of the last channel or of H of the first, gathered, is what the table is computed from. -/
def gatherer (c : Nat) (h : Tab Nat) : State :=
  { up .run with front.chans := [(c, { intL := { hits := h }, intH := { hits := h } })] }

theorem met_TableWithABadShareIsRefused : ∃ h : Tab Nat,
    (∃ k < 40, ((tget 0 h k * 40 : Nat) : Rat) / (sumTo 40 (fun j => tget 0 h j) : Nat) < 1 / 4 ∨
      7 / 4 < ((tget 0 h k * 40 : Nat) : Rat) / (sumTo 40 (fun j => tget 0 h j) : Nat)) ∧
    Meets (fun u => (u.chan (1023 : Fin 1024).val).intL = { hits := badHits } ∧ u.secOn (secOf (1023 : Fin 1024).val) = true ∧
      u.gathered (1023 : Fin 1024).val { hits := badHits } = h ∧ 65536 ≤ sumTo 40 (fun j => tget 0 h j)) ∧
    Meets (fun u => (u.chan (1023 : Fin 1024).val).intH = { hits := badHits } ∧ u.secOn (secOf (1023 : Fin 1024).val) = true ∧
      u.gathered (1023 : Fin 1024).val { hits := badHits } = h ∧ 65536 ≤ sumTo 40 (fun j => tget 0 h j)) :=
  ⟨badHits, ⟨39, by decide, Or.inr (by decide +kernel)⟩,
    ⟨gatherer 1023 badHits, by decide +kernel⟩, ⟨gatherer 1023 badHits, by decide +kernel⟩⟩

theorem met_TableWithABadShareIsRefused_good : ∃ h : Tab Nat,
    ¬(∃ k < 40, ((tget 0 h k * 40 : Nat) : Rat) / (sumTo 40 (fun j => tget 0 h j) : Nat) < 1 / 4 ∨
      7 / 4 < ((tget 0 h k * 40 : Nat) : Rat) / (sumTo 40 (fun j => tget 0 h j) : Nat)) ∧
    Meets (fun u => (u.chan (0 : Fin 1024).val).intL = { hits := fullHits } ∧ u.secOn (secOf (0 : Fin 1024).val) = true ∧
      u.gathered (0 : Fin 1024).val { hits := fullHits } = h ∧ 65536 ≤ sumTo 40 (fun j => tget 0 h j)) ∧
    Meets (fun u => (u.chan (0 : Fin 1024).val).intH = { hits := fullHits } ∧ u.secOn (secOf (0 : Fin 1024).val) = true ∧
      u.gathered (0 : Fin 1024).val { hits := fullHits } = h ∧ 65536 ≤ sumTo 40 (fun j => tget 0 h j)) :=
  ⟨fullHits, by decide +kernel, ⟨gatherer 0 fullHits, by decide +kernel⟩, ⟨gatherer 0 fullHits, by decide +kernel⟩⟩

/-- A window with 200 hits in one fine bin yields a return under thresholds that it meets exactly. -/
theorem met_WindowYieldsOnlyAboveItsThresholds : ∃ (b : BufSet) (par : ClassParams),
    (b.peakReturn 0 0 par).isSome = true :=
  ⟨{ mem := [(regionOf 0 + 0x2000 + 255, 200)] }, {}, by decide +kernel⟩

theorem met_HealthSampleFallsIntoOneBin : ∀ x ∈ [((0 : Int), 1), (0, 2 ^ 30)], ∃ (shift : Nat) (v : Int) (k : Nat), 1 ≤ k ∧
    (2 : Int) ^ (k - 1) ≤ (v - x.1) >>> shift ∧ (v - x.1) >>> shift < 2 ^ k :=
  by
  intro x hx
  fin_cases hx
  · exact ⟨0, 1, 1, by decide⟩
  · exact ⟨0, 2 ^ 30, 31, by decide⟩

theorem met_HealthSampleFallsIntoOneBin_low : ∃ (shift : Nat) (origin v : Int), (v - origin) >>> shift ≤ 0 :=
  ⟨15, 5, 5, by decide⟩

theorem met_SignatureSpacingsStayApart : ∃ a b d : Nat, a ≠ b ∧ d ≤ sigmaOf a + 16 ∧ sigmaOf a ≤ d + 16 :=
  ⟨15, 14, 1248, by decide⟩

theorem met_ResultsLandAtTheirLatency : ∃ (s : State) (e cyc r a b : Nat), (s.eng e).fly = [] ∧ r ≠ 0 ∧ a < b ∧ b ≤ cyc :=
  ⟨State.reset, 255, 7, 31, 6, 7, by decide⟩

theorem met_ResultsLandAtTheirLatency_before : ∃ (s : State) (e cyc a : Nat), (s.eng e).fly = [] ∧ cyc < a :=
  ⟨State.reset, 255, 7, 8, by decide⟩

theorem met_EngineOperationsLeaveTheRest : ∃ (e : Fin 256) (s t : State), s.life.lcs ≠ .off ∧
    (∀ cyc, (s.advance 0).runCycle (e.val / 32) = some cyc →
      (((issuing (s.advance 0) e.val cyc).eng e.val).ea (issuing (s.advance 0) e.val cyc).free slotL 8 / 8 * 8 < 0x10000)) ∧
    exec (.engStd 0 e slotL) s = .next t := by
  refine ⟨255, issuer (pointing 0xFFF8), _, by decide +kernel, fun cyc h => ?_, rfl⟩
  have h' : ((issuer (pointing 0xFFF8)).advance 0).runCycle ((255 : Fin 256).val / 32) = some issuerCycle := by decide +kernel
  rw [h'] at h
  cases h
  decide +kernel

theorem met_EngineOperationsLeaveTheRest_idle : MeetsIn 255 (fun u => ¬passes 255 7 true u) :=
  meets_issuer (pointing 0) _ (by simp only [passes]; decide +kernel) (by decide +kernel)

theorem met_MonitorComposesItsLayers : (∀ n ∈ [(0, 0x100), (1, 0x140), (2, 0x180)], (up .run).layerOn n.1 n.2 = false) ∧
    (up .run).monOn = false ∧ ({ up .run with mon.restart := 1 }).mon.restart ≠ 0 := by
  decide +kernel

/-! ### Clauses whose witnesses are longer -/

/-- A critical command waits at mailbox 0 of port A and at mailbox 3 of port B, the row of the second is next, and the priority bit is as
given. -/
def critical2 (prio : Bool) : State :=
  { up .standby with
    power.boot.straps := { chainRoot := false, bootSrc := 1, hostA := 2, hostB := 2 }
    hostA.mbs := [(0, { queue := [⟨far, BitVec.ofNat 512 cmdDevReset.op, [], 0⟩] })]
    hostB.mbs := [(3, { queue := [⟨far, BitVec.ofNat 512 cmdDevReset.op, [], 0⟩] })]
    pending := [.mailboxTake 0 .B 3 none]
    prio := prio }

theorem met_MailboxEvents_8 : ∃ (p q : HostPort) (m k : Fin 4) (d : Option (List Byte)),
    Meets (fun u => u.foreseen = {} ∧ u.early ≠ some (p, m.val) ∧ u.meetsTake p m.val = some (q, k, d) ∧ u.prio = (q == .B)) :=
  ⟨.A, .B, 0, 3, none, critical2 true, by decide +kernel⟩

theorem met_MailboxEvents_9 : ∃ (p q : HostPort) (m k : Fin 4) (d : Option (List Byte)),
    Meets (fun u => u.foreseen = {} ∧ u.early ≠ some (p, m.val) ∧ u.meetsTake p m.val = some (q, k, d) ∧ u.prio ≠ (q == .B)) :=
  ⟨.A, .B, 0, 3, none, critical2 false, by decide +kernel⟩

/-- A device with address 4 and port 1 below it, whose range is address 5. -/
def twoPorts (addr : BitVec 16) : State :=
  { up .run with
    chain.addr := addr
    chain.ports := [(0, { up := true }), (1, { up := true, range := some (5, 5) })] }

theorem met_DataClassEvents_6 : ∃ (q : Fin 4) (p : Packet) (crc : Word) (x : Option (BitVec 64)) (o : Nat), Meets (fun u =>
    let t := ((x.elim u (u.countBlock q.val)).modRport q.val (fun r => { r with held := r.held + packetCost p })).fault 0x600A 8 q.val
    u.dataOn q.val = true ∧ (u.rport q.val).width ≠ 0 ∧ (u.rport q.val).held + packetCost p ≤ 256 ∧
      (crc.toNat ≠ crc32 p.data ∨ stomps x = true) ∧
      p.dest ≠ t.chain.addr ∧ t.route p.dest.toNat = some o ∧ (t.rport o).allRetired = false) :=
  ⟨0, ⟨5, 6, 3, [1], false⟩, BitVec.ofNat 32 (crc32 [1]), some 0, 1, twoPorts 4, by decide +kernel⟩

theorem met_DataClassEvents_7 : ∃ (q : Fin 4) (p : Packet) (crc : Word) (x : Option (BitVec 64)), Meets (fun u =>
    let t := ((x.elim u (u.countBlock q.val)).modRport q.val (fun r => { r with held := r.held + packetCost p })).fault 0x600A 8 q.val
    u.dataOn q.val = true ∧ (u.rport q.val).width ≠ 0 ∧ (u.rport q.val).held + packetCost p ≤ 256 ∧
      (crc.toNat ≠ crc32 p.data ∨ stomps x = true) ∧
      p.dest = t.chain.addr ∧ p.dest ≠ 0xFFFF) :=
  ⟨0, ⟨5, 6, 3, [1], false⟩, 0, none, twoPorts 5, by decide +kernel⟩

/-- A direction whose sleep is allowed, idle since the clock's start. -/
theorem met_RidgeServiceEvents_20 : ∃ q : Fin 4, Meets (fun u => u.dskDue q.val = true ∧ (u.rport q.val).up = true ∧
    (u.rport q.val).retrain = false ∧ bitN (u.rport q.val).cfg.toNat 6 = true ∧ (u.rport q.val).txQ = [] ∧
    (u.rport q.val).pendCr = 0 ∧ (∀ x ∈ u.chain.toReport, x.1 = q.val → u.now < x.2.2) ∧
    (u.rport q.val).idleAt + us (fld (u.rport q.val).cfg.toNat 8 8) ≤ u.clk ∧
    (∀ w ∈ u.windows q.val, w.1 < u.now ∨ u.now + us 20 < w.1)) :=
  ⟨0, { up .run with chain.ports := [(0, { active := true, up := true, switched := true, cfg := 0x1440 })] }, by decide +kernel⟩

/-- A loaded mode whose boundaries pass in STANDBY. -/
def loadedOne : State :=
  { up .standby with sched.modes := [(0, plainBlock)], mode.mode := 0 }

theorem met_ColumnEvents_3 : ∃ (b : ModeBlock) (c : Column), Meets (fun u => u.mode.cur = none ∧ u.mode.change = none ∧
    u.block u.mode.mode = some b ∧ u.idleColumn u.mode.mode = some c ∧ u.mode.idleAt < c.stop) := by
  have h : ((loadedOne.advance 0).idleColumn (loadedOne.advance 0).mode.mode).isSome = true := by decide +kernel
  obtain ⟨c, hc⟩ := Option.isSome_iff_exists.mp h
  have hs : ((loadedOne.advance 0).idleColumn (loadedOne.advance 0).mode.mode).all
      (fun c => decide ((loadedOne.advance 0).mode.idleAt < c.stop)) = true := by decide +kernel
  rw [hc] at hs
  exact ⟨plainBlock, c, loadedOne, by decide, rfl, rfl, by decide +kernel, hc, of_decide_eq_true hs⟩

theorem met_RegisterAndSessionEvents_read : ∃ (s : State) (p : HostPort), s.window p = true :=
  ⟨up .standby, .A, by decide +kernel⟩


/-- PWR.SET names domains it may, and the state allows it. -/
def pwrNames (u : State) (c : Ctx) : Prop :=
  (∀ d < 34, bitN (c.p 0 5) d = true → bitN (c.p 8 5) d = false ∧ nameable d = true)
    ∧ (∀ d < 34, bitN (c.p 8 5) d = true → nameable d = true) ∧ u.pwrRefused (c.p 0 5) (c.p 8 5) = false

/-- The domains that PWR.SET waits for. -/
def pwrWait (u : State) (c : Ctx) : Nat :=
  let removed := (powerOrder.reverse.filter (fun d => bitN (c.p 8 5) d)).foldl State.domOff (if bitN (c.p 8 5) 30 then u.monOff else u)
  maskOf ((List.range 34).filter (fun d => bitN (c.p 0 5) d && !removed.domOn d))

theorem met_EmissionLedgerAndPowerCommands_6 :
    MeetsCmd cmdPwrSet (fun u c => pwrNames u c ∧ pwrWait u c = 0) (fun _ _ => []) :=
  met_of (call cmdPwrSet .A (2 ^ 15 * 2 ^ 64) 0 0xFEF06F6D160A0A1A []) (holder .standby) (by unfold pwrNames; decide +kernel)

theorem met_EmissionLedgerAndPowerCommands_wait :
    MeetsCmd cmdPwrSet (fun u c => pwrNames u c ∧ pwrWait u c ≠ 0) (fun _ _ => []) :=
  met_of (call cmdPwrSet .A (2 ^ 30) 0 0x945AD974CAD870AC []) { holder .standby with power.dom := 0x3BFFFFFFF } (by unfold pwrNames; decide +kernel)

theorem met_SemaphoreAndKeyCommands_2 : ∃ (r : Req) (s : State) (q : HostPort) (k : Nat), awake s ∧ r.entry.pair = none ∧
    rivalClaim (s.advance 0) r.entry.port = some (q, k) :=
  ⟨⟨localEntry .A, 0, 0, none⟩,
    { up .standby with
      power.boot.straps := ⟨false, 1, 1, 1⟩
      pending := [.semReadClaim 0 .B 31] },
    .B, 31, by unfold awake; decide +kernel, rfl, by decide +kernel⟩
/-! ### Well-formedness refuses an ill-formed term per check -/

theorem wf_time : (Instr.refclkLost (2 ^ 64)).wellFormed = false ∧ (Instr.refclkLost (2 ^ 64 - 1)).wellFormed = true := by
  decide

theorem wf_data : (Instr.fwWrite 0 { call cmdFwWrite .A 0 0 0 [] with din := some (zeros 4194305) }).wellFormed = false := by
  simp only [Instr.wellFormed, Instr.operandsOk, Req.ok, zeros, List.length_replicate]
  decide

theorem wf_mailboxTake : (Instr.mailboxTake 0 .A 7 (some (zeros 4194305))).wellFormed = false := by
  simp only [Instr.wellFormed, Instr.operandsOk, zeros, List.length_replicate]
  decide

theorem wf_ethCommandDatagram : (Instr.ethCommandDatagram 0 .A far (zeros 1473)).wellFormed = false := by
  simp only [Instr.wellFormed, Instr.operandsOk, zeros, List.length_replicate]
  decide

theorem wf_bootGo : (Instr.bootGo 0 .A (some (zeros 4194305))).wellFormed = false := by
  simp only [Instr.wellFormed, Instr.operandsOk, zeros, List.length_replicate]
  decide

theorem wf_bootDatagram : (Instr.bootDatagram 0 .A far (zeros 1473)).wellFormed = false := by
  simp only [Instr.wellFormed, Instr.operandsOk, zeros, List.length_replicate]
  decide

theorem wf_icmpEcho : (Instr.icmpEcho 0 .A 1 2 3 (zeros 1473)).wellFormed = false := by
  simp only [Instr.wellFormed, Instr.operandsOk, zeros, List.length_replicate]
  decide

theorem wf_columnBoundary : (Instr.columnBoundary 0 true [3, 3]).wellFormed = false := by
  decide

theorem wf_writePipelineCheck : (Instr.writePipelineCheck 0 [1, 1] []).wellFormed = false ∧
    (Instr.writePipelineCheck 0 [] [1, 1]).wellFormed = false := by
  decide

theorem wf_decisionInstant : (Instr.decisionInstant 0 [⟨5, 0, 0, 0, none, false⟩, ⟨5, 1, 0, 0, none, false⟩]).wellFormed = false := by
  decide

theorem wf_refillTick : (Instr.refillTick 0 [(9, 1), (9, 2)] false).wellFormed = false := by
  decide

theorem wf_pmbusPoll : (Instr.pmbusPoll 0 [⟨4, none, 0, 0, 0, 0, 0, 0⟩, ⟨4, none, 1, 0, 0, 0, 0, 0⟩]).wellFormed = false := by
  decide

theorem wf_pmbAlert : (Instr.pmbAlert 0 [⟨4, none, 0, 0, 0, 0, 0, 0⟩, ⟨4, none, 1, 0, 0, 0, 0, 0⟩]).wellFormed = false := by
  decide

theorem wf_phaseCurrentComparator : (Instr.phaseCurrentComparator 0 0 1800001).wellFormed = false ∧
    (Instr.overcurrentA 0 0 1800001).wellFormed = false := by
  decide

theorem wf_dieMonitorRead : (Instr.dieMonitorRead 0 [0, 0, 0, 0, 0, 0, 0, 0]).wellFormed = false := by
  decide

theorem wf_dataPacket : ∀ n ∈ [0, 12, 2056],
    ((Instr.dataPacket 0 0 ⟨0, 0, 0, zeros n, false⟩ 0 none).operandsOk) = false := by
  decide +kernel

/-! ### Values that the spec gives -/

/-- Window 1 of channel 700 in the worked example of 05_echoes_points: START 25,512, a total of 2,790 ticks in 9 pairs, fine bins 105 to 110. -/
def wallWindow : BufSet :=
  { mem := [(105, 1), (106, 1), (107, 2), (108, 2), (109, 2), (110, 1)].map (fun x => (regionOf 700 + 0x2100 + x.1, x.2))
      ++ [(0, BitVec.ofNat 8 25512), (1, BitVec.ofNat 8 (25512 / 256)), (5, 9 * 16), (8, BitVec.ofNat 8 2790),
        (9, BitVec.ofNat 8 (2790 / 256))].map (fun x => (descOf 700 1 + x.1, x.2)) }

/-- The worked example of 05_echoes_points: t_q 6,558,635, e 9, snr 9.0, w_rms² near 20 ÷ 9, 310 ticks of width. -/
theorem test_wall_peak : (wallWindow.peakReturn 700 1 {}).any (fun r =>
    r.tq = 6558635 && r.e = 9 && r.snr2 = 81 && 2.22 < r.wid2 && r.wid2 < 2.23 && r.hits = 9 && r.tot = 310 && !r.split) = true := by
  decide +kernel

/-- The calibration block of sector 5 in that example, as much as it names. -/
def wallCal : List Byte :=
  zeros (calOff 5 + 4 + 264) ++ bytesOf 2 3200 ++ bytesOf 2 2816 ++ zeros 508 ++ bytesOf 2 646 ++ bytesOf 2 710 ++ zeros 200

/-- The same example: a walk of 2,876, an amplitude of 700 codes, a range of 238,645 at K = 613,809, INTENSITY 2,932, CONFIDENCE 144. -/
theorem test_wall_record : walkOf (some wallCal) 5 2 310 = 2876 ∧ ampOf (some wallCal) 5 2 310 = 700 ∧
    rangeOfTau 613809 6522863 = 238645 ∧ log2x256 (4 ^ 2 + 700 * 64) (4 ^ 2) = 2932 ∧ confidence 81 false false false = 144 := by
  decide +kernel

/-- Channel 700 is in sector 5 and device tile 43 (R11). -/
theorem test_channel_700 : secOf 700 = 5 ∧ tileOf 700 = 43 := by
  decide

/-- A Pt100 of 138.5055 Ω is at 100 °C, by the table of IEC 60751 that R407 names. -/
theorem test_rtd : rtdTemp 100 138505500 = 1600 := by
  decide +kernel

/-- The check values of the CRCs of R291 and R311 over the digits 1 to 9. -/
theorem test_crc : crc16 ("123456789".toList.map (fun c => BitVec.ofNat 8 c.toNat)) = 0x29B1 ∧
    crc32 ("123456789".toList.map (fun c => BitVec.ofNat 8 c.toNat)) = 0xCBF43926 := by
  decide +kernel

/-- The first vector of FIPS 197 (R347 names AES-128). -/
theorem test_aes : aesEnc (aesRoundKeys 0x0F0E0D0C0B0A09080706050403020100) 0xFFEEDDCCBBAA99887766554433221100
    = 0x5AC5B47080B7CDD830047B6AD8E0C469 := by
  decide +kernel

end Sys2Proof.Tests
end

section
/-! SUPPORT. How an engine issues: said once, so that each operation's statement is its own effect on the issuing state. -/

namespace Sys2Proof.Laws

open Sys2Proof Sys2Proof.Machine

/-! ### Issue (R205, R221) -/

/-- A running engine before SLOT_END acts on its issuing state. -/
theorem issue_running (s : State) (e cyc : Nat) (f : State → Nat → State) (hcyc : s.runCycle (e / 32) = some cyc)
    (hend : cyc ≤ s.slotEnd (e / 32)) (hrun : (s.eng e).run = true) : s.issue e f = f (issuing s e cyc) cyc := by
  simp only [State.issue, hcyc, hrun, hend, decide_true, Bool.and_self, if_true]
  rfl

/-- An engine row whose meaning issues `f` takes the effect that `f` has where its condition holds. -/
theorem issues_of {mk : Nat → Instr} {e : Fin 256} {cond : State → Prop} {eff : State → Nat → State} (f : State → Nat → State)
    (hexec : ∀ dt s, exec (mk dt) s = run dt s (fun u => u.issue e.val f)) (h : ∀ u cyc, cond u → f u cyc = eff u cyc) :
    Issues mk e cond eff := by
  intro dt cyc s hs hcyc hend hrun hcond
  rw [hexec, run_awake dt s _ hs, issue_running _ _ cyc f hcyc hend hrun, h _ _ hcond]

/-! ### Index modes (R230) -/

/-- The exact logarithm of a power of two is its exponent. -/
theorem exactLog_two_pow (b : Nat) : exactLog (2 ^ b) = some b := by
  simp [exactLog, Nat.log2_two_pow]

/-- Linear mode and the reserved one, which acts as linear (R9): the index wraps at 16 bits. -/
theorem walkIndex_linear (free gi gl : Nat) (step : Int) {mode : BitVec 2} (h1 : mode ≠ 1) (h2 : mode ≠ 2) :
    walkIndex free mode.toNat gi gl step = uns 16 ((gi : Int) + step) := by
  unfold walkIndex
  split
  next h => exact absurd (BitVec.eq_of_toNat_eq h) h1
  next h => exact absurd (BitVec.eq_of_toNat_eq h) h2
  next => rfl

/-- Modulo mode: the index wraps at a length other than 0. -/
theorem walkIndex_modulo (free gi : Nat) {gl : Nat} (step : Int) (h : gl ≠ 0) :
    walkIndex free 1 gi gl step = (((gi : Int) + step) % (gl : Int)).toNat :=
  if_neg h

/-- Bit-reversed mode: the addition carries from the top of the index down, in a length that is a power of two. -/
theorem walkIndex_bitReversed (free gi b : Nat) (step : Int) :
    walkIndex free 2 gi (2 ^ b) step = revBits b ((revBits b gi + revBits b (uns b step)) % 2 ^ b) := by
  simp only [walkIndex, exactLog_two_pow]

end Sys2Proof.Laws
end

section
/-! PROOFS. Operations of the X and C slots (R225, R226, R230). -/

namespace Sys2Proof.Proofs

open Sys2Proof Sys2Proof.Machine Sys2Proof.Laws

variable (e : Fin 256)

/-- ADDI sends the index that its generator's mode gives, one cycle later (R230). -/
theorem issues_engAddi (op : XSlot) (cond : State → Prop) (idx : State → Nat)
    (h : ∀ u, cond u → walkIndex u.free (tget 0#2 (u.eng e.val).gd op.ag.toNat).toNat (tget 0#16 (u.eng e.val).gi op.ag.toNat).toNat
      (tget 1#16 (u.eng e.val).gl op.ag.toNat).toNat (sgn 11 op.imm.toNat) = idx u) :
    Issues (fun dt => .engAddi dt e op) e cond (fun u cyc => (u.send e.val (cyc + 1) (.gi op.ag.toNat) (idx u)).took) :=
  issues_of _ (fun _ _ => rfl) fun u _ hu => by rw [← h u hu]

/-- The state in which an engine has ended in cycle `cyc` (R226). -/
def endedAt (u : State) (cyc : Nat) : State :=
  u.modEng e.val (fun x => { x with run := false, ended := true, endAt := cyc })

/-- END leaves the half of a record that waits for its partner. -/
theorem endedAt_half (u : State) (cyc : Nat) : ((endedAt e u cyc).eng e.val).half = (u.eng e.val).half := by
  rw [endedAt, modEng_eng_same]

/-- END ends the engine, and raises 0x3006 where a record word waits for its partner (R226, R231). -/
theorem exec_engEnd (dt : Nat) (s : State) : exec (.engEnd dt e) s = run dt s (fun u => u.issue e.val (fun u cyc =>
    if (u.eng e.val).half.isSome then (endedAt e u cyc).engFault 0x3006 e.val else endedAt e u cyc)) := by
  have hexec : exec (.engEnd dt e) s = run dt s (fun u => u.issue e.val (fun u cyc =>
      if ((endedAt e u cyc).eng e.val).half.isSome then (endedAt e u cyc).engFault 0x3006 e.val else endedAt e u cyc)) := rfl
  simpa only [endedAt_half] using hexec

end Sys2Proof.Proofs

namespace Sys2Proof.Proofs

open Sys2Proof Sys2Proof.Machine Sys2Proof.Laws

/-- Settles O13: the X slot row by row, ADDI by the mode of its generator; the C slot row by row, LEND0 and LEND1 by whether iterations
remain, END by whether a record word waits. -/
theorem addressAndControlOperationsComplete : Obligations.AddressAndControlOperationsComplete := by
  refine ⟨fun e op => ⟨?setb, ?seti, ?setm, ?setl, ?setd, ?linear, ?modulo, ?bitReversed, ?geti⟩,
    fun e arg => ⟨?loop0, ?loop1, ?branch0, ?branch1, ?fall0, ?fall1, ?whole, ?half⟩⟩
  case setb | seti | setm | setl | setd | geti | loop0 | loop1 => exact issues_of _ (fun _ _ => rfl) fun _ _ _ => rfl
  case linear => exact issues_engAddi e op _ _ fun u ⟨h1, h2⟩ => walkIndex_linear _ _ _ _ h1 h2
  case modulo =>
    refine issues_engAddi e op _ _ fun u ⟨hmode, hlen⟩ => ?_
    have hgl : (tget 1#16 (u.eng e.val).gl op.ag.toNat).toNat ≠ 0 := fun h => hlen (BitVec.eq_of_toNat_eq h)
    rw [hmode]
    exact walkIndex_modulo _ _ _ hgl
  case bitReversed =>
    refine fun b _ => issues_engAddi e op _ _ fun u ⟨hmode, hlen⟩ => ?_
    rw [hmode, hlen]
    exact walkIndex_bitReversed _ _ _ _
  case branch0 | branch1 => exact issues_of _ (fun _ _ => rfl) fun _ _ hmore => modEng_congr _ _ _ _ (if_neg hmore)
  case fall0 | fall1 => exact issues_of _ (fun _ _ => rfl) fun _ _ hnone => modEng_congr _ _ _ _ (if_pos hnone)
  case whole => exact issues_of _ (exec_engEnd e) fun u _ hhalf => by rw [hhalf]; rfl
  case half => exact issues_of _ (exec_engEnd e) fun u _ hhalf => if_pos (Option.isSome_iff_ne_none.mpr hhalf)

end Sys2Proof.Proofs
end

section
/-! SUPPORT. The register window of a host port and its sessions (R326, R332, R335, R341, R448): where an offset leads, what a write and a
read do there. -/

namespace Sys2Proof.Laws

open Sys2Proof Sys2Proof.Machine

/-- An event row happens as its meaning runs. -/
theorem happens_meaning {mk : Nat → Instr} {cond : State → Prop} {eff f : State → State} (meaning : Nat → State → Res)
    (hrow : ∀ dt s, exec (mk dt) s = meaning dt s ∧ meaning dt s = run dt s f) (h : ∀ s, cond s → f s = eff s) :
    Happens mk cond eff :=
  happens_of mk cond eff f (fun dt s => (hrow dt s).1.trans (hrow dt s).2) h

variable (s : State) (p : HostPort)

/-! ### Ports -/

/-- Two changes of a port are one. -/
theorem modPort_modPort (f g : HostSt → HostSt) : (s.modPort p f).modPort p g = s.modPort p (fun h => g (f h)) := by
  cases p <;> rfl

/-! ### Rings (R341, R343) -/

/-- A field of one bit set at bit 0 reads 1. -/
theorem bitN_setFld_zero_one (w : Nat) : bitN (setFld w 0 1 1) 0 = true := by
  simp only [bitN, setFld, fld, pow_zero, pow_one, Nat.div_one, mul_one, decide_eq_true_eq]
  omega

/-- Setting ENABLE of a point ring that is disabled starts it empty. -/
theorem writeCtrl_point_enabled (w : Nat) (hwas : bitN (s.port p).points.ctrl.toNat 0 = false) (hset : bitN w 0 = true) :
    s.writeCtrl p .point w = s.setPort p { s.port p with points := { (s.port p).points with
      ctrl := BitVec.ofNat 32 (setFld w 7 1 0), live := bitN w 0, prod := 0, cons := 0, units := 0 } } := by
  simp [State.writeCtrl, HostSt.ringOf, HostSt.setRing, hwas, hset]

/-- Setting ENABLE of an event ring that is disabled starts it empty and opens its path. -/
theorem writeCtrl_event_enabled (w : Nat) (hwas : bitN (s.port p).events.ctrl.toNat 0 = false) (hset : bitN w 0 = true) :
    s.writeCtrl p .event w = (s.setPort p { s.port p with events := { (s.port p).events with
      ctrl := BitVec.ofNat 32 (setFld w 7 1 0), live := true, prod := 0, cons := 0, units := 0 } }).openPath p := by
  simp [State.writeCtrl, HostSt.ringOf, HostSt.setRing, hwas, hset]

/-! ### Register writes (R332, R335) -/

/-- An aligned offset of the register window is the offset itself. -/
theorem aligned_toNat {n : Nat} (hlt : n < 2 ^ 16) (h4 : n % 4 = 0) : (BitVec.ofNat 16 n).toNat / 4 * 4 = n := by
  rw [BitVec.toNat_ofNat, Nat.mod_eq_of_lt hlt]
  omega

/-- A register row at an aligned offset writes there while the window is open. -/
theorem happens_registerWrite {n : Nat} (w : Word) (eff : State → State) (hlt : n < 2 ^ 16) (h4 : n % 4 = 0)
    (h : ∀ u, u.writeReg p n w.toNat = eff u) :
    Happens (fun dt => .registerWrite dt p (BitVec.ofNat 16 n) w) (fun u => u.window p = true) eff :=
  happens_meaning (fun dt => execRegisterWrite dt p (BitVec.ofNat 16 n) w) (fun _ _ => ⟨rfl, rfl⟩) fun u hw => by
    rw [if_pos hw, aligned_toNat hlt h4, h]

/-- INT_STAT: bits written 1 are cleared, but for those set in this cycle (R7). -/
theorem writeReg_intStat (w : Word) : s.writeReg p 0x0104 w.toNat = s.modPort p (fun h => { h with
    intStat := (h.intStat &&& ~~~ w) ||| (if h.intAt = s.clk / fabCk then h.intNew else 0) }) := by
  simp [State.writeReg]

/-- The mailbox and the register that an offset in the index registers leads to (R335). -/
theorem index_place (m : Fin 4) {o : Nat} (ho : o < 0x40) :
    (0x1000 + 0x40 * m.val + o - 0x1000) / 0x40 = m.val ∧ (0x1000 + 0x40 * m.val + o) % 0x40 = o := by
  omega

/-- A write among the index registers is one in its mailbox's block. -/
theorem writeReg_index (m : Fin 4) (o w : Nat) (ho : o < 0x40) :
    s.writeReg p (0x1000 + 0x40 * m.val + o) w = s.writeIndex p m.val o w := by
  have hm := m.isLt
  obtain ⟨hdiv, hmod⟩ := index_place m ho
  simp only [State.writeReg, Bool.or_eq_true, Bool.and_eq_true, decide_eq_true_eq]
  rw [if_neg (by omega), if_neg (by omega), if_neg (by omega), if_pos (by omega), hdiv, hmod]

/-! ### Register reads (R332, R335, R455) -/

/-- Past the registers of BOOT the window differs from the boot window. -/
theorem readCommon_above {off : Nat} (h : 0x0014 < off) : s.readCommon p off = none := by
  unfold State.readCommon
  split
  case h_7 => rfl
  all_goals omega

/-- Offsets 0x0000 to 0x0014 read the same in BOOT and past it. -/
theorem barRead_common {off : BitVec 16} {v : Nat} (h : s.readCommon p (off.toNat / 4 * 4) = some v) : s.barRead p off = v := by
  unfold State.barRead State.readReg State.readBoot
  simp only [h, ite_self]

/-- The window open, a read at an aligned offset is one of the register there. -/
theorem barRead_window {n : Nat} (hw : s.window p = true) (hlt : n < 2 ^ 16) (h4 : n % 4 = 0) :
    s.barRead p (BitVec.ofNat 16 n) = s.readReg p n := by
  unfold State.barRead
  rw [if_pos hw, aligned_toNat hlt h4]

/-- A read among the index registers is one in its mailbox's block. -/
theorem readReg_index (m : Fin 4) (o : Nat) (ho : o < 0x40) :
    s.readReg p (0x1000 + 0x40 * m.val + o) = (s.mb p m.val).read o := by
  have hm := m.isLt
  obtain ⟨hdiv, hmod⟩ := index_place m ho
  simp only [State.readReg, readCommon_above s p (off := 0x1000 + 0x40 * m.val + o) (by omega), Bool.and_eq_true,
    decide_eq_true_eq]
  rw [if_neg (by omega), if_neg (by omega), if_neg (by omega), if_neg (by omega), if_neg (by omega), if_neg (by omega),
    if_pos (by omega), hdiv, hmod]

/-! ### Sessions (R326, R448, R480) -/

/-- A link that is up goes down with 0x7001, and its session ends. -/
theorem linkLost_up (hup : (s.port p).linkUp = true) : s.linkLost p =
    ((s.modPort p (fun h => { h with linkUp := false, d3 := false })).fault 0x7001 17 (portIdx p)).sessionOver p :=
  if_pos hup

/-- The loss of a link that is down ends the session alone. -/
theorem linkLost_down (hdown : (s.port p).linkUp = false) : s.linkLost p = s.sessionOver p :=
  if_neg (Bool.eq_false_iff.mp hdown)

end Sys2Proof.Laws
end

section
/-! PROOFS. Registers and sessions of a host port, row by row (R6, R326, R331, R335, R341, R343, R448, R480). -/

namespace Sys2Proof.Proofs

open Sys2Proof Sys2Proof.Machine Sys2Proof.Laws

/-- Every reset of the function that is no entry to D3hot and no loss of the link returns the configuration space (R325). -/
theorem happens_hostSessionEnd_reset (p : HostPort) (why : SessionEnd) : Happens (fun dt => .hostSessionEnd dt p why)
    (fun u => u.isPcie p = true ∧ (why = .flr ∨ why = .hotReset)) (fun u => (u.sessionOver p).conventional p) := by
  refine happens_meaning (fun dt => execHostSessionEnd dt p why) (fun _ _ => ⟨rfl, rfl⟩) fun u ⟨hpcie, hwhy⟩ => ?_
  obtain rfl | rfl := hwhy <;> exact if_pos hpcie

/-- A link that is lost raises 0x7001 where it was up, in both rows that lose it, and ends the session (R326, R480). -/
theorem happens_link_lost (p : HostPort) :
    let lost := fun u : State =>
      ((u.modPort p (fun h => { h with linkUp := false, d3 := false })).fault 0x7001 17 (portIdx p)).sessionOver p
    Happens (fun dt => .hostSessionEnd dt p .linkDown) (fun u => u.isPcie p = true ∧ (u.port p).linkUp = true) lost ∧
    Happens (fun dt => .hostSessionEnd dt p .linkDown) (fun u => u.isPcie p = true ∧ (u.port p).linkUp = false)
      (fun u => u.sessionOver p) ∧
    Happens (fun dt => .hostLinkDown dt p) (fun u => (u.port p).linkUp = true) lost := by
  refine ⟨?_, ?_, ?_⟩
  · exact happens_meaning (fun dt => execHostSessionEnd dt p .linkDown) (fun _ _ => ⟨rfl, rfl⟩) fun u ⟨hpcie, hup⟩ =>
      (if_pos hpcie).trans (linkLost_up u p hup)
  · exact happens_meaning (fun dt => execHostSessionEnd dt p .linkDown) (fun _ _ => ⟨rfl, rfl⟩) fun u ⟨hpcie, hdown⟩ =>
      (if_pos hpcie).trans (linkLost_down u p hdown)
  · exact happens_meaning (fun dt => execHostLinkDown dt p) (fun _ _ => ⟨rfl, rfl⟩) fun u hup =>
      (if_pos hup).trans (linkLost_up u p hup)

/-- The reads of the register window that the statement names (R6, R332). -/
theorem barRead_registers (s : State) (p : HostPort) (hw : s.window p = true) :
    s.barRead p 0x0100#16 = (s.port p).intMap.toNat ∧ s.barRead p 0x0104#16 = (s.port p).intStat.toNat ∧
      s.barRead p 0x0020#16 = fld (s.port p).ctLatch.toNat 0 32 ∧ s.barRead p 0x0024#16 = fld (s.port p).ctLatch.toNat 32 32 := by
  refine ⟨?_, ?_, ?_, ?_⟩ <;> exact barRead_window s p hw (by decide) (by decide)

/-- CMD_TAIL reads as it stands; DOORBELL, which is written only, reads 0 (R6, R335). -/
theorem barRead_index (s : State) (p : HostPort) (hw : s.window p = true) (m : Fin 4) :
    s.barRead p (BitVec.ofNat 16 (0x1000 + 0x40 * m.val)) = (s.mb p m.val).cmdTail.toNat ∧
      s.barRead p (BitVec.ofNat 16 (0x1010 + 0x40 * m.val)) = 0 := by
  constructor
  · exact (barRead_window s p hw (by omega) (by omega)).trans (readReg_index s p m 0 (by decide))
  · rw [barRead_window s p hw (by omega) (by omega), show 0x1010 + 0x40 * m.val = 0x1000 + 0x40 * m.val + 0x10 by omega]
    exact readReg_index s p m 0x10 (by decide)

/-- Settles O16: each row by its meaning under its guard, each register by the place its offset leads to. -/
theorem registerAndSessionEventsComplete : Obligations.RegisterAndSessionEventsComplete := by
  refine ⟨?latch, ?pointOn, ?eventOn, ?ringOff, ?intStat, ?intMap, ?cmdTail, ?reset, ?d3hot, ?lost, ?upPcie, ?upEth, ?perst,
    ?perstRelease, ?aerFatal, ?dmaTimeout, ?reads⟩
  case latch => exact fun p => happens_meaning (fun dt => execCtLatch dt p) (fun _ _ => ⟨rfl, rfl⟩) fun u hw => if_pos hw
  case pointOn =>
    refine fun p w => happens_meaning (fun dt => execRingEnable dt p .point w) (fun _ _ => ⟨rfl, rfl⟩) fun u ⟨hw, hwas⟩ => ?_
    exact (if_pos hw).trans (writeCtrl_point_enabled u p _ hwas (bitN_setFld_zero_one _))
  case eventOn =>
    refine fun p w => happens_meaning (fun dt => execRingEnable dt p .event w) (fun _ _ => ⟨rfl, rfl⟩) fun u ⟨hw, hwas, hset⟩ => ?_
    exact (if_pos hw).trans (writeCtrl_event_enabled u p _ hwas hset)
  case ringOff =>
    exact fun p k w => happens_meaning (fun dt => execRingDisable dt p k w) (fun _ _ => ⟨rfl, rfl⟩) fun u hw => if_pos hw
  case intStat => exact fun p w => happens_registerWrite p w _ (by decide) (by decide) fun u => writeReg_intStat u p w
  case intMap => exact fun p w => happens_registerWrite p w _ (by decide) (by decide) fun u => rfl
  case cmdTail =>
    exact fun p m w => happens_registerWrite p w _ (by omega) (by omega) fun u => writeReg_index u p m 0 w.toNat (by decide)
  case reset => exact happens_hostSessionEnd_reset
  case d3hot =>
    exact fun p => happens_meaning (fun dt => execHostSessionEnd dt p .d3hot) (fun _ _ => ⟨rfl, rfl⟩) fun u hpcie => if_pos hpcie
  case lost => exact happens_link_lost
  case upPcie =>
    refine fun p => happens_meaning (fun dt => execHostLinkUp dt p) (fun _ _ => ⟨rfl, rfl⟩) fun u
      ⟨hmode, hpower, hpcie, hperst⟩ => ?_
    have htrains : (u.portMode p != 0 && u.domOn (28 + portIdx p) && !(u.isPcie p && (u.port p).perst)) = true := by
      simp [hmode, hpower, hperst]
    exact (if_pos htrains).trans (if_pos hpcie)
  case upEth =>
    refine fun p => happens_meaning (fun dt => execHostLinkUp dt p) (fun _ _ => ⟨rfl, rfl⟩) fun u ⟨hmode, hpower, heth⟩ => ?_
    have htrains : (u.portMode p != 0 && u.domOn (28 + portIdx p) && !(u.isPcie p && (u.port p).perst)) = true := by
      simp [hmode, hpower, heth]
    exact (if_pos htrains).trans (if_neg (Bool.eq_false_iff.mp heth))
  case perst =>
    exact fun p => happens_meaning (fun dt => execHostPerst dt p) (fun _ _ => ⟨rfl, rfl⟩) fun u hpcie =>
      (if_pos hpcie).trans (modPort_modPort _ _ _ _)
  case perstRelease =>
    exact fun p => happens_meaning (fun dt => execHostPerstRelease dt p) (fun _ _ => ⟨rfl, rfl⟩) fun u _ => rfl
  case aerFatal =>
    exact fun p => happens_meaning (fun dt => execHostAerFatal dt p) (fun _ _ => ⟨rfl, rfl⟩) fun u h =>
      if_pos (Bool.and_eq_true_iff.mpr h)
  case dmaTimeout =>
    exact fun p => happens_meaning (fun dt => execHostDmaTimeout dt p) (fun _ _ => ⟨rfl, rfl⟩) fun u h =>
      if_pos (Bool.and_eq_true_iff.mpr h)
  case reads =>
    refine fun s p => ⟨barRead_common s p rfl, barRead_common s p rfl, fun hw => ?_⟩
    obtain ⟨intMap, intStat, latchLow, latchHigh⟩ := barRead_registers s p hw
    exact ⟨intMap, intStat, latchLow, latchHigh, barRead_index s p hw⟩

end Sys2Proof.Proofs
end

section
/-! PROOFS. The OFF device and the state at power-on (R25, R26, R160, R347, R376, R444, R445). -/

namespace Sys2Proof.Laws

open Sys2Proof Sys2Proof.Machine

/-- Every row but those of the power has one shape: its time passes, and its effect happens where the device is not OFF. -/
theorem exec_runs (c : Instr) (s : State) (hc : powerRow c = false) :
    ∃ f, (otpRow c = false ∧ exec c s = run c.ticks s f) ∨ (otpRow c = true ∧ exec c s = runOtp c.ticks s f) := by
  cases c
  case powerOn | powerLoss | porstAssert | porstRelease => cases hc
  all_goals dsimp only [exec]
  case keyRotate | keyProvision | keySchedDigest | mailboxTake | msgFragment => exact ⟨_, .inr ⟨rfl, rfl⟩⟩
  all_goals exact ⟨_, .inl ⟨rfl, rfl⟩⟩

/-- As `run_off`, for the rows through which a KEY command can reach the one-time memory. -/
theorem runOtp_off (dt : Nat) (s : State) (f : State → State) (h : s.life.lcs = .off) : runOtp dt s f = .next (s.advance dt) := by
  unfold runOtp
  rw [if_pos h]
  rfl

end Sys2Proof.Laws

namespace Sys2Proof.Proofs

open Sys2Proof Sys2Proof.Machine Sys2Proof.Laws

/-- Settles O44: every row but those of the power has the shape of `run` or `runOtp`, which an OFF device passes by. -/
theorem offDeviceTakesOnlyItsPower : Obligations.OffDeviceTakesOnlyItsPower := by
  intro c s hoff hrow
  obtain ⟨f, ⟨_, hexec⟩ | ⟨_, hexec⟩⟩ := exec_runs c s hrow
  · exact hexec.trans (run_off _ s f hoff)
  · exact hexec.trans (runOtp_off _ s f hoff)

/-- Settles O45: the state OFF grants no permission and drives FAULT_N low; every table of the reset state is empty. -/
theorem resetIsOffInTheSafeState : Obligations.ResetIsOffInTheSafeState := by
  have hoff : State.reset.life.lcs = .off := rfl
  have hsafe : safeState State.reset := ⟨rfl, rfl, fun k => rfl, rfl⟩
  have hquiet : emissionOff State.reset := by simp [emissionOff, hoff]
  have hempty : ∀ i, tget 0 State.reset.emit.bEm i = 0 ∧ tget 0 State.reset.emit.bStr i = 0 := fun i => ⟨rfl, rfl⟩
  have hblank : oneActive State.reset.otp := by
    intro p j k hj _
    exact nomatch hj
  exact ⟨hoff, rfl, hsafe, hquiet, rfl, rfl, hempty, rfl, fun n => rfl, hblank⟩

end Sys2Proof.Proofs
end

section
/-! SUPPORT. Rows that meet others of their FAB_CK cycle (R27, R196): what `met` runs, said through the state that it runs on. -/

namespace Sys2Proof.Laws

open Sys2Proof Sys2Proof.Machine

variable (s : State)

/-- Two meanings that agree with and without the race in view meet the same. -/
theorem met_congr {f g : State → State} (halone : s.foreseen = {} → f s = g s)
    (hrace : f { s with race := s.foreseen } = g { s with race := s.foreseen }) : s.met f = s.met g := by
  unfold State.met
  split
  case isTrue h => exact halone h
  case isFalse => rw [hrace]

/-- A meaning that changes nothing in view of a race leaves but the race itself. -/
theorem met_idle {f : State → State} (h : s.foreseen ≠ {})
    (hidle : f { s with race := s.foreseen } = { s with race := s.foreseen }) : s.met f = { s with race := {} } := by
  rw [met_race s f h, hidle]

end Sys2Proof.Laws
end

section
/-! PROOFS. The restart button and the two timed states (R26, R29, R360, R392, R393, R396). -/

namespace Sys2Proof.Laws

open Sys2Proof Sys2Proof.Machine

/-- A press that can complete (R392): it began in SAFE HOLD, has lasted 100 ms to 5 s, and no cause for SAFE HOLD is in view. -/
def pressValid (s : State) : Bool :=
  match s.safe.press with
  | some t => t + ms 100 ≤ s.clk && s.clk ≤ t + sec 5 && s.life.lcs = .safeHold && !s.race.hold
  | none => false

/-- The button released (R392). -/
def releaseButton (s : State) : State :=
  { s with safe.button := false, safe.buttonAt := s.clk, safe.press := none }

/-- What the falling edge of a press does (R392). -/
def endPress (fb : BitVec 4) (ok : Bool) (s : State) : State :=
  if !s.safe.button then s
  else if pressValid s then (releaseButton s).completePress fb ok
  else { releaseButton s with safe.presses := (s.safe.presses + 1) % 2 ^ 16 }

/-- SAFE_RESET_PRESS meets its FAB_CK cycle and ends the press. -/
theorem safeResetPress_meaning (dt : Nat) (fb : BitVec 4) (ok : Bool) (s : State) :
    exec (.safeResetPress dt fb ok) s = execSafeResetPress dt fb ok s ∧
      execSafeResetPress dt fb ok s = run dt s (fun u => u.met (endPress fb ok)) := ⟨rfl, rfl⟩

variable {s : State} (fb : BitVec 4) (ok : Bool)

/-- A valid press completes. -/
theorem endPress_valid (hb : s.safe.button = true) (h : pressValid s = true) :
    endPress fb ok s = (releaseButton s).completePress fb ok := by
  simp [endPress, hb, h]

/-- Any other press is counted (R393). -/
theorem endPress_counted (hb : s.safe.button = true) (h : pressValid s = false) :
    endPress fb ok s = { releaseButton s with safe.presses := (s.safe.presses + 1) % 2 ^ 16 } := by
  simp [endPress, hb, h]

/-- A press that is too short or too long, outside SAFE HOLD, or met by a cause for SAFE HOLD is not valid (R27, R392). -/
theorem pressValid_false (h : ∀ t, s.safe.press = some t →
    s.clk < t + ms 100 ∨ t + sec 5 < s.clk ∨ s.life.lcs ≠ .safeHold ∨ s.race.hold = true) : pressValid s = false := by
  unfold pressValid
  split
  case h_1 t ht => rcases h t ht with h | h | h | h <;> simp [h]
  case h_2 => rfl

end Sys2Proof.Laws

namespace Sys2Proof.Proofs

open Sys2Proof Sys2Proof.Machine Sys2Proof.Laws

/-- Settles O37: each row by its meaning under its guard; a press by whether it can complete with what its FAB_CK cycle brings in view. -/
theorem restartEventsComplete : Obligations.RestartEventsComplete := by
  refine ⟨?rising, ?idleRising, ?press, ?counted, ?stuck, ?clear, ?degraded, ?session⟩
  case rising =>
    refine happens_meaning execSafeResetRisingEdge (fun _ _ => ⟨rfl, rfl⟩) fun u ⟨hb, hstart⟩ => ?_
    simp [State.modSafe, hb, hstart]
  case idleRising =>
    refine happens_meaning execSafeResetRisingEdge (fun _ _ => ⟨rfl, rfl⟩) fun u ⟨hb, hstart⟩ => ?_
    simp only [State.modSafe, hb, hstart, Bool.and_eq_true, decide_eq_true_eq, Bool.false_eq_true, if_false]
  case press =>
    refine fun t fb ok => happens_meaning (fun dt => execSafeResetPress dt fb ok) (safeResetPress_meaning · fb ok) fun u h => ?_
    obtain ⟨hb, hpress, hfrom, hto, hhold, hrace, hfore⟩ := h
    have hvalid : ∀ r : Race, r.hold = false → pressValid { u with race := r } = true := fun r hr => by
      simp [pressValid, hpress, hfrom, hto, hhold, hr]
    exact met_congr u (fun _ => endPress_valid fb ok hb (hvalid u.race hrace)) (endPress_valid fb ok hb (hvalid u.foreseen hfore))
  case counted =>
    refine fun fb ok => happens_meaning (fun dt => execSafeResetPress dt fb ok) (safeResetPress_meaning · fb ok) fun u h => ?_
    obtain ⟨hb, hnot⟩ := h
    refine met_congr u (fun halone => endPress_counted fb ok hb (pressValid_false fun t ht => ?_))
      (endPress_counted fb ok hb (pressValid_false hnot))
    have hnone : u.foreseen.hold = false := by rw [halone]
    rcases hnot t ht with h | h | h | h
    · exact .inl h
    · exact .inr (.inl h)
    · exact .inr (.inr (.inl h))
    · exact absurd h (by simp [hnone])
  case stuck =>
    refine happens_meaning execSafeResetStuck (fun _ _ => ⟨rfl, rfl⟩) fun u ⟨hb, hnew, hlong, hboot⟩ => ?_
    exact if_pos (by simp [hb, hnew, hlong, hboot])
  case clear =>
    refine happens_meaning execResetStuckClear (fun _ _ => ⟨rfl, rfl⟩) fun u ⟨hb, hset, hlow⟩ => ?_
    exact if_pos (by simp [hb, hset, hlow])
  case degraded =>
    refine fun t => happens_meaning execDegradedPeriodExpiry (fun _ _ => ⟨rfl, rfl⟩) fun u ⟨hend, hlcs, hdue⟩ => ?_
    simp [hend, hlcs, hdue]
  case session =>
    refine fun x => happens_meaning execServiceSessionTimeout (fun _ _ => ⟨rfl, rfl⟩) fun u ⟨hses, hlcs, hdue⟩ => ?_
    simp [hses, hlcs, hdue]

end Sys2Proof.Proofs
end

section
/-! PROOFS. The column boundary and the ends of warm-up and of a stop (R18, R27, R43 to R51, R102 to R111, R362). -/

namespace Sys2Proof.Laws

open Sys2Proof Sys2Proof.Machine

/-- An orderly stop that may end: its end header is delivered and every head has reported DRAINED (R51). -/
def orderlyEnd (s : State) (st : Stop) : Bool :=
  st.ended && st.header && s.allDrained

/-- The end of an orderly stop does not depend on the race in view. -/
theorem orderlyEnd_race {s : State} {st : Stop} (r : Race) (hended : st.ended = true) (hheader : st.header = true)
    (hdrained : s.allDrained = true) : orderlyEnd { s with race := r } st = true :=
  Bool.and_eq_true_iff.mpr ⟨by simp [hended, hheader], hdrained⟩

/-- A stop whose 20 ms have passed (R51). -/
def lateEnd (s : State) (st : Stop) : Bool :=
  st.since + ms 20 ≤ s.clk

/-- What the end of a stop does: where it is due and loses to no cause of its FAB_CK cycle, the stop finishes (R27, R51, R362). -/
def endStop (due : State → Stop → Bool) (timeout : Bool) (s : State) : State :=
  match s.mode.stop with
  | some st => if due s st && !s.stopLoses then s.finishStop timeout else s
  | none => s

/-- ORDERLY_STOP_COMPLETE meets its FAB_CK cycle and ends a stop that has drained. -/
theorem orderlyStopComplete_meaning (dt : Nat) (s : State) :
    exec (.orderlyStopComplete dt) s = execOrderlyStopComplete dt s ∧
      execOrderlyStopComplete dt s = run dt s (fun u => u.met (endStop orderlyEnd false)) := ⟨rfl, rfl⟩

/-- STOP_TIMEOUT meets its FAB_CK cycle and ends a stop that is late. -/
theorem stopTimeout_meaning (dt : Nat) (s : State) :
    exec (.stopTimeout dt) s = execStopTimeout dt s ∧
      execStopTimeout dt s = run dt s (fun u => u.met (endStop lateEnd true)) := ⟨rfl, rfl⟩

variable {due : State → Stop → Bool} {timeout : Bool} {s : State} {st : Stop}

/-- A stop that is due and loses to nothing finishes. -/
theorem endStop_due (hstop : s.mode.stop = some st) (hdue : due s st = true) (hwins : s.stopLoses = false) :
    endStop due timeout s = s.finishStop timeout := by
  simp [endStop, hstop, hdue, hwins]

/-- A stop that loses is not held over (R27). -/
theorem endStop_loses (h : s.stopLoses = true) : endStop due timeout s = s := by
  unfold endStop
  split
  · exact if_neg (by simp [h])
  · rfl

/-- A stop that is not a thermal one finishes and leaves the loops (R362). -/
theorem finishStop_plain (hstop : s.mode.stop = some st) (hcause : st.cause ≠ 1) :
    s.finishStop timeout = s.completeStop timeout := by
  simp [State.finishStop, hstop, hcause]

/-- After a thermal stop the loops open (R424). -/
theorem finishStop_thermal (hstop : s.mode.stop = some st) (hcause : st.cause = 1) :
    s.finishStop timeout = (s.completeStop timeout).openBoth := by
  simp [State.finishStop, hstop, hcause]

/-- With a race in view that brings neither SAFE HOLD nor DEGRADED RUN, a stop that wins still wins. -/
theorem stopLoses_race {r : Race} (h : s.stopLoses = false) (hhold : r.hold = false) (hdeg : r.degraded = false) :
    ({ s with race := r } : State).stopLoses = false := by
  have hnow : s.degradedNow = false := by
    simp only [State.stopLoses, Bool.or_eq_false_iff] at h
    exact h.1.1
  have hsame : ({ s with race := r } : State).degradedNow = s.degradedNow := rfl
  simp [State.stopLoses, hsame, hnow, hhold, hdeg]

/-- The end of a stop that is due and that nothing of its FAB_CK cycle defeats takes the effect that finishing it has. -/
theorem happens_stop_wins {mk : Nat → Instr} {cond : State → Prop} {eff : State → State} (meaning : Nat → State → Res)
    (hrow : ∀ dt s, exec (mk dt) s = meaning dt s ∧ meaning dt s = run dt s (fun u => u.met (endStop due timeout)))
    (hcond : ∀ u, cond u → u.mode.stop = some st ∧ u.stopLoses = false ∧ u.foreseen.hold = false ∧ u.foreseen.degraded = false)
    (hdue : ∀ u r, cond u → due { u with race := r } st = true)
    (heff : ∀ u, cond u → ∀ v : State, v.mode.stop = some st → v.finishStop timeout = eff v) :
    Happens mk cond (fun u => u.met eff) := by
  refine happens_meaning meaning hrow fun u hu => ?_
  obtain ⟨hstop, hwins, hhold, hdeg⟩ := hcond u hu
  refine met_congr u (fun _ => ?_) ?_
  · exact (endStop_due hstop (hdue u u.race hu) hwins).trans (heff u hu _ hstop)
  · exact (endStop_due (s := { u with race := u.foreseen }) hstop (hdue u _ hu) (stopLoses_race hwins hhold hdeg)).trans
      (heff u hu _ hstop)

/-- The end of a stop that meets a cause for SAFE HOLD or DEGRADED RUN leaves everything but the race it has met (R27). -/
theorem happens_stop_loses {mk : Nat → Instr} (meaning : Nat → State → Res)
    (hrow : ∀ dt s, exec (mk dt) s = meaning dt s ∧ meaning dt s = run dt s (fun u => u.met (endStop due timeout))) :
    Happens mk (fun u => u.foreseen.hold = true ∨ u.foreseen.degraded = true) (fun u => { u with race := {} }) := by
  refine happens_meaning meaning hrow fun u hcause => met_idle u ?_ (endStop_loses ?_)
  · intro hnone
    rw [hnone] at hcause
    simp at hcause
  · rcases hcause with h | h <;> simp [State.stopLoses, h]

end Sys2Proof.Laws

namespace Sys2Proof.Proofs

open Sys2Proof Sys2Proof.Machine Sys2Proof.Laws

/-- The boundary at which the column in progress ends (R103). -/
theorem happens_columnBoundary_running (gate : Bool) (bad : List (Fin 64)) (c : Column) :
    Happens (fun dt => .columnBoundary dt gate bad) (fun u => u.mode.cur = some c ∧ c.stop ≤ u.now)
    (fun u =>
      let v := ((u.handOver bad c).feedDumps c).applyDue
      ((v.turnSequencer (u.ahead c)).turnRest.nextColumn c gate).pulsers) := by
  refine happens_meaning (fun dt => execColumnBoundary dt gate bad) (fun _ _ => ⟨rfl, rfl⟩) fun u ⟨hcur, hdue⟩ => ?_
  simp only [hcur]
  exact if_neg (Nat.not_lt.mpr hdue)

/-- The boundary at B of a MODE.START, its warm-up over (R50). -/
theorem happens_columnBoundary_start (gate : Bool) (bad : List (Fin 64)) (ch : Change) :
    Happens (fun dt => .columnBoundary dt gate bad)
    (fun u => u.mode.cur = none ∧ u.mode.change = some ch ∧ ch.isStart = true ∧ ch.warm = true ∧ ch.b ≤ u.now)
    (fun u => (((((u.handOver bad (u.beforeStart ch)).applyDue).turnSequencer false).turnRest).startPrime ch gate).pulsers) := by
  refine happens_meaning (fun dt => execColumnBoundary dt gate bad) (fun _ _ => ⟨rfl, rfl⟩) fun u
    ⟨hcur, hchange, hstart, hwarm, hdue⟩ => ?_
  simp only [hcur, hchange]
  exact if_pos (by simp [hstart, hwarm, hdue])

/-- A boundary of the loaded schedule while no column runs (R18, R107). -/
theorem happens_columnBoundary_idle (gate : Bool) (bad : List (Fin 64)) (b : ModeBlock) (c : Column) :
    Happens (fun dt => .columnBoundary dt gate bad)
    (fun u => u.mode.cur = none ∧ u.mode.change = none ∧ u.block u.mode.mode = some b ∧ u.idleColumn u.mode.mode = some c
      ∧ u.mode.idleAt < c.stop)
    (fun u =>
      let v := (((u.handOver bad c).applyDue).turnRest.turnVariants).pulsers
      { v with mode.idleAt := c.stop, mode.prev := if v.mode.change.isSome then none else v.mode.prev }) := by
  refine happens_meaning (fun dt => execColumnBoundary dt gate bad) (fun _ _ => ⟨rfl, rfl⟩) fun u
    ⟨hcur, hchange, hblock, hcolumn, hdue⟩ => ?_
  simp only [hcur, hchange, State.idleBoundary, hblock, hcolumn]
  exact if_neg (Nat.not_le.mpr hdue)

/-- Settles O29: each boundary by the column in progress, each end of a stop by what its FAB_CK cycle brings in view. -/
theorem columnEventsComplete : Obligations.ColumnEventsComplete := by
  refine ⟨happens_columnBoundary_running, happens_columnBoundary_start, happens_columnBoundary_idle, ?warm,
    ⟨?ends, ?endsThermal, ?late, ?lateThermal⟩, ?lost, ?lateLost, fun u f => ⟨met_alone u f, met_race u f⟩⟩
  case warm => exact happens_meaning execWarmUpEnd (fun _ _ => ⟨rfl, rfl⟩) fun u _ => rfl
  case ends =>
    exact fun st => happens_stop_wins execOrderlyStopComplete orderlyStopComplete_meaning
      (fun u ⟨hstop, _, _, _, _, hwins⟩ => ⟨hstop, hwins⟩) (fun u r ⟨_, hended, hheader, hdrained, _⟩ =>
        orderlyEnd_race r hended hheader hdrained)
      fun u ⟨_, _, _, _, hcause, _⟩ v hstop => finishStop_plain hstop hcause
  case endsThermal =>
    exact fun st => happens_stop_wins execOrderlyStopComplete orderlyStopComplete_meaning
      (fun u ⟨hstop, _, _, _, _, hwins⟩ => ⟨hstop, hwins⟩) (fun u r ⟨_, hended, hheader, hdrained, _⟩ =>
        orderlyEnd_race r hended hheader hdrained)
      fun u ⟨_, _, _, _, hcause, _⟩ v hstop => finishStop_thermal hstop hcause
  case late =>
    exact fun st => happens_stop_wins execStopTimeout stopTimeout_meaning
      (fun u ⟨hstop, _, _, hwins⟩ => ⟨hstop, hwins⟩) (fun u r ⟨_, hdue, _⟩ => decide_eq_true hdue)
      fun u ⟨_, _, hcause, _⟩ v hstop => finishStop_plain hstop hcause
  case lateThermal =>
    exact fun st => happens_stop_wins execStopTimeout stopTimeout_meaning
      (fun u ⟨hstop, _, _, hwins⟩ => ⟨hstop, hwins⟩) (fun u r ⟨_, hdue, _⟩ => decide_eq_true hdue)
      fun u ⟨_, _, hcause, _⟩ v hstop => finishStop_thermal hstop hcause
  case lost => exact happens_stop_loses execOrderlyStopComplete orderlyStopComplete_meaning
  case lateLost => exact happens_stop_loses execStopTimeout stopTimeout_meaning

end Sys2Proof.Proofs
end

section
/-! PROOFS. Power, reset causes, the root PLL and its reference, and the watchdogs (R26, R434, R440 to R447, R505). -/

namespace Sys2Proof.Laws

open Sys2Proof Sys2Proof.Machine

/-- As `happens_meaning`, for the rows that an OFF device takes too. -/
theorem happensAlways_meaning {mk : Nat → Instr} {cond : State → Prop} {eff f : State → State} (meaning : Nat → State → Res)
    (hrow : ∀ dt s, exec (mk dt) s = meaning dt s ∧ meaning dt s = runAlways dt s f) (h : ∀ s, cond s → f s = eff s) :
    HappensAlways mk cond eff := by
  intro dt s hcond
  rw [(hrow dt s).1, (hrow dt s).2, runAlways_eq, h _ hcond]

variable (s : State)

/-! ### The test access port (R505) -/

/-- The state `t` is `s` but for the TAP, the free values drawn and what has left the device. -/
def TapOnly (s t : State) : Prop :=
  t = { s with power.tap := t.power.tap, free := t.free, out := t.out }

/-- One clock of the port changes nothing else. -/
theorem tapOnly_clock (k : Nat) (c : TapClock) : TapOnly s (s.tapClock k c).1 := by
  unfold State.tapClock
  dsimp only
  split <;> rfl

theorem tapOnly_trans {s t u : State} (h : TapOnly s t) (k : TapOnly t u) : TapOnly s u := by
  unfold TapOnly at *
  rw [k]
  rw [h]

/-- Nor do the clocks of the port, however many. -/
theorem tapOnly_run (l : List TapClock) : TapOnly s (s.tapRun l) := by
  have hfold : ∀ (cs : List (TapClock × Nat)) (x : State × List Bool), TapOnly s x.1 →
      TapOnly s (cs.foldl (fun x c => ((x.1.tapClock c.2 c.1).1, x.2 ++ (x.1.tapClock c.2 c.1).2)) x).1 := by
    intro cs
    induction cs with
    | nil => exact fun x h => h
    | cons c cs ih => exact fun x h => ih _ (tapOnly_trans h (tapOnly_clock _ _ _))
  unfold State.tapRun
  dsimp only
  split
  · rfl
  · exact tapOnly_trans (hfold _ (s, []) rfl) rfl

/-- The clocks of the port leave the lifecycle state. -/
theorem tapRun_life (l : List TapClock) : (s.tapRun l).life = s.life := by
  rw [tapOnly_run s l]

/-- The clocks of the port leave what PD_AON keeps of the reset causes and of boot control. -/
theorem tapRun_boot (l : List TapClock) : (s.tapRun l).power.boot = s.power.boot := by
  rw [tapOnly_run s l]

/-- PORST_N released: the TAP is reset and held, and the straps are sampled (R502, R505). -/
def porstReleased (low : PorstLow) : State :=
  { (s.tapRun low.jtag).modBoot (fun b => { b with porst := false, straps := low.straps }) with power.tap := { held := true } }

/-- PORST_RELEASE acts where PORST_N is low: in BOOT it ends the causes that wait for it, elsewhere it lets OFF be left. -/
theorem porstRelease_meaning (low : PorstLow) (dt : Nat) :
    exec (.porstRelease dt low) s = execPorstRelease dt low s ∧ execPorstRelease dt low s = runAlways dt s (fun u =>
      if !u.power.boot.porst then u
      else if u.life.lcs = .boot then (porstReleased u low).endCauses else (porstReleased u low).leaveOff) := ⟨rfl, rfl⟩

/-- The release of PORST_N leaves the lifecycle state. -/
theorem porstReleased_life (low : PorstLow) : (porstReleased s low).life = s.life := tapRun_life s low.jtag

/-- The release of PORST_N leaves the power of PD_AON. -/
theorem porstReleased_aon (low : PorstLow) : (porstReleased s low).power.boot.aon = s.power.boot.aon :=
  (congrArg (fun b : BootSt => b.aon) (tapRun_boot s low.jtag) :)

theorem porstReleased_porst (low : PorstLow) : (porstReleased s low).power.boot.porst = false := rfl

/-- With its rails good and PORST_N released the device leaves OFF for BOOT (R26, R444). -/
theorem leaveOff_porstReleased (low : PorstLow) (hoff : s.life.lcs = .off) (haon : s.power.boot.aon = true) :
    (porstReleased s low).leaveOff = ({ porstReleased s low with life.lcs := .boot } : State).endCauses :=
  if_pos (by simp [porstReleased_life, porstReleased_aon, porstReleased_porst, hoff, haon])

/-- A device that is not OFF, or whose rails are down, stays as it is. -/
theorem leaveOff_porstReleased_stays (low : PorstLow) (h : s.life.lcs ≠ .off ∨ s.power.boot.aon = false) :
    (porstReleased s low).leaveOff = porstReleased s low :=
  if_neg (by rcases h with h | h <;> simp [porstReleased_life, porstReleased_aon, h])

/-! ### Reset causes (R444) -/

/-- The last cause gone, BOOT starts. -/
theorem endCauses_last (hsome : s.power.boot.causes ≠ []) (hover : s.power.boot.causes.all s.causeOver = true) :
    s.endCauses = s.startBoot := by
  have hleft : s.power.boot.causes.filter (fun c => !s.causeOver c) = [] := by
    simpa [List.filter_eq_nil_iff] using hover
  simp [State.endCauses, hleft, hsome]

/-- A cause that stands keeps the device in reset; those that have ended are struck out. -/
theorem endCauses_some (hsome : s.power.boot.causes ≠ []) (hover : s.power.boot.causes.all s.causeOver = false) :
    s.endCauses = s.modBoot (fun b => { b with causes := s.power.boot.causes.filter (fun c => !s.causeOver c) }) := by
  have hleft : s.power.boot.causes.filter (fun c => !s.causeOver c) ≠ [] := by
    simpa [List.filter_eq_nil_iff] using hover
  simp [State.endCauses, hleft, hsome]

/-- VDD_IO counts as up again once no cause 4 is younger than 12 ms. -/
def vddIoSettled : State :=
  if s.power.boot.causes.any (fun c => c.1 = 4 && s.clk < c.2 + ms 12) = true then s else s.modBoot (fun b => { b with vddLow := false })

/-- The causes stand as they did. -/
theorem vddIoSettled_causes : (vddIoSettled s).power.boot.causes = s.power.boot.causes := by
  unfold vddIoSettled
  split <;> rfl

/-- RESET_CAUSE_END acts in BOOT, once VDD_IO is looked at. -/
theorem resetCauseEnd_meaning (dt : Nat) :
    exec (.resetCauseEnd dt) s = execResetCauseEnd dt s ∧ execResetCauseEnd dt s = run dt s (fun u =>
      if u.life.lcs = .boot then (vddIoSettled u).endCauses else u) := ⟨rfl, rfl⟩

end Sys2Proof.Laws

namespace Sys2Proof.Proofs

open Sys2Proof Sys2Proof.Machine Sys2Proof.Laws

/-- The arrival and loss of power (R26, R444, R445). -/
theorem happens_power :
    HappensAlways (fun dt => .powerOn dt) (fun u => u.life.lcs = .off ∧ u.power.boot.aon = false)
      (fun u => State.leaveOff { u with power.boot.aon := true, power.boot.cause := 1, power.boot.causes := [(1, u.clk)] }) ∧
    HappensAlways (fun dt => .powerOn dt) (fun u => u.life.lcs ≠ .off ∨ u.power.boot.aon = true) (fun u => u) ∧
    HappensAlways (fun dt => .powerLoss dt) (fun _ => True) State.powerOff := by
  refine ⟨?_, ?_, ?_⟩
  · exact happensAlways_meaning execPowerOn (fun _ _ => ⟨rfl, rfl⟩) fun u ⟨hoff, haon⟩ => if_pos (by simp [hoff, haon])
  · refine happensAlways_meaning execPowerOn (fun _ _ => ⟨rfl, rfl⟩) fun u h => if_neg ?_
    rcases h with h | h <;> simp [h]
  · exact happensAlways_meaning execPowerLoss (fun _ _ => ⟨rfl, rfl⟩) fun u _ => rfl

/-- PORST_N low is a reset cause, and lets the TAP out of its reset state (R444, R505). -/
theorem happens_porstAssert :
    HappensAlways (fun dt => .porstAssert dt) (fun u => u.power.boot.porst = false ∧ u.life.lcs ≠ .off)
      (fun u => State.resetNow { u.modBoot (fun b => { b with porst := true }) with power.tap.held := false } 2) ∧
    HappensAlways (fun dt => .porstAssert dt) (fun u => u.power.boot.porst = false ∧ u.life.lcs = .off)
      (fun u => { u.modBoot (fun b => { b with porst := true }) with power.tap.held := false }) := by
  constructor <;> refine happensAlways_meaning execPorstAssert (fun _ _ => ⟨rfl, rfl⟩) fun u ⟨hhigh, hlcs⟩ => ?_
  · simp only [hhigh, hlcs, Bool.false_eq_true, if_false]
  · simp only [hhigh, hlcs, Bool.false_eq_true, if_false, if_true]

variable (low : PorstLow)

/-- The release of PORST_N in BOOT ends the causes that wait for it (R444). -/
theorem happens_porstRelease_boot : HappensAlways (fun dt => .porstRelease dt low)
    (fun u => u.power.boot.porst = true ∧ u.life.lcs = .boot) (fun u => (porstReleased u low).endCauses) :=
  happensAlways_meaning (fun dt => execPorstRelease dt low) (fun dt s => porstRelease_meaning s low dt) fun u ⟨hlow, hboot⟩ =>
    (if_neg (by simp [hlow])).trans (if_pos hboot)

/-- The release of PORST_N brings a device whose rails are good from OFF to BOOT (R26). -/
theorem happens_porstRelease_off : HappensAlways (fun dt => .porstRelease dt low)
    (fun u => u.power.boot.porst = true ∧ u.life.lcs = .off ∧ u.power.boot.aon = true)
    (fun u => ({ porstReleased u low with life.lcs := .boot } : State).endCauses) :=
  happensAlways_meaning (fun dt => execPorstRelease dt low) (fun dt s => porstRelease_meaning s low dt) fun u ⟨hlow, hoff, haon⟩ =>
    (if_neg (by simp [hlow])).trans ((if_neg (by simp [hoff])).trans (leaveOff_porstReleased u low hoff haon))

/-- Elsewhere the release of PORST_N samples the straps and does no more (R502). -/
theorem happens_porstRelease_stays : HappensAlways (fun dt => .porstRelease dt low)
    (fun u => u.power.boot.porst = true ∧ u.life.lcs ≠ .boot ∧ (u.life.lcs ≠ .off ∨ u.power.boot.aon = false))
    (fun u => porstReleased u low) :=
  happensAlways_meaning (fun dt => execPorstRelease dt low) (fun dt s => porstRelease_meaning s low dt) fun u ⟨hlow, hboot, hstays⟩ =>
    (if_neg (by simp [hlow])).trans ((if_neg hboot).trans (leaveOff_porstReleased_stays u low hstays))

/-- Settles O20: each row by its meaning under its guard; the release of PORST_N past the clocks of the TAP, which leave
what it looks at. -/
theorem resetAndClockEventsComplete : Obligations.ResetAndClockEventsComplete := by
  obtain ⟨hon, hagain, hloss⟩ := happens_power
  obtain ⟨hlow, hlowOff⟩ := happens_porstAssert
  refine ⟨hon, hagain, hloss, hlow, hlowOff, ?release, ?releaseOff, ?releaseStays, ?vddIo, ⟨?lastCause, ?someCause⟩, ?lock, ?unlock,
    ?lost, ?lostIdle, ?refclk, ?holdover, ?reference, ?safety, ?start, ?app, ?appThird, ?restart, ?restartTrip⟩
  case release => exact happens_porstRelease_boot
  case releaseOff => exact happens_porstRelease_off
  case releaseStays => exact happens_porstRelease_stays
  case vddIo => exact happens_meaning execVddIoLow (fun _ _ => ⟨rfl, rfl⟩) fun u _ => rfl
  case lastCause =>
    refine happens_meaning execResetCauseEnd (fun dt s => resetCauseEnd_meaning s dt) fun u ⟨hboot, hsome, hover⟩ => ?_
    exact (if_pos hboot).trans (endCauses_last _ (by rwa [vddIoSettled_causes]) (by rw [vddIoSettled_causes]; exact hover))
  case someCause =>
    refine happens_meaning execResetCauseEnd (fun dt s => resetCauseEnd_meaning s dt) fun u ⟨hboot, hsome, hover⟩ => ?_
    rw [if_pos hboot, endCauses_some _ (by rwa [vddIoSettled_causes]) (by rw [vddIoSettled_causes]; exact hover), vddIoSettled_causes]
    rfl
  case lock =>
    exact happens_meaning execRootPllLock (fun _ _ => ⟨rfl, rfl⟩) fun u ⟨hpll, hporst, href⟩ => if_neg (by simp [hpll, hporst, href])
  case unlock => exact happens_meaning execRootPllUnlock (fun _ _ => ⟨rfl, rfl⟩) fun u hpll => if_pos hpll
  case lost =>
    refine happens_meaning execRefclkLost (fun _ _ => ⟨rfl, rfl⟩) fun u ⟨href, hself⟩ => ?_
    simp [href, hself]
  case lostIdle =>
    refine happens_meaning execRefclkLost (fun _ _ => ⟨rfl, rfl⟩) fun u ⟨href, hother⟩ => ?_
    simp [href, hother]
  case refclk => exact happens_meaning execRefclkReturn (fun _ _ => ⟨rfl, rfl⟩) fun u _ => rfl
  case holdover =>
    refine fun t => happens_meaning execRefclkHoldoverExpired (fun _ _ => ⟨rfl, rfl⟩) fun u ⟨hlost, hdue⟩ => ?_
    simp [hlost, hdue]
  case reference =>
    refine fun t => happens_meaning execReferenceHoldoverEnd (fun _ _ => ⟨rfl, rfl⟩) fun u ⟨hhold, hdue⟩ => ?_
    simp [hhold, hdue]
  case safety =>
    exact happens_meaning execSafetyWatchdog (fun _ _ => ⟨rfl, rfl⟩) fun u hnone => if_pos (List.isEmpty_iff.mpr hnone)
  case start =>
    refine fun t => happens_meaning execStartWatchdog (fun _ _ => ⟨rfl, rfl⟩) fun u ⟨hstarted, hboot, hdue⟩ => ?_
    simp only [hstarted, hboot, hdue, decide_true, Bool.and_self, if_true]
    cases hhost : u.power.boot.hostImg <;> simp [hhost, State.noteFailure, State.modBoot]
  case app =>
    refine happens_meaning execAppWatchdog (fun _ _ => ⟨rfl, rfl⟩) fun u ⟨hboot, happ, hup, hfew⟩ => ?_
    refine (if_neg (by simp [hboot, happ, hup])).trans (if_neg ?_)
    rw [List.length_cons]
    omega
  case appThird =>
    refine happens_meaning execAppWatchdog (fun _ _ => ⟨rfl, rfl⟩) fun u ⟨hboot, happ, hup, hmany⟩ => ?_
    refine (if_neg (by simp [hboot, happ, hup])).trans (if_pos ?_)
    rw [List.length_cons]
    omega
  case restart =>
    refine happens_meaning execAppRestartDone (fun _ _ => ⟨rfl, rfl⟩) fun u ⟨hdown, happ, htrip⟩ => ?_
    simp [hdown, happ, htrip]
  case restartTrip =>
    refine happens_meaning execAppRestartDone (fun _ _ => ⟨rfl, rfl⟩) fun u ⟨hdown, happ, htrip⟩ => ?_
    simp [hdown, happ, htrip]

end Sys2Proof.Proofs
end

section
/-! PROOFS. The boot ROM, its images and the self-test (R26, R394, R451 to R456). -/

namespace Sys2Proof.Laws

open Sys2Proof Sys2Proof.Machine

/-- A slot that fails its check raises 0xA008; an authentic image passed over is noted (R453, R456). -/
def slotRejected (s : State) (k : Nat) : State :=
  if s.imageOk (s.fwSlot k) then s.noteFailure k else s.fault 0xA008 15 k

/-- The image read from a slot starts, or the slot is rejected and the other one is tried once (R453). -/
def slotLoaded (s : State) : State :=
  let b := s.power.boot
  if s.slotOk b.slot then s.startImage (s.fwSlot b.slot) false
  else if b.tried.contains (1 - b.slot) then (slotRejected s b.slot).noSlot 6
  else ((slotRejected s b.slot).modBoot (fun b' => { b' with fault := 4 + b.slot })).trySlot (1 - b.slot)

/-- IMAGE_LOADED acts in BOOT, on a host image in PHASE 4 and on a slot in PHASE 3 before boot fault 0x06. -/
theorem imageLoaded_meaning (dt : Nat) (s : State) :
    exec (.imageLoaded dt) s = execImageLoaded dt s ∧ execImageLoaded dt s = run dt s (fun u =>
      if u.life.lcs != .boot then u
      else if u.power.boot.phase = 4 then
        (if u.imageOk u.power.boot.image then u.startImage u.power.boot.image true
         else u.modBoot (fun b => { b with fault := 0x0A, phase := 8, image := [], total := 0 }))
      else if u.power.boot.phase = 3 && u.power.boot.fault != 6 then slotLoaded u else u) := ⟨rfl, rfl⟩

/-- A host image is judged as it stands (R455). -/
theorem happens_hostImage {cond : State → Prop} {eff : State → State}
    (hcond : ∀ u, cond u → u.life.lcs = .boot ∧ u.power.boot.phase = 4)
    (h : ∀ u, cond u → (if u.imageOk u.power.boot.image then u.startImage u.power.boot.image true
      else u.modBoot (fun b => { b with fault := 0x0A, phase := 8, image := [], total := 0 })) = eff u) :
    Happens (fun dt => .imageLoaded dt) cond eff := by
  refine happens_meaning execImageLoaded imageLoaded_meaning fun u hu => ?_
  obtain ⟨hboot, hphase⟩ := hcond u hu
  exact (if_neg (by simp [hboot])).trans ((if_pos hphase).trans (h u hu))

/-- A slot is judged while the ROM reads it (R453). -/
theorem happens_slotImage {cond : State → Prop} {eff : State → State}
    (hcond : ∀ u, cond u → u.life.lcs = .boot ∧ u.power.boot.phase = 3 ∧ u.power.boot.fault ≠ 6)
    (h : ∀ u, cond u → slotLoaded u = eff u) : Happens (fun dt => .imageLoaded dt) cond eff := by
  refine happens_meaning execImageLoaded imageLoaded_meaning fun u hu => ?_
  obtain ⟨hboot, hphase, hfault⟩ := hcond u hu
  exact (if_neg (by simp [hboot])).trans ((if_neg (by simp [hphase])).trans
    ((if_pos (by simp [hphase, hfault])).trans (h u hu)))

variable (s : State)

/-- An authentic slot starts (R452). -/
theorem slotLoaded_ok (hok : s.slotOk s.power.boot.slot = true) :
    slotLoaded s = s.startImage (s.fwSlot s.power.boot.slot) false :=
  if_pos hok

/-- A slot that is rejected leads to the other one where that has not been tried. -/
theorem slotLoaded_next (hbad : s.slotOk s.power.boot.slot = false)
    (hnew : s.power.boot.tried.contains (1 - s.power.boot.slot) = false) :
    slotLoaded s = ((slotRejected s s.power.boot.slot).modBoot
      (fun b => { b with fault := 4 + s.power.boot.slot })).trySlot (1 - s.power.boot.slot) :=
  (if_neg (Bool.eq_false_iff.mp hbad)).trans (if_neg (Bool.eq_false_iff.mp hnew))

/-- After both slots the ROM stops with boot fault 0x06. -/
theorem slotLoaded_none (hbad : s.slotOk s.power.boot.slot = false)
    (hboth : s.power.boot.tried.contains (1 - s.power.boot.slot) = true) :
    slotLoaded s = (slotRejected s s.power.boot.slot).noSlot 6 :=
  (if_neg (Bool.eq_false_iff.mp hbad)).trans (if_pos hboth)

/-- The boot window of a port takes BOOT_GO: the ROM waits for a host image, and the port's PCI Express domain is out of reset (R455). -/
theorem bootGo_open {p : HostPort} (hboot : s.life.lcs = .boot) (hphase : s.power.boot.phase = 8) (hpcie : s.isPcie p = true)
    (hon : s.domOn (28 + portIdx p) = true) (hperst : (s.port p).perst = false) :
    (s.life.lcs = .boot && s.power.boot.phase = 8 && s.isPcie p && s.domOn (28 + portIdx p) && !(s.port p).perst) = true := by
  simp [hboot, hphase, hpcie, hon, hperst]

/-- SELF_TEST_COMPLETE acts in PHASE 6 before boot fault 0x08 (R394). -/
theorem selfTest_open (hboot : s.life.lcs = .boot) (hphase : s.power.boot.phase = 6) (hfault : s.power.boot.fault ≠ 8) :
    ¬(s.life.lcs != .boot || s.power.boot.phase != 6 || s.power.boot.fault = 8) = true := by
  simp [hboot, hphase, hfault]

end Sys2Proof.Laws

namespace Sys2Proof.Proofs

open Sys2Proof Sys2Proof.Machine Sys2Proof.Laws

/-- Settles O22: an image by what the ROM reads and how it judges it, the host image by its way in, the self-test by its outcome. -/
theorem bootImageEventsComplete : Obligations.BootImageEventsComplete := by
  refine ⟨?host, ?hostBad, ?slot, ?slotNext, ?slotNone, ?go, ?goTimeout, ?datagram, ?passed, ?failed⟩
  case host => exact happens_hostImage (fun u ⟨hboot, hphase, _⟩ => ⟨hboot, hphase⟩) fun u ⟨_, _, hok⟩ => if_pos hok
  case hostBad =>
    exact happens_hostImage (fun u ⟨hboot, hphase, _⟩ => ⟨hboot, hphase⟩) fun u ⟨_, _, hbad⟩ =>
      if_neg (Bool.eq_false_iff.mp hbad)
  case slot =>
    exact happens_slotImage (fun u ⟨hboot, hphase, hfault, _⟩ => ⟨hboot, hphase, hfault⟩) fun u ⟨_, _, _, hok⟩ =>
      slotLoaded_ok u hok
  case slotNext =>
    exact happens_slotImage (fun u ⟨hboot, hphase, hfault, _⟩ => ⟨hboot, hphase, hfault⟩) fun u ⟨_, _, _, hbad, hnew⟩ =>
      slotLoaded_next u hbad hnew
  case slotNone =>
    exact happens_slotImage (fun u ⟨hboot, hphase, hfault, _⟩ => ⟨hboot, hphase, hfault⟩) fun u ⟨_, _, _, hbad, hboth⟩ =>
      slotLoaded_none u hbad hboth
  case go =>
    exact fun p l => happens_meaning (fun dt => execBootGo dt p (some l)) (fun _ _ => ⟨rfl, rfl⟩) fun u
      ⟨hboot, hphase, hpcie, hon, hperst⟩ => if_pos (bootGo_open u hboot hphase hpcie hon hperst)
  case goTimeout =>
    exact fun p => happens_meaning (fun dt => execBootGo dt p none) (fun _ _ => ⟨rfl, rfl⟩) fun u
      ⟨hboot, hphase, hpcie, hon, hperst⟩ => if_pos (bootGo_open u hboot hphase hpcie hon hperst)
  case datagram =>
    refine fun p src bytes => happens_meaning (fun dt => execBootDatagram dt p src bytes) (fun _ _ => ⟨rfl, rfl⟩) fun u
      ⟨heth, hboot, hkind, hmin, hmax⟩ => ?_
    exact (if_neg (by simp [heth])).trans (if_pos (by simp [hboot, hkind, hmin, hmax]))
  case passed =>
    refine fun res => happens_meaning (fun dt => execSelfTestComplete dt res) (fun _ _ => ⟨rfl, rfl⟩) fun u
      ⟨hboot, hphase, hfault, hstored, hcmp, hecc, hosc, hgate, hfb, hfaultN⟩ => ?_
    have hpass : (res.comparator && res.secded && res.oscillator && res.gateLow && res.safeFbOff && res.faultN) = true := by
      simp [hcmp, hecc, hosc, hgate, hfb, hfaultN]
    refine (if_neg (selfTest_open u hboot hphase hfault)).trans ((if_pos hpass).trans (congrArg State.enterHold (if_neg ?_)))
    simpa using Option.isSome_iff_ne_none.mp hstored
  case failed =>
    refine fun res => happens_meaning (fun dt => execSelfTestComplete dt res) (fun _ _ => ⟨rfl, rfl⟩) fun u
      ⟨hboot, hphase, hfault, hfail⟩ => ?_
    exact (if_neg (selfTest_open u hboot hphase hfault)).trans (if_neg (Bool.eq_false_iff.mp hfail))

end Sys2Proof.Proofs
end

section
/-! SUPPORT. Command rows that meet others of their FAB_CK cycle (R27, R196), and those whose response waits (R366, R370). -/

namespace Sys2Proof.Laws

open Sys2Proof Sys2Proof.Machine

/-- A row that is alone in its FAB_CK cycle is served as it stands. -/
theorem completesAlone_of_act (mk : Nat → Req → Instr) (d : CmdDef) (cond : State → Ctx → Prop) (eff : State → Ctx → State)
    (a dout : State → Ctx → List Byte) (hw : d.writesOtp = false)
    (hexec : ∀ dt r s, exec (mk dt r) s = run dt s (fun u => u.met (State.command d r)))
    (hact : ∀ u c, cond u c → d.act u c = { st := eff u c, a := a u c, dout := dout u c }) :
    CompletesAlone mk d cond eff a dout :=
  completesWhen_of_act _ mk d cond eff a dout (fun dt r s halone => by
    rw [hexec, run_met_alone dt s _ halone, if_neg (Bool.eq_false_iff.mp hw)]) hact

/-- A row that meets its FAB_CK cycle is served with what the cycle brings in view. -/
theorem meetsRace_of_exec (mk : Nat → Req → Instr) (d : CmdDef)
    (hexec : ∀ dt r s, exec (mk dt r) s = run dt s (fun u => u.met (State.command d r))) : MeetsRace mk d := by
  intro dt r s hs hrace
  rw [hexec, run_awake dt s _ hs, met_race _ _ hrace]

/-- An admitted row that answers no data completes with its answer, whatever that waits for. -/
theorem command_answers (mk : Nat → Req → Instr) (d : CmdDef) (hw : d.writesOtp = false)
    (hexec : ∀ dt r s, exec (mk dt r) s = run dt s (State.command d r)) (dt : Nat) (r : Req) (s : State) (a : Ans) (hs : awake s)
    (hadm : Admitted d r (s.advance dt)) (hact : d.act (evalState d r (s.advance dt)) (ctxFor d r) = a) (hdout : a.dout = []) :
    exec (mk dt r) s = .next (after dt s (answered d r (s.advance dt) a)) := by
  have hlen : (evalState d r (s.advance dt)).lengthCheck (ctxFor d r) a = a := if_neg (by simp [hdout])
  rw [hexec, run_awake dt s _ hs, command_admitted d r _ hadm, hact, hlen]
  simp [afterKeep, after, answered, hw]

end Sys2Proof.Laws
end

section
/-! PROOFS. The commands of the classes DEV, MODE and SERVICE (R29, R44 to R50, R359 to R362). -/

namespace Sys2Proof.Laws

open Sys2Proof Sys2Proof.Machine

variable (u : State) (c : Ctx)

/-- MODE.START is accepted where its mode, its instant and every condition of the device hold (R50, R359). -/
theorem modeStart_act (hmode : (modeParams (c.p 0 1)).isSome = true) (hinstant : u.badStart (c.p 4 8) (ms 5) = false)
    (hstop : u.mode.stop = none) (husable : u.usable (c.p 0 1) = true) (hfits : u.sliceFits = true)
    (haligned : u.chain.aligned = true) (hlocked : u.scan.a.locked = true) (hclosed : u.scan.b.st = .closed)
    (hisland : u.islandReady = true) (hsupply : u.supplyOk = true) (hmeasure : u.canMeasure (c.p 0 1) = true) :
    cmdModeStart.act u c = (u.acceptStart (c.p 0 1) (c.p 4 8)).ok := by
  have hknown : modeParams (c.p 0 1) ≠ none := Option.isSome_iff_ne_none.mp hmode
  simp [cmdModeStart, hknown, hinstant, hstop, husable, hfits, haligned, hlocked, hclosed, hisland, hsupply, hmeasure]

/-- MODE.STOP is accepted while columns run and none is stopping (R51). -/
theorem modeStop_act (hrun : u.running = true) (hstop : u.mode.stop = none) :
    cmdModeStop.act u c = (u.acceptStop 0 (u.life.lcs == .degraded)).ok :=
  if_pos (by simp [hrun, hstop])

/-- MODE.STOP has no effect in STANDBY and while a stop runs (R29, R362). -/
theorem modeStop_act_idle (h : u.running = false ∨ u.mode.stop ≠ none) : cmdModeStop.act u c = u.ok :=
  if_neg (by rcases h with h | h <;> simp [h])

/-- MODE.SET past its checks: the running mode has no effect, another one is accepted where it is loaded (R46, R359). -/
theorem modeSet_act (hmode : (modeParams (c.p 0 1)).isSome = true) (hinstant : u.badStart (c.p 4 8) (us 2500) = false)
    (hstop : u.mode.stop = none) (hchange : u.mode.change = none) :
    cmdModeSet.act u c = if c.p 0 1 = u.mode.mode then u.ok else if !u.loaded (c.p 0 1) then u.fail stBadState
      else (u.acceptSet (c.p 0 1) (c.p 4 8)).ok := by
  have hknown : modeParams (c.p 0 1) ≠ none := Option.isSome_iff_ne_none.mp hmode
  simp [cmdModeSet, hknown, hinstant, hstop, hchange]

/-- SERVICE.ENTER opens a session of the seconds that it names, 300 for 0 (R360). -/
theorem serviceEnter_act (hsecs : c.p 0 2 = 0 ∨ (10 ≤ c.p 0 2 ∧ c.p 0 2 ≤ 3600)) (hstop : u.mode.stop = none) :
    cmdServiceEnter.act u c =
      (let secs := if c.p 0 2 = 0 then 300 else c.p 0 2
       State.toState { u with life.session := some { entry := c.e, secs := secs, exp := u.clk + sec secs } } .service).ok := by
  have hrange : (c.p 0 2 != 0 && (decide (c.p 0 2 < 10) || decide (3600 < c.p 0 2))) = false := by
    rcases hsecs with h | ⟨hmin, hmax⟩
    · simp [h]
    · simp [Nat.not_lt.mpr hmin, Nat.not_lt.mpr hmax]
  exact (if_neg (Bool.eq_false_iff.mp hrange)).trans (if_neg (by simp [hstop]))

/-- SERVICE.PROOF queues its shot on the service grid (R359, R360). -/
theorem serviceProof_act (hstr : c.p 0 1 ≤ 63) (hpat : c.p 1 1 ≤ 63) (hmode : (modeParams (c.p 2 1)).isSome = true)
    (hkept : u.retired 6 (c.p 0 1) = false) (hpresent : u.present (c.p 0 1) = true) (husable : u.usable (c.p 2 1) = true)
    (hisland : u.islandReady = true) :
    cmdServiceProof.act u c = State.ok { u with emit.service := u.emit.service ++
      [{ str := c.p 0 1, pat := c.p 1 1, mode := c.p 2 1, slot := u.nextServiceSlot, driven := none }] } := by
  have hknown : modeParams (c.p 2 1) ≠ none := Option.isSome_iff_ne_none.mp hmode
  simp [cmdServiceProof, Nat.not_lt.mpr hstr, Nat.not_lt.mpr hpat, hknown, hkept, hpresent, husable, hisland]

/-- MODE.STATUS answers its record (R359). -/
theorem modeStatus_act : cmdModeStatus.act u c =
    u.ok (bytesOf 1 (if u.running || u.mode.change.isSome then u.mode.mode else u.mode.ranMode)
      ++ bytesOf 1 (b2n u.mode.change.isSome + 2 * b2n u.mode.stop.isSome)
      ++ bytesOf 2 (if u.running then u.mode.variants else u.variantWord).toNat
      ++ bytesOf 8 (match u.mode.change with | some c => c.b | none => u.mode.lastB)
      ++ bytesOf 8 (match u.mode.change with | some c => c.d | none => u.mode.lastD)
      ++ bytesOf 4 u.mode.lastFrame ++ bytesOf 2 u.mode.lastCol) := by
  cases hc : u.mode.change <;> simp [cmdModeStatus, hc]

/-- A start, a change or a session finds no state that takes it where its FAB_CK cycle brings a cause for SAFE HOLD (R27). -/
theorem states_race (h : u.race.hold = true) :
    cmdModeStart.states u c = false ∧ cmdModeSet.states u c = false ∧ cmdServiceEnter.states u c = false := by
  simp [cmdModeStart, cmdModeSet, cmdServiceEnter, h]

end Sys2Proof.Laws

namespace Sys2Proof.Proofs

open Sys2Proof Sys2Proof.Machine Sys2Proof.Laws

/-- Settles O1: each row by what its act answers past its own conditions. -/
theorem deviceModeAndServiceCommandsComplete : Obligations.DeviceModeAndServiceCommandsComplete := by
  refine ⟨?identify, ?status, ?reset, ?start, ?stop, ?stopIdle, ?set, ?setSame, ?modeStatus, ?enter, ?exit, ?proof,
    meetsRace_of_exec _ _ fun _ _ _ => rfl, meetsRace_of_exec _ _ fun _ _ _ => rfl, meetsRace_of_exec _ _ fun _ _ _ => rfl,
    states_race⟩
  case identify | status | reset | exit => exact completes_of_act _ _ _ _ _ _ (fun _ _ _ => rfl) fun _ _ _ => rfl
  case start =>
    refine completesAlone_of_act _ _ _ _ _ _ rfl (fun _ _ _ => rfl) fun u c h => ?_
    obtain ⟨hmode, hinstant, hstop, husable, hfits, haligned, hlocked, hclosed, hisland, hsupply, hmeasure⟩ := h
    exact modeStart_act u c hmode hinstant hstop husable hfits haligned hlocked hclosed hisland hsupply hmeasure
  case stop => exact completes_of_act _ _ _ _ _ _ (fun _ _ _ => rfl) fun u c ⟨hrun, hstop⟩ => modeStop_act u c hrun hstop
  case stopIdle => exact completes_of_act _ _ _ _ _ _ (fun _ _ _ => rfl) fun u c h => modeStop_act_idle u c h
  case set =>
    refine completesAlone_of_act _ _ _ _ _ _ rfl (fun _ _ _ => rfl) fun u c ⟨hmode, hinstant, hstop, hchange, hother, hloaded⟩ => ?_
    rw [modeSet_act u c hmode hinstant hstop hchange, if_neg hother, if_neg (by simp [hloaded])]
    rfl
  case setSame =>
    refine completesAlone_of_act _ _ _ _ _ _ rfl (fun _ _ _ => rfl) fun u c ⟨hmode, hinstant, hstop, hchange, hsame⟩ => ?_
    rw [modeSet_act u c hmode hinstant hstop hchange, if_pos hsame]
    rfl
  case modeStatus => exact completes_of_act _ _ _ _ _ _ (fun _ _ _ => rfl) fun u c _ => modeStatus_act u c
  case enter =>
    exact completesAlone_of_act _ _ _ _ _ _ rfl (fun _ _ _ => rfl) fun u c ⟨hsecs, hstop⟩ => serviceEnter_act u c hsecs hstop
  case proof =>
    refine completes_of_act _ _ _ _ _ _ (fun _ _ _ => rfl) fun u c ⟨hstr, hpat, hmode, hkept, hpresent, husable, hisland⟩ => ?_
    exact serviceProof_act u c hstr hpat hmode hkept hpresent husable hisland

end Sys2Proof.Proofs
end

section
/-! PROOFS. The commands of the classes EMIT, LEDGER and PWR (R23, R24, R160, R163, R170, R363 to R367). -/

namespace Sys2Proof.Laws

open Sys2Proof Sys2Proof.Machine

variable (u : State) (c : Ctx)

/-! ### EMIT and LEDGER (R160, R163, R170) -/

/-- The string words of an EMIT.CONFIG block (R170). -/
def stringWords (l : List Byte) : Tab Word :=
  (List.range 64).foldl (fun t i => tput 0x00FC4000#32 t i (BitVec.ofNat 32 (leAt l (4 + 4 * i) 4))) []

/-- EMIT.CONFIG keeps the words of a block whose every word is in its range, and in SERVICE they come into force (R170). -/
theorem emitConfig_act (hlen : c.din.length = 260) (hword : emissionBad (leAt c.din 0 4) = none)
    (hstrs : ∀ i < 64, stringBad (leAt c.din 0 4) (leAt c.din (4 + 4 * i) 4) = none) :
    cmdEmitConfig.act u c =
      (let kept : State := { u with emit.wordSet := BitVec.ofNat 32 (leAt c.din 0 4), emit.strSet := stringWords c.din }
       if u.life.lcs = .service then
         State.ok ((State.pruneTherm { kept with
           emit.word := BitVec.ofNat 32 (leAt c.din 0 4), emit.strWord := stringWords c.din }).chargeAll)
       else kept.ok) := by
  have hnone : (List.range 64).findSome? (fun i =>
      (stringBad (leAt c.din 0 4) (leAt c.din (4 + 4 * i) 4)).map (fun j => 4 + 4 * i + j)) = none := by
    rw [List.findSome?_eq_none_iff]
    intro i hi
    rw [hstrs i (List.mem_range.mp hi), Option.map_none]
  have hl : (c.din.length != 260) = false := by simp [hlen]
  simp only [cmdEmitConfig, hl, hword, hnone, Bool.false_eq_true, if_false]
  rfl

/-- LEDGER.SET takes a block of shares in range, where the flash can be written (R160, R163). -/
theorem ledgerSet_act (hlen : c.din.length = 1040) (hshares : sharesBad c.din = none) (hflash : u.flashAllowed = true) :
    cmdLedgerSet.act u c =
      (State.startJob { u with emit.shares := sharesOf c.din, emit.bEm := [], emit.bStr := [], emit.bDev := 0 } c (.shares c.din)).ok := by
  simp [cmdLedgerSet, hlen, hshares, hflash]

/-! ### PWR (R23, R24, R366, R367) -/

/-- Every domain that PWR.SET names can be named, in one mask alone, and its power keeps the rules (R23, R24, R367). -/
def pwrTaken : Prop :=
  (∀ d < 34, bitN (c.p 0 5) d = true → bitN (c.p 8 5) d = false ∧ nameable d = true)
    ∧ (∀ d < 34, bitN (c.p 8 5) d = true → nameable d = true) ∧ u.pwrRefused (c.p 0 5) (c.p 8 5) = false

/-- The state with the domains of the OFF mask removed, in reverse order (R23, R437). -/
def pwrRemoved : State :=
  (powerOrder.reverse.filter (fun d => bitN (c.p 8 5) d)).foldl State.domOff (if bitN (c.p 8 5) 30 then u.monOff else u)

/-- The domains of the ON mask that are not on yet (R366). -/
def pwrWaits : Nat :=
  maskOf ((List.range 34).filter (fun d => bitN (c.p 0 5) d && !(pwrRemoved u c).domOn d))

/-- The state in which the domains of the ON mask follow one after another (R437). -/
def pwrPowered : State :=
  State.rampNext { pwrRemoved u c with
    power.toPower := (pwrRemoved u c).power.toPower ++ powerOrder.filter (fun d => bitN (c.p 0 5) d && !(pwrRemoved u c).powering d) }

/-- No domain of PWR.SET is refused by its name. -/
theorem pwrTaken_named (h : pwrTaken u c) :
    (List.range 34).find? (fun d => bitN (c.p 0 5) d && (bitN (c.p 8 5) d || !nameable d)) = none ∧
      (List.range 34).find? (fun d => bitN (c.p 8 5) d && !nameable d) = none := by
  obtain ⟨hon, hoff, _⟩ := h
  simp only [List.find?_eq_none, List.mem_range, Bool.and_eq_true, Bool.or_eq_true, Bool.not_eq_true', not_and]
  constructor
  · intro d hd hbit
    simp [hon d hd hbit]
  · intro d hd hbit
    simp [hoff d hd hbit]

/-- PWR.SET powers the named domains, and its response waits for those that are not on (R366). -/
theorem pwrSet_act (h : pwrTaken u c) :
    cmdPwrSet.act u c = { st := pwrPowered u c, pwr := if pwrWaits u c = 0 then none else some (pwrWaits u c) } := by
  obtain ⟨hon, hoff⟩ := pwrTaken_named u c h
  obtain ⟨_, _, hrules⟩ := h
  simp only [cmdPwrSet, hon, hoff, hrules, Bool.false_eq_true, if_false]
  rfl

end Sys2Proof.Laws

namespace Sys2Proof.Proofs

open Sys2Proof Sys2Proof.Machine Sys2Proof.Laws

/-- Settles O3: each row by what its act answers; PWR.SET by whether its response waits for a domain. -/
theorem emissionLedgerAndPowerCommandsComplete : Obligations.EmissionLedgerAndPowerCommandsComplete := by
  refine ⟨?emit, ?emitService, ?emitStatus, ?ledger, ?ledgerStatus, ⟨?power, ?powerWaits⟩, ?powerStatus⟩
  case emit =>
    refine completes_of_act _ _ _ _ _ _ (fun _ _ _ => rfl) fun u c ⟨hlen, hword, hstrs, hlcs⟩ => ?_
    exact (emitConfig_act u c hlen hword hstrs).trans (if_neg hlcs)
  case emitService =>
    refine completes_of_act _ _ _ _ _ _ (fun _ _ _ => rfl) fun u c ⟨hlen, hword, hstrs, hlcs⟩ => ?_
    exact (emitConfig_act u c hlen hword hstrs).trans (if_pos hlcs)
  case ledger =>
    exact completes_of_act _ _ _ _ _ _ (fun _ _ _ => rfl) fun u c ⟨hlen, hshares, hflash⟩ => ledgerSet_act u c hlen hshares hflash
  case emitStatus | ledgerStatus | powerStatus => exact completes_of_act _ _ _ _ _ _ (fun _ _ _ => rfl) fun _ _ _ => rfl
  case power =>
    refine completes_of_act _ _ _ _ _ _ (fun _ _ _ => rfl) fun u c ⟨hnames, hnone⟩ => ?_
    have hwaits : pwrWaits u c = 0 := hnone
    rw [pwrSet_act u c hnames, if_pos hwaits]
    rfl
  case powerWaits =>
    intro dt r s hs hadm u c hnames hsome
    have hwaits : pwrWaits u c ≠ 0 := hsome
    exact command_answers .pwrSet cmdPwrSet rfl (fun _ _ _ => rfl) dt r s _ hs hadm
      ((pwrSet_act u c hnames).trans (by rw [if_neg hwaits]; rfl)) rfl

end Sys2Proof.Proofs
end

section
/-! PROOFS. The shot sequencer and the ledger (R36, R38, R48, R129, R139 to R151, R154 to R163, R166). -/

namespace Sys2Proof.Laws

open Sys2Proof Sys2Proof.Machine

/-! ### Shot instants (R36, R48, R129) -/

/-- A slot of an active column whose shot instant has come is neither past the column's slots nor early. -/
theorem slot_due {c : Column} {n k at_ now : Nat} (hactive : c.active = true) (hslot : k < n) (hdue : at_ ≤ now) :
    ¬ (!c.active || decide (n ≤ k) || decide (now < at_)) = true := by
  simp [hactive, hslot, hdue]

/-- A home column or a listen column is active. -/
theorem active_of_kind {c : Column} (h : c.kind = .home ∨ c.kind = .listen) : c.active = true := by
  rcases h with h | h <;> simp [Column.active, h]

/-! ### Service proofs (R154, R155, R360) -/

variable {s : State} {p : ServProof} (hnext : s.nextService = some p) (hlcs : s.life.lcs = .service)
include hnext hlcs

/-- The SHOT frame of a service proof that is due leaves with permission, for a string that is not retired. -/
theorem frameService_due (hnew : p.framed = false) (hdue : p.slot ≤ s.now + 600 * ticksPerNs) :
    s.frameService = if s.permittedService && !s.retired 6 p.str then
      (s.modService p { p with framed := true }).sendShot [(p.str, p.pat, true)] else s.modService p { p with framed := true } := by
  simp only [State.frameService, hnext]
  exact if_neg (by simp [hlcs, hnew, hdue])

/-- The decision of a service proof that is due: without permission, or for a retired string, nothing is debited or suppressed. -/
theorem decideService_due (hframed : p.framed = true) (hnew : p.paid = none) (hdue : p.slot ≤ s.now + 40 * ticksPerNs) :
    s.decideService =
      let v : State := { s.refillDue with emit.debits := 0 }
      if s.permittedService && !s.retired 6 p.str then
        if v.payable p.str (v.litBy p.str p.pat true) (v.costOf p.mode p.str true) then
          (v.pay p.str (v.litBy p.str p.pat true) (v.costOf p.mode p.str true)).modService p { p with paid := some true }
        else { (v.suppress p.str).modService p { p with paid := some false } with emit.supSlot := 0 }
      else v.modService p { p with paid := some false } := by
  simp only [State.decideService, hnext]
  rw [if_neg (by simp [hlcs, hframed, hnew, hdue])]
  cases hperm : s.permittedService <;> cases hret : s.retired 6 p.str <;> rfl

end Sys2Proof.Laws

namespace Sys2Proof.Proofs

open Sys2Proof Sys2Proof.Machine Sys2Proof.Laws

/-- The SHOT frames of a slot leave while permission stands (R150, R154). -/
theorem happens_shotFrame_permitted (w : Work) : Happens (fun dt => .shotFrame dt)
    (fun u => u.work = some w ∧ u.emit.framed = false ∧ w.t0 ≤ u.now + 600 * ticksPerNs ∧ u.permitted = true)
    (fun u => State.sendShot { u with
      emit.framed := true, emit.supSlot := 0
      emit.pats := (u.planOf w).foldl (fun (t : Tab Nat) (p : Nat × Nat × Bool) => tput 0 t p.1 (p.2.1 + 1)) []
      emit.proofs := BitVec.ofNat 64 (maskOf (((u.planOf w).filter (fun p => p.2.2)).map Prod.fst)) } (u.planOf w)) := by
  refine happens_meaning execShotFrame (fun _ _ => ⟨rfl, rfl⟩) fun u ⟨hwork, hnew, hdue, hperm⟩ => ?_
  simp only [hwork, hperm, if_true]
  exact if_neg (by simp [hnew, hdue])

/-- Without permission the plan of a slot is empty and no frame leaves (R150, R155). -/
theorem happens_shotFrame_forbidden (w : Work) : Happens (fun dt => .shotFrame dt)
    (fun u => u.work = some w ∧ u.emit.framed = false ∧ w.t0 ≤ u.now + 600 * ticksPerNs ∧ u.permitted = false)
    (fun u => { u with emit.framed := true, emit.pats := [], emit.supSlot := 0, emit.proofs := BitVec.ofNat 64 (maskOf []) }) := by
  refine happens_meaning execShotFrame (fun _ _ => ⟨rfl, rfl⟩) fun u ⟨hwork, hnew, hdue, hperm⟩ => ?_
  simp only [hwork, hperm, Bool.false_eq_true, if_false]
  exact if_neg (by simp [hnew, hdue])

/-- Settles O30: each row by its meaning under its guard; a shot instant by the column in progress, a service proof by what its slot
finds due. -/
theorem shotEventsComplete : Obligations.ShotEventsComplete := by
  refine ⟨happens_shotFrame_permitted, happens_shotFrame_forbidden, ⟨?proofFrame, ?proofSilent, ?proofDecision⟩, ?decision, ?listen,
    ?home, ?apart, ?esns, ?current, ?readback, ?quiet, ?hold, ?reservoir, ?charge, ?refill, ?aged, ?proofShot⟩
  case proofFrame =>
    refine fun p => happens_meaning execShotFrame (fun _ _ => ⟨rfl, rfl⟩) fun u ⟨⟨hwork, hnext, hlcs⟩, hnew, hdue, hperm, hret⟩ => ?_
    simp only [hwork, frameService_due hnext hlcs hnew hdue]
    exact if_pos (by simp [hperm, hret])
  case proofSilent =>
    refine fun p => happens_meaning execShotFrame (fun _ _ => ⟨rfl, rfl⟩) fun u ⟨⟨hwork, hnext, hlcs⟩, hnew, hdue, hnot⟩ => ?_
    simp only [hwork, frameService_due hnext hlcs hnew hdue]
    exact if_neg (by rcases hnot with h | h <;> simp [h])
  case proofDecision =>
    refine fun p => happens_meaning execLedgerDecision (fun _ _ => ⟨rfl, rfl⟩) fun u ⟨⟨hwork, hnext, hlcs⟩, hframed, hnew, hdue⟩ => ?_
    simp only [hwork]
    exact decideService_due hnext hlcs hframed hnew hdue
  case decision =>
    refine fun w => happens_meaning execLedgerDecision (fun _ _ => ⟨rfl, rfl⟩) fun u ⟨hwork, hframed, hnew, hdue⟩ => ?_
    simp only [hwork]
    exact if_neg (by simp [hframed, hnew, hdue])
  case listen =>
    refine fun c => happens_meaning execShotInstant (fun _ _ => ⟨rfl, rfl⟩) fun u ⟨hcur, hkind, hsame, hslot, hdue⟩ => ?_
    simp only [hcur, if_neg (slot_due (active_of_kind (.inr hkind)) hslot hdue), hsame, hkind, Bool.false_eq_true, if_false, if_true]
  case home =>
    refine fun c => happens_meaning execShotInstant (fun _ _ => ⟨rfl, rfl⟩) fun u ⟨hcur, hkind, hsame, hslot, hdue, hdec⟩ => ?_
    have hhome : c.kind ≠ .listen := by simp [hkind]
    simp only [hcur, if_neg (slot_due (active_of_kind (.inl hkind)) hslot hdue), hsame, hdec, if_neg hhome, Bool.not_true,
      Bool.false_eq_true, if_false]
  case apart =>
    refine fun c => happens_meaning execShotInstant (fun _ _ => ⟨rfl, rfl⟩) fun u ⟨hcur, hactive, hother, hslot, hdue⟩ => ?_
    simp only [hcur, if_neg (slot_due hactive hslot hdue), hother, if_true]
  case esns => exact fun sensed => happens_meaning (fun dt => execEsnsCheck dt sensed) (fun _ _ => ⟨rfl, rfl⟩) fun _ _ => rfl
  case current =>
    refine fun i => happens_meaning (fun dt => execUncommandedCurrent dt i) (fun _ _ => ⟨rfl, rfl⟩) fun u ⟨hpower, hcut⟩ => ?_
    exact if_pos (by simp [hpower, hcut])
  case readback =>
    exact fun i => happens_meaning (fun dt => execGateReadback dt i) (fun _ _ => ⟨rfl, rfl⟩) fun u hpower => if_pos hpower
  case quiet =>
    refine fun code i => happens_meaning (fun dt => execEmissionFaultEnd dt code i) (fun _ _ => ⟨rfl, rfl⟩) fun u ⟨hcode, hquiet⟩ => ?_
    simp only [hquiet]
    rcases hcode with rfl | rfl | ⟨rfl, hover⟩
    · exact if_pos (by simp)
    · exact if_pos (by simp)
    · exact if_pos (by simp [hover])
  case hold =>
    refine fun l => happens_meaning (fun dt => execHoldFrame dt l) (fun _ _ => ⟨rfl, rfl⟩) fun u ⟨hlcs, hperm, hlast, hfree⟩ => ?_
    exact if_pos (by simp [hlcs, hperm, hlast, hfree])
  case reservoir =>
    refine fun i v => happens_meaning (fun dt => execReservoirComparator dt i v) (fun _ _ => ⟨rfl, rfl⟩) fun u hpower => ?_
    exact if_neg (by simp [hpower])
  case charge =>
    refine fun i => happens_meaning (fun dt => execChargeTimeout dt i) (fun _ _ => ⟨rfl, rfl⟩) fun u ⟨hchg, hlong⟩ => ?_
    exact if_pos (by simp [hchg, hlong])
  case refill =>
    refine fun obs ecc => happens_meaning (fun dt => execRefillTick dt obs ecc) (fun _ _ => ⟨rfl, rfl⟩) fun u hdue => ?_
    exact if_neg (Nat.not_le.mpr hdue)
  case aged =>
    exact fun e => happens_meaning (fun dt => execDiagnosisAgeExpired dt e) (fun _ _ => ⟨rfl, rfl⟩) fun u hage => if_pos hage
  case proofShot =>
    refine fun p => happens_meaning execServiceProofShot (fun _ _ => ⟨rfl, rfl⟩) fun u ⟨hnext, hlcs, hpaid, hdue⟩ => ?_
    simp only [hnext]
    exact if_pos (by simp [hlcs, Option.isSome_iff_ne_none.mpr hpaid, hdue])

end Sys2Proof.Proofs
end

section
/-! PROOFS. The front end and the tiles (R57 to R72, R81 to R111). -/

namespace Sys2Proof.Laws

open Sys2Proof Sys2Proof.Machine

/-! ### Correction tables (R85 to R87) -/

/-- The interpolator of a channel's path (R82). -/
def pathInt (x : Chan) : TdcPath → Interp
  | .L => x.intL
  | .H => x.intH

/-- The hits of a count over all stages (R85). -/
def hitsOf (h : Tab Nat) : Nat :=
  sumTo 40 (fun k => tget 0 h k)

/-- The hits of a channel's path, those of the calibration pulser among them (R85, R87). -/
def pathHits (s : State) (c : Nat) (path : TdcPath) : Tab Nat :=
  s.gathered c (pathInt (s.chan c) path)

/-- The count of a channel's path restarts, with the table that it gave for the next boundary, if any (R85). -/
def countRestarted (s : State) (c : Nat) (path : TdcPath) (next : Option (List Nat)) : State :=
  State.modChan { s with free := s.free + 41 } c (fun x => x.modInt path (fun i => i.restart (s.pulseTime (secOf c)) next))

/-- CAL_TABLE_COMPUTE acts where the sector is on and the count is full: a share out of range is 0x2003, else the table is kept for the
next boundary (R85, R86). -/
theorem calTableCompute_meaning (c : Fin 1024) (path : TdcPath) (dt : Nat) (s : State) :
    exec (.calTableCompute dt c path) s = execCalTableCompute dt c path s ∧ execCalTableCompute dt c path s = run dt s (fun u =>
      if !u.secOn (secOf c.val) || hitsOf (pathHits u c.val path) < 65536 then u
      else if stageBad (pathHits u c.val path) (hitsOf (pathHits u c.val path)) then
        (countRestarted u c.val path none).fault 0x2003 1 c.val
      else countRestarted u c.val path (some (newTable (pathHits u c.val path) (hitsOf (pathHits u c.val path))))) := by
  cases path <;> exact ⟨rfl, rfl⟩

/-! ### Columns (R18, R66, R107) -/

/-- While a column runs, it is the column that the decision instant and cycle −1 belong to. -/
theorem columnNow_cur {s : State} {col : Column} (h : s.mode.cur = some col) : s.columnNow = some col := by
  simp only [State.columnNow, h]

end Sys2Proof.Laws

namespace Sys2Proof.Proofs

open Sys2Proof Sys2Proof.Machine Sys2Proof.Laws

/-- A crossing of a channel in service is timed and counted by its edge (R82 to R84). -/
theorem happens_crossing (edge : TdcEdge) (c : Fin 1024) (path : TdcPath) (stage : Fin 40) (ecc : RiseEcc) :
    Happens (fun dt => .comparatorCrossing dt c path edge stage ecc) (fun u => u.chanOn c.val = true)
      (fun u => match edge with
        | .rise => u.rise c.val path stage.val ecc
        | .fall => u.fall c.val path stage.val) :=
  happens_meaning (fun dt => execComparatorCrossing dt c path edge stage ecc) (fun _ _ => ⟨rfl, rfl⟩)
    fun u hon => if_neg (by simp [hon])

/-- A full count whose shares are in range gives the table for the next boundary (R85, R86). -/
theorem happens_calTable_kept (path : TdcPath) (c : Fin 1024) (h : Tab Nat) : Happens (fun dt => .calTableCompute dt c path)
    (fun u => u.secOn (secOf c.val) = true ∧ pathHits u c.val path = h ∧ 65536 ≤ hitsOf h ∧ stageBad h (hitsOf h) = false)
    (fun u => countRestarted u c.val path (some (newTable h (hitsOf h)))) := by
  refine happens_meaning (fun dt => execCalTableCompute dt c path) (fun dt s => calTableCompute_meaning c path dt s)
    fun u ⟨hon, hhits, hfull, hgood⟩ => ?_
  rw [hhits]
  exact (if_neg (by simp [hon, hfull])).trans (if_neg (Bool.eq_false_iff.mp hgood))

/-- A full count with a share out of range restarts and raises 0x2003 (R86). -/
theorem happens_calTable_bad (path : TdcPath) (c : Fin 1024) (h : Tab Nat) : Happens (fun dt => .calTableCompute dt c path)
    (fun u => u.secOn (secOf c.val) = true ∧ pathHits u c.val path = h ∧ 65536 ≤ hitsOf h ∧ stageBad h (hitsOf h) = true)
    (fun u => (countRestarted u c.val path none).fault 0x2003 1 c.val) := by
  refine happens_meaning (fun dt => execCalTableCompute dt c path) (fun dt s => calTableCompute_meaning c path dt s)
    fun u ⟨hon, hhits, hfull, hbad⟩ => ?_
  rw [hhits]
  exact (if_neg (by simp [hon, hfull])).trans (if_pos hbad)

/-- A count that is not full goes on (R85). -/
theorem happens_calTable_short (path : TdcPath) (c : Fin 1024) : Happens (fun dt => .calTableCompute dt c path)
    (fun u => hitsOf (pathHits u c.val path) < 65536) (fun u => u) :=
  happens_meaning (fun dt => execCalTableCompute dt c path) (fun dt s => calTableCompute_meaning c path dt s)
    fun _ hshort => if_pos (by simp [hshort])

/-- Settles O28: each row by its meaning under its guard, a correction table for either path of a channel alike. -/
theorem tileEventsComplete : Obligations.TileEventsComplete := by
  refine ⟨happens_crossing .rise, happens_crossing .fall, ?out, happens_calTable_kept .L, happens_calTable_kept .H,
    happens_calTable_bad .L, happens_calTable_bad .H, ?short, ?unlock, ?preDetector, ?decision, ?decided, ?check,
    fun _ _ => columnNow_cur⟩
  case out =>
    exact fun c path edge stage ecc => happens_meaning (fun dt => execComparatorCrossing dt c path edge stage ecc)
      (fun _ _ => ⟨rfl, rfl⟩) fun u hout => if_pos (by simp [hout])
  case short =>
    intro c path
    cases path
    · exact happens_calTable_short .L c
    · exact happens_calTable_short .H c
  case unlock =>
    exact fun t => happens_meaning (fun dt => execTileDllUnlock dt t) (fun _ _ => ⟨rfl, rfl⟩) fun u ⟨hon, hkept, hlocked⟩ =>
      if_pos (by simp [hon, hkept, hlocked])
  case preDetector =>
    refine fun col => happens_meaning execPreDetector (fun _ _ => ⟨rfl, rfl⟩) fun u ⟨hcur, hactive, hclosed⟩ => ?_
    simp only [hcur]
    exact if_pos (by simp [hactive, hclosed])
  case decision =>
    refine fun col obs => happens_meaning (fun dt => execDecisionInstant dt obs) (fun _ _ => ⟨rfl, rfl⟩)
      fun u ⟨hcol, hnew, hdue⟩ => ?_
    simp only [hcol]
    exact if_neg (by simp [hnew, hdue])
  case decided =>
    refine fun obs => happens_meaning (fun dt => execDecisionInstant dt obs) (fun _ _ => ⟨rfl, rfl⟩) fun u hdecided => ?_
    cases hcol : u.columnNow with
    | none => rfl
    | some col => exact if_pos (by simp [hdecided])
  case check =>
    refine fun col notEmpty act => happens_meaning (fun dt => execWritePipelineCheck dt notEmpty act) (fun _ _ => ⟨rfl, rfl⟩)
      fun u ⟨hcol, hnew, hdue⟩ => ?_
    simp only [hcol]
    exact if_neg (by simp [hnew, hdue])

end Sys2Proof.Proofs
end

section
/-! PROOFS. The commands of the classes FE, POINT and CAL (R73 to R78, R116 to R118, R363, R364). -/

namespace Sys2Proof.Laws

open Sys2Proof Sys2Proof.Machine

variable (u : State) (c : Ctx)

/-- FE.CONFIG past its word's range: the named sectors take the word, in SERVICE at once (R73, R74, R77). -/
theorem feConfig_act (hword : feBad (c.p 4 4) = none) :
    cmdFeConfig.act u c =
      (let put := fun (t : Tab Word) =>
        (onesOf 8 (c.p 0 1)).foldl (fun v k => tput 0x0000039C#32 v k (BitVec.ofNat 32 (c.p 4 4))) t
       State.ok { u with
        front.cfgSet := put u.front.cfgSet
        front.cfg := if u.life.lcs = .service then put u.front.cfg else u.front.cfg }) := by
  simp only [cmdFeConfig, hword]

/-- Every trim word that FE.TRIM brings has its six bits alone, and a retired channel stays masked (R75, R76, R363). -/
def trimsTaken : Prop :=
  ∀ i < c.p 2 2, leAt c.din (4 * i) 4 < 64 ∧
    (u.retired 1 (c.p 0 2 + i) = true → bitN (leAt c.din (4 * i) 4) 5 = false →
      bitN (tget 0#32 u.front.trimSet (c.p 0 2 + i)).toNat 5 = false)

/-- FE.TRIM finds no word to refuse among those that can be taken. -/
theorem trimsTaken_find (h : trimsTaken u c) :
    (List.range (c.p 2 2)).find? (fun i => 64 ≤ leAt c.din (4 * i) 4) = none ∧
      (List.range (c.p 2 2)).find? (fun i => u.retired 1 (c.p 0 2 + i) && !bitN (leAt c.din (4 * i) 4) 5
        && bitN (tget 0#32 u.front.trimSet (c.p 0 2 + i)).toNat 5) = none := by
  simp only [List.find?_eq_none, List.mem_range, decide_eq_true_eq, Nat.not_le, Bool.and_eq_true, Bool.not_eq_true', not_and,
    Bool.not_eq_true, and_imp]
  exact ⟨fun i hi => (h i hi).1, fun i hi => (h i hi).2⟩

/-- FE.TRIM writes the words of its channels, in SERVICE in force at once (R75 to R77). -/
theorem feTrim_act (hlen : c.din.length = 4 * c.p 2 2) (h : trimsTaken u c) :
    cmdFeTrim.act u c =
      (let put := fun (t : Tab Word) => (List.range (c.p 2 2)).foldl (fun v i =>
        tput 0#32 v (c.p 0 2 + i) (BitVec.ofNat 32 (leAt c.din (4 * i) 4))) t
       State.ok { u with
        front.trimSet := put u.front.trimSet
        front.trim := if u.life.lcs = .service then put u.front.trim else u.front.trim }) := by
  obtain ⟨hwidth, hmask⟩ := trimsTaken_find u c h
  have hl : (c.din.length != 4 * c.p 2 2) = false := by simp [hlen]
  simp only [cmdFeTrim, hl, hwidth, hmask, Bool.false_eq_true, if_false]

/-- POINT.CONFIG keeps a word in range (R117, R118). -/
theorem pointConfig_act (hrange : fld (c.p 0 4) 0 16 ≤ 1000) (hbit : bitN (c.p 0 4) 16 = true) :
    cmdPointConfig.act u c = State.ok { u with front.pointSet := BitVec.ofNat 32 (c.p 0 4) } :=
  (if_neg (Nat.not_lt.mpr hrange)).trans (if_neg (by simp [hbit]))

/-- CAL.LOAD keeps a block in range and starts its flash write, where the flash can be written (R116, R364). -/
theorem calLoad_act (hlen : c.din.length = 12596) (hblock : calBad c.din = none) (hflash : u.flashAllowed = true) :
    cmdCalLoad.act u c = (State.startJob { u with front.calSet := some c.din } c (.cal c.din)).ok := by
  simp [cmdCalLoad, hlen, hblock, hflash]

end Sys2Proof.Laws

namespace Sys2Proof.Proofs

open Sys2Proof Sys2Proof.Machine Sys2Proof.Laws

/-- Settles O2: each row by what its act answers past its own conditions. -/
theorem frontEndPointAndCalibrationCommandsComplete : Obligations.FrontEndPointAndCalibrationCommandsComplete := by
  refine ⟨?config, ?trim, ?status, ?point, ?pointStatus, ?cal, ?calStatus⟩
  case config => exact completes_of_act _ _ _ _ _ _ (fun _ _ _ => rfl) fun u c hword => feConfig_act u c hword
  case trim => exact completes_of_act _ _ _ _ _ _ (fun _ _ _ => rfl) fun u c ⟨hlen, htrims⟩ => feTrim_act u c hlen htrims
  case status | pointStatus | calStatus => exact completes_of_act _ _ _ _ _ _ (fun _ _ _ => rfl) fun _ _ _ => rfl
  case point => exact completes_of_act _ _ _ _ _ _ (fun _ _ _ => rfl) fun u c ⟨hrange, hbit⟩ => pointConfig_act u c hrange hbit
  case cal =>
    exact completes_of_act _ _ _ _ _ _ (fun _ _ _ => rfl) fun u c ⟨hlen, hblock, hflash⟩ => calLoad_act u c hlen hblock hflash

end Sys2Proof.Proofs
end

section
/-! PROOFS. Correction tables with a share out of range, and the spacings of signatures (R85, R86, R91, R142). -/

namespace Sys2Proof.Laws

open Sys2Proof Sys2Proof.Machine

/-- An event row whose effect is known happens so under any condition that implies its own, the effect written alike there. -/
theorem happens_under {mk : Nat → Instr} {cond cond' : State → Prop} {eff eff' : State → State} (h : Happens mk cond eff)
    (hcond : ∀ u, cond' u → cond u) (heff : ∀ u, cond' u → eff u = eff' u) : Happens mk cond' eff' := by
  intro dt s hs hc
  rw [h dt s hs (hcond _ hc), heff _ hc]

/-! ### Shares of a correction table (R86) -/

/-- The share of stage `k` in a count, 1 where all stages hold alike: h[k] × 40 ÷ n (R86). -/
def stageShare (h : Tab Nat) (k : Nat) : Rat :=
  ((tget 0 h k * 40 : Nat) : Rat) / (hitsOf h : Nat)

/-- Some stage's share lies outside 0.25 to 1.75 (R86). -/
def badShare (h : Tab Nat) : Prop :=
  ∃ k < 40, stageShare h k < 1 / 4 ∨ 7 / 4 < stageShare h k

variable {h : Tab Nat}

/-- The model holds a share against 0.25 in whole hits. -/
theorem stageShare_lt_quarter (hpos : 0 < hitsOf h) (k : Nat) : stageShare h k < 1 / 4 ↔ 160 * tget 0 h k < hitsOf h := by
  have hn : (0 : Rat) < hitsOf h := Nat.cast_pos.mpr hpos
  rw [stageShare, div_lt_iff₀ hn, ← Nat.cast_lt (α := Rat)]
  push_cast
  constructor <;> intro hlow <;> linarith

/-- The model holds a share against 1.75 in whole hits. -/
theorem seven_quarters_lt_stageShare (hpos : 0 < hitsOf h) (k : Nat) : 7 / 4 < stageShare h k ↔ 7 * hitsOf h < 160 * tget 0 h k := by
  have hn : (0 : Rat) < hitsOf h := Nat.cast_pos.mpr hpos
  rw [stageShare, lt_div_iff₀ hn, ← Nat.cast_lt (α := Rat)]
  push_cast
  constructor <;> intro hhigh <;> linarith

/-- The model's check of a count finds exactly the shares outside 0.25 to 1.75 (R86). -/
theorem stageBad_iff (hpos : 0 < hitsOf h) : stageBad h (hitsOf h) = true ↔ badShare h := by
  simp only [stageBad, badShare, List.any_eq_true, List.mem_range, Bool.or_eq_true, decide_eq_true_eq, stageShare_lt_quarter hpos,
    seven_quarters_lt_stageShare hpos]

/-- A count restarts from the interpolator that stands there. -/
theorem countRestarted_of_pathInt {u : State} {c : Nat} {path : TdcPath} {i : Interp} (hint : pathInt (u.chan c) path = i)
    (next : Option (List Nat)) : countRestarted u c path next = State.modChan { u with free := u.free + 41 } c
      (fun x => x.modInt path (fun _ => i.restart (u.pulseTime (secOf c)) next)) := by
  subst hint
  cases path <;> exact modChan_congr _ _ _ _ rfl

/-! ### Spacings of the signatures (R91, R142) -/

/-- Spacings of different signatures lie at least the table's step of 48 ticks apart. -/
theorem sigmaOf_apart {a b : Nat} (hab : a ≠ b) : 48 ≤ |(sigmaOf a : Int) - sigmaOf b| := by
  rw [le_abs]
  simp only [sigmaOf]
  rcases Nat.lt_or_gt_of_ne hab with hlt | hgt
  · right
    omega
  · left
    omega

/-- A gap within ±16 ticks of two spacings brings them within 32 ticks of each other. -/
theorem abs_sub_le_of_near {x y d : Nat} (hx : d ≤ x + 16 ∧ x ≤ d + 16) (hy : d ≤ y + 16 ∧ y ≤ d + 16) :
    |(x : Int) - y| ≤ 32 := by
  rw [abs_le]
  omega

end Sys2Proof.Laws

namespace Sys2Proof.Proofs

open Sys2Proof Sys2Proof.Machine Sys2Proof.Laws

/-- The interpolator `i` stands in a channel's path, in a powered sector, and its count `h` is full (R85). -/
def fullCount (c : Fin 1024) (path : TdcPath) (i : Interp) (h : Tab Nat) (u : State) : Prop :=
  pathInt (u.chan c.val) path = i ∧ u.secOn (secOf c.val) = true ∧ u.gathered c.val i = h ∧ 65536 ≤ hitsOf h

/-- A full count is one of the channel's path. -/
theorem pathHits_of_fullCount {c : Fin 1024} {path : TdcPath} {i : Interp} {h : Tab Nat} {u : State} (hu : fullCount c path i h u) :
    u.secOn (secOf c.val) = true ∧ pathHits u c.val path = h ∧ 65536 ≤ hitsOf h := by
  obtain ⟨hint, hon, hhits, hfull⟩ := hu
  refine ⟨hon, ?_, hfull⟩
  rw [pathHits, hint, hhits]

/-- The tables of a full count with a bad share stay as they are, and 0x2003 is raised against the channel (R85, R86). -/
theorem happens_table_refused (path : TdcPath) (c : Fin 1024) (i : Interp) (h : Tab Nat) (hbad : badShare h) :
    Happens (fun dt => .calTableCompute dt c path) (fullCount c path i h)
      (fun u => (State.modChan { u with free := u.free + 41 } c.val
        (fun x => x.modInt path (fun _ => i.restart (u.pulseTime (secOf c.val)) none))).fault 0x2003 1 c.val) := by
  refine happens_under (happens_calTable_bad path c h) (fun u hu => ?_) fun u ⟨hint, _⟩ => by
    rw [countRestarted_of_pathInt hint]
  obtain ⟨hon, hhits, hfull⟩ := pathHits_of_fullCount hu
  exact ⟨hon, hhits, hfull, (stageBad_iff (by omega)).mpr hbad⟩

/-- The table of a full count with every share in range waits for the boundary (R85, R86). -/
theorem happens_table_waits (path : TdcPath) (c : Fin 1024) (i : Interp) (h : Tab Nat) (hgood : ¬badShare h) :
    Happens (fun dt => .calTableCompute dt c path) (fullCount c path i h)
      (fun u => State.modChan { u with free := u.free + 41 } c.val
        (fun x => x.modInt path (fun _ => i.restart (u.pulseTime (secOf c.val)) (some (newTable h (hitsOf h)))))) := by
  refine happens_under (happens_calTable_kept path c h) (fun u hu => ?_) fun u ⟨hint, _⟩ =>
    countRestarted_of_pathInt hint _
  obtain ⟨hon, hhits, hfull⟩ := pathHits_of_fullCount hu
  exact ⟨hon, hhits, hfull, Bool.eq_false_iff.mpr fun hb => hgood ((stageBad_iff (by omega)).mp hb)⟩

/-- Settles O54: the model's check in whole hits is that of the shares, for either path of a channel alike. -/
theorem tableWithABadShareIsRefused : Obligations.TableWithABadShareIsRefused :=
  ⟨happens_table_refused .L, happens_table_refused .H, happens_table_waits .L, happens_table_waits .H⟩

/-- Settles O57: the table's values, and the step of 48 ticks against the 32 that two windows of ±16 span. -/
theorem signatureSpacingsStayApart : Obligations.SignatureSpacingsStayApart := by
  refine ⟨rfl, rfl, rfl, rfl, fun a b hab => sigmaOf_apart hab, fun a b d hab hle hge hnear => ?_⟩
  have hclose : |(sigmaOf a : Int) - sigmaOf b| ≤ 32 := abs_sub_le_of_near ⟨hle, hge⟩ hnear
  have hapart : 48 ≤ |(sigmaOf a : Int) - sigmaOf b| := sigmaOf_apart hab
  omega

end Sys2Proof.Proofs
end

section
/-! PROOFS. Engine runs, guards and the schedule store (R104, R205, R213, R221, R239 to R243, R247). -/

namespace Sys2Proof.Proofs

open Sys2Proof Sys2Proof.Machine Sys2Proof.Laws

/-- The part of the store that a sector's staging reads: the image of the next variant (R213). -/
def stagedPart (u : State) (k : Fin 8) : Nat :=
  storeIdx u.mode.mode k.val (min 2 (u.runVariant k.val + 1))

/-- A staging that meets a damaged part, or one being restored, leaves the staged banks as they are, whatever the sector (R213, R242). -/
theorem happens_staging_damaged (k : Fin 8) : Happens (fun dt => .stagingComplete dt k false)
    (fun u => u.sched.damaged.contains (stagedPart u k) = true ∨ u.sched.restore.any (fun r => r.1 = stagedPart u k) = true)
    (fun u => u) := by
  refine happens_meaning (fun dt => execStagingComplete dt k false) (fun _ _ => ⟨rfl, rfl⟩) fun u hpart => ?_
  by_cases hidle : (!u.secOn k.val || (u.sector k.val).staged) = true
  · exact if_pos hidle
  · exact (if_neg hidle).trans (if_pos (Bool.or_eq_true_iff.mpr hpart))

/-- What a load whose file has arrived ends in (R239 to R243). -/
def loadEnded (l : Load) (u : State) : State :=
  if !(keyKnown u.otp.sched l.file && signedOk l.file) then u.endLoad.sayLoaded 0xFF {} (leAt l.file 8 4)
  else
    match validate u.power.boot.ifl (fileSet l.file) with
    | some (r, p) => u.endLoad.sayLoaded r p (leAt l.file 8 4)
    | none => ((u.endLoad.takeSet (fileSet l.file)).persistSet l).sayLoaded 0 {} (leAt l.file 8 4)

/-- SCHED_LOAD_DONE ends the load whose file has arrived. -/
theorem happens_schedLoadDone (l : Load) : Happens (fun dt => .schedLoadDone dt)
    (fun u => u.sched.load = some l ∧ l.whole = true) (loadEnded l) := by
  refine happens_meaning execSchedLoadDone (fun _ _ => ⟨rfl, rfl⟩) fun u ⟨hload, hwhole⟩ => ?_
  simp only [hload, hwhole]
  rfl

/-- Settles O41: each row by its meaning under its guard; the end of a load by what the signature and the validators find. -/
theorem scheduleEventsComplete : Obligations.ScheduleEventsComplete := by
  refine ⟨?start, ?landing, ?slotEnd, ?staged, happens_staging_damaged, ?eccBad, ?scrub, ?restored, ?unsigned, ?invalid, ?taken⟩
  case start =>
    refine fun col => happens_meaning execEngineRunStart (fun _ _ => ⟨rfl, rfl⟩) fun u ⟨hprev, hnew, hdue⟩ => ?_
    simp only [hprev]
    exact if_neg (by simp [hnew, hdue])
  case landing =>
    refine fun e cyc => happens_meaning (fun dt => execResultLanding dt e) (fun _ _ => ⟨rfl, rfl⟩) fun u hcyc => ?_
    simp only [hcyc]
  case slotEnd =>
    refine fun k cyc => happens_meaning (fun dt => execGuardSlotEnd dt k) (fun _ _ => ⟨rfl, rfl⟩) fun u ⟨hcyc, hend⟩ => ?_
    simp only [hcyc]
    exact if_pos hend
  case staged =>
    refine fun k => happens_meaning (fun dt => execStagingComplete dt k false) (fun _ _ => ⟨rfl, rfl⟩)
      fun u ⟨hon, hnew, hsound, hwhole⟩ => ?_
    exact (if_neg (by simp [hon, hnew])).trans (if_neg (Bool.eq_false_iff.mp (Bool.or_eq_false_iff.mpr ⟨hsound, hwhole⟩)))
  case eccBad =>
    refine fun k => happens_meaning (fun dt => execStagingComplete dt k true) (fun _ _ => ⟨rfl, rfl⟩) fun u ⟨hon, hnew⟩ => ?_
    exact if_neg (by simp [hon, hnew])
  case scrub =>
    refine fun found => happens_meaning (fun dt => execStoreScrub dt found) (fun _ _ => ⟨rfl, rfl⟩) fun u hset => ?_
    exact if_neg (by simp [hset])
  case restored =>
    exact fun idx => happens_meaning (fun dt => execStoreRestoreDone dt idx) (fun _ _ => ⟨rfl, rfl⟩) fun _ _ => rfl
  case unsigned =>
    refine fun l => happens_under (happens_schedLoadDone l) (fun u ⟨hload, hwhole, _⟩ => ⟨hload, hwhole⟩)
      fun u ⟨_, _, hunsigned⟩ => ?_
    simp only [loadEnded, hunsigned, Bool.not_false, if_true]
  case invalid =>
    refine fun l r p => happens_under (happens_schedLoadDone l) (fun u ⟨hload, hwhole, _⟩ => ⟨hload, hwhole⟩)
      fun u ⟨_, _, hsigned, hbad⟩ => ?_
    simp only [loadEnded, hsigned, hbad, Bool.not_true, Bool.false_eq_true, if_false]
  case taken =>
    refine fun l => happens_under (happens_schedLoadDone l) (fun u ⟨hload, hwhole, _⟩ => ⟨hload, hwhole⟩)
      fun u ⟨_, _, hsigned, hgood⟩ => ?_
    simp only [loadEnded, hsigned, hgood, Bool.not_true, Bool.false_eq_true, if_false]

end Sys2Proof.Proofs
end

section
/-! PROOFS. What a window's return has to reach (R120, R121). -/

namespace Sys2Proof.Proofs

open Sys2Proof Sys2Proof.Machine

/-- What a window yields has passed the checks of both thresholds (R121). -/
theorem thresholds_of_peakReturn {b : BufSet} {c w : Nat} {par : ClassParams} {r : Ret} (h : b.peakReturn c w par = some r) :
    ¬r.e < par.eMin / 16 ∧ ¬r.snr2 < (par.snrMin / 16 : Rat) * (par.snrMin / 16) := by
  simp only [BufSet.peakReturn, Option.ite_none_left_eq_some, Bool.or_eq_true, decide_eq_true_eq, not_or] at h
  obtain ⟨_, hpassed, hr⟩ := h
  cases hr
  exact hpassed

/-- Settles O55: a return that has passed the check against E_MIN and that of its square against SNR_MIN lies at or above both. -/
theorem windowYieldsOnlyAboveItsThresholds : Obligations.WindowYieldsOnlyAboveItsThresholds := by
  intro b c w par r h
  obtain ⟨hevents, hsnr⟩ := thresholds_of_peakReturn h
  exact ⟨not_lt.mp hevents, (sq _).trans_le (not_lt.mp hsnr)⟩

end Sys2Proof.Proofs
end

section
/-! PROOFS. The bridge, the crossings and the supervision of the axes (R134, R174, R176 to R184, R188, R190, R193 to R198). -/

namespace Sys2Proof.Laws

open Sys2Proof Sys2Proof.Machine

variable {u : State} {e : Nat}

/-! ### Upsets of the loop engines (R174, R193, R198) -/

/-- What an upset meets in a powered domain: an engine in use, or a cell (R174, R193). -/
def upsetTaken (hit : LoopUpset) (u : State) : State :=
  match hit with
  | .engine le => if u.retired 9 le.val then u else u.engineUpset le.val
  | .cell ax i => u.spoilCell ax i.val

/-- LOOP_ENGINE_UPSET takes its upset while the domain of the loop engines is on. -/
theorem happens_loopEngineUpset {hit : LoopUpset} {cond : State → Prop} {eff : State → State}
    (h : ∀ u, cond u → u.domOn 31 = true ∧ upsetTaken hit u = eff u) : Happens (fun dt => .loopEngineUpset dt hit) cond eff := by
  refine happens_meaning (fun dt => execLoopEngineUpset dt hit) (fun _ _ => ⟨rfl, rfl⟩) fun u hu => ?_
  obtain ⟨hon, heff⟩ := h u hu
  exact (if_neg (by simp [hon])).trans heff

/-- An engine that is not retired takes the upset. -/
theorem upsetTaken_engine {e : Fin 16} (h : u.retired 9 e.val = false) : upsetTaken (.engine e) u = u.engineUpset e.val :=
  if_neg (by simp [h])

/-- An upset of an engine that serves nothing is but its fault (R174). -/
theorem engineUpset_idle (h : (List.range 14).find? (fun f => u.fnEngine f = some e) = none) :
    u.engineUpset e = u.fault 0x500C 9 e := by
  simp only [State.engineUpset, h]

/-- An upset of the engine of a charge function holds the function's strings (R174). -/
theorem engineUpset_charge {f : Nat} (h : (List.range 14).find? (fun f => u.fnEngine f = some e) = some f) (hf : 6 ≤ f) :
    u.engineUpset e = (u.fault 0x500C 9 e).holdCharge f := by
  simp only [State.engineUpset, h]
  exact if_pos hf

/-- A cell within its memory is zeroed and counted (R193). -/
theorem rep_spoil_of_lt (r : Rep) {cfg : BitVec 64} {i : Nat} (h : i < repCells cfg) :
    r.spoil cfg i = { r with m := tput 0 r.m i 0, errors := sat 16 (r.errors + 1) } :=
  if_pos h

/-! ### Brakes (R197) -/

/-- Axis A ends its braking in the stop condition where the manner of its brake says so (R197). -/
theorem happens_brakeStop_A {cond : State → Prop} (h : ∀ u, cond u → u.scan.a.st = .braking ∧
    (((u.scan.a.brake = some .regen ∨ u.scan.a.brake = some .short) ∧ ∃ t, u.scan.a.slowAt = some t ∧ t + ms 100 ≤ u.clk) ∨
     ((u.scan.a.brake = some .shortTmax ∨ u.scan.a.brake = some .coast) ∧ u.scan.a.brakeAt + sec (u.aCoef 217 8) ≤ u.clk))) :
    Happens (fun dt => .brakeStopCondition dt .A) cond State.stopA := by
  refine happens_meaning (fun dt => execBrakeStopCondition dt .A) (fun _ _ => ⟨rfl, rfl⟩) fun u hu => ?_
  obtain ⟨hst, ⟨hbrake, t, hslow, hdue⟩ | ⟨hbrake, hdue⟩⟩ := h u hu
  · rcases hbrake with hb | hb <;> simp [hst, hb, hslow, hdue]
  · rcases hbrake with hb | hb <;> simp [hst, hb, hdue]

/-! ### Edge supervision (R184) -/

/-- The instant from which an edge is awaited: the begin of supervision, or the last edge since (R184). -/
def awaitedSince (t : Nat) : List Nat → Nat
  | [] => t
  | e :: _ => max t e

/-- ENC_EDGE_TIMEOUT raises 0x5001 once no edge has come for four count periods (R184). -/
theorem happens_encEdgeTimeout (t : Nat) (edges : List Nat) : Happens (fun dt => .encEdgeTimeout dt)
    (fun u => u.scan.a.watch = some t ∧ u.scan.a.edges = edges ∧ u.domOn 31 = true ∧ live u.scan.a.st = true
      ∧ 4 * u.countPeriod ≤ ((u.clk - awaitedSince t edges : Nat) : Rat)) (fun u => u.faultA 0x5001) := by
  refine happens_meaning execEncEdgeTimeout (fun _ _ => ⟨rfl, rfl⟩) fun u ⟨hwatch, hedges, hon, hlive, hdue⟩ => ?_
  simp only [hwatch, hedges, hon, hlive, Bool.true_and]
  cases edges <;> exact if_pos (decide_eq_true hdue)

/-! ### Limits of time (R182, R184, R188) -/

/-- What a limit of time does: `eff`, once `d` has passed since the instant `since`, where there is one. -/
def onceOverdue (since : State → Option Nat) (d : State → Nat) (eff : State → State) (u : State) : State :=
  match since u with
  | some t => if t + d u ≤ u.clk then eff u else u
  | none => u

/-- A row that keeps a limit of time acts when the limit has passed. -/
theorem happens_onceOverdue {mk : Nat → Instr} {since : State → Option Nat} {d : State → Nat} {eff : State → State}
    (meaning : Nat → State → Res)
    (hrow : ∀ dt s, exec (mk dt) s = meaning dt s ∧ meaning dt s = run dt s (onceOverdue since d eff)) (t : Nat) :
    Happens mk (fun u => since u = some t ∧ t + d u ≤ u.clk) eff := by
  refine happens_meaning meaning hrow fun u ⟨hsince, hdue⟩ => ?_
  simp only [onceOverdue, hsince]
  exact if_pos hdue

end Sys2Proof.Laws

namespace Sys2Proof.Proofs

open Sys2Proof Sys2Proof.Machine Sys2Proof.Laws

/-- Settles O33: each row by its meaning under its guard; an upset by what it hits, a brake by its manner. -/
theorem driveEventsComplete : Obligations.DriveEventsComplete := by
  refine ⟨?comparator, ?facet, ?sampled, ?compared, ?aligned, (happens_encEdgeTimeout · []),
    fun t e r => happens_encEdgeTimeout t (e :: r), ?overcurrent, ?overvolt, ?spinup, ?regain, ?tracking, ?idle, ?charge, ?axis,
    ?cellA, ?cellB, ?slow, ?timed, ?parked, ?period, ?first⟩
  case comparator =>
    refine fun ph i => happens_meaning (fun dt => execPhaseCurrentComparator dt ph i) (fun _ _ => ⟨rfl, rfl⟩)
      fun u ⟨hon, hdriving, hrested, hover⟩ => ?_
    simp only [hon, hdriving, hrested]
    exact if_pos hover
  case facet =>
    refine fun k => happens_meaning (fun dt => execFacetCrossing dt k) (fun _ _ => ⟨rfl, rfl⟩)
      fun u ⟨hon, hfn, hindexed, hnew, hk, hat⟩ => ?_
    exact if_pos (by simp only [hon, hfn, hindexed, hnew, hk, hat, Bool.not_false, decide_true, Bool.and_self])
  case sampled =>
    refine fun c => happens_meaning execReferenceInstant (fun _ _ => ⟨rfl, rfl⟩) fun u ⟨hcur, hnew, hdue, hhome, hlisten⟩ => ?_
    simp only [hcur]
    exact (if_neg (by simp [hnew, hdue])).trans (if_neg (by simp [hhome, hlisten]))
  case compared =>
    refine fun c => happens_meaning execReferenceInstant (fun _ _ => ⟨rfl, rfl⟩) fun u ⟨hcur, hnew, hdue, hkind⟩ => ?_
    simp only [hcur]
    refine (if_neg (by simp [hnew, hdue])).trans ?_
    simp [hkind]
  case aligned =>
    refine fun t => happens_meaning execAlignmentEnd (fun _ _ => ⟨rfl, rfl⟩) fun u ⟨hend, hdue, hlive⟩ => ?_
    simp only [hend]
    exact if_pos (by simp [hdue, hlive])
  case overcurrent =>
    refine fun ph i => happens_meaning (fun dt => execOvercurrentA dt ph i) (fun _ _ => ⟨rfl, rfl⟩) fun u ⟨hon, hover⟩ => ?_
    exact if_pos (Bool.and_eq_true_iff.mpr ⟨hon, decide_eq_true hover⟩)
  case overvolt =>
    refine fun v => happens_meaning (fun dt => execBusOvervolt dt v) (fun _ _ => ⟨rfl, rfl⟩) fun u ⟨hon, hover, hdriving⟩ => ?_
    exact if_pos (by simp [hon, hover, hdriving])
  case spinup => exact happens_onceOverdue execSpinupTimeout fun _ _ => ⟨rfl, rfl⟩
  case regain => exact happens_onceOverdue execLockRegainTimeout fun _ _ => ⟨rfl, rfl⟩
  case tracking => exact happens_onceOverdue execTrackingErrorLimit fun _ _ => ⟨rfl, rfl⟩
  case idle =>
    exact fun e => happens_loopEngineUpset fun u ⟨hon, huse, hnone⟩ =>
      ⟨hon, (upsetTaken_engine huse).trans (engineUpset_idle hnone)⟩
  case charge =>
    exact fun e f => happens_loopEngineUpset fun u ⟨hon, huse, hserves, hf⟩ =>
      ⟨hon, (upsetTaken_engine huse).trans (engineUpset_charge hserves hf)⟩
  case axis =>
    refine fun e f => happens_loopEngineUpset fun u ⟨hon, huse, hserves, hf⟩ => ⟨hon, (upsetTaken_engine huse).trans ?_⟩
    simp only [State.engineUpset, hserves]
    exact if_neg (by omega)
  case cellA =>
    exact fun i => happens_loopEngineUpset fun u ⟨hon, hi⟩ =>
      ⟨hon, congrArg (fun r => u.modA (fun a => { a with rep := r })) (rep_spoil_of_lt _ hi)⟩
  case cellB =>
    exact fun i => happens_loopEngineUpset fun u ⟨hon, hi⟩ =>
      ⟨hon, congrArg (fun r => u.modB (fun b => { b with rep := r })) (rep_spoil_of_lt _ hi)⟩
  case slow =>
    exact fun t => happens_brakeStop_A fun u ⟨hst, hbrake, hslow, hdue⟩ => ⟨hst, .inl ⟨hbrake, t, hslow, hdue⟩⟩
  case timed => exact happens_brakeStop_A fun u ⟨hst, hbrake, hdue⟩ => ⟨hst, .inr ⟨hbrake, hdue⟩⟩
  case parked =>
    refine happens_meaning (fun dt => execBrakeStopCondition dt .B) (fun _ _ => ⟨rfl, rfl⟩) fun u ⟨hst, hparking, hr⟩ => ?_
    exact if_pos (by simp [hst, hparking, hr])
  case period =>
    refine fun t => happens_meaning execPeriodInEdge (fun _ _ => ⟨rfl, rfl⟩) fun u hpin => ?_
    simp only [hpin]
  case first =>
    refine happens_meaning execPeriodInEdge (fun _ _ => ⟨rfl, rfl⟩) fun u hpin => ?_
    simp only [hpin]

end Sys2Proof.Proofs
end

section
/-! PROOFS. The refill of the ledger's buckets (R160, R163, R166). -/

namespace Sys2Proof.Laws

open Sys2Proof Sys2Proof.Machine

/-! ### Folds seen through one observation -/

section Observe

variable {σ β ι : Type} {f : σ → ι → σ} {obs : σ → β}

/-- A fold whose elements all leave an observation alone leaves it alone. -/
theorem foldl_observe_kept {l : List ι} (h : ∀ j ∈ l, ∀ s, obs (f s j) = obs s) (s : σ) : obs (l.foldl f s) = obs s := by
  induction l generalizing s with
  | nil => rfl
  | cons j l ih =>
    calc obs (l.foldl f (f s j)) = obs (f s j) := ih (fun k hk => h k (List.mem_cons_of_mem j hk)) (f s j)
      _ = obs s := h j List.mem_cons_self s

/-- An observation that one element of a list without duplicates changes, and no other touches, is changed once. -/
theorem foldl_observe_once {g : β → β} {l : List ι} {i : ι} (hi : i ∈ l) (hl : l.Nodup) (hown : ∀ s, obs (f s i) = g (obs s))
    (hother : ∀ j ∈ l, j ≠ i → ∀ s, obs (f s j) = obs s) (s : σ) : obs (l.foldl f s) = g (obs s) := by
  induction l generalizing s with
  | nil => cases hi
  | cons j l ih =>
    obtain ⟨hj, hl⟩ := List.nodup_cons.mp hl
    have hrest : ∀ k ∈ l, k ≠ i → ∀ s, obs (f s k) = obs s := fun k hk => hother k (List.mem_cons_of_mem j hk)
    rcases List.mem_cons.mp hi with rfl | hmem
    · exact (foldl_observe_kept (fun k hk => hrest k hk (ne_of_mem_of_not_mem hk hj)) (f s i)).trans (hown s)
    · exact (ih hmem hl hrest (f s j)).trans
        (congrArg g (hother j List.mem_cons_self (ne_of_mem_of_not_mem hmem hj).symm s))

end Observe

/-! ### The refill of a string (R160) -/

variable (s : State) (i : Nat)

/-- The bucket of an emitter with its part of a string's share: half of it unless the emitter has its full share (R160, R166). -/
def emitterRefilled (share : Nat) (full : Bool) (b : Nat) : Nat :=
  min (fld share 0 24 / (if full then 1 else 2)) (b + fld share 32 16 / (if full then 1 else 2))

/-- The bucket of a string or of the device with its share (R160). -/
def stringRefilled (share b : Nat) : Nat :=
  min (fld share 64 24) (b + fld share 96 24)

/-- The emitters' buckets after the refill of one string, from the shares of `s`. -/
def emittersRefilled (t : Tab Nat) (i : Nat) : Tab Nat :=
  (List.range 16).foldl
    (fun t k => tmod 0 t (16 * i + k) (emitterRefilled (s.share i) (tget false s.emit.fullShare (16 * i + k)))) t

/-- The refill of strings acts on the strings' buckets one by one, by the shares that were there before. -/
theorem foldl_refillStr_bStr (l : List Nat) : (l.foldl State.refillStr s).emit.bStr =
    l.foldl (fun t i => tmod 0 t i (stringRefilled (s.share i))) s.emit.bStr := by
  induction l generalizing s with
  | nil => rfl
  | cons i l ih => exact ih (s.refillStr i)

/-- The refill of strings acts on the emitters' buckets string by string, by the shares that were there before. -/
theorem foldl_refillStr_bEm (l : List Nat) : (l.foldl State.refillStr s).emit.bEm = l.foldl (emittersRefilled s) s.emit.bEm := by
  induction l generalizing s with
  | nil => rfl
  | cons i l ih => exact ih (s.refillStr i)

/-- The refill of a string gives each of its emitters its part of the share. -/
theorem emittersRefilled_own (t : Tab Nat) {k : Nat} (hk : k < 16) : tget 0 (emittersRefilled s t i) (16 * i + k) =
    emitterRefilled (s.share i) (tget false s.emit.fullShare (16 * i + k)) (tget 0 t (16 * i + k)) :=
  foldl_observe_once (obs := fun t => tget 0 t (16 * i + k)) (List.mem_range.mpr hk) List.nodup_range
    (fun t => tget_tmod_same 0 t _ _) (fun j _ hj t => tget_tmod_other 0 t _ _ _ (by omega)) t

/-- The refill of a string leaves the emitters of every other string. -/
theorem emittersRefilled_other (t : Tab Nat) {j k : Nat} (hj : j ≠ i) (hk : k < 16) :
    tget 0 (emittersRefilled s t j) (16 * i + k) = tget 0 t (16 * i + k) :=
  foldl_observe_kept (obs := fun t => tget 0 t (16 * i + k))
    (fun m hm t => tget_tmod_other 0 t _ _ _ (by have := List.mem_range.mp hm; omega)) t

/-- The refill of the 64 strings gives each string's bucket the string's share. -/
theorem stringsRefilled_string {i : Nat} (hi : i < 64) :
    tget 0 ((List.range 64).foldl State.refillStr s).emit.bStr i = stringRefilled (s.share i) (tget 0 s.emit.bStr i) := by
  rw [foldl_refillStr_bStr]
  exact foldl_observe_once (obs := fun t => tget 0 t i) (List.mem_range.mpr hi) List.nodup_range
    (fun t => tget_tmod_same 0 t i _) (fun _ _ hj t => tget_tmod_other 0 t _ i _ hj.symm) s.emit.bStr

/-- The refill of the 64 strings gives each emitter's bucket its part of its string's share. -/
theorem stringsRefilled_emitter {i k : Nat} (hi : i < 64) (hk : k < 16) :
    tget 0 ((List.range 64).foldl State.refillStr s).emit.bEm (16 * i + k) =
      emitterRefilled (s.share i) (tget false s.emit.fullShare (16 * i + k)) (tget 0 s.emit.bEm (16 * i + k)) := by
  rw [foldl_refillStr_bEm]
  exact foldl_observe_once (obs := fun t => tget 0 t (16 * i + k)) (List.mem_range.mpr hi) List.nodup_range
    (fun t => emittersRefilled_own s i t hk) (fun _ _ hj t => emittersRefilled_other s i t hj hk) s.emit.bEm

/-! ### The refill of every bucket (R160, R166) -/

/-- Which of the first `n` emitters have their full share at a tick (R166). -/
def fullShares (n : Nat) : Tab Bool :=
  (List.range n).foldl (fun t e => tput false t e (!s.undiagnosed e)) []

/-- An emitter has its full share unless it is undiagnosed (R166). -/
theorem tget_fullShares {n e : Nat} (he : e < n) : tget false (fullShares s n) e = !s.undiagnosed e :=
  foldl_observe_once (g := fun _ => !s.undiagnosed e) (obs := fun t => tget false t e) (List.mem_range.mpr he) List.nodup_range
    (fun t => tget_tput_same false t e _) (fun _ _ hj t => tget_tput_other false t _ e _ hj.symm) []

/-- The state whose emitters have their full share as a table says: what the refill of the strings starts from. -/
def withFullShares (full : Tab Bool) : State :=
  { s with emit.fullShare := full }

/-- The state with a level of the device's bucket: what a refill ends in. -/
def withDeviceLevel (b : Nat) : State :=
  { s with emit.bDev := b }

section Levels

variable (full : Tab Bool) (i b : Nat)

@[simp] theorem withFullShares_share : (withFullShares s full).share i = s.share i := rfl
@[simp] theorem withFullShares_bStr : (withFullShares s full).emit.bStr = s.emit.bStr := rfl
@[simp] theorem withFullShares_bEm : (withFullShares s full).emit.bEm = s.emit.bEm := rfl
@[simp] theorem withFullShares_fullShare : (withFullShares s full).emit.fullShare = full := rfl
@[simp] theorem withDeviceLevel_bStr : (withDeviceLevel s b).emit.bStr = s.emit.bStr := rfl
@[simp] theorem withDeviceLevel_bEm : (withDeviceLevel s b).emit.bEm = s.emit.bEm := rfl
@[simp] theorem withDeviceLevel_bDev : (withDeviceLevel s b).emit.bDev = b := rfl

end Levels

/-- A refill settles which emitters have their full share, then refills the strings and the device. -/
theorem refill_eq : s.refill = withDeviceLevel ((List.range 64).foldl State.refillStr (withFullShares s (fullShares s 1024)))
    (stringRefilled (s.share 64) s.emit.bDev) := rfl

variable {i : Nat}

/-- A refill tick gives each string's bucket the string's share. -/
theorem refill_string (hi : i < 64) : tget 0 s.refill.emit.bStr i = stringRefilled (s.share i) (tget 0 s.emit.bStr i) := by
  rw [refill_eq, withDeviceLevel_bStr, stringsRefilled_string _ hi, withFullShares_share, withFullShares_bStr]

/-- A refill tick gives each emitter's bucket its part of its string's share, all of it unless it is undiagnosed. -/
theorem refill_emitter {k : Nat} (hi : i < 64) (hk : k < 16) : tget 0 s.refill.emit.bEm (16 * i + k) =
    emitterRefilled (s.share i) (!s.undiagnosed (16 * i + k)) (tget 0 s.emit.bEm (16 * i + k)) := by
  rw [refill_eq, withDeviceLevel_bEm, stringsRefilled_emitter _ hi hk, withFullShares_share, withFullShares_bEm,
    withFullShares_fullShare, tget_fullShares s (show 16 * i + k < 1024 by omega)]

/-- A refill tick gives the device's bucket the device's share. -/
theorem refill_device : s.refill.emit.bDev = stringRefilled (s.share 64) s.emit.bDev := by
  rw [refill_eq, withDeviceLevel_bDev]

end Sys2Proof.Laws

namespace Sys2Proof.Proofs

open Sys2Proof Sys2Proof.Machine Sys2Proof.Laws

/-- Settles O53: each bucket is changed once among the 64 strings and their 16 emitters, by the shares that the tick finds. -/
theorem refillTickFillsEveryBucket : Obligations.RefillTickFillsEveryBucket := by
  refine fun s => ⟨fun i hi => refill_string s hi, fun i hi k hk => ?emitter, refill_device s⟩
  case emitter =>
    rw [refill_emitter s hi hk]
    cases s.undiagnosed (16 * i + k) <;> rfl

end Sys2Proof.Proofs
end

section
/-! PROOFS. The Cornice lines (R144, R146, R148, R151, R152, R165 to R169, R360). -/

namespace Sys2Proof.Laws

open Sys2Proof Sys2Proof.Machine

variable (s : State) (i : Nat)

/-- No line carries a WRITE of RETIRE to a head that has not said what it declares (R152). -/
theorem canWrite_retire_undeclared (h : (s.str i).declared = none) : s.canWrite i 0x05 = false := by
  simp [State.canWrite, h]

/-- A register outside the patterns' window fails the test for it (R152). -/
theorem not_patternReg {reg : Byte} (h : ¬ (0x40 ≤ reg.toNat ∧ reg.toNat < 0x80)) :
    ¬ (decide (0x40 ≤ reg.toNat) && decide (reg.toNat < 0x80)) = true := by
  simpa using h

/-- A reply is bad where its check code or its position differs from the access (R148). -/
theorem badReply_iff {x : Nat} {a : Access} :
    (crc8 (bytesBE 5 (fld x 8 40)) != fld x 0 8 || fld x 45 3 != a.str % 8) = true ↔
      crc8 (bytesBE 5 (fld x 8 40)) ≠ fld x 0 8 ∨ fld x 45 3 ≠ a.str % 8 := by
  rw [Bool.or_eq_true, bne_iff_ne, bne_iff_ne]

end Sys2Proof.Laws

namespace Sys2Proof.Proofs

open Sys2Proof Sys2Proof.Machine Sys2Proof.Laws

/-- Settles O31: each row by its meaning under its guard; a reply by whether its check code and position are those of its access. -/
theorem corniceEventsComplete : Obligations.CorniceEventsComplete := by
  refine ⟨canWrite_retire_undeclared, ?read, ?write, ?pattern, ?bad, ?good, ?silent, ?fault⟩
  case read => exact fun i reg => happens_meaning (fun dt => execCorniceRead dt i reg) (fun _ _ => ⟨rfl, rfl⟩) fun u hcan => if_pos hcan
  case write =>
    refine fun i reg d => happens_meaning (fun dt => execCorniceWrite dt i reg d) (fun _ _ => ⟨rfl, rfl⟩) fun u ⟨hcan, hreg⟩ => ?_
    simp only [if_pos hcan, if_neg (not_patternReg hreg)]
  case pattern =>
    refine fun i reg d => happens_meaning (fun dt => execCorniceWrite dt i reg d) (fun _ _ => ⟨rfl, rfl⟩)
      fun u ⟨hcan, hlo, hhi⟩ => ?_
    simp only [if_pos hcan, decide_eq_true hlo, decide_eq_true hhi, Bool.and_self, if_true]
  case bad =>
    refine fun l x a => happens_meaning (fun dt => execCorniceReply dt l x) (fun _ _ => ⟨rfl, rfl⟩) fun u ⟨hpend, hopen, hbad⟩ => ?_
    simp only [hpend]
    exact (if_neg (Nat.not_lt.mpr hopen)).trans (if_pos (badReply_iff.mpr hbad))
  case good =>
    refine fun l x a => happens_meaning (fun dt => execCorniceReply dt l x) (fun _ _ => ⟨rfl, rfl⟩)
      fun u ⟨hpend, hopen, hcrc, hpos⟩ => ?_
    simp only [hpend]
    exact (if_neg (Nat.not_lt.mpr hopen)).trans (if_neg fun hbad => (badReply_iff.mp hbad).elim (· hcrc) (· hpos))
  case silent =>
    refine fun l a => happens_meaning (fun dt => execCorniceNoReply dt l) (fun _ _ => ⟨rfl, rfl⟩) fun u ⟨hpend, hclosed⟩ => ?_
    simp only [hpend]
    exact if_neg (Nat.not_lt.mpr hclosed)
  case fault => exact fun l => happens_meaning (fun dt => execCorniceLineFault dt l) (fun _ _ => ⟨rfl, rfl⟩) fun u hon => if_pos hon

end Sys2Proof.Proofs
end

section
/-! PROOFS. MODE.START without its axes, and the commands of the class LOOP (R174, R180, R183, R193 to R201, R366). -/

namespace Sys2Proof.Laws

open Sys2Proof Sys2Proof.Machine

/-- As `command_answers`, for a row that is alone in its FAB_CK cycle (R27, R196). -/
theorem command_answers_alone (mk : Nat → Req → Instr) (d : CmdDef) (hw : d.writesOtp = false)
    (hexec : ∀ dt r s, exec (mk dt r) s = run dt s (fun u => u.met (State.command d r))) (dt : Nat) (r : Req) (s : State) (a : Ans)
    (hs : awake s) (halone : (s.advance dt).foreseen = {}) (hadm : Admitted d r (s.advance dt))
    (hact : d.act (evalState d r (s.advance dt)) (ctxFor d r) = a) (hdout : a.dout = []) :
    exec (mk dt r) s = .next (after dt s (answered d r (s.advance dt) a)) := by
  have hlen : (evalState d r (s.advance dt)).lengthCheck (ctxFor d r) a = a := if_neg (by simp [hdout])
  rw [hexec, run_met_alone dt s _ halone, run_awake dt s _ hs, command_admitted d r _ hadm, hact, hlen]
  simp [afterKeep, after, answered, hw]

variable (u : State) (c : Ctx)

/-- MODE.START past its checks fails while axis A is not locked or the loop of axis B is not closed (R183). -/
theorem modeStart_act_axes (hmode : (modeParams (c.p 0 1)).isSome = true) (hinstant : u.badStart (c.p 4 8) (ms 5) = false)
    (hstop : u.mode.stop = none) (haxes : ¬(u.scan.a.locked = true ∧ u.scan.b.st = .closed)) :
    cmdModeStart.act u c = u.fail stBadState := by
  have hknown : modeParams (c.p 0 1) ≠ none := Option.isSome_iff_ne_none.mp hmode
  rcases not_and_or.mp haxes with hfree | hopen
  · simp [cmdModeStart, hknown, hinstant, hstop, hfree]
  · simp [cmdModeStart, hknown, hinstant, hstop, hopen]

/-! ### LOOP.CLOSE and LOOP.OPEN (R174, R194, R196, R197) -/

/-- LOOP.CLOSE has no effect while columns run or the axis is closed already (R194). -/
theorem loopClose_act_idle (hst : u.loopSt c.axis ≠ .braking) (h : u.running = true ∨ live (u.loopSt c.axis) = true) :
    cmdLoopClose.act u c = u.ok :=
  (if_neg hst).trans (if_pos (Bool.or_eq_true_iff.mpr h))

/-- LOOP.CLOSE closes an open axis whose engines and domain serve it (R174, R194). -/
theorem loopClose_act (hst : u.loopSt c.axis = .open_) (hrun : u.running = false) (hfns : (axisFns c.axis).any u.fnLost = false)
    (hon : u.domOn 31 = true) (halive : bitN u.power.domDead.toNat 32 = false) :
    cmdLoopClose.act u c = (match c.axis with | .A => u.closeA | .B => u.closeB).ok := by
  simp only [cmdLoopClose, hst, hrun, hfns, hon, halive, live]
  cases c.axis <;> rfl

/-- LOOP.OPEN has no effect on an axis that brakes (R197). -/
theorem loopOpen_act_braking (hst : u.loopSt c.axis = .braking) : cmdLoopOpen.act u c = u.ok := if_pos hst

/-- LOOP.OPEN opens an axis that does not brake (R194, R197). -/
theorem loopOpen_act (hst : u.loopSt c.axis ≠ .braking) :
    cmdLoopOpen.act u c = (match c.axis with | .A => u.openA false .regen | .B => u.openB false false).ok := by
  refine (if_neg hst).trans ?_
  cases c.axis <;> rfl

/-! ### LOOP.COEF, LOOP.SET and LOOP.REP_CLEAR (R180, R193, R199 to R201) -/

/-- LOOP.COEF writes the blocks of an open axis A where no field is refused (R199, R201). -/
theorem loopCoef_act_A (hax : c.axis = .A) (hst : u.loopSt .A = .open_) (hlen : c.din.length = 40)
    (hcoef : coefBadA (leAt c.din 0 32) = none) (hrep : repBad .A (fld (leAt c.din 0 32) 64 16) (leAt c.din 32 8) = none) :
    cmdLoopCoef.act u c = State.ok (u.modA (fun a => { a with
      coef := BitVec.ofNat 256 (leAt c.din 0 32), repCfg := BitVec.ofNat 64 (leAt c.din 32 8)
      rep := a.rep.recfg a.repCfg (BitVec.ofNat 64 (leAt c.din 32 8))
      commOk := a.indexed && !a.fbBad && (bitN (leAt c.din 0 32) 176 || a.learned.isSome)
      commRef := if bitN (leAt c.din 0 32) 176 then fld (leAt c.din 0 32) 160 16 else (a.learned.getD 0 : Nat) })) := by
  simp [cmdLoopCoef, hax, hst, hlen, hcoef, hrep]

/-- LOOP.COEF writes the blocks of an open axis B where no field is refused (R200, R201). -/
theorem loopCoef_act_B (hax : c.axis = .B) (hst : u.loopSt .B = .open_) (hlen : c.din.length = 40)
    (hcoef : coefBadB (leAt c.din 0 32) = none) (hrep : repBad .B (fld (leAt c.din 0 32) 48 16) (leAt c.din 32 8) = none) :
    cmdLoopCoef.act u c = State.ok (u.modB (fun b => { b with
      coef := BitVec.ofNat 256 (leAt c.din 0 32), repCfg := BitVec.ofNat 64 (leAt c.din 32 8)
      rep := b.rep.recfg b.repCfg (BitVec.ofNat 64 (leAt c.din 32 8)) })) := by
  simp [cmdLoopCoef, hax, hst, hlen, hcoef, hrep]

/-- LOOP.SET sets the speed of axis A, up to 12,000 rpm, while no schedule set is loaded (R180). -/
theorem loopSet_act_A (hax : c.axis = .A) (hmax : c.p 4 4 ≤ 1200000) (hset : u.setLoaded = false) :
    cmdLoopSet.act u c = (u.modA (fun a => { a with set := c.p 4 4 })).ok := by
  simp [cmdLoopSet, hax, Nat.not_lt.mpr hmax, hset]

/-- LOOP.SET sets the held angle of axis B within its limits (R366). -/
theorem loopSet_act_B (hax : c.axis = .B) (hlo : u.bSigned 160 20 ≤ sgn 32 (c.p 4 4)) (hhi : sgn 32 (c.p 4 4) ≤ u.bSigned 192 20) :
    cmdLoopSet.act u c = (u.modB (fun b => { b with hold := sgn 32 (c.p 4 4) })).ok := by
  simp [cmdLoopSet, hax, Int.not_lt.mpr hlo, Int.not_lt.mpr hhi]

/-- LOOP.REP_CLEAR clears the repetitive memory of an open axis (R193). -/
theorem loopRepClear_act (hst : u.loopSt c.axis = .open_) :
    cmdLoopRepClear.act u c = (match c.axis with
      | .A => u.modA (fun a => { a with rep := { a.rep with m := [], u := 0 } })
      | .B => u.modB (fun b => { b with rep := { b.rep with m := [], u := 0 } })).ok := by
  refine (if_neg (by simp [hst])).trans ?_
  cases c.axis <;> rfl

/-- LOOP.STATUS answers the record of its axis (R366). -/
theorem loopStatus_act : cmdLoopStatus.act u c = u.ok (match c.axis with | .A => u.loopStatusA | .B => u.loopStatusB) := by
  simp only [cmdLoopStatus]
  cases c.axis <;> rfl

end Sys2Proof.Laws

namespace Sys2Proof.Proofs

open Sys2Proof Sys2Proof.Machine Sys2Proof.Laws

/-- Settles O52: past its mode, its instant and a stop, MODE.START fails by either axis. -/
theorem modeStartNeedsBothAxes : Obligations.ModeStartNeedsBothAxes := by
  intro dt r s u c hs halone hadm hu hc hmode hinstant hstop haxes
  have hact : cmdModeStart.act (evalState cmdModeStart r (s.advance dt)) (ctxFor cmdModeStart r) = u.fail stBadState := by
    rw [← hu, ← hc]
    exact modeStart_act_axes u c hmode hinstant hstop haxes
  exact command_answers_alone .modeStart cmdModeStart rfl (fun _ _ _ => rfl) dt r s _ hs halone hadm hact rfl

/-- Settles O4: each row by what its act answers in the state that its axis meets. -/
theorem loopCommandsComplete : Obligations.LoopCommandsComplete := by
  refine ⟨?closeIdle, ?close, ?openBraking, ?open_, ?coefA, ?coefB, ?setA, ?setB, ?clearA, ?clearB, ?status,
    meetsRace_of_exec _ _ fun _ _ _ => rfl, meetsRace_of_exec _ _ fun _ _ _ => rfl, meetsRace_of_exec _ _ fun _ _ _ => rfl,
    meetsRace_of_exec _ _ fun _ _ _ => rfl, fun u => ⟨rfl, rfl⟩⟩
  case closeIdle =>
    exact completesAlone_of_act _ _ _ _ _ _ rfl (fun _ _ _ => rfl) fun u c ⟨hst, h⟩ => loopClose_act_idle u c hst h
  case close =>
    refine completesAlone_of_act _ _ _ _ _ _ rfl (fun _ _ _ => rfl) fun u c ⟨hst, hrun, hfns, hon, halive⟩ => ?_
    exact loopClose_act u c hst hrun hfns hon halive
  case openBraking => exact completesAlone_of_act _ _ _ _ _ _ rfl (fun _ _ _ => rfl) loopOpen_act_braking
  case open_ => exact completesAlone_of_act _ _ _ _ _ _ rfl (fun _ _ _ => rfl) loopOpen_act
  case coefA =>
    refine completesAlone_of_act _ _ _ _ _ _ rfl (fun _ _ _ => rfl) fun u c ⟨hax, hst, hlen, hcoef, hrep⟩ => ?_
    exact loopCoef_act_A u c hax hst hlen hcoef hrep
  case coefB =>
    refine completesAlone_of_act _ _ _ _ _ _ rfl (fun _ _ _ => rfl) fun u c ⟨hax, hst, hlen, hcoef, hrep⟩ => ?_
    exact loopCoef_act_B u c hax hst hlen hcoef hrep
  case setA => exact completes_of_act _ _ _ _ _ _ (fun _ _ _ => rfl) fun u c ⟨hax, hmax, hset⟩ => loopSet_act_A u c hax hmax hset
  case setB => exact completes_of_act _ _ _ _ _ _ (fun _ _ _ => rfl) fun u c ⟨hax, hlo, hhi⟩ => loopSet_act_B u c hax hlo hhi
  case clearA | clearB =>
    refine completesAlone_of_act _ _ _ _ _ _ rfl (fun _ _ _ => rfl) fun u c ⟨hax, hst⟩ => ?_
    rw [loopRepClear_act u c (hax ▸ hst), hax]
    rfl
  case status => exact completes_of_act _ _ _ _ _ _ (fun _ _ _ => rfl) fun u c _ => loopStatus_act u c

end Sys2Proof.Proofs
end

section
/-! PROOFS. The periods of the loop engines (R173, R174, R178, R181, R184, R185, R187, R191, R381). -/

namespace Sys2Proof.Laws

open Sys2Proof Sys2Proof.Machine

/-- A period row whose period has come runs its law (R173, R174). -/
theorem happens_period {mk : Nat → Instr} {cond : State → Prop} {eff body : State → State} {f ticks : Nat} (meaning : Nat → State → Res)
    (hrow : ∀ dt s, exec (mk dt) s = meaning dt s ∧ meaning dt s = run dt s (fun u => u.period f ticks body))
    (h : ∀ u, cond u → (u.loopDue f).brakeLost.periodDue f ticks = true ∧ body ((u.loopDue f).brakeLost.ranNow f) = eff u) :
    Happens mk cond eff := by
  refine happens_meaning meaning hrow fun u hu => ?_
  obtain ⟨hdue, heff⟩ := h u hu
  exact (if_pos hdue).trans heff

/-- The count has gone past the turn in which the next index was due, to either side of the turn of closing (R184). -/
def pastIndex (v : State) : Prop :=
  let n : Int := v.scan.a.missed + 1
  (v.scan.a.missBase.1 + n) * (v.revCounts : Int) + 8 < v.scan.a.count
    ∨ v.scan.a.count < (v.scan.a.missBase.2 - n) * (v.revCounts : Int) - 8

/-- LE5 finds a turn without an index on a closed axis A that has its index and has gone past the next one (R184). -/
theorem missesIndex_iff (v : State) :
    (live v.scan.a.st && v.scan.a.indexed
      && ((v.scan.a.missBase.1 + ((v.scan.a.missed : Int) + 1)) * (v.revCounts : Int) + 8 < v.scan.a.count
        || v.scan.a.count < (v.scan.a.missBase.2 - ((v.scan.a.missed : Int) + 1)) * (v.revCounts : Int) - 8)) = true ↔
      live v.scan.a.st = true ∧ v.scan.a.indexed = true ∧ pastIndex v := by
  simp [pastIndex, and_assoc]

/-- Axis A misses no index where it is open, has no index yet, or has not gone past the next one (R184). -/
theorem not_missesIndex {v : State} (h : live v.scan.a.st = false ∨ v.scan.a.indexed = false ∨ ¬pastIndex v) :
    ¬(live v.scan.a.st = true ∧ v.scan.a.indexed = true ∧ pastIndex v) := by
  rintro ⟨hlive, hindexed, hpast⟩
  rcases h with h | h | h
  · exact Bool.false_ne_true (h.symm.trans hlive)
  · exact Bool.false_ne_true (h.symm.trans hindexed)
  · exact h hpast

end Sys2Proof.Laws

namespace Sys2Proof.Proofs

open Sys2Proof Sys2Proof.Machine Sys2Proof.Laws

/-- Settles O32: each row by its law once its period has come; LE5 by whether an index is missed, and whether it is the first. -/
theorem loopEnginePeriodsComplete : Obligations.LoopEnginePeriodsComplete := by
  refine ⟨?le0, ?le1, ?le2, ?le3, ?le4, ?indexed, ?firstMissed, ?missed⟩
  case le0 =>
    exact fun ia ib ic => happens_period (fun dt => execLe0Period dt ia ib ic) (fun _ _ => ⟨rfl, rfl⟩) fun u ⟨hdue, hdriving⟩ =>
      ⟨hdue, if_pos hdriving⟩
  case le1 =>
    exact happens_period execLe1Period (fun _ _ => ⟨rfl, rfl⟩) fun u ⟨hdue, hlive, haligned⟩ =>
      ⟨hdue, (if_pos hlive).trans (if_neg (by simp [haligned]))⟩
  case le2 => exact happens_period execLe2Period (fun _ _ => ⟨rfl, rfl⟩) fun u hdue => ⟨hdue, rfl⟩
  case le3 =>
    exact fun f g => happens_period (fun dt => execLe3Period dt f g) (fun _ _ => ⟨rfl, rfl⟩) fun u hdue => ⟨hdue, rfl⟩
  case le4 => exact happens_period execLe4Period (fun _ _ => ⟨rfl, rfl⟩) fun u hdue => ⟨hdue, rfl⟩
  case indexed =>
    exact happens_period execLe5Period (fun _ _ => ⟨rfl, rfl⟩) fun u ⟨hdue, h⟩ =>
      ⟨hdue, if_neg (mt (missesIndex_iff _).mp (not_missesIndex h))⟩
  case firstMissed =>
    refine happens_period execLe5Period (fun _ _ => ⟨rfl, rfl⟩) fun u ⟨hdue, hlive, hindexed, hpast, hnone⟩ => ⟨hdue, ?_⟩
    refine (if_pos ((missesIndex_iff _).mpr ⟨hlive, hindexed, hpast⟩)).trans ?_
    simp [State.modA, hnone]
  case missed =>
    refine happens_period execLe5Period (fun _ _ => ⟨rfl, rfl⟩) fun u ⟨hdue, hlive, hindexed, hpast, hsome⟩ => ⟨hdue, ?_⟩
    refine (if_pos ((missesIndex_iff _).mpr ⟨hlive, hindexed, hpast⟩)).trans (if_pos ?_)
    exact Nat.succ_le_succ (Nat.one_le_iff_ne_zero.mpr hsome)

end Sys2Proof.Proofs
end

section
/-! SUPPORT. Operations under a guard, and results on their way to an engine and to its sector's state memory (R207, R221, R222). -/

namespace Sys2Proof.Laws

open Sys2Proof Sys2Proof.Machine

/-! ### Operations under a guard (R216 to R218, R221) -/

/-- The guard on P0 passes (R207). -/
theorem pass_zero (x : Eng) : x.pass 0 (negBit false) = true := rfl

section Issue

variable {mk : Nat → Instr} {e : Fin 256} {cond : State → Prop} {eff f : State → Nat → State}

/-- As `issues_of`, for an operation that takes a free value. -/
theorem issues_took (hexec : ∀ dt s, exec (mk dt) s = run dt s (fun u => (u.issue e.val f).took))
    (h : ∀ u cyc, cond u → f u cyc = eff u cyc) : Issues mk e cond (fun u cyc => (eff u cyc).took) := by
  intro dt cyc s hs hcyc hend hrun hcond
  rw [hexec, run_awake dt s _ hs, issue_running _ _ cyc f hcyc hend hrun, h _ _ hcond]

variable {p : BitVec 3} {n : Bool} {g : State → Nat → State}

/-- A guarded operation takes its effect where its guard passes. -/
theorem issues_guarded
    (hexec : ∀ dt s, exec (mk dt) s =
      run dt s (fun u => u.issue e.val (fun u cyc => if (u.eng e.val).pass p (negBit n) then g u cyc else u)))
    (hpass : ∀ u, cond u → passes e p n u) (h : ∀ u cyc, cond u → g u cyc = eff u cyc) : Issues mk e cond eff :=
  issues_of _ hexec fun u cyc hu => (if_pos (hpass u hu)).trans (h u cyc hu)

/-- As `issues_guarded`, for an operation that takes a free value. -/
theorem issues_guarded_took
    (hexec : ∀ dt s, exec (mk dt) s = run dt s (fun u =>
      (u.issue e.val (fun u cyc => if (u.eng e.val).pass p (negBit n) then g u cyc else u)).took))
    (hpass : ∀ u, cond u → passes e p n u) (h : ∀ u cyc, cond u → g u cyc = eff u cyc) :
    Issues mk e cond (fun u cyc => (eff u cyc).took) :=
  issues_took hexec fun u cyc hu => (if_pos (hpass u hu)).trans (h u cyc hu)

end Issue

/-! ### Landing in an engine (R207, R221, R222) -/

section Landing

variable (s : State) (e cyc : Nat)

/-- An engine in which results have landed one after the other. -/
def landedIn (x : Eng) (l : List Flight) : Eng :=
  l.foldl (fun x f => x.put f.dst f.val.toNat) x

/-- A result that does not go to the state memory lands in its engine. -/
theorem landOne_near {f : Flight} (h : f.far = false) : s.landOne e f = s.modEng e (fun x => x.put f.dst f.val.toNat) := by
  obtain ⟨land, dst, val⟩ := f
  cases dst
  case state => cases h
  all_goals rfl

/-- Results that do not go to the state memory land in their engine one after the other. -/
theorem foldl_landOne_eng {l : List Flight} (h : ∀ f ∈ l, f.far = false) :
    (l.foldl (fun t f => t.landOne e f) s).eng e = landedIn (s.eng e) l := by
  induction l generalizing s with
  | nil => rfl
  | cons f l ih =>
    rw [List.foldl_cons, ih _ fun g hg => h g (List.mem_cons_of_mem f hg), landOne_near s e (h f List.mem_cons_self), modEng_eng_same]
    rfl

/-- What an engine has in flight, all of it due and none of it for the state memory, lands in it by cycle. -/
theorem settle_eng {l : List Flight} (hdue : ∀ f ∈ (s.eng e).fly, f.land ≤ cyc)
    (hsort : sortBy (fun a b => a.land < b.land) (s.eng e).fly = l) (hnear : ∀ f ∈ l, f.far = false) :
    (s.settle e cyc).eng e = landedIn { s.eng e with fly := [] } l := by
  have hall : (s.eng e).fly.filter (fun f => f.land ≤ cyc) = (s.eng e).fly :=
    List.filter_eq_self.mpr fun f hf => decide_eq_true (hdue f hf)
  have hnone : (s.eng e).fly.filter (fun f => cyc < f.land) = [] :=
    List.filter_eq_nil_iff.mpr fun f hf => by simpa using hdue f hf
  simp only [State.settle, hall, hsort]
  rw [foldl_landOne_eng _ _ hnear, modEng_eng_same, hnone]

/-- Nothing lands before it is due. -/
theorem settle_early (h : ∀ f ∈ (s.eng e).fly, cyc < f.land) : s.settle e cyc = s.modEng e id := by
  have hnone : (s.eng e).fly.filter (fun f => f.land ≤ cyc) = [] :=
    List.filter_eq_nil_iff.mpr fun f hf => by simpa using h f hf
  have hall : (s.eng e).fly.filter (fun f => cyc < f.land) = (s.eng e).fly :=
    List.filter_eq_self.mpr fun f hf => decide_eq_true (h f hf)
  rw [State.settle, hnone, modEng_congr s e _ id (by rw [hall]; rfl)]
  rfl

/-- What an engine sends is in flight, after what it sent before. -/
@[simp] theorem send_eng (land : Nat) (d : Dest) (v : Nat) :
    (s.send e land d v).eng e = { s.eng e with fly := (s.eng e).fly ++ [⟨land, d, BitVec.ofNat 64 v⟩] } :=
  modEng_eng_same _ _ _

variable {s e cyc} (hfly : (s.eng e).fly = [])

/-- An engine that has nothing in flight. -/
theorem eng_without_flights {x : Eng} (h : x.fly = []) : { x with fly := [] } = x := by rw [← h]

include hfly

/-- One result, due, lands in an engine that has nothing else in flight. -/
theorem settle_one {land v : Nat} {d : Dest} (hdue : land ≤ cyc) (hnear : ∀ a, d ≠ .state a) :
    ((s.send e land d v).settle e cyc).eng e = (s.eng e).put d (BitVec.ofNat 64 v).toNat := by
  have hfar : (⟨land, d, BitVec.ofNat 64 v⟩ : Flight).far = false := by
    cases d
    case state a => exact absurd rfl (hnear a)
    all_goals rfl
  rw [settle_eng (l := [⟨land, d, BitVec.ofNat 64 v⟩]) _ _ _ (by simp [hfly, hdue]) (by simp [hfly, sortBy, insertBy])
    (by simpa using hfar), send_eng]
  exact congrArg (Eng.put · d _) (eng_without_flights hfly)

/-- Of two results for registers, both due, the one that lands later lands last, whatever their order of issue (R221). -/
theorem settle_two {a b v w r q : Nat} (hab : a < b) (hdue : b ≤ cyc) :
    (((s.send e a (.x r) v).send e b (.x q) w).settle e cyc).eng e =
      landedIn (s.eng e) [⟨a, .x r, BitVec.ofNat 64 v⟩, ⟨b, .x q, BitVec.ofNat 64 w⟩] ∧
    (((s.send e b (.x q) w).send e a (.x r) v).settle e cyc).eng e =
      landedIn (s.eng e) [⟨a, .x r, BitVec.ofNat 64 v⟩, ⟨b, .x q, BitVec.ofNat 64 w⟩] := by
  have hnear : ∀ f ∈ [⟨a, .x r, BitVec.ofNat 64 v⟩, ⟨b, .x q, BitVec.ofNat 64 w⟩], Flight.far f = false := by
    simp [Flight.far]
  constructor
  · rw [settle_eng _ _ _ (by simp [hfly]; omega) (by simp [hfly, sortBy, insertBy, hab.le]) hnear, send_eng, send_eng]
    exact congrArg (landedIn · _) (eng_without_flights hfly)
  · rw [settle_eng _ _ _ (by simp [hfly]; omega) (by simp [hfly, sortBy, insertBy, hab]) hnear, send_eng, send_eng]
    exact congrArg (landedIn · _) (eng_without_flights hfly)

end Landing

/-! ### Registers (R207) -/

/-- A general register but X0 reads the low 32 bits of what has landed on it. -/
theorem rx_put_same (x : Eng) {r : Nat} (v : Nat) (h : r ≠ 0) : (x.put (.x r) (BitVec.ofNat 64 v).toNat).rx r = v % 2 ^ 32 := by
  simp only [Eng.put, Eng.rx, if_neg h, tget_tput_same, BitVec.toNat_ofNat]
  omega

/-- What lands on a general register leaves the others. -/
theorem rx_put_other (x : Eng) {r j : Nat} (v : Nat) (h : j ≠ r) : (x.put (.x r) v).rx j = x.rx j := by
  by_cases hr : r = 0
  · simp only [Eng.put, if_pos hr]
  · simp only [Eng.put, Eng.rx, if_neg hr, tget_tput_other _ _ _ _ _ h]

end Sys2Proof.Laws
end

section
/-! PROOFS. When the results of a sector engine land (R207, R221, R222). -/

namespace Sys2Proof.Proofs

open Sys2Proof Sys2Proof.Machine Sys2Proof.Laws

/-- Settles O58: two results in flight are sorted by their landing; one that is not due stays in flight. -/
theorem resultsLandAtTheirLatency : Obligations.ResultsLandAtTheirLatency := by
  refine fun s e cyc hfly => ⟨?later, ?early, ?zero, ?memory⟩
  case later =>
    intro r v w a b hr hab hdue
    obtain ⟨hissued, hswapped⟩ := settle_two (v := v) (w := w) (r := r) (q := r) hfly hab hdue
    rw [hissued, hswapped]
    exact ⟨rx_put_same _ w hr, rx_put_same _ w hr, fun j hj => (rx_put_other _ _ hj).trans (rx_put_other _ _ hj)⟩
  case early =>
    intro d v a hearly
    rw [settle_early _ _ _ (by simp [hfly, hearly])]
    exact ⟨by rw [modEng_eng_same, id, send_eng]; exact eng_without_flights hfly, fun _ => rfl⟩
  case zero => exact fun _ _ => ⟨rfl, rfl⟩
  case memory =>
    intro v a addr hdue
    rw [settle_one hfly hdue (by simp)]
    have hbyte : BitVec.ofNat 8 (BitVec.ofNat 64 v).toNat = BitVec.ofNat 8 v := by
      apply BitVec.eq_of_toNat_eq
      simp only [BitVec.toNat_ofNat]
      omega
    exact ⟨(mget_mput_same _ _ _).trans hbyte, fun j hj => mget_mput_other _ _ _ _ hj⟩

end Sys2Proof.Proofs
end

section
/-! PROOFS. Operations of the A and M slots (R217, R218, R223, R224, R227 to R229). -/

namespace Sys2Proof.Proofs

open Sys2Proof Sys2Proof.Machine Sys2Proof.Laws

/-- A result that no saturation changes, as an A operation answers it. -/
def unsaturated (n : Nat) : Int × Bool := (n, false)

/-- An A operation that takes a free value sends the result that it has where its guard passes. -/
theorem issues_alu_took {mk : Nat → Instr} {e : Fin 256} {op : ASlot} {lat : Nat} {f : State → Eng → Int × Bool} {cond : State → Prop}
    {v : State → Int} (hexec : ∀ dt s, exec (mk dt) s = run dt s (fun u => (u.aluOp e.val op lat f).took))
    (hpass : ∀ u, cond u → passes e op.pred op.pneg u) (hval : ∀ u, cond u → f u (u.eng e.val) = (v u, false)) :
    Issues mk e cond (fun u cyc => (u.send e.val (cyc + lat) (.x op.dst.toNat) (uns 32 (v u))).took) :=
  issues_guarded_took hexec hpass fun u cyc hu =>
    congrArg (fun r : Int × Bool => (u.send e.val (cyc + lat) (.x op.dst.toNat) (uns 32 r.1)).satStat e.val r.2) (hval u hu)

/-- Settles O11: each row under its guard; a division by its divisor, SQRT by its shift, MFS by the register that it names. -/
theorem arithmeticOperationsComplete : Obligations.ArithmeticOperationsComplete := by
  refine ⟨?add, ?adds, ?sub, ?subs, ?and, ?or, ?xor, ?shl, ?shr, ?asr, ?asrr, ?min, ?max, ?abs, ?mov, ?movi, ?sath, ?norm, ?cmpeq, ?cmplt,
    ?cmple, ?cmpltu, ?pand, ?por, ?pnot, ?div, ?divr, fun e op => ⟨?sel, ?bexp, ?bxclr, ?sqrt, ?mfsStat, ?mfsBx, ?mts, ?sqrtOpen, ?mfsOpen⟩⟩
  case add | adds | sub | subs | and | or | xor | shl | shr | asr | asrr | min | max | abs | mov | movi | sath | norm | cmpeq | cmplt
    | cmple | cmpltu | pand | por | pnot =>
    exact fun e op => issues_guarded (fun _ _ => rfl) (fun _ => id) fun _ _ _ => rfl
  case div | divr =>
    exact fun e op => ⟨issues_guarded (fun _ _ => rfl) (fun _ => And.left) fun _ _ hu => if_neg hu.2,
      issues_guarded (fun _ _ => rfl) (fun _ => And.left) fun _ _ hu => if_pos hu.2⟩
  case sel => exact issues_guarded (fun _ _ => rfl) (fun u _ => pass_zero _) fun _ _ _ => rfl
  case bexp | bxclr | mts => exact issues_guarded (fun _ _ => rfl) (fun _ => id) fun _ _ _ => rfl
  case sqrt => exact issues_alu_took (fun _ _ => rfl) (fun _ => And.left) fun _ hu => if_neg (Nat.not_lt.mpr hu.2)
  case sqrtOpen => exact issues_alu_took (fun _ _ => rfl) (fun _ => And.left) fun _ hu => if_pos hu.2
  case mfsStat => exact issues_alu_took (fun _ _ => rfl) (fun _ => And.left) fun _ hu => congrArg unsaturated (if_pos hu.2)
  case mfsBx =>
    exact issues_alu_took (fun _ _ => rfl) (fun _ => And.left) fun _ hu =>
      congrArg unsaturated ((if_neg (by rw [hu.2]; decide)).trans (if_pos hu.2))
  case mfsOpen =>
    exact issues_alu_took (fun _ _ => rfl) (fun _ => And.left) fun _ hu =>
      congrArg unsaturated ((if_neg hu.2.1).trans (if_neg hu.2.2))

/-- Settles O12: each row under its guard, the three of the QMAC class alike. -/
theorem multiplyOperationsComplete : Obligations.MultiplyOperationsComplete := by
  refine ⟨?qmac, ?qmsu, ?qmul, fun e op => ⟨?accrd, ?smul, ?accsum, ?accnorm, ?accclr⟩⟩
  case qmac | qmsu | qmul => exact fun e op => issues_guarded (fun _ _ => rfl) (fun _ => id) fun _ _ _ => rfl
  case accrd | smul | accsum | accnorm => exact issues_guarded (fun _ _ => rfl) (fun _ => id) fun _ _ _ => rfl
  case accclr =>
    refine issues_guarded (fun _ _ => rfl) (fun _ => id) fun u _ _ =>
      congrArg (List.foldl _ · (List.range 4)) (modEng_congr u _ _ _ ?_)
    refine congrArg (fun fly => { u.eng e.val with fly := fly }) (List.filter_congr fun f _ => ?_)
    obtain ⟨land, dst, val⟩ := f
    cases dst <;> rfl

end Sys2Proof.Proofs
end

section
/-! SUPPORT. What the operations of a sector engine leave as it was (R221). -/

namespace Sys2Proof.Laws

open Sys2Proof Sys2Proof.Machine

/-! ### Sorted lists -/

/-- A list with one more in its place lists nothing else. -/
theorem eq_or_mem_of_mem_insertBy {α : Type} {lt : α → α → Bool} {l : List α} {x y : α} (h : x ∈ insertBy lt y l) : x = y ∨ x ∈ l := by
  induction l with
  | nil => exact .inl (List.mem_singleton.mp h)
  | cons z l ih =>
    unfold insertBy at h
    split at h
    · rcases List.mem_cons.mp h with rfl | h
      · exact .inr List.mem_cons_self
      · exact (ih h).imp_right (List.mem_cons_of_mem z)
    · exact List.mem_cons.mp h

/-- A sorted list lists nothing else. -/
theorem mem_of_mem_sortBy {α : Type} {lt : α → α → Bool} {l : List α} {x : α} (h : x ∈ sortBy lt l) : x ∈ l := by
  induction l with
  | nil => exact h
  | cons y l ih =>
    rcases eq_or_mem_of_mem_insertBy h with rfl | h
    · exact List.mem_cons_self
    · exact List.mem_cons_of_mem y (ih h)

/-! ### Changes within one engine and its sector -/

section OnlyEngine

variable {e : Fin 256} {s t u : State}

/-- Nothing changes. -/
theorem onlyEngine_refl (e : Fin 256) (s : State) : onlyEngine e s s :=
  ⟨rfl, fun _ _ => rfl, fun _ _ => rfl, fun _ _ => rfl, rfl⟩

/-- Two changes, one after the other. -/
theorem onlyEngine_trans (h : onlyEngine e s t) (h' : onlyEngine e t u) : onlyEngine e s u := by
  obtain ⟨hrest, hregs, hfar, hsectors, hsector⟩ := h
  obtain ⟨hrest', hregs', hfar', hsectors', hsector'⟩ := h'
  exact ⟨hrest'.trans (by rw [hrest]), fun j hj => (hregs' j hj).trans (hregs j hj), fun j hj => (hfar' j hj).trans (hfar j hj),
    fun k hk => (hsectors' k hk).trans (hsectors k hk), hsector'.trans hsector⟩

/-- The engine changes, or what another engine of its sector has in flight. -/
theorem onlyEngine_modEng {j : Nat} {f : Eng → Eng} (hj : j / 32 = e.val / 32)
    (hf : j = e.val ∨ ∀ x, { f x with fly := [] } = { x with fly := [] }) : onlyEngine e s (s.modEng j f) := by
  refine ⟨rfl, fun i hi => ?_, fun i hi => modEng_eng_other s j f i (by rintro rfl; exact hi hj), fun _ _ => rfl, rfl⟩
  by_cases hij : i = j
  · subst hij
    rw [modEng_eng_same]
    exact hf.resolve_left hi _
  · rw [modEng_eng_other s j f i hij]

/-- The bytes of the sector's state memory change. -/
theorem onlyEngine_modSector {k : Nat} {f : Sector → Sector} (hk : k = e.val / 32)
    (hf : ∀ x, { f x with mem := [] } = { x with mem := [] }) : onlyEngine e s (s.modSector k f) := by
  subst hk
  exact ⟨rfl, fun _ _ => rfl, fun _ _ => rfl, fun k hk => modSector_sector_other s _ f k hk, by rw [modSector_sector_same, hf]⟩

/-- Changes one after the other. -/
theorem onlyEngine_foldl {β : Type} {f : State → β → State} {l : List β} (h : ∀ b ∈ l, ∀ s, onlyEngine e s (f s b)) :
    onlyEngine e s (l.foldl f s) := by
  induction l generalizing s with
  | nil => exact onlyEngine_refl e s
  | cons b l ih =>
    exact onlyEngine_trans (h b List.mem_cons_self s) (ih fun c hc => h c (List.mem_cons_of_mem b hc))

/-- A result of the engine, or one for the state memory of an engine of its sector, lands (R221, R222). -/
theorem onlyEngine_landOne {j : Nat} {f : Flight} (hj : j / 32 = e.val / 32) (h : j = e.val ∨ f.far = true) :
    onlyEngine e s (s.landOne j f) := by
  obtain ⟨land, dst, val⟩ := f
  cases dst
  case state a => exact onlyEngine_modSector hj fun _ => rfl
  all_goals exact onlyEngine_modEng hj (.inl (h.resolve_right Bool.false_ne_true))

end OnlyEngine

/-- The stores to a sector's state memory that are due by a cycle, with the engines that sent them (R222). -/
def dueStores (s : State) (k cyc : Nat) : List (Nat × Flight) :=
  (List.range 32).flatMap (fun i => ((s.eng (32 * k + i)).fly.filter (fun f => f.far && f.land ≤ cyc)).map (fun f => (32 * k + i, f)))

/-- The stores that are due leave what is in flight, and land by cycle. -/
theorem settleState_eq (s : State) (k cyc : Nat) : s.settleState k cyc =
    (sortBy (fun a b => a.2.land < b.2.land) (dueStores s k cyc)).foldl (fun t x => t.landOne x.1 x.2)
      (((dueStores s k cyc).map Prod.fst).eraseDups.foldl (fun t e =>
        t.modEng e (fun x => { x with fly := x.fly.filter (fun f => !(f.far && f.land ≤ cyc)) })) s) := rfl

/-- Engines of the sector alone store to its state memory. -/
theorem of_mem_dueStores {s : State} {k cyc : Nat} {x : Nat × Flight} (h : x ∈ dueStores s k cyc) : x.1 / 32 = k ∧ x.2.far = true := by
  simp only [dueStores, List.mem_flatMap, List.mem_range, List.mem_map, List.mem_filter, Bool.and_eq_true] at h
  obtain ⟨i, hi, f, ⟨-, hfar, -⟩, rfl⟩ := h
  exact ⟨by dsimp only; omega, hfar⟩

/-- The stores to the sector's state memory that are due land. -/
theorem onlyEngine_settleState (e : Fin 256) (s : State) (cyc : Nat) : onlyEngine e s (s.settleState (e.val / 32) cyc) := by
  rw [settleState_eq]
  refine onlyEngine_trans (onlyEngine_foldl fun j hj s => ?_) (onlyEngine_foldl fun x hx s => ?_)
  · obtain ⟨x, hx, rfl⟩ := List.mem_map.mp (List.mem_eraseDups.mp hj)
    exact onlyEngine_modEng (of_mem_dueStores hx).1 (.inr fun _ => rfl)
  · obtain ⟨hsector, hfar⟩ := of_mem_dueStores (mem_of_mem_sortBy hx)
    exact onlyEngine_landOne hsector (.inr hfar)

/-- The engine's own results that are due land. -/
theorem onlyEngine_settle (e : Fin 256) (s : State) (cyc : Nat) : onlyEngine e s (s.settle e.val cyc) :=
  onlyEngine_trans (onlyEngine_modEng rfl (.inl rfl)) (onlyEngine_foldl fun _ _ _ => onlyEngine_landOne rfl (.inl rfl))

/-- The state that `landedOnly` compares with: an engine that issues has let land what is due. -/
def landedNow (e : Fin 256) (s : State) : State :=
  match s.runCycle (e.val / 32) with
  | some cyc => if (s.eng e.val).run && cyc ≤ s.slotEnd (e.val / 32) then landedBy s e.val cyc else s
  | none => s

/-- What has landed by the cycle in hand is the engine's and its sector's. -/
theorem onlyEngine_landedNow (e : Fin 256) (s : State) : onlyEngine e s (landedNow e s) := by
  unfold landedNow
  split
  next =>
    split
    · exact onlyEngine_trans (onlyEngine_settleState e s _) (onlyEngine_settle e _ _)
    · exact onlyEngine_refl e s
  next => exact onlyEngine_refl e s

/-! ### Operations that store nothing at their issue -/

/-- The engine changes but for its local memory, and nothing else but the count of free values taken. -/
def storesNothing (e : Fin 256) (u t : State) : Prop :=
  onlyEngine e u t ∧ (t.eng e.val).mem = (u.eng e.val).mem ∧ (t.sector (e.val / 32)).mem = (u.sector (e.val / 32)).mem ∧
  ∀ j, j ≠ e.val → (t.eng j).fly = (u.eng j).fly

section StoresNothing

variable {e : Fin 256} {u t v : State}

/-- Nothing changes. -/
theorem storesNothing_refl : storesNothing e u u :=
  ⟨onlyEngine_refl e u, rfl, rfl, fun _ _ => rfl⟩

/-- Two changes, one after the other. -/
theorem storesNothing_trans (h : storesNothing e u t) (h' : storesNothing e t v) : storesNothing e u v := by
  obtain ⟨honly, hmem, hstate, hfly⟩ := h
  obtain ⟨honly', hmem', hstate', hfly'⟩ := h'
  exact ⟨onlyEngine_trans honly honly', hmem'.trans hmem, hstate'.trans hstate, fun j hj => (hfly' j hj).trans (hfly j hj)⟩

/-- A change of the engine but for its local memory. -/
theorem storesNothing_modEng {f : Eng → Eng} (hf : ∀ x, (f x).mem = x.mem) : storesNothing e u (u.modEng e.val f) :=
  ⟨onlyEngine_modEng rfl (.inl rfl), by rw [modEng_eng_same, hf], rfl, fun j hj => by rw [modEng_eng_other u _ f j hj]⟩

/-- A free value taken. -/
theorem storesNothing_took (h : storesNothing e u t) : storesNothing e u t.took :=
  storesNothing_trans h ⟨⟨rfl, fun _ _ => rfl, fun _ _ => rfl, fun _ _ => rfl, rfl⟩, rfl, rfl, fun _ _ => rfl⟩

/-- A result sent on its way. -/
theorem storesNothing_send (h : storesNothing e u t) (land : Nat) (d : Dest) (n : Nat) : storesNothing e u (t.send e.val land d n) :=
  storesNothing_trans h (storesNothing_modEng fun _ => rfl)

/-- Flags of ENG_STAT set. -/
theorem storesNothing_setStat (h : storesNothing e u t) (flags : Nat) : storesNothing e u (t.setStat e.val flags) :=
  storesNothing_trans h (storesNothing_modEng fun _ => rfl)

/-- SAT set where a result saturated. -/
theorem storesNothing_satStat (h : storesNothing e u t) (sat : Bool) : storesNothing e u (t.satStat e.val sat) := by
  cases sat
  · exact h
  · exact storesNothing_setStat h 1

/-- An accumulator's update sent on its way. -/
theorem storesNothing_sendAcc (h : storesNothing e u t) (own view k : Nat) (n : Int) :
    storesNothing e u (t.sendAcc e.val own view k n) :=
  storesNothing_send (storesNothing_send h _ _ _) _ _ _

/-- Changes one after the other. -/
theorem storesNothing_foldl {β : Type} {f : State → β → State} (hf : ∀ t b, storesNothing e u t → storesNothing e u (f t b))
    (l : List β) (h : storesNothing e u t) : storesNothing e u (l.foldl f t) := by
  induction l generalizing t with
  | nil => exact h
  | cons b l ih => exact ih (hf t b h)

/-- Results sent on their way one after the other. -/
theorem storesNothing_sends {β : Type} (h : storesNothing e u t) (l : List β) (land : Nat) (d : β → Dest) (n : β → Nat) :
    storesNothing e u (l.foldl (fun t b => t.send e.val land (d b) (n b)) t) :=
  storesNothing_foldl (fun _ _ h => storesNothing_send h _ _ _) l h

/-- The index post-modified. -/
theorem storesNothing_postMod (h : storesNothing e u t) (cyc : Nat) (op : LSlot) : storesNothing e u (t.postMod e.val cyc op) := by
  unfold State.postMod
  split
  · exact storesNothing_send h _ _ _
  · exact h

/-- An operation that stores nothing where it issues stores nothing. -/
theorem storesNothing_issue {f : State → Nat → State}
    (h : ∀ cyc, u.runCycle (e.val / 32) = some cyc → storesNothing e (issuing u e.val cyc) (f (issuing u e.val cyc) cyc)) :
    storesNothing e (landedNow e u) (u.issue e.val f) := by
  cases hcyc : u.runCycle (e.val / 32) with
  | none =>
    simp only [landedNow, State.issue, hcyc]
    exact storesNothing_refl
  | some cyc =>
    by_cases hgo : ((u.eng e.val).run && decide (cyc ≤ u.slotEnd (e.val / 32))) = true
    · have hissuing : storesNothing e (landedBy u e.val cyc) (issuing u e.val cyc) := storesNothing_modEng fun _ => rfl
      simp only [landedNow, State.issue, hcyc, hgo, if_true]
      exact storesNothing_trans hissuing (h cyc hcyc)
    · simp only [landedNow, State.issue, hcyc, hgo, if_false, Bool.false_eq_true]
      exact storesNothing_refl

end StoresNothing

/-- A row whose meaning changes the engine alone is that change, at the time it leaves. -/
theorem afterKeep_onlyEngine {e : Fin 256} {dt : Nat} {s t : State} (h : onlyEngine e (s.advance dt) t) : afterKeep dt s t = t := by
  obtain ⟨hrest, -⟩ := h
  have hpending : t.pending = s.pending := (congrArg State.pending hrest).trans rfl
  have hclk : t.clk = s.clk + dt := (congrArg State.clk hrest).trans rfl
  have hotp : t.otp = s.otp := (congrArg State.otp hrest).trans rfl
  rw [afterKeep, ← hpending, ← hclk, ← hotp]

/-- A row whose meaning stores nothing past what lands leaves the rest. -/
theorem leavesRest_of {e : Fin 256} {dt : Nat} {i : Instr} {s t : State} {f : State → State} (hs : awake s)
    (hexec : exec i s = run dt s f) (h : storesNothing e (landedNow e (s.advance dt)) (f (s.advance dt))) (ht : exec i s = .next t) :
    onlyEngine e (s.advance dt) t ∧ landedOnly e (s.advance dt) t := by
  obtain ⟨honly, hmem⟩ := h
  have honly := onlyEngine_trans (onlyEngine_landedNow e _) honly
  rw [hexec, run_awake dt s f hs, afterKeep_onlyEngine honly] at ht
  cases ht
  exact ⟨honly, hmem⟩

end Sys2Proof.Laws
end

section
/-! SUPPORT. Loads and stores of a sector engine (R209, R216, R222): one that reaches its memory does what it names. -/

namespace Sys2Proof.Laws

open Sys2Proof Sys2Proof.Machine

/-! ### Areas (R209) -/

/-- The first 64 KiB are local data memory. -/
theorem areaOf_local {ea : Nat} (h : ea < 0x10000) : areaOf ea = .loc := if_pos h

/-- An address of the histogram window. -/
theorem areaOf_eq_hist {ea t off : Nat} : areaOf ea = .hist t off ↔
    0x100000 ≤ ea ∧ ea < 0x240000 ∧ (ea - 0x100000) / 0x28000 = t ∧ (ea - 0x100000) % 0x28000 = off := by
  unfold areaOf
  split_ifs <;> simp <;> omega

/-- An address of the state memory. -/
theorem areaOf_eq_state {ea off : Nat} : areaOf ea = .state off ↔ 0x300000 ≤ ea ∧ ea < 0x304000 ∧ ea - 0x300000 = off := by
  unfold areaOf
  split_ifs <;> simp <;> omega

/-- The bytes of an aligned 16-byte line of the histogram window lie in one tile. -/
theorem areaOf_line_hist {ea t off : Nat} (h : areaOf ea = .hist t off) (i : Nat) :
    areaOf (ea / 16 * 16 + (ea + i) % 16) = .hist t (off / 16 * 16 + (off + i) % 16) := by
  rw [areaOf_eq_hist] at h ⊢
  omega

/-- The bytes of an aligned 16-byte line of the state memory lie in it. -/
theorem areaOf_line_state {ea off : Nat} (h : areaOf ea = .state off) (i : Nat) :
    areaOf (ea / 16 * 16 + (ea + i) % 16) = .state (off / 16 * 16 + (off + i) % 16) := by
  rw [areaOf_eq_state] at h ⊢
  omega

/-- The output port is two words. -/
theorem areaOf_port (summary : Bool) : areaOf (if summary then 0x400008 else 0x400000) = .port summary := by
  cases summary <;> rfl

/-! ### The cycle of an issue -/

/-- A change within one engine and its sector leaves the cycle of every run. -/
theorem onlyEngine_runCycle {e : Fin 256} {s t : State} (h : onlyEngine e s t) (k : Nat) : t.runCycle k = s.runCycle k := by
  obtain ⟨hrest, -, -, hsectors, hsector⟩ := h
  have hnow : t.now = s.now := by rw [hrest]; rfl
  have hfrom : (t.sector k).runFrom = (s.sector k).runFrom := by
    by_cases hk : k = e.val / 32
    · exact hk ▸ (congrArg Sector.runFrom hsector :)
    · rw [hsectors k hk]
  rw [State.runCycle, hnow, hfrom, State.runCycle]

/-- What lands as an engine issues is its own and its sector's. -/
theorem onlyEngine_issuing (e : Fin 256) (s : State) (cyc : Nat) : onlyEngine e s (issuing s e.val cyc) :=
  onlyEngine_trans (onlyEngine_trans (onlyEngine_settleState e s cyc) (onlyEngine_settle e _ cyc)) (onlyEngine_modEng rfl (.inl rfl))

/-- As `issues_of`, the cycle being that of the issuing state. -/
theorem issues_in_cycle {mk : Nat → Instr} {e : Fin 256} {cond : State → Prop} {eff : State → Nat → State} (f : State → Nat → State)
    (hexec : ∀ dt s, exec (mk dt) s = run dt s (fun u => u.issue e.val f))
    (h : ∀ u cyc, u.runCycle (e.val / 32) = some cyc → cond u → f u cyc = eff u cyc) : Issues mk e cond eff := by
  intro dt cyc s hs hcyc hend hrun hcond
  rw [hexec, run_awake dt s _ hs, issue_running _ _ cyc f hcyc hend hrun,
    h _ _ ((onlyEngine_runCycle (onlyEngine_issuing e _ cyc) _).trans hcyc) hcond]

/-! ### Loads -/

/-- The effective address of an L operation on elements of `z` bytes. -/
abbrev addrOf (u : State) (e : Nat) (op : LSlot) (z : Nat) : Nat :=
  (u.eng e).ea u.free op z / z * z

/-- An engine's load may read an area in a cycle: its claim is covered by a token and comes before SLOT_END (R104, R209, R246). -/
def reaches (u : State) (e cyc : Nat) (ar : Area) : Prop :=
  ar.readable = true ∧ u.tokenOk e cyc ar = true ∧ u.tooLate e cyc ar = false

/-- Local data memory is always reached. -/
theorem reaches_local (u : State) (e cyc : Nat) : reaches u e cyc .loc := ⟨rfl, rfl, rfl⟩

/-- A load, by its guard (R221). -/
theorem loadOp_eq (u : State) (e : Nat) (op : LSlot) (ecc : EccHit) (z wide : Nat) (read : State → Nat → Area → List Nat) :
    u.loadOp e op ecc z wide read = u.issue e (fun u cyc =>
      if (u.eng e).pass op.pred (negBit op.pneg) then
        let r := u.loadAt e cyc (addrOf u e op z) ecc (wide = 4) (fun t ar => read t (addrOf u e op z) ar)
        (((List.range wide).foldl (fun t i => t.send e (cyc + loadLat (u.runVariant (e / 32)) (areaOf (addrOf u e op z)))
          (.x (op.xreg.toNat + i)) (r.2.getD i 0)) r.1).postMod e cyc op).took
      else u.claimOnly e cyc Area.readable (areaOf (addrOf u e op z))) := rfl

/-- A load that has read its memory: the words on their way, the index post-modified (R222, R230). -/
def loaded (u : State) (e cyc : Nat) (op : LSlot) (ecc : EccHit) (z wide : Nat) (read : State → Nat → Area → List Nat) : State :=
  (((List.range wide).foldl (fun t i => t.send e (cyc + loadLat (u.runVariant (e / 32)) (areaOf (addrOf u e op z)))
    (.x (op.xreg.toNat + i)) ((read u (addrOf u e op z) (areaOf (addrOf u e op z))).getD i 0))
      (u.loadEcc e (areaOf (addrOf u e op z)) ecc (wide = 4))).postMod e cyc op).took

section Access

variable {mk : Nat → Instr} {e : Fin 256} {op : LSlot} {ecc : EccHit} {z wide : Nat} {read : State → Nat → Area → List Nat}
  {val : Eng → Nat} {cond : State → Prop} {eff : State → Nat → State}

/-- A load that reaches its memory reads it. -/
theorem loadAt_reached {u : State} {i cyc ea : Nat} {line : Bool} {rd : State → Area → List Nat} (h : reaches u i cyc (areaOf ea)) :
    u.loadAt i cyc ea ecc line rd = (u.loadEcc i (areaOf ea) ecc line, rd u (areaOf ea)) := by
  obtain ⟨hread, htoken, htime⟩ := h
  simp [State.loadAt, hread, htoken, htime]

/-- A load whose guard passes takes effect where it reaches its memory. -/
theorem issues_load (hexec : ∀ dt s, exec (mk dt) s = run dt s (fun u => u.loadOp e.val op ecc z wide read))
    (hpass : ∀ u, cond u → passes e op.pred op.pneg u)
    (hreach : ∀ u cyc, u.runCycle (e.val / 32) = some cyc → cond u → reaches u e.val cyc (areaOf (addrOf u e.val op z)))
    (heff : ∀ u cyc, cond u → loaded u e.val cyc op ecc z wide read = eff u cyc) : Issues mk e cond eff :=
  issues_in_cycle _ (fun dt s => (hexec dt s).trans (congrArg (run dt s) (funext fun u => loadOp_eq u e.val op ecc z wide read)))
    fun u cyc hcyc hu => by
      refine (if_pos (hpass u hu)).trans (Eq.trans ?_ (heff u cyc hu))
      simp only [loadAt_reached (hreach u cyc hcyc hu)]
      rfl

/-! ### Stores -/

/-- What a store does with its bytes, by the area of its address (R209, R222). -/
def storeAt (u : State) (e cyc z ea v : Nat) : State :=
  match areaOf ea with
  | .loc => (List.range z).foldl (fun t i => t.send e (cyc + 2) (.mem (ea + i)) (fld v (8 * i) 8)) u
  | .state off =>
    if u.tokenOk e cyc (areaOf ea) then
      (List.range z).foldl (fun t i => t.send e (cyc + (3 + 2 * u.runVariant (e / 32))) (.state (off + i)) (fld v (8 * i) 8)) u
    else u.guardFault 0x3007 e
  | .port summary =>
    if z != 8 then u.engFault 0x3004 e
    else if u.tokenOk e cyc (areaOf ea) then u.portWord64 e cyc summary v
    else u.guardFault 0x3007 e
  | _ => u.engFault 0x3004 e

/-- A store, by its guard (R221). -/
theorem storeOp_eq (u : State) (i : Nat) : u.storeOp i op z val = u.issue i (fun u cyc =>
    if (u.eng i).pass op.pred (negBit op.pneg) then
      ((storeAt u i cyc z (addrOf u i op z) (val (u.eng i))).postMod i cyc op).took
    else u.claimOnly i cyc (Area.writable z) (areaOf (addrOf u i op z))) := rfl

variable {u : State} {i cyc ea v : Nat}

/-- A store to local data memory. -/
theorem storeAt_local (h : areaOf ea = .loc) : storeAt u i cyc z ea v =
    (List.range z).foldl (fun t k => t.send i (cyc + 2) (.mem (ea + k)) (fld v (8 * k) 8)) u := by
  simp only [storeAt, h]

/-- A store to the state memory whose claim is covered by a token. -/
theorem storeAt_state {off : Nat} (h : areaOf ea = .state off) (htoken : u.tokenOk i cyc (areaOf ea) = true) :
    storeAt u i cyc z ea v = (List.range z).foldl (fun t k => t.send i (cyc + 3 + 2 * u.runVariant (i / 32)) (.state (off + k))
      (fld v (8 * k) 8)) u := by
  rw [h] at htoken
  simp only [storeAt, h, htoken, if_true, Nat.add_assoc]

/-- An STD to the output port whose claim is covered by a token. -/
theorem storeAt_port {summary : Bool} (h : areaOf ea = .port summary) (htoken : u.tokenOk i cyc (areaOf ea) = true) :
    storeAt u i cyc 8 ea v = u.portWord64 i cyc summary v := by
  rw [h] at htoken
  simp only [storeAt, h, htoken, if_true, bne_self_eq_false, Bool.false_eq_true, if_false]

/-- A store whose guard passes takes effect. -/
theorem issues_store (hexec : ∀ dt s, exec (mk dt) s = run dt s (fun u => u.storeOp e.val op z val))
    (hpass : ∀ u, cond u → passes e op.pred op.pneg u)
    (heff : ∀ u cyc, u.runCycle (e.val / 32) = some cyc → cond u →
      ((storeAt u e.val cyc z (addrOf u e.val op z) (val (u.eng e.val))).postMod e.val cyc op).took = eff u cyc) :
    Issues mk e cond eff :=
  issues_in_cycle _ (fun dt s => (hexec dt s).trans (congrArg (run dt s) (funext fun u => storeOp_eq u e.val)))
    fun u cyc hcyc hu => (if_pos (hpass u hu)).trans (heff u cyc hcyc hu)

end Access

end Sys2Proof.Laws
end

section
/-! PROOFS. Operations of the L slot, and NOP (R209, R212, R215, R216, R222, R230). -/

namespace Sys2Proof.Proofs

open Sys2Proof Sys2Proof.Machine Sys2Proof.Laws

section Memories

variable {mk : Nat → Instr} {e : Fin 256} {op : LSlot} {ecc : EccHit} {z wide : Nat} {read : State → Nat → Area → List Nat}
  {val : Eng → Nat} {eff : State → Nat → State}

/-- Every claim of the engine's access at an address in the state's cycle is covered by a token and comes in time. -/
def granted (e : Fin 256) (ea : Nat) (u : State) : Prop :=
  ∀ cyc, u.runCycle (e.val / 32) = some cyc → u.tokenOk e.val cyc (areaOf ea) = true ∧ u.tooLate e.val cyc (areaOf ea) = false

/-- A load from local data memory. -/
theorem issues_load_local (hexec : ∀ dt s, exec (mk dt) s = run dt s (fun u => u.loadOp e.val op ecc z wide read))
    (heff : ∀ u cyc, areaOf (addrOf u e.val op z) = .loc → loaded u e.val cyc op ecc z wide read = eff u cyc) :
    Issues mk e (fun u => passes e op.pred op.pneg u ∧ addrOf u e.val op z < 0x10000) eff :=
  issues_load hexec (fun _ => And.left) (fun u cyc _ hu => (areaOf_local hu.2).symm ▸ reaches_local u e.val cyc)
    fun u cyc hu => heff u cyc (areaOf_local hu.2)

/-- A load from the histogram window or the state memory under its token. -/
theorem issues_load_far (hexec : ∀ dt s, exec (mk dt) s = run dt s (fun u => u.loadOp e.val op ecc z wide read))
    (hhist : ∀ u cyc t off, areaOf (addrOf u e.val op z) = .hist t off → loaded u e.val cyc op ecc z wide read = eff u cyc)
    (hstate : ∀ u cyc off, areaOf (addrOf u e.val op z) = .state off → loaded u e.val cyc op ecc z wide read = eff u cyc) :
    Issues mk e (fun u => passes e op.pred op.pneg u ∧ ((∃ t off, areaOf (addrOf u e.val op z) = .hist t off) ∨
      ∃ off, areaOf (addrOf u e.val op z) = .state off) ∧ granted e (addrOf u e.val op z) u) eff := by
  refine issues_load hexec (fun _ => And.left) (fun u cyc hcyc ⟨_, harea, hgranted⟩ => ?_) fun u cyc ⟨_, harea, _⟩ => ?_
  · refine ⟨?_, hgranted cyc hcyc⟩
    rcases harea with ⟨t, off, h⟩ | ⟨off, h⟩ <;> rw [h] <;> rfl
  · rcases harea with ⟨t, off, h⟩ | ⟨off, h⟩
    · exact hhist u cyc t off h
    · exact hstate u cyc off h

/-- A store to the state memory under its token. -/
theorem issues_store_state {off : Nat}
    (hexec : ∀ dt s, exec (mk dt) s = run dt s (fun u => u.storeOp e.val op z val))
    (heff : ∀ u cyc, (((List.range z).foldl (fun t i => t.send e.val (cyc + 3 + 2 * u.runVariant (e.val / 32)) (.state (off + i))
      (fld (val (u.eng e.val)) (8 * i) 8)) u).postMod e.val cyc op).took = eff u cyc) :
    Issues mk e (fun u => passes e op.pred op.pneg u ∧ areaOf (addrOf u e.val op z) = .state off ∧ granted e (addrOf u e.val op z) u)
      eff :=
  issues_store hexec (fun _ => And.left) fun u cyc hcyc ⟨_, harea, hgranted⟩ => by
    rw [storeAt_state harea (hgranted cyc hcyc).1]
    exact heff u cyc

end Memories

/-- Settles O10: a load by the area that it reads, a store by the area that it writes, NOP by what its fetch finds. -/
theorem loadStoreAndNopOperationsComplete : Obligations.LoadStoreAndNopOperationsComplete := by
  refine ⟨?ldbFar, ?ldhFar, ?ldwFar, ?lddFar, ?ldb4Far, ?stbState, ?sthState, ?stwState, ?stdState, ?stdPort, ?ldb, ?ldh, ?ldw, ?ldd, ?ldb4,
    ?stb, ?sth, ?stw, ?std, ?reserved, ?unmapped, ?reloaded, ?nop⟩
  case ldbFar | ldhFar | ldwFar | lddFar =>
    exact fun e op ecc => issues_load_far (fun _ _ => rfl)
      (fun u cyc t off harea => by simp only [loaded, harea]; rfl)
      (fun u cyc off harea => by simp only [loaded, harea]; rfl)
  case ldb4Far =>
    exact fun e op ecc => issues_load_far (fun _ _ => rfl)
      (fun u cyc t off harea => by simp only [loaded, harea, areaOf_line_hist harea]; rfl)
      (fun u cyc off harea => by simp only [loaded, harea, areaOf_line_state harea]; rfl)
  case stbState | sthState | stwState | stdState =>
    exact fun e op off => issues_store_state (fun _ _ => rfl) fun _ _ => rfl
  case stdPort =>
    exact fun e op summary => issues_store (fun _ _ => rfl) (fun _ => And.left) fun u cyc hcyc ⟨_, haddr, hgranted⟩ => by
      have harea := areaOf_port summary
      rw [← haddr] at harea
      rw [storeAt_port harea (hgranted cyc hcyc).1]
  case ldb | ldh | ldw | ldd | ldb4 =>
    exact fun e op ecc => issues_load_local (fun _ _ => rfl) fun u cyc harea => by
      simp only [loaded, harea]; rfl
  case stb | sth | stw | std =>
    exact fun e op => issues_store (fun _ _ => rfl) (fun _ => And.left) fun u cyc _ ⟨_, hlocal⟩ => by
      rw [storeAt_local (areaOf_local hlocal)]
  case reserved => exact fun e k ecc hecc => issues_of _ (fun _ _ => rfl) fun u _ hres => (if_neg hecc).trans (if_pos hres)
  case unmapped =>
    refine fun e k => issues_of _ (fun _ _ => rfl) fun u _ hlog => (if_pos rfl).trans ?_
    rw [hlog]
    cases u.imageInForce (e.val / 32) <;> rfl
  case reloaded =>
    refine fun e k i l => issues_of _ (fun _ _ => rfl) fun u _ ⟨himage, hlog⟩ => (if_pos rfl).trans ?_
    rw [himage, hlog]
  case nop =>
    exact fun e k => issues_of _ (fun _ _ => rfl) fun u _ hfree => (if_neg (by decide)).trans (if_neg (Bool.eq_false_iff.mp hfree))

end Sys2Proof.Proofs
end

section
/-! PROOFS. What the operations of a sector engine leave as it was (R221). -/

namespace Sys2Proof.Proofs

open Sys2Proof Sys2Proof.Machine Sys2Proof.Laws

/-- A row leaves every other engine, sector and memory as it was, where `cond` holds of its issuing state. -/
def leavesRest (mk : Nat → Fin 256 → Instr) (cond : Fin 256 → State → Prop) : Prop :=
  ∀ (dt : Nat) (e : Fin 256) (s t : State), awake s →
    (∀ cyc, (s.advance dt).runCycle (e.val / 32) = some cyc → cond e (issuing (s.advance dt) e.val cyc)) →
    exec (mk dt e) s = .next t → onlyEngine e (s.advance dt) t ∧ landedOnly e (s.advance dt) t

/-- A row whose guard fails only issues (R221). -/
def idles (mk : Nat → Fin 256 → Instr) (p : BitVec 3) (n : Bool) : Prop :=
  ∀ e : Fin 256, Issues (fun dt => mk dt e) e (fun u => ¬passes e p n u) (fun u _ => u)

section Rest

variable {mk : Nat → Fin 256 → Instr} {cond : Fin 256 → State → Prop} {f : Fin 256 → State → Nat → State}

/-- An operation that stores nothing at its issue leaves the rest. -/
theorem leavesRest_issue (hexec : ∀ dt e s, exec (mk dt e) s = run dt s (fun u => u.issue e.val (f e)))
    (h : ∀ e u cyc, cond e u → storesNothing e u (f e u cyc)) : leavesRest mk cond :=
  fun dt e s _ hs hcond => leavesRest_of hs (hexec dt e s) (storesNothing_issue fun cyc hcyc => h e _ cyc (hcond cyc hcyc))

/-- As `leavesRest_issue`, in every state. -/
theorem leavesRest_always (hexec : ∀ dt e s, exec (mk dt e) s = run dt s (fun u => u.issue e.val (f e)))
    (h : ∀ e u cyc, storesNothing e u (f e u cyc)) : leavesRest mk (fun _ _ => True) :=
  leavesRest_issue hexec fun e u cyc _ => h e u cyc

/-- As `leavesRest_always`, for an operation that takes a free value. -/
theorem leavesRest_took (hexec : ∀ dt e s, exec (mk dt e) s = run dt s (fun u => (u.issue e.val (f e)).took))
    (h : ∀ e u cyc, storesNothing e u (f e u cyc)) : leavesRest mk (fun _ _ => True) :=
  fun dt e s _ hs _ => leavesRest_of hs (hexec dt e s) (storesNothing_took (storesNothing_issue fun cyc _ => h e _ cyc))

/-- A change under a condition. -/
theorem storesNothing_guarded {e : Fin 256} {u t : State} {c : Prop} [Decidable c] (h : storesNothing e u t) :
    storesNothing e u (if c then t else u) := by
  split
  · exact h
  · exact storesNothing_refl

/-- A guarded operation that stores nothing leaves the rest, and only issues where its guard fails. -/
theorem leavesRest_guarded {p : BitVec 3} {n : Bool} {g : Fin 256 → State → Nat → State}
    (hexec : ∀ dt e s, exec (mk dt e) s = run dt s (fun u => u.issue e.val (fun u cyc =>
      if (u.eng e.val).pass p (negBit n) then g e u cyc else u)))
    (h : ∀ e u cyc, storesNothing e u (g e u cyc)) : leavesRest mk (fun _ _ => True) ∧ idles mk p n :=
  ⟨leavesRest_issue hexec fun e u cyc _ => storesNothing_guarded (h e u cyc),
    fun e => issues_of _ (fun dt => hexec dt e) fun _ _ hfail => if_neg hfail⟩

/-- An arithmetic result, with SAT where it saturated. -/
theorem storesNothing_result (e : Fin 256) (u : State) (land : Nat) (d : Dest) (v : Nat) (sat : Bool) :
    storesNothing e u ((u.send e.val land d v).satStat e.val sat) :=
  storesNothing_satStat (storesNothing_send storesNothing_refl _ _ _) _

/-- An A operation that writes DST. -/
theorem alu_leavesRest {op : ASlot} {lat : Nat} {f : State → Eng → Int × Bool}
    (hexec : ∀ dt e s, exec (mk dt e) s = run dt s (fun u => u.aluOp e.val op lat f)) :
    leavesRest mk (fun _ _ => True) ∧ idles mk op.pred op.pneg :=
  leavesRest_guarded hexec fun e u _ => storesNothing_result e u _ _ _ _

/-- A compare or a predicate operation. -/
theorem pred_leavesRest {op : ASlot} {f : Eng → Bool}
    (hexec : ∀ dt e s, exec (mk dt e) s = run dt s (fun u => u.predOp e.val op f)) :
    leavesRest mk (fun _ _ => True) ∧ idles mk op.pred op.pneg :=
  leavesRest_guarded hexec fun _ _ _ => storesNothing_send storesNothing_refl _ _ _

/-- A division. -/
theorem div_leavesRest {op : ASlot} {f : Int → Int → Int}
    (hexec : ∀ dt e s, exec (mk dt e) s = run dt s (fun u => u.divOp e.val op f)) :
    leavesRest mk (fun _ _ => True) ∧ idles mk op.pred op.pneg := by
  refine leavesRest_guarded hexec fun e u _ => ?_
  dsimp only
  split
  · exact storesNothing_setStat (storesNothing_send storesNothing_refl _ _ _) _
  · exact storesNothing_result e u _ _ _ _

/-- A four-lane operation on the accumulators. -/
theorem quad_leavesRest {op : MSlot} {f : Int → Int → Int}
    (hexec : ∀ dt e s, exec (mk dt e) s = run dt s (fun u => u.quadOp e.val op f)) :
    leavesRest mk (fun _ _ => True) ∧ idles mk op.pred op.pneg :=
  leavesRest_guarded hexec fun _ _ _ => storesNothing_foldl
    (fun _ _ h => storesNothing_satStat (storesNothing_sendAcc h _ _ _ _) _) _ storesNothing_refl

/-- A store or load whose guard fails claims nothing of local memory. -/
theorem claimOnly_local (u : State) (e cyc : Nat) (claims : Area → Bool) : u.claimOnly e cyc claims .loc = u := by
  unfold State.claimOnly
  exact if_pos (by simp [(reaches_local u e cyc).2.1])

/-- A load from local data memory. -/
theorem load_leavesRest {op : LSlot} {z wide : Nat} {read : Fin 256 → State → Nat → Area → List Nat}
    (hexec : ∀ dt e s, exec (mk dt e) s = run dt s (fun u => u.loadOp e.val op .clean z wide (read e))) :
    leavesRest mk (fun e u => addrOf u e.val op z < 0x10000) := by
  refine leavesRest_issue
    (fun dt e s => (hexec dt e s).trans (congrArg (run dt s) (funext fun u => loadOp_eq u e.val op .clean z wide _)))
    fun e u cyc hlocal => ?_
  have harea := areaOf_local hlocal
  have hreach : reaches u e.val cyc (areaOf (addrOf u e.val op z)) := harea ▸ reaches_local u e.val cyc
  split
  · simp only [loadAt_reached hreach, harea]
    exact storesNothing_took (storesNothing_postMod (storesNothing_sends storesNothing_refl _ _ _ _) _ _)
  · rw [harea, claimOnly_local]
    exact storesNothing_refl

/-- A store to local data memory. -/
theorem store_leavesRest {op : LSlot} {z : Nat} {val : Eng → Nat}
    (hexec : ∀ dt e s, exec (mk dt e) s = run dt s (fun u => u.storeOp e.val op z val)) :
    leavesRest mk (fun e u => addrOf u e.val op z < 0x10000) := by
  refine leavesRest_issue (fun dt e s => (hexec dt e s).trans (congrArg (run dt s) (funext fun u => storeOp_eq u e.val)))
    fun e u cyc hlocal => ?_
  have harea := areaOf_local hlocal
  split
  · rw [storeAt_local harea]
    exact storesNothing_took (storesNothing_postMod (storesNothing_sends storesNothing_refl _ _ _ _) _ _)
  · rw [harea, claimOnly_local]
    exact storesNothing_refl

end Rest

/-- Settles O59: what lands as the engine issues is its own and its sector's, and past that each row stores nothing; where its guard fails
it does nothing. -/
theorem engineOperationsLeaveTheRest : Obligations.EngineOperationsLeaveTheRest := by
  refine ⟨fun op => ⟨?ldb, ?ldh, ?ldw, ?ldd, ?ldb4, ?stb, ?sth, ?stw, ?std⟩, fun op => ⟨?arithmetic, ?sel, ?sqrt, ?mfs⟩, fun op => ?multiply,
    fun op => ?address, fun arg => ⟨?loop0, ?loop1⟩, ?lend0, ?lend1⟩
  case ldb | ldh | ldw | ldd | ldb4 => exact load_leavesRest fun _ _ _ => rfl
  case stb | sth | stw | std => exact store_leavesRest fun _ _ _ => rfl
  case sel =>
    exact leavesRest_always (fun _ _ _ => rfl) fun e u _ => storesNothing_guarded (storesNothing_result e u _ _ _ _)
  case sqrt | mfs =>
    exact leavesRest_took (fun _ _ _ => rfl) fun e u _ => storesNothing_guarded (storesNothing_result e u _ _ _ _)
  case arithmetic =>
    simp only [List.forall_mem_cons]
    refine ⟨?add, ?adds, ?sub, ?subs, ?and, ?or, ?xor, ?shl, ?shr, ?asr, ?asrr, ?min, ?max, ?abs, ?mov, ?movi, ?sath, ?norm, ?bexp, ?bxclr,
      ?cmpeq, ?cmplt, ?cmple, ?cmpltu, ?pand, ?por, ?pnot, ?div, ?divr, ?mts, fun _ h => absurd h List.not_mem_nil⟩
    case add | adds | sub | subs | and | or | xor | shl | shr | asr | asrr | min | max | abs | mov | movi | sath | norm =>
      exact alu_leavesRest fun _ _ _ => rfl
    case cmpeq | cmplt | cmple | cmpltu | pand | por | pnot => exact pred_leavesRest fun _ _ _ => rfl
    case div | divr => exact div_leavesRest fun _ _ _ => rfl
    case bexp | bxclr => exact leavesRest_guarded (fun _ _ _ => rfl) fun _ _ _ => storesNothing_send storesNothing_refl _ _ _
    case mts => exact leavesRest_guarded (fun _ _ _ => rfl) fun _ _ _ => storesNothing_modEng fun _ => rfl
  case multiply =>
    simp only [List.forall_mem_cons]
    refine ⟨?qmac, ?qmsu, ?qmul, ?accrd, ?smul, ?accsum, ?accnorm, ?accclr, fun _ h => absurd h List.not_mem_nil⟩
    case qmac | qmsu | qmul => exact quad_leavesRest fun _ _ _ => rfl
    case accrd | smul => exact leavesRest_guarded (fun _ _ _ => rfl) fun e u _ => storesNothing_result e u _ _ _ _
    case accsum =>
      exact leavesRest_guarded (fun _ _ _ => rfl) fun _ _ _ =>
        storesNothing_satStat (storesNothing_sendAcc storesNothing_refl _ _ _ _) _
    case accnorm => exact leavesRest_guarded (fun _ _ _ => rfl) fun _ _ _ => storesNothing_send storesNothing_refl _ _ _
    case accclr =>
      exact leavesRest_guarded (fun _ _ _ => rfl) fun _ _ _ => storesNothing_foldl (fun _ _ h => storesNothing_sendAcc h _ _ _ _) _
        (storesNothing_modEng fun _ => rfl)
  case address =>
    simp only [List.forall_mem_cons]
    refine ⟨?setb, ?seti, ?setm, ?setl, ?setd, ?addi, ?geti, fun _ h => absurd h List.not_mem_nil⟩
    case addi =>
      exact leavesRest_always (fun _ _ _ => rfl) fun _ _ _ => storesNothing_took (storesNothing_send storesNothing_refl _ _ _)
    case setb | seti | setm | setl | setd | geti =>
      exact leavesRest_always (fun _ _ _ => rfl) fun _ _ _ => storesNothing_send storesNothing_refl _ _ _
  case loop0 | loop1 => exact leavesRest_always (fun _ _ _ => rfl) fun _ _ _ => storesNothing_modEng fun _ => rfl
  case lend0 | lend1 =>
    exact leavesRest_always (fun _ _ _ => rfl) fun _ _ _ => storesNothing_modEng fun _ => by split <;> rfl

end Sys2Proof.Proofs
end

section
/-! PROOFS. The commands of the classes SCHED and SAFE (R240, R366, R394, R397, R400, R426). -/

namespace Sys2Proof.Laws

open Sys2Proof Sys2Proof.Machine

/-- SAFE.CONFIG keeps a configuration in range, starts its flash write and ends 0x8011, where the flash can be written (R394, R397, R426). -/
theorem safeConfig_act (u : State) (c : Ctx) (hlen : 68 ≤ c.din.length) (hblock : safeBad c.din = none) (hflash : u.flashAllowed = true) :
    cmdSafeConfig.act u c =
      ((State.startJob { u with safe.cfgNext := some (c.din, c.p 0 1) } c (.safe c.din (c.p 0 1))).endFault 0x8011).ok := by
  simp [cmdSafeConfig, Nat.not_lt.mpr hlen, hblock, hflash]

end Sys2Proof.Laws

namespace Sys2Proof.Proofs

open Sys2Proof Sys2Proof.Machine Sys2Proof.Laws

/-- Settles O5: each row by what its act answers; SAFE.CONFIG past its own conditions. -/
theorem scheduleAndSafetyCommandsComplete : Obligations.ScheduleAndSafetyCommandsComplete := by
  refine ⟨?load, ?status, ?config, ?safeStatus⟩
  case load | status | safeStatus => exact completes_of_act _ _ _ _ _ _ (fun _ _ _ => rfl) fun _ _ _ => rfl
  case config =>
    exact completes_of_act _ _ _ _ _ _ (fun _ _ _ => rfl) fun u c ⟨hlen, hblock, hflash⟩ => safeConfig_act u c hlen hblock hflash

end Sys2Proof.Proofs
end

section
/-! PROOFS. The commands of the classes RIDGE, CHAIN and HOST (R279 to R285, R303, R318, R319, R328, R368, R369, R426). -/

namespace Sys2Proof.Laws

open Sys2Proof Sys2Proof.Machine

/-- What a flag asks for is not missing where the flag brings it. -/
theorem and_not_of_imp {flag has : Bool} (h : flag = true → has = true) : (flag && !has) = false := by
  cases flag
  case false => rfl
  case true => simp [h rfl]

variable (u : State) (c : Ctx)

/-! ### RIDGE (R279 to R284) -/

/-- The port that RIDGE.LANE_CFG names, its word written: a port that runs keeps the word in force (R282). -/
def laneWordSet : State :=
  u.modRport (c.p 0 1) (fun q => { q with
    cfgSet := BitVec.ofNat 32 (setFld (c.p 4 4) 16 1 0)
    cfg := if q.active then q.cfg else BitVec.ofNat 32 (setFld (c.p 4 4) 16 1 0) })

/-- RIDGE.LANE_CFG writes a word in range of a port that is not retired; with APPLY a port that is up retrains, where no retrain runs
(R282). -/
theorem ridgeLaneCfg_act (htap : fld (c.p 4 4) 3 3 ≤ 5) (hidle : 10 ≤ fld (c.p 4 4) 8 8) (hkept : u.retired 8 (c.p 0 1) = false)
    (hup : bitN (c.p 4 4) 16 = true → (u.rport (c.p 0 1)).up = true) :
    cmdRidgeLaneCfg.act u c = (if bitN (c.p 4 4) 16 && !(u.rport (c.p 0 1)).retrain then (laneWordSet u c).portRetrain (c.p 0 1)
      else laneWordSet u c).ok := by
  simp only [cmdRidgeLaneCfg, if_neg (Nat.not_lt.mpr htap), if_neg (Nat.not_lt.mpr hidle), hkept, and_not_of_imp hup,
    Bool.false_eq_true, if_false]
  rfl

/-- RIDGE.LANE_TEST that neither begins nor ends a loop writes its word over the counts that have grown (R279, R280, R283). -/
theorem ridgeLaneTest_act (hloop : fld (c.p 4 4) 0 3 ≤ 4) (hkept : u.retired 8 (c.p 0 1) = false)
    (hsame : fld (c.p 4 4) 0 3 = 0 ↔ fld (u.rport (c.p 0 1)).test.toNat 0 3 = 0) :
    cmdRidgeLaneTest.act u c = ((u.countLanes (c.p 0 1)).modRport (c.p 0 1) (fun q =>
      { q.clearPrbs (c.p 4 4) with test := BitVec.ofNat 32 (c.p 4 4) })).ok := by
  have hloops : (fld (c.p 4 4) 0 3 != 0) = (fld (u.rport (c.p 0 1)).test.toNat 0 3 != 0) := by
    rw [Bool.eq_iff_iff, bne_iff_ne, bne_iff_ne, ne_eq, ne_eq, hsame]
  simp only [cmdRidgeLaneTest, if_neg (Nat.not_lt.mpr hloop), hkept, hloops, Bool.and_not_self, Bool.false_and, Bool.false_eq_true,
    if_false]

/-! ### CHAIN (R303, R318, R319) -/

/-- CHAIN.CONFIG brings words in range into force; with PERSIST they are written to the flash, where that can be (R318, R426). -/
theorem chainConfig_act (hlen : c.din.length = 24) (hwords : chainBad c.din = none)
    (hflash : bitN ((chainWords c.din).getD 0 0) 4 = true → u.flashAllowed = true) :
    cmdChainConfig.act u c =
      (let t := u.chainConfig (chainWords c.din)
       if bitN ((chainWords c.din).getD 0 0) 4 then
         t.startJob c (.chain (t.chain.word :: ((chainWords c.din).drop 1).map (BitVec.ofNat 32)))
       else t).ok := by
  have hl : (c.din.length != 24) = false := by simp [hlen]
  simp only [cmdChainConfig, hl, hwords, and_not_of_imp hflash, Bool.false_eq_true, if_false]

/-! ### HOST (R328, R369) -/

/-- HOST.NET_CONFIG keeps settings in range for 1 ms later; with PERSIST they are written to the flash, where that can be (R328, R369,
R426). -/
theorem hostNetConfig_act (hlen : c.din.length = 40) (hnet : netBad (u.portMode c.e.port = 3) c.din = none)
    (hflash : bitN (leAt c.din 14 1) 3 = true → u.flashAllowed = true) :
    cmdHostNetConfig.act u c =
      (let t := u.modPort c.e.port (fun h => { h with netNew := some (netOf c.din, u.clk + ms 1) })
       if bitN (leAt c.din 14 1) 3 then t.startJob c (.net c.e.port (netOf c.din)) else t).ok := by
  have hl : (c.din.length != 40) = false := by simp [hlen]
  simp only [cmdHostNetConfig, hl, hnet, and_not_of_imp hflash, Bool.false_eq_true, if_false]

end Sys2Proof.Laws

namespace Sys2Proof.Proofs

open Sys2Proof Sys2Proof.Machine Sys2Proof.Laws

/-- Settles O7: each row by what its act answers past its own conditions; a row with a flag by whether the flag is set. -/
theorem ridgeChainAndHostCommandsComplete : Obligations.RidgeChainAndHostCommandsComplete := by
  refine ⟨?laneCfg, ?laneCfgApply, ?laneTest, ?laneStatus, ?chainConfig, ?chainConfigFlash, ?discover, ?timeSet, ?chainStatus,
    ?netConfig, ?netConfigFlash, ?hostStatus⟩
  case laneCfg =>
    refine completes_of_act _ _ _ _ _ _ (fun _ _ _ => rfl) fun u c ⟨htap, hidle, hkept, hplain⟩ => ?_
    rw [ridgeLaneCfg_act u c htap hidle hkept (fun h => absurd h (Bool.eq_false_iff.mp hplain)), if_neg (by simp [hplain])]
    rfl
  case laneCfgApply =>
    refine completes_of_act _ _ _ _ _ _ (fun _ _ _ => rfl) fun u c ⟨htap, hidle, hkept, happly, hup, hquiet⟩ => ?_
    rw [ridgeLaneCfg_act u c htap hidle hkept (fun _ => hup), if_pos (by simp [happly, hquiet])]
    rfl
  case laneTest =>
    exact completes_of_act _ _ _ _ _ _ (fun _ _ _ => rfl) fun u c ⟨hloop, hkept, hsame⟩ => ridgeLaneTest_act u c hloop hkept hsame
  case laneStatus | chainStatus => exact completes_of_act _ _ _ _ _ _ (fun _ _ _ => rfl) fun _ _ _ => rfl
  case chainConfig =>
    refine completes_of_act _ _ _ _ _ _ (fun _ _ _ => rfl) fun u c ⟨hlen, hwords, hplain⟩ => ?_
    rw [chainConfig_act u c hlen hwords (fun h => absurd h (Bool.eq_false_iff.mp hplain)), if_neg (Bool.eq_false_iff.mp hplain)]
    rfl
  case chainConfigFlash =>
    refine completes_of_act _ _ _ _ _ _ (fun _ _ _ => rfl) fun u c ⟨hlen, hwords, hpersist, hflash⟩ => ?_
    rw [chainConfig_act u c hlen hwords (fun _ => hflash), if_pos hpersist]
    rfl
  case discover =>
    exact completes_of_act _ _ _ _ _ _ (fun _ _ _ => rfl) fun u c hnone => if_neg (by simp [hnone])
  case timeSet =>
    exact completes_of_act _ _ _ _ _ _ (fun _ _ _ => rfl) fun u c hcycle => if_neg (by simpa [refillTicks] using hcycle)
  case netConfig =>
    refine completes_of_act _ _ _ _ _ _ (fun _ _ _ => rfl) fun u c ⟨hlen, hnet, hplain⟩ => ?_
    rw [hostNetConfig_act u c hlen hnet (fun h => absurd h (Bool.eq_false_iff.mp hplain)), if_neg (Bool.eq_false_iff.mp hplain)]
    rfl
  case netConfigFlash =>
    refine completes_of_act _ _ _ _ _ _ (fun _ _ _ => rfl) fun u c ⟨hlen, hnet, hpersist, hflash⟩ => ?_
    rw [hostNetConfig_act u c hlen hnet (fun _ => hflash), if_pos hpersist]
    rfl
  case hostStatus =>
    exact completes_of_act _ _ _ _ _ _ (fun _ _ _ => rfl) fun u c hport => if_neg (Nat.not_lt.mpr hport)

end Sys2Proof.Proofs
end

section
/-! SUPPORT. The bytes of a control block, and what a receiver reads in a deskew and in an INIT block (R267, R311, R316). -/

namespace Sys2Proof.Laws

open Sys2Proof Sys2Proof.Machine

/-- A check code stays within its width. -/
theorem crcBits_lt {w poly init : Nat} (hpoly : poly < 2 ^ w) (hinit : init < 2 ^ w) (bits : List Bool) :
    crcBits w poly init bits < 2 ^ w := by
  unfold crcBits
  induction bits generalizing init with
  | nil => exact hinit
  | cons b bits ih =>
    refine ih ?_
    have hmod : init * 2 % 2 ^ w < 2 ^ w := Nat.mod_lt _ (Nat.two_pow_pos w)
    dsimp only
    split
    · exact Nat.xor_lt_two_pow hmod hpoly
    · exact hmod

/-- A CRC-8 is a byte. -/
theorem crc8_lt (l : List Byte) : crc8 l < 256 := crcBits_lt (w := 8) (by decide) (by decide) _

/-- The bytes of the number of a list are the list. -/
theorem bytesOf_of_ofBytes {n : Nat} {l : List Byte} (hlen : l.length = n) : bytesOf n (ofBytes l) = l := by
  subst hlen
  induction l with
  | nil => rfl
  | cons b l ih =>
    have hb := b.isLt
    have hlow : BitVec.ofNat 8 (b.toNat + 256 * ofBytes l) = b := BitVec.eq_of_toNat_eq (by rw [BitVec.toNat_ofNat]; omega)
    have hhigh : (b.toNat + 256 * ofBytes l) / 256 = ofBytes l := by omega
    rw [List.length_cons, ofBytes, bytesOf, hlow, hhigh, ih]

/-- The number of a byte list has as many bytes. -/
theorem ofBytes_lt_pow (l : List Byte) : ofBytes l < 256 ^ l.length := by
  induction l with
  | nil => exact Nat.one_pos
  | cons b l ih =>
    have hb := b.isLt
    rw [ofBytes, List.length_cons, pow_succ]
    omega

/-- A block of seven bytes and their CRC-8 (R311). -/
def checkedBlock (b : List Byte) : BitVec 64 :=
  BitVec.ofNat 64 (ofBytes (b ++ [BitVec.ofNat 8 (crc8 b)]))

variable {b : List Byte}

/-- The number of a block is that of its bytes. -/
theorem checkedBlock_toNat (hlen : b.length = 7) : (checkedBlock b).toNat = ofBytes (b ++ [BitVec.ofNat 8 (crc8 b)]) := by
  have hlt := ofBytes_lt_pow (b ++ [BitVec.ofNat 8 (crc8 b)])
  rw [List.length_append, hlen] at hlt
  exact Nat.mod_eq_of_lt hlt

/-- The bytes of a block. -/
theorem checkedBlock_bytes (hlen : b.length = 7) : bytesOf 8 (checkedBlock b).toNat = b ++ [BitVec.ofNat 8 (crc8 b)] := by
  rw [checkedBlock_toNat hlen, bytesOf_of_ofBytes (by rw [List.length_append, hlen]; rfl)]

/-- The check code of a block holds. -/
theorem checkedBlock_good (hlen : b.length = 7) :
    (crc8 ((bytesOf 8 (checkedBlock b).toNat).take 7) == leAt (bytesOf 8 (checkedBlock b).toNat) 7 1) = true := by
  have htake : (b ++ [BitVec.ofNat 8 (crc8 b)]).take 7 = b := List.take_left' hlen
  have hdrop : (b ++ [BitVec.ofNat 8 (crc8 b)]).drop 7 = [BitVec.ofNat 8 (crc8 b)] := List.drop_left' hlen
  rw [checkedBlock_bytes hlen, htake, leAt, hdrop, beq_iff_eq]
  exact (Nat.mod_eq_of_lt (crc8_lt b)).symm

/-! ### Deskew blocks (R267) -/

section Deskew

variable (lane : Nat) (seq : BitVec 16) (sleep : Bool)

/-- The seven bytes of a deskew block before its check code. -/
def dskBytes : List Byte :=
  [0xD5, BitVec.ofNat 8 lane] ++ bytesOf 2 seq.toNat ++ [BitVec.ofNat 8 (b2n sleep), 0, 0]

/-- A deskew block is a checked block. -/
theorem dskPayload_eq : dskPayload lane seq.toNat sleep = checkedBlock (dskBytes lane seq sleep) := rfl

/-- The check code of a deskew block holds. -/
theorem dskPayload_good : (crc8 ((bytesOf 8 (dskPayload lane seq.toNat sleep).toNat).take 7)
    == leAt (bytesOf 8 (dskPayload lane seq.toNat sleep).toNat) 7 1) = true :=
  checkedBlock_good (b := dskBytes lane seq sleep) rfl

/-- A deskew block is of type 0xD5. -/
theorem dskPayload_type : leAt (bytesOf 8 (dskPayload lane seq.toNat sleep).toNat) 0 1 = 0xD5 := by
  rw [dskPayload_eq, checkedBlock_bytes rfl]
  rfl

/-- A deskew block carries its SEQ. -/
theorem dskPayload_seq : leAt (bytesOf 8 (dskPayload lane seq.toNat sleep).toNat) 2 2 = seq.toNat := by
  have hseq := seq.isLt
  rw [dskPayload_eq, checkedBlock_bytes rfl]
  simp only [leAt, dskBytes, bytesOf, List.cons_append, List.nil_append, List.drop_succ_cons, List.drop_zero, List.take_succ_cons,
    List.take_zero, ofBytes, BitVec.toNat_ofNat]
  omega

/-- A deskew block carries SLEEP. -/
theorem dskPayload_sleep : bitN (dskPayload lane seq.toNat sleep).toNat 32 = sleep := by
  have hread : bitN (dskPayload lane seq.toNat sleep).toNat 32 = decide (b2n sleep = 1) := by
    have hbit : b2n sleep ≤ 1 := by cases sleep <;> decide
    rw [dskPayload_eq, checkedBlock_toNat rfl, bitN]
    simp only [dskBytes, bytesOf, List.cons_append, List.nil_append, ofBytes, BitVec.toNat_ofNat]
    congr 1
    rw [eq_iff_iff]
    omega
  rw [hread]
  cases sleep <;> rfl

end Deskew

/-! ### INIT blocks (R316) -/

section Init

variable (n : BitVec 16) (ack : Bool)

/-- An INIT block with its credits and ACK. -/
def initBlock : BitVec 64 :=
  controlBlock 0x2D (bytesOf 2 n.toNat ++ [BitVec.ofNat 8 (b2n ack)])

/-- The seven bytes of an INIT block before its check code. -/
def initBytes : List Byte :=
  [0x2D] ++ bytesOf 2 n.toNat ++ [BitVec.ofNat 8 (b2n ack), 0, 0, 0]

/-- An INIT block is a checked block. -/
theorem initBlock_eq : initBlock n ack = checkedBlock (initBytes n ack) :=
  congrArg checkedBlock (show 0x2D :: padTo 6 (bytesOf 2 n.toNat ++ [BitVec.ofNat 8 (b2n ack)]) = initBytes n ack from rfl)

/-- An INIT block is one of its type whose check code holds. -/
theorem initBlock_good : isBlock 0x2D (initBlock n ack) = true := by
  have htype : leAt (bytesOf 8 (initBlock n ack).toNat) 0 1 = 0x2D := by
    rw [initBlock_eq, checkedBlock_bytes rfl]
    rfl
  rw [isBlock, htype, initBlock_eq, checkedBlock_good rfl]
  rfl

/-- An INIT block carries its credits. -/
theorem initBlock_credits : fld (initBlock n ack).toNat 8 16 = n.toNat := by
  have hn := n.isLt
  rw [initBlock_eq, checkedBlock_toNat rfl, fld]
  simp only [initBytes, bytesOf, List.cons_append, List.nil_append, ofBytes, BitVec.toNat_ofNat]
  omega

/-- An INIT block carries ACK. -/
theorem initBlock_ack : bitN (initBlock n ack).toNat 24 = ack := by
  have hread : bitN (initBlock n ack).toNat 24 = decide (b2n ack = 1) := by
    have hbit : b2n ack ≤ 1 := by cases ack <;> decide
    rw [initBlock_eq, checkedBlock_toNat rfl, bitN]
    simp only [initBytes, bytesOf, List.cons_append, List.nil_append, ofBytes, BitVec.toNat_ofNat]
    congr 1
    rw [eq_iff_iff]
    omega
  rw [hread]
  cases ack <;> rfl

/-- A block that is none of R311 is no INIT. -/
theorem not_init_of_unknown {x : BitVec 64} (h : unknownBlock x = true) : isBlock 0x2D x = false := by
  simpa using List.all_eq_true.mp h 0x2D (by decide)

end Init

end Sys2Proof.Laws
end

section
/-! PROOFS. Bring-up of a Ridge port (R265 to R272, R289, R311, R316, R442). -/

namespace Sys2Proof.Laws

open Sys2Proof Sys2Proof.Machine

/-! ### Training (R265, R266, R268) -/

/-- A CTS whose check symbol holds reaches a port that is not up, past stage 3 (R265, R268). -/
theorem cts_open {u : State} {q : Nat} {sym : BitVec 48} (halive : u.portAlive q = true) (hup : (u.rport q).up = false)
    (hstage : 4 ≤ ((u.rport q).lane 0).stage) (hchk : ctsChk sym.toNat = fld sym.toNat 40 8) :
    (u.portAlive q && !(u.rport q).up && decide (4 ≤ ((u.rport q).lane 0).stage)
      && decide (ctsChk sym.toNat = fld sym.toNat 40 8)) = true := by
  simp [halive, hup, hstage, hchk]

/-- A data lane runs its stages: its port is alive, its data lanes run, and it takes part (R268). -/
theorem lane_open {u : State} {q m : Nat} (halive : u.portAlive q = true) (hruns : (u.rport q).dataRuns = true)
    (hpart : (u.rport q).takesPart m = true) : (u.portAlive q && (u.rport q).dataRuns && (u.rport q).takesPart m) = true := by
  simp [halive, hruns, hpart]

/-! ### Deskew blocks received (R267, R268, R272) -/

/-- A deskew block of a lane in bring-up acts by the lane's stage (R268, R272). -/
theorem happens_dskBlock_bringup {q : Fin 4} {m : Fin 3} {seq : BitVec 16} {sleep inPlace : Bool} {cond : State → Prop}
    {eff : State → State}
    (hopen : ∀ u, cond u → u.portAlive q.val = true ∧ (u.rport q.val).dataRuns = true ∧ (u.rport q.val).takesPart m.val = true)
    (heff : ∀ u, cond u →
      (if ((u.rport q.val).lane (m.val + 1)).stage = 7 then u.deskewStage q.val m.val seq.toNat true inPlace
       else if ((u.rport q.val).lane (m.val + 1)).stage = 8 then u.deskewCheck q.val m.val seq.toNat
         (inPlace && (((u.rport q.val).lane (m.val + 1)).last + 1) % 65536 = seq.toNat)
       else u) = eff u) :
    Happens (fun dt => .dskBlock dt q m (dskPayload m.val seq.toNat sleep) inPlace) cond eff := by
  refine happens_meaning (fun dt => execDskBlock dt q m (dskPayload m.val seq.toNat sleep) inPlace) (fun _ _ => ⟨rfl, rfl⟩)
    fun u h => ?_
  obtain ⟨halive, hruns, hpart⟩ := hopen u h
  rw [← heff u h]
  simp only [dskPayload_good, dskPayload_seq, dskPayload_type, halive, hruns, hpart, Bool.and_self, decide_true, Bool.true_and,
    Bool.not_true, Bool.false_eq_true, if_false, if_true]

/-! ### Deskew blocks sent (R267, R275) -/

/-- An awake direction that may not sleep sends its DSK with SLEEP 0 (R267, R275). -/
theorem nextDsk_awake {t : State} {q : Nat} (h : t.maySleep q = false) : t.nextDsk q = t.sendDsk q false 1 :=
  if_neg (Bool.eq_false_iff.mp h)

/-! ### INIT (R316) -/

/-- The INIT of every 16 blocks goes out in stage 8 where it is due, and nowhere else (R316). -/
theorem repeatInit_cases (u : State) (q : Nat) :
    ((u.rport q).active = true → (u.rport q).inStage8 = true → (u.rport q).initAt + 16 * 165 ≤ u.clk →
      u.repeatInit q = u.sendInit q) ∧
    ((u.rport q).inStage8 = false ∨ u.clk < (u.rport q).initAt + 16 * 165 → u.repeatInit q = u) := by
  refine ⟨fun hactive hstage hdue => if_pos ?due, fun h => if_neg ?idle⟩
  case due => simp [hactive, hstage, blockTicks, hdue]
  case idle =>
    rcases h with hstage | hearly
    · simp [hstage]
    · have hlate : ¬ (u.rport q).initAt + 16 * blockTicks ≤ u.clk := Nat.not_le.mpr hearly
      simp [hlate]

/-- A port takes the partner's credits and ACK from an INIT (R316). -/
def initTaken (u : State) (q n : Nat) (ack : Bool) : State :=
  u.modRport q (fun r => { r with gotInit := true, gotAck := r.gotAck || ack, offered := n })

/-- A control block in stage 8 is an INIT, or it is counted where it is no good one (R311, R316). -/
theorem happens_creditInitialisation {q : Fin 4} {b0 : Byte} {rest : BitVec 56} {cond : State → Prop} {eff : State → State}
    (hopen : ∀ u, cond u → u.portAlive q.val = true ∧ (u.rport q.val).inStage8 = true)
    (heff : ∀ u, cond u →
      (if isBlock 0x2D (rest ++ b0) then
         let t := (initTaken u q.val (fld (rest ++ b0).toNat 8 16) (bitN (rest ++ b0).toNat 24)).sendInit q.val
         if (u.rport q.val).gotAck || bitN (rest ++ b0).toNat 24 then t.linkUp q.val else t
       else u.countBlock q.val (rest ++ b0)) = eff u) :
    Happens (fun dt => .creditInitialisation dt q b0 rest) cond eff := by
  refine happens_meaning (fun dt => execCreditInitialisation dt q b0 rest) (fun _ _ => ⟨rfl, rfl⟩) fun u h => ?_
  obtain ⟨halive, hstage⟩ := hopen u h
  rw [← heff u h, initTaken, ← modRport_congr u q.val (fun r => { r with
    gotInit := true, gotAck := (u.rport q.val).gotAck || bitN (rest ++ b0).toNat 24, offered := fld (rest ++ b0).toNat 8 16 }) _ rfl]
  exact if_neg (by simp [halive, hstage])

end Sys2Proof.Laws

namespace Sys2Proof.Proofs

open Sys2Proof Sys2Proof.Machine Sys2Proof.Laws

/-- Settles O23: each row by its meaning under its guard; a deskew block by its lane's stage, a control block by what it is. -/
theorem ridgeBringupEventsComplete : Obligations.RidgeBringupEventsComplete := by
  refine ⟨?signal, ?cdr, ?comma, ?polarity, ?control, ?partner, ?marker, ?lane, ?block, ?deskew, ?late, ?follows, ?breaks, ?send,
    ?early, ?again, ?init, ?unknown, ?other⟩
  case signal =>
    exact fun q => happens_meaning (fun dt => execSignalDetect dt q) (fun _ _ => ⟨rfl, rfl⟩) fun u ⟨halive, hup, hstage⟩ =>
      if_pos (by simp [halive, hup, hstage])
  case cdr =>
    refine fun q l => happens_meaning (fun dt => execCdrLock dt q l) (fun _ _ => ⟨rfl, rfl⟩)
      fun u ⟨halive, hstage, hcan⟩ => if_pos ?_
    have htakes : (if l.val = 0 then !(u.rport q.val).up
        else (u.rport q.val).dataRuns && (u.rport q.val).takesPart (l.val - 1)) = true := by
      split at hcan
      case isTrue hl => simp [hl, hcan]
      case isFalse hl => simp [hl, hcan]
    exact Bool.and_eq_true_iff.mpr ⟨Bool.and_eq_true_iff.mpr ⟨halive, htakes⟩, decide_eq_true hstage⟩
  case comma =>
    exact fun q => happens_meaning (fun dt => execCommaAlignment dt q) (fun _ _ => ⟨rfl, rfl⟩) fun u ⟨halive, hup, hstage⟩ =>
      if_pos (by simp [halive, hup, hstage])
  case polarity =>
    refine fun q sym inv => happens_meaning (fun dt => execCtsReceived dt q sym inv) (fun _ _ => ⟨rfl, rfl⟩) fun u
      ⟨halive, hup, hstage, hchk, hrun⟩ => ?_
    exact (if_pos (cts_open halive hup hstage.ge hchk)).trans ((if_pos hstage).trans (if_neg (Nat.not_le.mpr hrun)))
  case control =>
    refine fun q sym inv => happens_meaning (fun dt => execCtsReceived dt q sym inv) (fun _ _ => ⟨rfl, rfl⟩) fun u
      ⟨halive, hup, hstage, hchk, hrun⟩ => ?_
    exact (if_pos (cts_open halive hup hstage.ge hchk)).trans ((if_pos hstage).trans (if_pos hrun))
  case partner =>
    refine fun q sym inv => happens_meaning (fun dt => execCtsReceived dt q sym inv) (fun _ _ => ⟨rfl, rfl⟩) fun u
      ⟨halive, hup, hstage, hchk⟩ => ?_
    exact (if_pos (cts_open halive hup (by omega) hchk)).trans ((if_neg (by omega)).trans (if_pos (by omega)))
  case marker =>
    refine fun q m inv code => happens_meaning (fun dt => execDtpReceived dt q m inv code) (fun _ _ => ⟨rfl, rfl⟩) fun u
      ⟨halive, hruns, hpart, hstage, hrun⟩ => ?_
    exact (if_pos (lane_open halive hruns hpart)).trans ((if_pos hstage).trans (if_pos hrun))
  case lane =>
    refine fun q m inv code => happens_meaning (fun dt => execDtpReceived dt q m inv code) (fun _ _ => ⟨rfl, rfl⟩) fun u
      ⟨halive, hruns, hpart, hstage, hodd, hrun⟩ => ?_
    refine (if_pos (lane_open halive hruns hpart)).trans ((if_neg (by omega)).trans ((if_pos hstage).trans ?_))
    exact (if_neg (by omega)).trans (if_pos hrun)
  case block =>
    exact fun q m => happens_meaning (fun dt => execBlockLock dt q m) (fun _ _ => ⟨rfl, rfl⟩)
      fun u ⟨halive, hruns, hpart, hstage⟩ => if_pos (by simp [halive, hruns, hpart, hstage])
  case deskew | late =>
    exact fun q m seq sleep => happens_dskBlock_bringup (fun u ⟨halive, hruns, hpart, _⟩ => ⟨halive, hruns, hpart⟩)
      fun u ⟨_, _, _, hstage⟩ => if_pos hstage
  case follows =>
    refine fun q m seq sleep => happens_dskBlock_bringup (fun u ⟨halive, hruns, hpart, _⟩ => ⟨halive, hruns, hpart⟩)
      fun u ⟨_, _, _, hstage, hseq⟩ => ?_
    exact (if_neg (by omega)).trans ((if_pos hstage).trans (if_pos (by simp [hseq])))
  case breaks =>
    refine fun q m seq sleep => happens_dskBlock_bringup (fun u ⟨halive, hruns, hpart, _⟩ => ⟨halive, hruns, hpart⟩)
      fun u ⟨_, _, _, hstage, hseq⟩ => ?_
    exact (if_neg (by omega)).trans ((if_pos hstage).trans (if_neg (by simp [hseq])))
  case send =>
    exact fun q => happens_meaning (fun dt => execDskSend dt q) (fun _ _ => ⟨rfl, rfl⟩) fun u ⟨hdue, hawake⟩ =>
      (if_pos hdue).trans (nextDsk_awake hawake)
  case early =>
    exact fun q => happens_meaning (fun dt => execDskSend dt q) (fun _ _ => ⟨rfl, rfl⟩) fun u hearly =>
      if_neg (Bool.eq_false_iff.mp hearly)
  case again =>
    refine fun u q => ?_
    obtain ⟨hdue, hidle⟩ := repeatInit_cases u q
    exact ⟨hdue, hidle, _, _, rfl⟩
  case init =>
    refine fun q n ack b0 rest => happens_creditInitialisation (fun u ⟨halive, hstage, _⟩ => ⟨halive, hstage⟩)
      fun u ⟨_, _, hblock⟩ => ?_
    have hinit : rest ++ b0 = initBlock n ack := hblock
    simp only [hinit, initBlock_good, initBlock_credits, initBlock_ack, if_true, initTaken]
  case unknown =>
    refine fun q b0 rest => happens_creditInitialisation (fun u ⟨halive, hstage, _⟩ => ⟨halive, hstage⟩)
      fun u ⟨_, _, hunknown⟩ => ?_
    exact (if_neg (Bool.eq_false_iff.mp (not_init_of_unknown hunknown))).trans (if_pos hunknown)
  case other =>
    refine fun q b0 rest => happens_creditInitialisation (fun u ⟨halive, hstage, _⟩ => ⟨halive, hstage⟩)
      fun u ⟨_, _, hno, hknown⟩ => ?_
    exact (if_neg (Bool.eq_false_iff.mp hno)).trans (if_neg (Bool.eq_false_iff.mp hknown))

end Sys2Proof.Proofs
end

section
/-! PROOFS. A Ridge port in service (R268, R271 to R278, R286, R287). -/

namespace Sys2Proof.Laws

open Sys2Proof Sys2Proof.Machine

/-! ### Limits of the stages (R268) -/

/-- No data lane of a port that is up and does not retrain runs its stages (R273). -/
theorem dataRuns_up {r : RidgePort} (hup : r.up = true) (hquiet : r.retrain = false) : r.dataRuns = false := by
  simp [RidgePort.dataRuns, hup, hquiet]

/-- The limit of a stage other than 7 runs from the lane's own entry into it (R268). -/
theorem stageFrom_own {r : RidgePort} {l : Nat} (h : l = 0 ∨ (r.lane l).stage ≠ 7) : r.stageFrom l = some (r.lane l).since :=
  if_neg (by rcases h with h | h <;> simp [h])

/-- The limit of stage 7 does not run while a lane in use stands before it (R268). -/
theorem stageFrom_waits {r : RidgePort} {m : Nat} (hstage : (r.lane (m + 1)).stage = 7)
    (hbefore : ∃ k ∈ r.parts, (r.lane (k + 1)).stage < 7) : r.stageFrom (m + 1) = none := by
  obtain ⟨k, hk, hlow⟩ := hbefore
  have hnot : ¬ (r.parts.all fun m => decide (7 ≤ (r.lane (m + 1)).stage)) = true := fun h =>
    Nat.not_le.mpr hlow (of_decide_eq_true (List.all_eq_true.mp h k hk))
  exact (if_pos (by simp [hstage])).trans (if_neg hnot)

/-- A stage of the control lane passes its limit (R268). -/
theorem happens_bringupTimeout_control {q : Fin 4} {cond : State → Prop} {eff : State → State}
    (hopen : ∀ u, cond u → u.portAlive q.val = true ∧ (u.rport q.val).up = false ∧
      (((u.rport q.val).lane 0).stage ≤ 4 ∨ ((u.rport q.val).lane 0).stage = 8) ∧
      ((u.rport q.val).lane 0).since + stageLimit (u.rport q.val).retrain 0 ((u.rport q.val).lane 0).stage ≤ u.clk)
    (heff : ∀ u, cond u →
      (if ((u.rport q.val).lane 0).stage = 1 then u.modRport q.val (fun r => { r with absent := true }.toStage 0 1 u.clk)
       else u.portFail q.val 0x6002) = eff u) :
    Happens (fun dt => .bringupTimeout dt q 0) cond eff := by
  refine happens_meaning (fun dt => execBringupTimeout dt q 0) (fun _ _ => ⟨rfl, rfl⟩) fun u h => ?_
  obtain ⟨halive, hup, hruns, hover⟩ := hopen u h
  rw [← heff u h]
  exact (if_pos (by simp [halive, hup, hruns, stageFrom_own (.inl rfl), hover])).trans (if_pos rfl)

/-- A stage of a data lane passes its limit (R268). -/
theorem happens_bringupTimeout_data {q : Fin 4} {l : Fin 3} {cond : State → Prop} {eff : State → State}
    (hopen : ∀ u, cond u → u.portAlive q.val = true ∧ (u.rport q.val).dataRuns = true ∧ (u.rport q.val).takesPart l.val = true ∧
      ((u.rport q.val).lane (l.val + 1)).stage ≤ 8 ∧ ∃ t, (u.rport q.val).stageFrom (l.val + 1) = some t ∧
        t + stageLimit (u.rport q.val).retrain (l.val + 1) ((u.rport q.val).lane (l.val + 1)).stage ≤ u.clk)
    (heff : ∀ u, cond u →
      (if ((u.rport q.val).lane (l.val + 1)).stage = 8 then u.portFail q.val 0x6002
       else if ((u.rport q.val).lane (l.val + 1)).stage = 7 then
         (if (u.rport q.val).singledOut.isEmpty then u.portFail q.val 0x6002
          else (u.rport q.val).singledOut.foldl (fun v m => v.exclude q.val m false) u)
       else u.exclude q.val l.val (((u.rport q.val).lane (l.val + 1)).stage = 2)) = eff u) :
    Happens (fun dt => .bringupTimeout dt q l.succ) cond eff := by
  refine happens_meaning (fun dt => execBringupTimeout dt q l.succ) (fun _ _ => ⟨rfl, rfl⟩) fun u h => ?_
  obtain ⟨halive, hruns, hpart, hstage, t, hfrom, hover⟩ := hopen u h
  rw [← heff u h]
  exact (if_pos (by simp [halive, hruns, hpart, hstage, hfrom, hover])).trans (if_neg (Nat.succ_ne_zero _))

/-! ### Deskew in service (R272, R275 to R277, R287) -/

/-- A deskew block of an awake or sleeping lane in service is checked, where no lock is lost in its block period (R272, R287). -/
theorem happens_dskBlock_service {q : Fin 4} {m : Fin 3} {x : BitVec 64} {inPlace : Bool} {cond : State → Prop} {eff : State → State}
    (htype : ∀ u, cond u → leAt (bytesOf 8 x.toNat) 0 1 = 0xD5)
    (hopen : ∀ u, cond u → u.portAlive q.val = true ∧ (u.rport q.val).up = true ∧ (u.rport q.val).retrain = false ∧
      u.locksGo q.val m.val = false ∧ (u.rport q.val).takesPart m.val = true)
    (heff : ∀ u, cond u → u.dskInService q.val m.val (leAt (bytesOf 8 x.toNat) 2 2)
      (crc8 ((bytesOf 8 x.toNat).take 7) == leAt (bytesOf 8 x.toNat) 7 1 && inPlace) (bitN x.toNat 32) = eff u) :
    Happens (fun dt => .dskBlock dt q m x inPlace) cond eff := by
  refine happens_meaning (fun dt => execDskBlock dt q m x inPlace) (fun _ _ => ⟨rfl, rfl⟩) fun u h => ?_
  obtain ⟨halive, hup, hquiet, hlocks, hpart⟩ := hopen u h
  rw [← heff u h]
  simp only [halive, hpart, htype u h, hup, hlocks, dataRuns_up hup hquiet, Bool.and_self, decide_true, Bool.not_true,
    Bool.false_eq_true, if_false, if_true]

/-- As `happens_dskBlock_service`, of a deskew block in its place. -/
theorem happens_dskPayload_service {q : Fin 4} {m : Fin 3} {seq : BitVec 16} {sleep : Bool} {cond : State → Prop} {eff : State → State}
    (hopen : ∀ u, cond u → u.portAlive q.val = true ∧ (u.rport q.val).up = true ∧ (u.rport q.val).retrain = false ∧
      u.locksGo q.val m.val = false ∧ (u.rport q.val).takesPart m.val = true)
    (heff : ∀ u, cond u → u.dskInService q.val m.val seq.toNat true sleep = eff u) :
    Happens (fun dt => .dskBlock dt q m (dskPayload m.val seq.toNat sleep) true) cond eff := by
  refine happens_dskBlock_service (fun _ _ => dskPayload_type _ _ _) hopen fun u h => ?_
  rw [dskPayload_seq, dskPayload_good, dskPayload_sleep]
  exact heff u h

section Service

variable {u : State} {q m seq : Nat} {good sleep : Bool}

/-- A deskew block out of its place, of a bad check code or of another SEQ than the next fails an awake lane (R272, R287). -/
theorem dskInService_fails (hawake : ((u.rport q).lane (m + 1)).asleep = false)
    (h : good = false ∨ (((u.rport q).lane (m + 1)).last + 1) % 65536 ≠ seq) :
    u.dskInService q m seq good sleep = u.laneFail q 0x6004 [(u.rport q).logical m] :=
  (if_neg (Bool.eq_false_iff.mp hawake)).trans (if_pos (by rcases h with h | h <;> simp [h]))

/-- A deskew block that follows the one before is kept as the last; with SLEEP the lane sleeps (R272, R275). -/
theorem dskInService_follows (hawake : ((u.rport q).lane (m + 1)).asleep = false)
    (hnext : (((u.rport q).lane (m + 1)).last + 1) % 65536 = seq) :
    u.dskInService q m seq true sleep =
      (let t := u.modRport q (fun r => r.modLane (m + 1) (fun x => { x with last := seq }))
       if sleep then (t.observeLane q (m + 1)).modRport q (fun r =>
         { r.modLane (m + 1) (fun x => { x with asleep := true }) with rxSleep := true })
       else t) :=
  (if_neg (Bool.eq_false_iff.mp hawake)).trans (if_neg (by simp [hnext]))

/-- A deskew block with SLEEP 0 wakes a sleeping lane, where no lane was retired in its sleep (R276, R277). -/
theorem dskInService_wakes (hasleep : ((u.rport q).lane (m + 1)).asleep = true) (hret : (u.rport q).retDue = 0) :
    u.dskInService q m seq true false =
      (u.modRport q (fun r => r.modLane (m + 1) (fun x => { x with last := seq, asleep := false }))).modRport q
        (fun r => { r with rxSleep := r.parts.any (fun k => (r.lane (k + 1)).asleep) }) :=
  (if_pos hasleep).trans ((if_neg (by decide)).trans (if_neg (by simp [hret])))

end Service

/-! ### Sleep and wake (R275 to R277) -/

/-- The data class of a port has nothing to send: no packet, no credits, no slot report that is due (R275). -/
theorem hasData_idle {u : State} {q : Nat} (hpackets : (u.rport q).txQ = []) (hcredits : (u.rport q).pendCr = 0)
    (hreports : ∀ x ∈ u.chain.toReport, x.1 = q → u.now < x.2.2) : u.hasData q = false := by
  have hnone : u.chain.toReport.any (fun x => x.1 = q && x.2.2 ≤ u.now) = false := by
    rw [List.any_eq_false]
    intro x hx
    simpa using hreports x hx
  rw [State.hasData, hpackets, hcredits, hnone]
  rfl

/-- A direction that may sleep has SLEEP_EN, nothing to send for SLEEP_IDLE, and no window within 20 µs (R275). -/
theorem maySleep_idle {u : State} {q : Nat} (hup : (u.rport q).up = true) (hquiet : (u.rport q).retrain = false)
    (henabled : bitN (u.rport q).cfg.toNat 6 = true) (hnothing : u.hasData q = false)
    (hidle : (u.rport q).idleAt + us (fld (u.rport q).cfg.toNat 8 8) ≤ u.clk)
    (hwindows : ∀ w ∈ u.windows q, w.1 < u.now ∨ u.now + us 20 < w.1) : u.maySleep q = true := by
  have hfar : (u.windows q).all (fun w => w.1 < u.now || u.now + us 20 < w.1) = true := by
    rw [List.all_eq_true]
    intro w hw
    simpa using hwindows w hw
  simp only [State.maySleep, hup, hquiet, henabled, hnothing, hfar, hidle, Bool.not_false, Bool.and_self, decide_true]

/-- A window is near where one begins within 20 µs or is open (R276). -/
theorem windowNear_iff {u : State} {q : Nat} : u.windowNear q = true ↔ ∃ w ∈ u.windows q, w.1 ≤ u.now + us 20 ∧ u.now < w.2 := by
  simp only [State.windowNear, List.any_eq_true, Bool.and_eq_true, decide_eq_true_eq]

/-- A direction wakes without a retrain where no lane was retired in its sleep (R276, R277). -/
theorem wakePort_eq (u : State) (q : Nat) :
    u.wakePort q =
      (let t := (u.sendDsk q false 582).modRport q (fun r => { r with txSleep := false, idleAt := u.clk })
       if (u.rport q).retDue = 0 then t else t.portRetrain q) := by
  by_cases hret : (u.rport q).retDue = 0
  · exact (if_neg (by simp [hret])).trans (if_pos hret).symm
  · exact (if_pos (bne_iff_ne.mpr hret)).trans (if_neg hret).symm

end Sys2Proof.Laws

namespace Sys2Proof.Proofs

open Sys2Proof Sys2Proof.Machine Sys2Proof.Laws

/-- Settles O24: each row by its meaning under its guard; a timeout by the stage that its lane stands in, a deskew block by whether its lane
sleeps and whether it follows the one before. -/
theorem ridgeServiceEventsComplete : Obligations.RidgeServiceEventsComplete := by
  refine ⟨?absent, ?control, ?lane, ?credit, ?restart, ?singled, ?deskew, ?waits, ?lock, ?lockBringup, ?place, ?jump, ?follows, ?sleeps,
    ?wakes, ?lockAlone, ?controlLost, ?signalLost, ?again, ?sleep, ?wake⟩
  case absent =>
    refine fun q => happens_bringupTimeout_control (fun u ⟨halive, hup, hstage, hover⟩ => ⟨halive, hup, ?_, ?_⟩)
      fun u ⟨_, _, hstage, _⟩ => if_pos hstage
    · exact .inl (by omega)
    · rwa [hstage]
  case control =>
    refine fun q n => happens_bringupTimeout_control (fun u ⟨halive, hup, hstage, _, hruns, hover⟩ => ⟨halive, hup, ?_, ?_⟩)
      fun u ⟨_, _, hstage, hlate, _⟩ => if_neg (by rwa [hstage])
    · rwa [hstage]
    · rwa [hstage]
  case lane =>
    refine fun q l n => happens_bringupTimeout_data (fun u ⟨halive, hruns, hpart, hstage, hn, hover⟩ =>
      ⟨halive, hruns, hpart, by omega, _, stageFrom_own (.inr (by omega)), by rwa [hstage]⟩) fun u ⟨_, _, _, hstage, hn, _⟩ => ?_
    rw [if_neg (by omega), if_neg (by omega), hstage]
  case credit =>
    exact fun q l => happens_bringupTimeout_data (fun u ⟨halive, hruns, hpart, hstage, hover⟩ =>
      ⟨halive, hruns, hpart, hstage.le, _, stageFrom_own (.inr (by omega)), by rwa [hstage]⟩)
      fun u ⟨_, _, _, hstage, _⟩ => if_pos hstage
  case restart =>
    refine fun q t => happens_meaning (fun dt => execBringupRestart dt q) (fun _ _ => ⟨rfl, rfl⟩) fun u ⟨hidle, hover, hruns⟩ => ?_
    simp only [hidle]
    exact if_pos (by simp [hover, hruns])
  case singled =>
    refine fun q l t => happens_bringupTimeout_data (fun u ⟨halive, hruns, hpart, hstage, _, hfrom, hover⟩ =>
      ⟨halive, hruns, hpart, by omega, t, hfrom, by rwa [hstage]⟩) fun u ⟨_, _, _, hstage, hlanes, _⟩ => ?_
    rw [if_neg (by omega), if_pos hstage, if_neg (by simpa using hlanes)]
  case deskew =>
    refine fun q l t => happens_bringupTimeout_data (fun u ⟨halive, hruns, hpart, hstage, _, hfrom, hover⟩ =>
      ⟨halive, hruns, hpart, by omega, t, hfrom, by rwa [hstage]⟩) fun u ⟨_, _, _, hstage, hlanes, _⟩ => ?_
    rw [if_neg (by omega), if_pos hstage, if_pos (by simp [hlanes])]
  case waits =>
    refine fun q l => happens_meaning (fun dt => execBringupTimeout dt q l.succ) (fun _ _ => ⟨rfl, rfl⟩) fun u
      ⟨_, hstage, hbefore⟩ => if_neg ?_
    simp [stageFrom_waits hstage hbefore]
  case lock =>
    refine fun q x => happens_meaning (fun dt => execDataLockLost dt q x) (fun _ _ => ⟨rfl, rfl⟩) fun u
      ⟨halive, hup, hquiet, hhit⟩ => ?_
    exact (if_neg (by simpa [halive] using hhit)).trans
      ((if_neg (Bool.eq_false_iff.mp (dataRuns_up hup hquiet))).trans (if_pos hup))
  case lockBringup =>
    refine fun q x => happens_meaning (fun dt => execDataLockLost dt q x) (fun _ _ => ⟨rfl, rfl⟩) fun u ⟨halive, hruns, hhit⟩ => ?_
    exact (if_neg (by simpa [halive] using hhit)).trans (if_pos hruns)
  case place =>
    exact fun q m x => happens_dskBlock_service (fun u ⟨_, _, _, _, _, htype, _⟩ => htype)
      (fun u ⟨halive, hup, hquiet, hlocks, hpart, _⟩ => ⟨halive, hup, hquiet, hlocks, hpart⟩)
      fun u ⟨_, _, _, _, _, _, hawake⟩ => dskInService_fails hawake (.inl (Bool.and_false _))
  case jump =>
    exact fun q m seq sleep => happens_dskPayload_service
      (fun u ⟨halive, hup, hquiet, hlocks, hpart, _⟩ => ⟨halive, hup, hquiet, hlocks, hpart⟩)
      fun u ⟨_, _, _, _, _, hawake, hseq⟩ => dskInService_fails hawake (.inr hseq)
  case follows | sleeps =>
    exact fun q m seq => happens_dskPayload_service
      (fun u ⟨halive, hup, hquiet, hlocks, hpart, _⟩ => ⟨halive, hup, hquiet, hlocks, hpart⟩)
      fun u ⟨_, _, _, _, _, hawake, hseq⟩ => dskInService_follows hawake hseq
  case wakes =>
    exact fun q m seq => happens_dskPayload_service
      (fun u ⟨halive, hup, hquiet, hlocks, hpart, _⟩ => ⟨halive, hup, hquiet, hlocks, hpart⟩)
      fun u ⟨_, _, _, _, _, hasleep, hret⟩ => dskInService_wakes hasleep hret
  case lockAlone =>
    refine fun q m x inPlace => happens_meaning (fun dt => execDskBlock dt q m x inPlace) (fun _ _ => ⟨rfl, rfl⟩) fun u
      ⟨hup, hquiet, hlocks⟩ => ?_
    simp only [dataRuns_up hup hquiet, hup, hlocks, Bool.false_eq_true, if_false, if_true, ite_self]
  case controlLost =>
    exact fun q => happens_meaning (fun dt => execCtlLaneLost dt q) (fun _ _ => ⟨rfl, rfl⟩) fun u ⟨halive, hup⟩ =>
      if_pos (by simp [halive, hup])
  case signalLost =>
    exact fun q => happens_meaning (fun dt => execCtlLaneLost dt q) (fun _ _ => ⟨rfl, rfl⟩) fun u ⟨halive, hup, hstage⟩ =>
      (if_neg (by simp [hup])).trans (if_pos (by simp [halive, hstage]))
  case again =>
    refine fun q => happens_meaning (fun dt => execExcludedLaneRetrain dt q) (fun _ _ => ⟨rfl, rfl⟩) fun u
      ⟨halive, hup, hquiet, hlanes, hsince, hasked⟩ => if_pos ?_
    have hsome := bne_iff_ne.mpr hlanes
    cases hask : (u.rport q.val).askAt with
    | none => simp only [halive, hup, hquiet, hsome, hsince, Bool.not_false, Bool.and_self, decide_true]
    | some t => simp only [halive, hup, hquiet, hsome, hsince, hasked t hask, Bool.not_false, Bool.and_self, decide_true]
  case sleep =>
    refine fun q => happens_meaning (fun dt => execSleepEntry dt q) (fun _ _ => ⟨rfl, rfl⟩) fun u
      ⟨hdue, hup, hquiet, henabled, hpackets, hcredits, hreports, hidle, hwindows⟩ => ?_
    have hmay := maySleep_idle hup hquiet henabled (hasData_idle hpackets hcredits hreports) hidle hwindows
    exact (if_pos (Bool.and_eq_true_iff.mpr ⟨hdue, hmay⟩)).trans (if_pos hmay)
  case wake =>
    refine fun q => happens_meaning (fun dt => execWake dt q) (fun _ _ => ⟨rfl, rfl⟩) fun u
      ⟨halive, hup, hquiet, hsleeps, hwhy⟩ => ?_
    rw [← windowNear_iff] at hwhy
    exact (if_pos (by simpa [halive, hup, hquiet, hsleeps] using hwhy)).trans (wakePort_eq u q.val)

end Sys2Proof.Proofs
end

section
/-! SUPPORT. What a row can do to the one-time memory (R347, R371): through a KEY command alone, and only onward. -/

namespace Sys2Proof.Laws

open Sys2Proof Sys2Proof.Machine

/-! ### Onward -/

/-- The one-time memory goes onward, and keeps at most one key of a port ACTIVE. -/
def OtpStep (a b : Otp) : Prop :=
  otpOnward a b ∧ (oneActive a → oneActive b)

/-- A slot may stay as it is. -/
theorem slotOnward_refl (a : OtpSt) : slotOnward a a = true := by
  cases a <;> rfl

/-- A slot that goes onward twice goes onward. -/
theorem slotOnward_trans {a b c : OtpSt} (h : slotOnward a b = true) (k : slotOnward b c = true) : slotOnward a c = true := by
  cases a <;> cases b <;> cases c <;> simp_all [slotOnward]

/-- A slot that is written stays written. -/
theorem slotOnward_written {a b : OtpSt} (h : slotOnward a b = true) (ha : a ≠ .blank) : b ≠ .blank := by
  cases a <;> cases b <;> simp_all [slotOnward]

theorem otpOnward_refl (a : Otp) : otpOnward a a :=
  ⟨rfl, rfl, rfl, rfl, rfl, rfl, fun _ => slotOnward_refl _, fun _ => slotOnward_refl _, fun _ _ => rfl, fun _ _ => rfl⟩

theorem otpOnward_trans {a b c : Otp} (h : otpOnward a b) (k : otpOnward b c) : otpOnward a c := by
  obtain ⟨huid, hgrade, hmacA, hmacB, hfw, hread, hkeys, hsched, hkey, hdig⟩ := h
  obtain ⟨kuid, kgrade, kmacA, kmacB, kfw, kread, kkeys, ksched, kkey, kdig⟩ := k
  refine ⟨kuid.trans huid, kgrade.trans hgrade, kmacA.trans hmacA, kmacB.trans hmacB, kfw.trans hfw, kread.trans hread,
    fun i => slotOnward_trans (hkeys i) (kkeys i), fun i => slotOnward_trans (hsched i) (ksched i), fun i hi => ?_, fun i hi => ?_⟩
  · exact (kkey i (slotOnward_written (hkeys i) hi)).trans (hkey i hi)
  · exact (kdig i (slotOnward_written (hsched i) hi)).trans (hdig i hi)

theorem otpStep_refl (a : Otp) : OtpStep a a := ⟨otpOnward_refl a, id⟩

theorem otpStep_of_eq {a b : Otp} (h : b = a) : OtpStep a b := h ▸ otpStep_refl a

theorem otpStep_trans {a b c : Otp} (h : OtpStep a b) (k : OtpStep b c) : OtpStep a c :=
  ⟨otpOnward_trans h.1 k.1, k.2 ∘ h.2⟩

/-- What holds of an entry written and of every entry before holds of every entry. -/
theorem forall_tput {α : Type} [DecidableEq α] {d : α} {t : Tab α} {i : Nat} {x : α} {P : Nat → α → Prop} (hnew : P i x)
    (hold : ∀ k, P k (tget d t k)) (k : Nat) : P k (tget d (tput d t i x) k) := by
  by_cases hk : k = i
  · rw [hk, tget_tput_same]
    exact hnew
  · rw [tget_tput_other _ _ _ _ _ hk]
    exact hold k

/-- A key slot written onward, its key kept where it had one. -/
theorem otpOnward_putKey (o : Otp) (i : Nat) (x : KeySlot) (hst : slotOnward (tget {} o.keys i).st x.st = true)
    (hkey : (tget {} o.keys i).st ≠ .blank → x.key = (tget {} o.keys i).key) :
    otpOnward o { o with keys := tput {} o.keys i x } :=
  ⟨rfl, rfl, rfl, rfl, rfl, rfl,
    forall_tput (P := fun k (y : KeySlot) => slotOnward (tget {} o.keys k).st y.st = true) hst fun _ => slotOnward_refl _,
    fun _ => slotOnward_refl _,
    forall_tput (P := fun k (y : KeySlot) => (tget {} o.keys k).st ≠ .blank → y.key = (tget {} o.keys k).key) hkey fun _ _ => rfl,
    fun _ _ => rfl⟩

/-- A digest slot written onward, its digest kept where it had one. -/
theorem otpOnward_putDigest (o : Otp) (i : Nat) (x : DigestSlot) (hst : slotOnward (tget {} o.sched i).st x.st = true)
    (hdig : (tget {} o.sched i).st ≠ .blank → x.dig = (tget {} o.sched i).dig) :
    otpOnward o { o with sched := tput {} o.sched i x } :=
  ⟨rfl, rfl, rfl, rfl, rfl, rfl, fun _ => slotOnward_refl _,
    forall_tput (P := fun k (y : DigestSlot) => slotOnward (tget {} o.sched k).st y.st = true) hst fun _ => slotOnward_refl _,
    fun _ _ => rfl,
    forall_tput (P := fun k (y : DigestSlot) => (tget {} o.sched k).st ≠ .blank → y.dig = (tget {} o.sched k).dig) hdig fun _ _ => rfl⟩

/-- A digest slot does not bear on the keys. -/
theorem otpStep_putDigest (o : Otp) (i : Nat) (x : DigestSlot) (hst : slotOnward (tget {} o.sched i).st x.st = true)
    (hdig : (tget {} o.sched i).st ≠ .blank → x.dig = (tget {} o.sched i).dig) :
    OtpStep o { o with sched := tput {} o.sched i x } :=
  ⟨otpOnward_putDigest o i x hst hdig, id⟩

/-! ### The keys of a port -/

/-- The place of a key slot tells its port and its number. -/
theorem keyPlace_inj {p q : HostPort} {j k : Nat} (hj : j < 4) (hk : k < 4) (h : 4 * portIdx p + j = 4 * portIdx q + k) :
    p = q ∧ j = k := by
  cases p <;> cases q <;> simp [portIdx] at h ⊢ <;> omega

section Keys

variable (s : State) (p : HostPort) (n : Nat) (x : KeySlot)

/-- A key slot written is read. -/
@[simp] theorem setKey_key_same : (s.setKey p n x).key p n = x := tget_tput_same _ _ _ _

/-- The other key slots of the port stay. -/
theorem setKey_key_other {j : Nat} (h : j ≠ n) : (s.setKey p n x).key p j = s.key p j :=
  tget_tput_other _ _ _ _ _ fun hplace => h (Nat.add_left_cancel hplace)

/-- The key slots of the other port stay. -/
theorem setKey_key_otherPort {q : HostPort} {j : Nat} (hq : q ≠ p) (hn : n < 4) (hj : j < 4) : (s.setKey p n x).key q j = s.key q j :=
  tget_tput_other _ _ _ _ _ fun hplace => hq (keyPlace_inj hj hn hplace).1

/-- As `otpOnward_putKey`, of a port's slot. -/
theorem otpOnward_setKey (hst : slotOnward (s.key p n).st x.st = true) (hkey : (s.key p n).st ≠ .blank → x.key = (s.key p n).key) :
    otpOnward s.otp (s.setKey p n x).otp :=
  otpOnward_putKey s.otp _ x hst hkey

end Keys

/-- Each port keeps at most one ACTIVE key where only those of one port change, and of those none but one is ACTIVE. -/
theorem oneActive_of_port {s t : State} (p : HostPort) (n : Nat) (hone : ∀ j < 4, (t.key p j).st = .active → j = n)
    (hrest : ∀ q, q ≠ p → ∀ j < 4, t.key q j = s.key q j) (h : oneActive s.otp) : oneActive t.otp := by
  intro q j k hj hk
  change (t.key q j).st = .active at hj
  change (t.key q k).st = .active at hk
  by_cases hq : q = p
  · subst hq
    exact Fin.ext ((hone j j.isLt hj).trans (hone k k.isLt hk).symm)
  · rw [hrest q hq j j.isLt] at hj
    rw [hrest q hq k k.isLt] at hk
    exact h q j k hj hk

/-- The first key of a port whose slots are BLANK (R370, R371). -/
theorem otpStep_provision (s : State) (p : HostPort) (key : BitVec 128) (hblank : ∀ k < 4, (s.key p k).st = .blank) :
    OtpStep s.otp (s.setKey p 0 { st := .active, key := key }).otp := by
  have hfirst := hblank 0 (by decide)
  refine ⟨otpOnward_setKey s p 0 _ (by rw [hfirst]; rfl) fun h => absurd hfirst h, oneActive_of_port p 0 (fun j hj hactive => ?_)
    fun q hq j hj => setKey_key_otherPort _ _ _ _ hq (by decide) hj⟩
  by_contra hne
  rw [setKey_key_other _ _ _ _ hne, hblank j hj] at hactive
  cases hactive

/-- A key rotated: the new one ACTIVE in a BLANK slot, the old one, which was ACTIVE, REVOKED (R347, R371). -/
theorem otpStep_rotate (s : State) (p : HostPort) {n old : Nat} (key : BitVec 128) (hn : n < 4) (ho : old < 4)
    (hblank : (s.key p n).st = .blank) (hactive : (s.key p old).st = .active) :
    OtpStep s.otp ((s.setKey p n { st := .active, key := key }).setKey p old { s.key p old with st := .revoked }).otp := by
  have hne : old ≠ n := fun h => by rw [h, hblank] at hactive; cases hactive
  have hold : (s.setKey p n { st := .active, key := key }).key p old = s.key p old := setKey_key_other _ _ _ _ hne
  have hfirst : otpOnward s.otp (s.setKey p n { st := .active, key := key }).otp :=
    otpOnward_setKey s p n _ (by rw [hblank]; rfl) fun h => absurd hblank h
  have hsecond := otpOnward_setKey (s.setKey p n { st := .active, key := key }) p old { s.key p old with st := .revoked }
    (by rw [hold, hactive]; rfl) fun _ => by rw [hold]
  refine ⟨otpOnward_trans hfirst hsecond, fun h => oneActive_of_port p n (fun j hj hst => ?_) (fun q hq j hj => ?_) h⟩
  · by_contra hjn
    by_cases hjo : j = old
    · rw [hjo, setKey_key_same] at hst
      cases hst
    · rw [setKey_key_other _ _ _ _ hjo, setKey_key_other _ _ _ _ hjn] at hst
      exact hjo (congrArg Fin.val (h p ⟨j, hj⟩ ⟨old, ho⟩ hst hactive))
  · rw [setKey_key_otherPort _ _ _ _ hq ho hj, setKey_key_otherPort _ _ _ _ hq hn hj]

/-! ### The rows that write it -/

/-- What a row does to the one-time memory where it is evaluated: its act goes onward, where the row is authenticated; its parts leave
it. -/
def ActsOnward (d : CmdDef) : Prop :=
  (∀ u c, (d.critical = true → (u.key c.e.port (slotKey c.slot)).st = .active) → OtpStep u.otp (d.act u c).st.otp) ∧
  ∀ u c n l, (d.part u c n l).otp = u.otp

/-- What reports leaves the one-time memory. -/
theorem talks_otp {s t : State} (h : Talks s t) : t.otp = s.otp :=
  (congrArg State.otp (show t = _ from h)).trans rfl

@[simp] theorem raise_otp (s : State) (code : Nat) (l : List Byte) (f v : Nat) : (s.raise code l f v).otp = s.otp :=
  talks_otp (talks_raise _ _ _ _ _)

@[simp] theorem sayKey_otp (s : State) (p : HostPort) (k : Nat) : (s.sayKey p k).otp = s.otp := raise_otp _ _ _ _ _

/-- The lowest BLANK slot of a port is one of its four, and BLANK. -/
theorem blankKey_spec {s : State} {p : HostPort} {n : Nat} (h : s.blankKey p = some n) : n < 4 ∧ (s.key p n).st = .blank :=
  ⟨List.mem_range.mp (List.mem_of_find?_eq_some h), by simpa using List.find?_some h⟩

/-- A rotation goes onward where the key that signs it is ACTIVE. -/
theorem rotateKey_onward (s : State) (p : HostPort) {old : Nat} (key : Option (BitVec 128)) (ho : old < 4)
    (hactive : (s.key p old).st = .active) : OtpStep s.otp (s.rotateKey p old key).st.otp := by
  unfold State.rotateKey
  cases key with
  | none => exact otpStep_refl _
  | some k =>
    cases hn : s.blankKey p with
    | none => exact otpStep_refl _
    | some n =>
      obtain ⟨hlt, hblank⟩ := blankKey_spec hn
      dsimp only
      split
      · exact otpStep_refl _
      · simp only [State.ok, sayKey_otp]
        exact otpStep_rotate s p k hlt ho hblank hactive

theorem keyRotate_onward : ActsOnward cmdKeyRotate :=
  ⟨fun u c hkey => rotateKey_onward u c.e.port (keyUnwrap (u.key c.e.port (slotKey c.slot)).key (bytesOf 24 (c.p 0 24)))
    (Nat.mod_lt _ (by decide)) (hkey rfl), fun _ _ _ _ => rfl⟩

theorem keyProvision_onward : ActsOnward cmdKeyProvision := by
  refine ⟨fun u c _ => ?_, fun _ _ _ _ => rfl⟩
  simp only [cmdKeyProvision]
  split
  · exact otpStep_refl _
  · next hfree =>
    split
    · exact otpStep_refl _
    · split
      · exact otpStep_refl _
      · simp only [State.ok, sayKey_otp]
        refine otpStep_provision u _ _ fun k hk => ?_
        simp only [Bool.or_eq_true, not_or, List.any_eq_true, not_exists, not_and, bne_iff_ne, ne_eq, not_not] at hfree
        exact hfree.2 k (List.mem_range.mpr hk)

theorem keySchedDigest_onward : ActsOnward cmdKeySchedDigest := by
  refine ⟨fun u c _ => ?_, fun _ _ _ _ => rfl⟩
  simp only [cmdKeySchedDigest]
  split
  · exact otpStep_refl _
  · split
    · exact otpStep_refl _
    · next hst =>
      split
      · exact otpStep_refl _
      · by_cases hwrite : c.p 1 1 = 0
        · have hblank : (tget {} u.otp.sched (c.p 0 1)).st = .blank := by simpa [hwrite] using hst
          exact otpStep_putDigest _ _ _ (by rw [hblank]; rfl) fun h => absurd hblank h
        · have hactive : (tget {} u.otp.sched (c.p 0 1)).st = .active := by
            simp only [hwrite, decide_false, Bool.false_and, Bool.not_false, Bool.true_and, Bool.false_or, Bool.or_eq_true, not_or,
              bne_iff_ne, ne_eq, not_not] at hst
            exact hst.1
          simp only [hwrite, if_false, State.ok]
          exact otpStep_putDigest _ _ _ (by rw [hactive]; rfl) fun _ => rfl

/-- Of the rows of the command table those of KEY.ROTATE, KEY.PROVISION and KEY.SCHED_DIGEST alone write the one-time memory. -/
theorem commands_onward {d : CmdDef} (hd : d ∈ commands) (hw : d.writesOtp = true) : ActsOnward d := by
  have hrows : commands.filter (fun d => d.writesOtp) = [cmdKeyRotate, cmdKeyProvision, cmdKeySchedDigest] := rfl
  have hrow : d ∈ commands.filter (fun d => d.writesOtp) := List.mem_filter.mpr ⟨hd, hw⟩
  rw [hrows] at hrow
  simp only [List.mem_cons, List.not_mem_nil, or_false] at hrow
  obtain rfl | rfl | rfl := hrow
  · exact keyRotate_onward
  · exact keyProvision_onward
  · exact keySchedDigest_onward

end Sys2Proof.Laws
end

section
/-! SUPPORT. Serving a command takes the one-time memory onward, wherever it came from (R307, R336 to R339, R347, R371). -/

namespace Sys2Proof.Laws

open Sys2Proof Sys2Proof.Machine

/-! ### Serving -/

/-- Serving a command up to its evaluation leaves the one-time memory. -/
theorem serves_otp {s t : State} (h : Serves s t) : t.otp = s.otp :=
  (congrArg State.otp (show t = _ from h)).trans rfl

/-- The key slot that signs a command of a critical row is ACTIVE where the command is authenticated (R339, R347). -/
theorem authenticate_active {s : State} {d : CmdDef} {c : Ctx} {data : List Byte} (h : (s.authenticate d c data).2 = none)
    (hcrit : d.critical = true) : (s.key c.e.port (slotKey c.slot)).st = .active := by
  by_contra hst
  unfold State.authenticate at h
  rw [if_neg (by simp [hcrit])] at h
  split at h
  · cases h
  · rw [if_pos (by simp [hst])] at h
    cases h

variable {d : CmdDef} {s : State}

/-- What a part of a command can answer (R356): it is refused with the transfer gone, or completes the command, or is stored. -/
theorem evalPart_cases {P : Ans → Prop} (c : Ctx) (hdrop : ∀ a : Ans, a.st = s.dropXfer c → P a)
    (hact : ∀ x data, P (d.act { s with xfers := x } { c with din := data }))
    (hpart : ∀ x n l, P (d.part { s with xfers := x } c n l).ok) : P (s.evalPart d c) := by
  unfold State.evalPart
  exact iteInduction (motive := P) (fun _ => hdrop _ rfl) fun _ => iteInduction (motive := P) (fun _ => hdrop _ rfl) fun _ =>
    iteInduction (motive := P) (fun _ => hdrop _ rfl) fun _ => iteInduction (motive := P) (fun _ => hact _ _) fun _ => hpart _ _ _

/-- The evaluation of a row that acts onward, of a command that is authenticated. -/
theorem evaluate_onward (hd : ActsOnward d) (c : Ctx) (hkey : d.critical = true → (s.key c.e.port (slotKey c.slot)).st = .active) :
    OtpStep s.otp (s.evaluate d c).st.otp := by
  obtain ⟨hact, hpart⟩ := hd
  have hdrop : (s.dropXfer c).otp = s.otp := aside_otp (aside_dropXfer s c)
  have hrow : ∀ (u : State) (c' : Ctx), c'.e = c.e → c'.slot = c.slot → u.otp = s.otp → OtpStep s.otp (d.act u c').st.otp := by
    intro u c' he hslot hu
    rw [← hu]
    refine hact u c' fun hcrit => ?_
    rw [State.key, hu, he, hslot]
    exact hkey hcrit
  unfold State.evaluate
  split
  · exact otpStep_refl _
  · split
    · exact evalPart_cases (P := fun a => OtpStep s.otp a.st.otp) c (fun a ha => otpStep_of_eq (by rw [ha, hdrop]))
        (fun _ _ => hrow _ _ rfl rfl rfl) fun _ _ _ => otpStep_of_eq (hpart _ _ _ _)
    · dsimp only
      unfold State.lengthCheck
      split
      · exact otpStep_of_eq hdrop
      · exact hrow _ _ rfl rfl hdrop

/-- A command is authenticated without a write of the one-time memory, which its evaluation then takes onward. -/
theorem authenticated_onward (hd : ActsOnward d) {u v : State} {c : Ctx} {data : List Byte} (h : u.authenticate d c data = (v, none))
    (hu : u.otp = s.otp) : OtpStep s.otp (v.evaluate d c).st.otp := by
  have hv : v.otp = u.otp :=
    (congrArg (fun x => x.1.otp) h).symm.trans (serves_otp (serves_authenticate u d c data))
  rw [← hu, ← hv]
  refine evaluate_onward hd c fun hcrit => ?_
  rw [State.key, hv]
  exact authenticate_active (congrArg Prod.snd h) hcrit

/-- What a taken command breaks is not in the one-time memory. -/
theorem breakXfer_otp (s : State) (e : Entry) (c : Ctx) : ((s.refresh e).breakXfer c).otp = s.otp :=
  (aside_otp (aside_breakXfer _ c)).trans (serves_otp (serves_refresh s e))

/-- A command that is served takes the one-time memory onward, where its row, if it writes it, acts onward. -/
theorem serve_onward (s : State) (row : Option CmdDef) (hrow : ∀ d ∈ row, d.writesOtp = true → ActsOnward d) (r : Req) (b0 idx : Nat)
    (src : Option Endpoint) : OtpStep s.otp (s.serve row r b0 idx src).otp := by
  change OtpStep s.otp (s.serveSteps row r b0 idx src).2
  unfold State.serveSteps
  dsimp only
  split
  · exact otpStep_refl _
  · next d =>
    split
    · exact otpStep_refl _
    · split
      · exact otpStep_refl _
      · split
        · exact otpStep_refl _
        · split
          · exact otpStep_refl _
          · next s2 heq =>
            dsimp only
            split
            · next hw => exact authenticated_onward (hrow d rfl hw) heq (breakXfer_otp _ _ _)
            · exact otpStep_refl _

/-- As `serve_onward`, of a command whose opcode names its row. -/
theorem serve_commandOf_onward (s : State) (op : Nat) (r : Req) (b0 idx : Nat) (src : Option Endpoint) :
    OtpStep s.otp (s.serve (commandOf op) r b0 idx src).otp :=
  serve_onward s _ (fun _ hd => commands_onward (List.mem_of_find?_eq_some hd)) r b0 idx src

/-- As `serve_onward`, of a row of the table of instructions. -/
theorem command_onward (s : State) (hd : ActsOnward d) (r : Req) : OtpStep s.otp (State.command d r s).otp := by
  unfold State.command
  split
  · exact serve_onward s (some d) (fun e he _ => by obtain rfl := Option.some.inj he; exact hd) _ _ _ _
  · exact otpStep_refl _

/-! ### Mailboxes (R324, R336 to R338) -/

/-- A mailbox that takes its next command. -/
theorem take_onward (s : State) (p : HostPort) (m : Fin 4) (din : Option (List Byte)) : OtpStep s.otp (s.take p m din).otp := by
  have hserve : ∀ (u : State) op r b0 idx src, u.otp = s.otp → OtpStep s.otp (u.serve (commandOf op) r b0 idx src).otp :=
    fun u op r b0 idx src hu => hu ▸ serve_commandOf_onward u op r b0 idx src
  unfold State.take
  dsimp only
  split
  · exact otpStep_refl _
  · split
    · split
      · exact otpStep_refl _
      · refine hserve _ _ _ _ _ _ ?_
        split <;> simp
    · split
      · exact otpStep_refl _
      · exact hserve _ _ _ _ _ _ (by simp)

@[simp] theorem claim_otp (s : State) (e : Entry) (n : Nat) : (s.claim e n).otp = s.otp := by
  unfold State.claim
  split <;> rfl

/-- Commands of both ports that meet in one cycle (R324). -/
theorem takeInTurn_onward (s : State) (p : HostPort) (m : Fin 4) (din : Option (List Byte)) :
    OtpStep s.otp (s.takeInTurn p m din).otp := by
  unfold State.takeInTurn
  split
  · exact otpStep_refl _
  · split
    · next q k d _ =>
      dsimp only
      split
      · exact otpStep_trans (take_onward s q k d) (take_onward { s.take q k d with early := some (q, k.val) } p m din)
      · exact take_onward s p m din
    · split
      · unfold State.claimTurn
        split
        · dsimp only
          split
          · exact (claim_otp s _ _) ▸ take_onward _ p m din
          · exact take_onward s p m din
        · exact take_onward s p m din
      · exact take_onward s p m din

/-- A row meets its FAB_CK cycle without a further write of the one-time memory. -/
theorem met_onward {f : State → State} (hf : ∀ u : State, OtpStep u.otp (f u).otp) (s : State) : OtpStep s.otp (s.met f).otp := by
  unfold State.met
  split
  · exact hf s
  · exact hf { s with race := s.foreseen }

end Sys2Proof.Laws
end

section
/-! SUPPORT. What a fragment of a message does to the one-time memory (R301 to R308): a CMD alone takes it onward. -/

namespace Sys2Proof.Laws

open Sys2Proof Sys2Proof.Machine

/-- A fold of changes that leave the one-time memory leaves it. -/
theorem foldl_otp {β : Type} {f : State → β → State} (h : ∀ s b, (f s b).otp = s.otp) (l : List β) (s : State) :
    (l.foldl f s).otp = s.otp := by
  induction l generalizing s with
  | nil => rfl
  | cons b l ih => exact (ih _).trans (h s b)

/-- Of two changes that leave the one-time memory either does. -/
theorem ite_otp {b : Prop} [Decidable b] {t u : State} {o : Otp} (ht : t.otp = o) (hu : u.otp = o) : (if b then t else u).otp = o := by
  split
  · exact ht
  · exact hu

/-- What goes onward from a state goes onward from the same one-time memory. -/
theorem otpStep_from {u t : State} {o : Otp} (ht : OtpStep u.otp t.otp) (hu : u.otp = o) : OtpStep o t.otp :=
  hu ▸ ht

theorem otpStep_ite {b : Prop} [Decidable b] {t u : State} {o : Otp} (ht : OtpStep o t.otp) (hu : OtpStep o u.otp) :
    OtpStep o (if b then t else u).otp := by
  split
  · exact ht
  · exact hu

/-! ### Discovery (R302 to R305) -/

/-- A fault of the Chain that is a note leaves the one-time memory. -/
theorem fault6009_otp (s : State) : (s.fault 0x6009 0 0).otp = s.otp :=
  talks_otp (talks_fault_note s 0x6009 0 0 _ _ _ (by simp [State.sevOf]) (by decide))

theorem discEnd_otp (s : State) (d : Disc) : (s.discEnd d).otp = s.otp := by
  unfold State.discEnd
  split
  · exact raise_otp _ _ _ _ _
  · rfl

theorem discNext_otp (s : State) (n : Nat) : (s.discNext n).otp = s.otp := by
  induction n generalizing s with
  | zero => rfl
  | succ n ih =>
    unfold State.discNext
    split
    · rfl
    · split
      · exact discEnd_otp _ _
      · exact ite_otp (ih _) (ite_otp ((ih _).trans (ite_otp (fault6009_otp _) rfl)) rfl)

theorem newUpstream_otp (s : State) (q : Nat) : (s.newUpstream q).otp = s.otp := by
  unfold State.newUpstream
  dsimp only
  generalize ht : (if (s.topo = 2 && s.chain.upstream != some q) = true then _ else s) = t
  have hsame : t.otp = s.otp := ht ▸ ite_otp rfl rfl
  exact ite_otp hsame hsame

theorem onAssign_otp (s : State) (q : Nat) (gen : Byte) (a : BitVec 16) (down : Bool) (hops : Byte) :
    (s.onAssign q gen a down hops).otp = s.otp := by
  unfold State.onAssign
  refine ite_otp rfl ((discNext_otp _ 6).trans ?_)
  have hports := foldl_otp (f := fun (t : State) (p : Nat) => t.modRport p (fun r => { r with range := none })) (fun _ _ => rfl)
    (List.range 4)
  exact ite_otp ((hports _).trans (newUpstream_otp _ q)) ((raise_otp _ _ _ _ _).trans ((hports _).trans (newUpstream_otp _ q)))

theorem onDone_otp (s : State) (q : Nat) (gen : Byte) (next : Nat) (refused : Bool) : (s.onDone q gen next refused).otp = s.otp := by
  unfold State.onDone
  split
  · split
    · dsimp only
      rw [discNext_otp]
      cases refused <;> rfl
    · rfl
  · rfl

theorem topoChange_otp (s : State) (cause : Nat) : (s.topoChange cause).otp = s.otp := by
  unfold State.topoChange
  refine ite_otp rfl (ite_otp rfl ?_)
  split
  · exact ite_otp rfl rfl
  · rfl

theorem onChange_otp (s : State) (data : List Byte) : (s.onChange data).otp = s.otp := by
  unfold State.onChange
  refine ite_otp rfl (ite_otp (topoChange_otp s 0) ?_)
  split
  · exact ite_otp rfl rfl
  · rfl

theorem takeDisc_otp (s : State) (q : Nat) (d : List Byte) : (s.takeDisc q d).otp = s.otp :=
  ite_otp (onAssign_otp _ _ _ _ _ _) (ite_otp (onDone_otp _ _ _ _ _) (ite_otp (onChange_otp _ _) rfl))

/-! ### Messages (R306 to R308) -/

theorem takeCmd_onward (s : State) (src : BitVec 16) (b0 : Byte) (slot : BitVec 512) (data : List Byte) :
    OtpStep s.otp (s.takeCmd src b0 slot data).otp :=
  otpStep_ite (serve_commandOf_onward _ _ _ _ _ _) (otpStep_refl _)

theorem takeRsp_otp (s : State) (src : BitVec 16) (b0 : Byte) (slot : BitVec 512) (data : List Byte) :
    (s.takeRsp src b0 slot data).otp = s.otp := by
  unfold State.takeRsp
  dsimp only
  generalize (if bitN b0.toNat 0 = true then HostPort.B else HostPort.A) = p
  split
  · exact ite_otp ((talks_otp (talks_writeRsp _ _ _ _ _)).trans (modMb_otp _ _ _ _)) rfl
  · rfl

theorem tryBulk_onward (s : State) (src : BitVec 16) (id : Option Byte) : OtpStep s.otp (s.tryBulk src id).otp := by
  unfold State.tryBulk
  split
  · split
    · exact otpStep_ite (otpStep_ite (otpStep_of_eq ((takeRsp_otp _ _ _ _ _).trans rfl)) (otpStep_from (takeCmd_onward _ _ _ _ _) rfl))
        (otpStep_refl _)
    · exact otpStep_refl _
  · exact otpStep_refl _

theorem noteBulk_onward (s : State) (src : BitVec 16) (id : Option Byte) (b0 : Byte) (msg : Option (Bool × BitVec 512 × List Byte))
    (d : List Byte) : OtpStep s.otp (s.noteBulk src id b0 msg d).otp :=
  otpStep_from (tryBulk_onward _ src id) rfl

theorem takeMsg_onward (s : State) (src : BitVec 16) (id : Byte) (isRsp : Bool) (data : List Byte) :
    OtpStep s.otp (s.takeMsg src id isRsp data).otp :=
  otpStep_ite (noteBulk_onward _ _ _ _ _ _) (otpStep_ite (noteBulk_onward _ _ _ _ _ _)
    (otpStep_ite (otpStep_of_eq (takeRsp_otp _ _ _ _ _)) (takeCmd_onward _ _ _ _ _)))

theorem takeEvt_otp (s : State) (src : BitVec 16) (data : List Byte) : (s.takeEvt src data).otp = s.otp :=
  talks_otp (talks_trans (talks_toPort _ _ _) (talks_toPort _ _ _))

theorem takeWhole_onward (s : State) (x : Partial) : OtpStep s.otp (s.takeWhole x).otp :=
  otpStep_ite (takeMsg_onward _ _ _ _ _) (otpStep_ite (takeMsg_onward _ _ _ _ _)
    (otpStep_ite (otpStep_of_eq (takeEvt_otp _ _ _)) (otpStep_refl _)))

theorem reassemble_onward (s : State) (src : BitVec 16) (id : Byte) (mtype : BitVec 4) (first last : Bool) (frag : Nat) (d : List Byte) :
    OtpStep s.otp (s.reassemble src id mtype first last frag d).otp := by
  unfold State.reassemble
  dsimp only
  split
  · exact otpStep_refl _
  · exact otpStep_ite (otpStep_from (takeWhole_onward _ _) rfl) (otpStep_refl _)

/-- A fragment that arrives takes the one-time memory onward. -/
theorem takeFrag_onward (s : State) (q x : Nat) : OtpStep s.otp (s.takeFrag q x).otp := by
  unfold State.takeFrag
  refine otpStep_ite (otpStep_ite (otpStep_of_eq (takeDisc_otp _ _ _)) (otpStep_refl _))
    (otpStep_ite (reassemble_onward _ _ _ _ _ _ _ _) ?_)
  split <;> exact otpStep_refl _

/-- MSG_FRAGMENT past its guards. -/
theorem fragment_onward (s : State) (q : Nat) (body : BitVec 120) :
    OtpStep s.otp (if !s.linkOn q then s else if !slotGood body then s.badSlot q else if (s.rport q).conflict then s
      else s.takeFrag q body.toNat).otp :=
  otpStep_ite (otpStep_refl _) (otpStep_ite (otpStep_refl _) (otpStep_ite (otpStep_refl _) (takeFrag_onward s q _)))

end Sys2Proof.Laws
end

section
/-! PROOFS. Steps: the queue, totality, and the one-time memory (R333, R336, R347, R371, R483). -/

namespace Sys2Proof.Laws

open Sys2Proof Sys2Proof.Machine

/-- A row that reaches the one-time memory takes it onward (R347, R371). -/
theorem exec_onward (c : Instr) (s t : State) (h : exec c s = .next t) : OtpStep s.otp t.otp := by
  have hotp : ∀ (dt : Nat) (f : State → State), (∀ u : State, OtpStep u.otp (f u).otp) → runOtp dt s f = .next t →
      OtpStep s.otp t.otp := by
    intro dt f hf ht
    unfold runOtp at ht
    obtain rfl := Host.Outcome.next.inj ht
    dsimp only
    split
    · exact otpStep_refl _
    · exact hf (s.advance dt)
  cases c
  case keyRotate => exact hotp _ _ (fun u => command_onward u keyRotate_onward _) h
  case keyProvision => exact hotp _ _ (fun u => command_onward u keyProvision_onward _) h
  case keySchedDigest => exact hotp _ _ (fun u => command_onward u keySchedDigest_onward _) h
  case mailboxTake => exact hotp _ _ (met_onward fun u => takeInTurn_onward u _ _ _) h
  case msgFragment => exact hotp _ _ (fun u => fragment_onward u _ _) h
  all_goals
    exact otpStep_of_eq (by obtain rfl := Host.Outcome.next.inj h; rfl)

/-- A row answers a state with the queue's rest, the clock its ticks later, and the one-time memory where no KEY command can reach it. -/
theorem exec_goesOn (c : Instr) (s : State) :
    ∃ t, exec c s = .next t ∧ t.pending = s.pending ∧ t.clk = s.clk + c.ticks ∧ (otpRow c = false → t.otp = s.otp) := by
  cases hpower : powerRow c with
  | false =>
    obtain ⟨f, ⟨_, hexec⟩ | ⟨hrow, hexec⟩⟩ := exec_runs c s hpower
    · exact ⟨_, hexec, rfl, rfl, fun _ => rfl⟩
    · exact ⟨_, hexec, rfl, rfl, fun hnot => absurd (hrow.symm.trans hnot) (by decide)⟩
  | true =>
    cases c
    case powerOn | powerLoss | porstAssert | porstRelease => exact ⟨_, rfl, rfl, rfl, fun _ => rfl⟩
    all_goals cases hpower

/-- A step runs the row at the front of the queue. -/
theorem step_cons {c : Instr} {q : List Instr} {s : State} (h : s.pending = c :: q) : step s = exec c { s with pending := q } := by
  unfold step
  rw [h]

/-- On an empty queue a step idles. -/
theorem step_nil {s : State} (h : s.pending = []) : step s = .next s := by
  unfold step
  rw [h]

end Sys2Proof.Laws

namespace Sys2Proof.Proofs

open Sys2Proof Sys2Proof.Machine Sys2Proof.Laws

/-- Settles O42: the two equations of a step. -/
theorem stepRunsTheFrontCommand : Obligations.StepRunsTheFrontCommand :=
  ⟨fun _ _ _ h => step_cons h, fun _ h => step_nil h⟩

/-- Settles O43: every row has the shape of `run`, `runOtp` or `runAlways`. -/
theorem everyCommandGoesOn : Obligations.EveryCommandGoesOn :=
  exec_goesOn

/-- Settles O46: a step runs one row, and a row reaches the one-time memory through the KEY commands that it serves, each of which takes it
onward: a rotation revokes the ACTIVE key that signs it, and the first key of a port is written where all its slots are BLANK. -/
theorem oneTimeMemoryOnlyGoesOnward : Obligations.OneTimeMemoryOnlyGoesOnward := by
  intro s t hone hstep
  have honward : OtpStep s.otp t.otp := by
    cases hpending : s.pending with
    | nil =>
      obtain rfl := Host.Outcome.next.inj ((step_nil hpending).symm.trans hstep)
      exact otpStep_refl _
    | cons c q => exact otpStep_from (exec_onward c _ t ((step_cons hpending).symm.trans hstep)) rfl
  exact ⟨honward.1, honward.2 hone⟩

end Sys2Proof.Proofs
end

section
/-! PROOFS. The commands of the classes SEM and KEY (R324, R344, R345, R347, R368, R370, R371). -/

namespace Sys2Proof.Laws

open Sys2Proof Sys2Proof.Machine

/-! ### Claims of both ports in one cycle (R324) -/

/-- Two meanings that agree on the state in which the row acts run the same. -/
theorem run_congr {dt : Nat} {s : State} {f g : State → State} (h : f (s.advance dt) = g (s.advance dt)) : run dt s f = run dt s g := by
  unfold run
  rw [h]

variable {s : State} {p q : HostPort} {n k : Nat} (f : State → State)

/-- A claim that no other port's meets is served as it stands. -/
theorem claimTurn_alone (h : rivalClaim s p = none) : s.claimTurn p n f = f s := by
  unfold State.claimTurn
  rw [show List.find? _ (s.cycleRows.filterMap s.claimOf) = none from h]

/-- Of two claims that meet the priority bit says which comes first, and then turns. -/
theorem claimTurn_rival (h : rivalClaim s p = some (q, k)) :
    s.claimTurn p n f = { f (if k = n ∧ s.prio = (q == .B) then s.claim (localEntry q) k else s) with prio := !s.prio } := by
  unfold State.claimTurn
  rw [show List.find? _ (s.cycleRows.filterMap s.claimOf) = some (q, k) from h]
  simp only [Bool.and_eq_true, decide_eq_true_eq]
  by_cases hk : k = n
  · rw [hk]
  · simp only [hk, false_and, if_false]

/-- SEM.CLAIM of a host port takes its turn, one of a forwarded pair meets nothing. -/
theorem exec_semClaim (dt : Nat) (r : Req) (s : State) :
    exec (.semClaim dt r) s = run dt s (fun u => if r.entry.pair.isNone then
      u.claimTurn r.entry.port (fld r.slot.toNat 320 8) (State.command cmdSemClaim r) else State.command cmdSemClaim r u) := rfl

/-- SEM.CLAIM that meets no claim of the other port is served as it stands. -/
theorem exec_semClaim_alone (dt : Nat) (r : Req) (s : State)
    (h : r.entry.pair.isSome = true ∨ rivalClaim (s.advance dt) r.entry.port = none) :
    exec (.semClaim dt r) s = run dt s (State.command cmdSemClaim r) := by
  refine (exec_semClaim dt r s).trans (run_congr ?_)
  rcases h with hpair | hrival
  · exact if_neg (by simpa [Option.isSome_iff_ne_none] using hpair)
  · rw [claimTurn_alone _ hrival, ite_self]

/-! ### KEY (R347, R370, R371) -/

variable (u : State) (c : Ctx)

/-- KEY.ROTATE writes the key that unwrapped into the lowest BLANK slot and revokes the one that signed, where the OTP can be written. -/
theorem rotateKey_some (p : HostPort) (old : Nat) {key : BitVec 128} (hblank : u.blankKey p = some n) (hotp : u.otpAllowed = true) :
    u.rotateKey p old (some key) =
      (((u.setKey p n { st := .active, key := key }).setKey p old { u.key p old with st := .revoked }).sayKey p n).ok := by
  simp [State.rotateKey, hblank, hotp]

/-- KEY.PROVISION writes the first key of a host port whose slots are BLANK. -/
theorem keyProvision_act (hlocal : c.e.pair = none) (hblank : ∀ k < 4, (u.key c.e.port k).st = .blank) (hsem : u.holds c.e 5 = true)
    (hotp : u.otpAllowed = true) :
    cmdKeyProvision.act u c =
      ((u.setKey c.e.port 0 { st := .active, key := BitVec.ofNat 128 (ofBytesBE (bytesOf 16 (c.p 0 16))) }).sayKey c.e.port 0).ok := by
  have hfree : (List.range 4).any (fun k => (u.key c.e.port k).st != .blank) = false := by
    rw [List.any_eq_false]
    intro k hk
    simp [hblank k (List.mem_range.mp hk)]
  simp only [cmdKeyProvision, hlocal, hfree, hsem, hotp, Option.isSome_none, Bool.or_self, Bool.not_true, Bool.false_eq_true, if_false]

/-- KEY.SCHED_DIGEST with P1 0 writes a digest of 32 bytes into a BLANK slot. -/
theorem keySchedDigest_write (hwrite : c.p 1 1 = 0) (hlen : c.din.length = 32) (hblank : (tget {} u.otp.sched (c.p 0 1)).st = .blank)
    (hotp : u.otpAllowed = true) :
    cmdKeySchedDigest.act u c =
      State.ok { u with otp.sched := tput {} u.otp.sched (c.p 0 1) { st := .active, dig := BitVec.ofNat 256 (ofBytesBE c.din) } } := by
  simp only [cmdKeySchedDigest, hwrite, hlen, hblank, hotp]
  rfl

/-- KEY.SCHED_DIGEST with P1 1 revokes a digest that is SET, where another is. -/
theorem keySchedDigest_revoke (hrevoke : c.p 1 1 = 1) (hlen : c.din.length = 0) (hset : (tget {} u.otp.sched (c.p 0 1)).st = .active)
    (hother : ∃ i < 2, i ≠ c.p 0 1 ∧ (tget {} u.otp.sched i).st = .active) (hotp : u.otpAllowed = true) :
    cmdKeySchedDigest.act u c =
      State.ok { u with otp.sched := tput {} u.otp.sched (c.p 0 1) { tget {} u.otp.sched (c.p 0 1) with st := .revoked } } := by
  have honly : (List.range 2).all (fun i => i = c.p 0 1 || (tget {} u.otp.sched i).st != .active) = false := by
    obtain ⟨i, hi, hne, hst⟩ := hother
    rw [List.all_eq_false]
    exact ⟨i, List.mem_range.mpr hi, by rw [hst]; simp [hne]⟩
  simp only [cmdKeySchedDigest, hrevoke, hlen, hset, honly, hotp]
  rfl

end Sys2Proof.Laws

namespace Sys2Proof.Proofs

open Sys2Proof Sys2Proof.Machine Sys2Proof.Laws

/-- Settles O8: each row by what its act answers past its own conditions; SEM.CLAIM by whether the other port claims in its cycle. -/
theorem semaphoreAndKeyCommandsComplete : Obligations.SemaphoreAndKeyCommandsComplete := by
  refine ⟨?claim, ?claimMet, ?release, ?lease, ?status, ?rotate, ?provision, ?digest, ?digestRevoked, ?keyStatus⟩
  case claim =>
    exact completesWhen_of_act _ _ _ _ _ _ _ exec_semClaim_alone fun _ _ _ => rfl
  case claimMet =>
    intro dt r s q k hs hlocal hrival u first
    rw [exec_semClaim, run_awake dt s _ hs]
    have hturn := claimTurn_rival (n := fld r.slot.toNat 320 8) (State.command cmdSemClaim r) hrival
    rw [if_pos (by simp [hlocal]), hturn]
  case release => exact completes_of_act _ _ _ _ _ _ (fun _ _ _ => rfl) fun u c hheld => if_pos hheld
  case lease => exact completes_of_act _ _ _ _ _ _ (fun _ _ _ => rfl) fun u c ⟨hsome, hheld⟩ => (if_neg hsome).trans (if_pos hheld)
  case status => exact completes_of_act _ _ _ _ _ _ (fun _ _ _ => rfl) fun _ _ _ => rfl
  case rotate =>
    refine fun key n => completes_of_act _ _ _ _ _ _ (fun _ _ _ => rfl) fun u c ⟨hkey, hblank, hotp⟩ => ?_
    exact (congrArg (u.rotateKey c.e.port (slotKey c.slot)) hkey).trans (rotateKey_some u _ _ hblank hotp)
  case provision =>
    exact completes_of_act _ _ _ _ _ _ (fun _ _ _ => rfl) fun u c ⟨hlocal, hblank, hsem, hotp⟩ =>
      keyProvision_act u c hlocal hblank hsem hotp
  case digest =>
    exact completes_of_act _ _ _ _ _ _ (fun _ _ _ => rfl) fun u c ⟨hwrite, hlen, hblank, hotp⟩ =>
      keySchedDigest_write u c hwrite hlen hblank hotp
  case digestRevoked =>
    exact completes_of_act _ _ _ _ _ _ (fun _ _ _ => rfl) fun u c ⟨hrevoke, hlen, hset, hother, hotp⟩ =>
      keySchedDigest_revoke u c hrevoke hlen hset hother hotp
  case keyStatus =>
    refine completes_of_act _ _ _ _ _ _ (fun _ _ _ => rfl) fun u c _ => ?_
    rfl

end Sys2Proof.Proofs
end

section
/-! PROOFS. The commands of the classes FW, MON, FAULT, HEALTH and HIST (R355, R370, R372, R453, R482, R489, R492, R495). -/

namespace Sys2Proof.Laws

open Sys2Proof Sys2Proof.Machine

variable (u : State) (c : Ctx)

/-- FW.COMMIT writes both copies of the boot control record, where the image is valid and the flash can be written (R426, R450, R453). -/
theorem fwCommit_act (himage : u.imageOk (u.fwSlot (c.p 0 1)) = true) (hflash : u.flash.ok = true) (htemp : u.flashAllowed = true) :
    cmdFwCommit.act u c = State.ok { u.flashWritten 0x1302 true (slotTag c.slot) c.e with
      flash.boot := some (c.p 0 1), flash.boot2 := some (c.p 0 1)
      power.boot.startsA := if c.p 0 1 = 0 then 0 else u.power.boot.startsA
      power.boot.startsB := if c.p 0 1 = 1 then 0 else u.power.boot.startsB } := by
  simp only [cmdFwCommit, himage, hflash, htemp, Bool.not_true, Bool.false_eq_true, if_false]

/-- FAULT.LOG answers up to 64 of the 256 entries (R370, R482). -/
theorem faultLog_act (hfirst : c.p 0 2 ≤ 255) (hsome : c.p 2 1 ≠ 0) (hcount : c.p 2 1 ≤ 64) :
    cmdFaultLog.act u c = u.okData ((List.range (c.p 2 1)).flatMap (fun i => logBytes (u.faults.log[c.p 0 2 + i]?))) :=
  (if_neg (Nat.not_lt.mpr hfirst)).trans (if_neg (by simp [hsome, Nat.not_lt.mpr hcount]))

/-- HEALTH.CONFIG replaces a monitor of its port by one with cleared statistics (R491, R492). -/
theorem healthConfig_act (hport : c.p 0 1 / 32 = portIdx c.e.port) (hlen : c.din.length = 32)
    (hblock : healthBad (leAt c.din 0 32) = none) :
    cmdHealthConfig.act u c = State.ok { u with
      faults.monitors := tput {} u.faults.monitors (c.p 0 1) (
        { cfg := BitVec.ofNat 256 (leAt c.din 0 32), start := u.clk, armMin := bitN (leAt c.din 0 32) 35,
          armMax := bitN (leAt c.din 0 32) 36 } : Monitor) } := by
  simp only [cmdHealthConfig, hport, hlen, hblock, bne_self_eq_false, Bool.false_eq_true, if_false]

/-- HEALTH.READ answers the monitors that it names of the 64 (R370, R495). -/
theorem healthRead_act (hfirst : c.p 0 1 ≤ 63) (hsome : c.p 1 1 ≠ 0) (hlast : c.p 0 1 + c.p 1 1 ≤ 64) :
    cmdHealthRead.act u c =
      u.okData ((List.range (c.p 1 1)).flatMap (fun i => (tget {} u.faults.monitors (c.p 0 1 + i)).bytes)) :=
  (if_neg (Nat.not_lt.mpr hfirst)).trans (if_neg (by simp [hsome, Nat.not_lt.mpr hlast]))

/-- HIST.DUMP waits for the columns that it copies (R355, R370). -/
theorem histDump_act (hchan : c.p 0 2 ≤ 1023) (hsome : c.p 2 1 ≠ 0) (hcount : c.p 2 1 ≤ 4) (hkept : u.chanRetired (c.p 0 2) = false)
    (hroom : 10248 * c.p 2 1 ≤ slotDlen c.slot) :
    cmdHistDump.act u c = { st := u, dump := some { ch := c.p 0 2, left := c.p 2 1, bytes := [] } } :=
  (if_neg (Nat.not_lt.mpr hchan)).trans ((if_neg (by simp [hsome, Nat.not_lt.mpr hcount])).trans ((if_neg (by simp [hkept])).trans
    (if_neg (Nat.not_lt.mpr hroom))))

end Sys2Proof.Laws

namespace Sys2Proof.Proofs

open Sys2Proof Sys2Proof.Machine Sys2Proof.Laws

/-- Settles O9: each row by what its act answers past its own conditions; HIST.DUMP by the dump that its response waits for. -/
theorem firmwareMonitorAndReportCommandsComplete : Obligations.FirmwareMonitorAndReportCommandsComplete := by
  refine ⟨?write, ?commit, ?status, ?monWrite, ?monRead, ?log, ?units, ?config, ?read, ?dump⟩
  case write | status | monWrite | monRead | units => exact completes_of_act _ _ _ _ _ _ (fun _ _ _ => rfl) fun _ _ _ => rfl
  case commit =>
    exact completes_of_act _ _ _ _ _ _ (fun _ _ _ => rfl) fun u c ⟨himage, hflash, htemp⟩ => fwCommit_act u c himage hflash htemp
  case log =>
    exact completes_of_act _ _ _ _ _ _ (fun _ _ _ => rfl) fun u c ⟨hfirst, hsome, hcount⟩ => faultLog_act u c hfirst hsome hcount
  case config =>
    exact completes_of_act _ _ _ _ _ _ (fun _ _ _ => rfl) fun u c ⟨hport, hlen, hblock⟩ => healthConfig_act u c hport hlen hblock
  case read =>
    exact completes_of_act _ _ _ _ _ _ (fun _ _ _ => rfl) fun u c ⟨hfirst, hsome, hlast⟩ => healthRead_act u c hfirst hsome hlast
  case dump =>
    exact fun dt r s hs hadm hchan hsome hcount hkept hroom => command_answers .histDump cmdHistDump rfl (fun _ _ _ => rfl) dt r s _ hs
      hadm (histDump_act _ _ hchan hsome hcount hkept hroom) rfl

end Sys2Proof.Proofs
end

section
/-! PROOFS. The commands of the class HK (R406, R414 to R419, R427). -/

namespace Sys2Proof.Laws

open Sys2Proof Sys2Proof.Machine

variable (u : State) (c : Ctx)

/-- HK.CONFIG keeps its records for their channels' next positions (R415 to R417). -/
theorem hkConfig_act (hlen : 16 ≤ c.din.length) (hwhole : c.din.length % 16 = 0) (hrecords : u.hkConfigBad c.din = none) :
    cmdHkConfig.act u c =
      ((recordsOf c.din).foldl (fun (t : State) x =>
          t.modHkc (fld (leAt x 0 1) 0 6) (fun h => { h with next := some (BitVec.ofNat 128 (leAt x 0 16)) }))
        { u with hk.wordNext := if BitVec.ofNat 128 (leAt c.din 0 16) = u.hk.word then none
                 else some (BitVec.ofNat 128 (leAt c.din 0 16)) }).ok := by
  have hl : (decide (c.din.length < 16) || c.din.length % 16 != 0) = false := by simp [Nat.not_lt.mpr hlen, hwhole]
  simp only [cmdHkConfig, hl, hrecords, Bool.false_eq_true, if_false]

/-- Nothing is found where every one of the numbers below passes. -/
theorem findSome_range_none {α β : Type} {n : Nat} {f : Nat → Option α} {g : Nat → α → β} (h : ∀ i < n, f i = none) :
    (List.range n).findSome? (fun i => (f i).map (g i)) = none := by
  rw [List.findSome?_eq_none_iff]
  intro i hi
  rw [h i (List.mem_range.mp hi), Option.map_none]

/-- The switch stays on: it is on, and its record keeps its use and its channel (R418). -/
def switchKept (l : List Byte) (i : Nat) : Bool :=
  bitN u.hk.swOn.toNat i && bitN (leAt l (16 * i) 16) 6 && bitN (u.swRec i) 6 && fld (leAt l (16 * i) 16) 0 6 = fld (u.swRec i) 0 6

/-- HK.SWITCH writes its sixteen records; a switch whose channel is open takes its FAIL_ON level, and one that is kept stays on (R418,
R419). -/
theorem hkSwitch_act (hlen : c.din.length = 256) (hrecords : ∀ i < 16, switchBad ((c.din.drop (16 * i)).take 16) = none) :
    cmdHkSwitch.act u c =
      ((List.range 16).foldl (fun (t : State) i => t.switchTo i (if bitN (leAt c.din (16 * i) 16) 6 && t.swOpen i then
          bitN (leAt c.din (16 * i) 16) 11 else switchKept u c.din i))
        { u with hk.swCfg := (List.range 16).foldl (fun t i => tput 0#128 t i (BitVec.ofNat 128 (leAt c.din (16 * i) 16))) [] }).ok := by
  have hl : (c.din.length != 256) = false := by simp [hlen]
  have hkeep : ∀ i ∈ List.range 16, ((List.range 16).filter (switchKept u c.din)).contains i = switchKept u c.din i := by
    intro i hi
    rw [Bool.eq_iff_iff, List.contains_iff_mem, List.mem_filter]
    exact ⟨fun h => h.2, fun h => ⟨hi, h⟩⟩
  simp only [cmdHkSwitch, hl, findSome_range_none hrecords, Bool.false_eq_true, if_false]
  refine congrArg State.ok (List.foldl_ext _ _ _ fun t i hi => ?_)
  exact congrArg (fun on => t.switchTo i (if bitN (leAt c.din (16 * i) 16) 6 && t.swOpen i then
    bitN (leAt c.din (16 * i) 16) 11 else on)) (hkeep i hi)

/-- HK.THERM writes its limits and records, where every one is in its range (R427). -/
theorem hkTherm_act (hlen : 16 ≤ c.din.length) (hwhole : c.din.length % 16 = 0) (hlimits : limitsBad c.din = none)
    (hextra : ∀ i < (recordsOf c.din).length, u.extraBad (((recordsOf c.din).take i).map (fun x => leAt x 0 1))
      ((recordsOf c.din).getD i []) = none) :
    cmdHkTherm.act u c = (State.pruneTherm { u with
      hk.tjWarn := sgn 16 (leAt c.din 0 2), hk.tjStop := sgn 16 (leAt c.din 2 2), hk.headWarn := sgn 16 (leAt c.din 4 2)
      hk.headStop := sgn 16 (leAt c.din 6 2), hk.extra := (recordsOf c.din).map (fun x => BitVec.ofNat 128 (leAt x 0 16)) }).ok := by
  have hl : (decide (c.din.length < 16) || c.din.length % 16 != 0) = false := by simp [Nat.not_lt.mpr hlen, hwhole]
  simp only [cmdHkTherm, hl, hlimits, findSome_range_none hextra, Bool.false_eq_true, if_false]

/-- HK.URGENT claims the urgent slot for a channel in use, while it is free and the last position is not in conversion (R406, R430). -/
theorem hkUrgent_act (hchan : c.p 0 1 ≤ 47) (hused : hkKind (u.hkc (c.p 0 1)).cfg ≠ 0) (hfree : u.hk.urgent = none)
    (hpos : u.hk.pos ≠ 11) : cmdHkUrgent.act u c = State.ok { u with hk.urgent := some (c.p 0 1) } :=
  (if_neg (by simp [Nat.not_lt.mpr hchan, hused])).trans (if_neg (by simp [hfree, hpos]))

/-- HK.READ answers the channels that it names of the 48 (R414). -/
theorem hkRead_act (hfirst : c.p 0 1 ≤ 47) (hsome : c.p 1 1 ≠ 0) (hlast : c.p 0 1 + c.p 1 1 ≤ 48) :
    cmdHkRead.act u c = u.okData ((List.range (c.p 1 1)).flatMap (fun i => u.hkReport (c.p 0 1 + i) ++ zeros 3)) :=
  (if_neg (Nat.not_lt.mpr hfirst)).trans (if_neg (by simp [hsome, Nat.not_lt.mpr hlast]))

end Sys2Proof.Laws

namespace Sys2Proof.Proofs

open Sys2Proof Sys2Proof.Machine Sys2Proof.Laws

/-- Settles O6: each row by what its act answers past its own conditions. -/
theorem housekeepingCommandsComplete : Obligations.HousekeepingCommandsComplete := by
  refine ⟨?config, ?switch, ?therm, ?urgent, ?read⟩
  case config =>
    exact completes_of_act _ _ _ _ _ _ (fun _ _ _ => rfl) fun u c ⟨hlen, hwhole, hrecords⟩ => hkConfig_act u c hlen hwhole hrecords
  case switch => exact completes_of_act _ _ _ _ _ _ (fun _ _ _ => rfl) fun u c ⟨hlen, hrecords⟩ => hkSwitch_act u c hlen hrecords
  case therm =>
    exact completes_of_act _ _ _ _ _ _ (fun _ _ _ => rfl) fun u c ⟨hlen, hwhole, hlimits, hextra⟩ =>
      hkTherm_act u c hlen hwhole hlimits hextra
  case urgent =>
    exact completes_of_act _ _ _ _ _ _ (fun _ _ _ => rfl) fun u c ⟨hchan, hused, hfree, hpos⟩ => hkUrgent_act u c hchan hused hfree hpos
  case read =>
    exact completes_of_act _ _ _ _ _ _ (fun _ _ _ => rfl) fun u c ⟨hfirst, hsome, hlast⟩ => hkRead_act u c hfirst hsome hlast

end Sys2Proof.Proofs
end

section
/-! PROOFS. The bins of the health monitors (R493). -/

namespace Sys2Proof.Laws

open Sys2Proof Sys2Proof.Machine

/-- The shifted difference is the quotient by a power of two, rounded down. -/
theorem binOf_eq (log : Bool) (shift : Nat) (origin v : Int) :
    binOf log shift origin v = if log then (if (v - origin) >>> shift ≤ 0 then 0 else min 31 (bitLen ((v - origin) >>> shift).toNat))
      else (clampI 0 31 ((v - origin) >>> shift)).toNat := by
  simp only [binOf, Int.shiftRight_eq_div_pow]

/-- A clamp is the middle of the three. -/
theorem clampI_eq_max_min {lo hi : Int} (h : lo ≤ hi) (x : Int) : clampI lo hi x = max lo (min hi x) := by
  unfold clampI
  split
  · omega
  · split <;> omega

/-- The bit length of a number that stands between two powers of two next to each other. -/
theorem bitLen_eq_iff {d k : Nat} (hk : 1 ≤ k) : bitLen d = k ↔ 2 ^ (k - 1) ≤ d ∧ d < 2 ^ k := by
  obtain ⟨j, rfl⟩ := Nat.exists_eq_add_of_le' hk
  unfold bitLen
  split
  case isTrue hzero => subst hzero; simp
  case isFalse hpos => rw [Nat.add_sub_cancel, Nat.add_right_cancel_iff, Nat.log2_eq_iff hpos]

/-- A log2 sample above the origin falls into the bin of its bit length (R493). -/
theorem binOf_log_bit {shift k : Nat} {origin v : Int} (hk : 1 ≤ k) (hlo : (2 : Int) ^ (k - 1) ≤ (v - origin) >>> shift)
    (hhi : (v - origin) >>> shift < 2 ^ k) : binOf true shift origin v = min 31 k := by
  have hpos : ¬ (v - origin) >>> shift ≤ 0 := by have := pow_pos (by decide : (0 : Int) < 2) (k - 1); omega
  obtain ⟨d, hd⟩ := Int.eq_ofNat_of_zero_le ((not_le.mp hpos).le)
  rw [binOf_eq, if_pos rfl, if_neg hpos, hd, Int.toNat_natCast, (bitLen_eq_iff hk).mpr]
  rw [hd] at hlo hhi
  exact ⟨by exact_mod_cast hlo, by exact_mod_cast hhi⟩

/-- No bin lies past the 32nd (R493). -/
theorem binOf_lt (log : Bool) (shift : Nat) (origin v : Int) : binOf log shift origin v < 32 := by
  rw [binOf_eq, clampI_eq_max_min (by decide)]
  cases log
  case false => rw [if_neg (by decide)]; omega
  case true => rw [if_pos rfl]; split <;> omega

/-- A log2 bin below the top names the bit length of its sample (R493). -/
theorem binOf_log_eq_iff {origin v : Int} {k : Nat} (hk : 1 ≤ k) (htop : k ≤ 30) :
    binOf true 0 origin v = k ↔ (2 : Int) ^ (k - 1) ≤ v - origin ∧ v - origin ≤ 2 ^ k - 1 := by
  have hshift : (v - origin) >>> (0 : Nat) = v - origin := Int.shiftRight_zero _
  constructor
  case mp =>
    intro h
    rw [binOf_eq, if_pos rfl, hshift] at h
    by_cases hpos : v - origin ≤ 0
    · rw [if_pos hpos] at h; omega
    · rw [if_neg hpos] at h
      obtain ⟨d, hd⟩ := Int.eq_ofNat_of_zero_le ((not_le.mp hpos).le)
      rw [hd, Int.toNat_natCast] at h
      obtain ⟨hlo, hhi⟩ := (bitLen_eq_iff (d := d) hk).mp (by omega)
      rw [hd]
      exact ⟨by exact_mod_cast hlo, Int.le_sub_one_of_lt (by exact_mod_cast hhi)⟩
  case mpr =>
    rintro ⟨hlo, hhi⟩
    rw [binOf_log_bit hk (by rw [hshift]; exact hlo) (by rw [hshift]; omega)]
    omega

end Sys2Proof.Laws

namespace Sys2Proof.Proofs

open Sys2Proof Sys2Proof.Machine Sys2Proof.Laws

/-- Settles O56: the linear bin is a clamp, the log2 bin a bit length between two powers of two. -/
theorem healthSampleFallsIntoOneBin : Obligations.HealthSampleFallsIntoOneBin := by
  refine ⟨binOf_lt, ?linear, ?below, fun _ _ _ _ => binOf_log_bit, fun _ _ _ => binOf_log_eq_iff⟩
  case linear =>
    intro shift origin v
    rw [binOf_eq, if_neg (by decide), clampI_eq_max_min (by decide), Int.toNat_of_nonneg (le_max_left _ _)]
  case below =>
    intro shift origin v h
    rw [binOf_eq, if_pos rfl, if_pos h]

end Sys2Proof.Proofs
end

section
/-! PROOFS. What a reset keeps (R445, R446). -/

namespace Sys2Proof.Laws

open Sys2Proof Sys2Proof.Machine

/-- The strings after a reset: each with its reservoir alone (R446). -/
def keptStrings (s : State) : Tab Strng :=
  (List.range 64).foldl (fun t i => tput {} t i { rsv := (s.str i).rsv, drained := (s.str i).drained }) []

/-- They depend on the 64 reservoirs alone. -/
theorem keptStrings_congr {s u : State} (h : ∀ i < 64, (s.str i).rsv = (u.str i).rsv ∧ (s.str i).drained = (u.str i).drained) :
    keptStrings s = keptStrings u := by
  refine List.foldl_ext _ _ _ fun t i hi => ?_
  obtain ⟨hrsv, hdrained⟩ := h i (List.mem_range.mp hi)
  rw [hrsv, hdrained]

/-- Two states that agree on what a reset keeps are left the same by it (R445, R446). -/
theorem resetNow_congr {s u : State} (cause : Nat) (h : sameKept s u) : s.resetNow cause = u.resetNow cause := by
  obtain ⟨hpending, hclk, hfree, hotp, hflash, hjobs, hout, hcauses, hstartsA, hstartsB, hstraps, hporst, haon, hnoted, hvdd, hrefclk,
    htripRec, hperstA, hperstB, hlog, htrip, htap, hlatched, hestop, hbutton, hbuttonAt, hedges, hvbus, hstrs⟩ := h
  have hstrings := keptStrings_congr hstrs
  have hstopped : s.flashStopped = u.flashStopped := by rw [State.flashStopped, hjobs, hflash, State.flashStopped]
  unfold keptStrings at hstrings
  simp only [State.resetNow, hpending, hclk, hfree, hotp, hstopped, hout, hcauses, hstartsA, hstartsB, hstraps, hporst, haon, hnoted,
    hvdd, hrefclk, htripRec, hperstA, hperstB, hlog, htrip, htap, hlatched, hestop, hbutton, hbuttonAt, hedges, hvbus, hstrings]

/-- A reset leaves the safe state: the device is in BOOT, which permits nothing, and its outputs are OFF (R376). -/
theorem resetNow_safe (s : State) (cause : Nat) : safeState (s.resetNow cause) :=
  ⟨rfl, rfl, fun _ => rfl, rfl⟩

end Sys2Proof.Laws

namespace Sys2Proof.Proofs

open Sys2Proof Sys2Proof.Machine Sys2Proof.Laws

/-- Settles O51: what resetNow reads of the state before is what sameKept names, and each other field is a boot value. -/
theorem resetKeepsOnlyWhatIsNamed : Obligations.ResetKeepsOnlyWhatIsNamed :=
  ⟨fun _ _ cause h => resetNow_congr cause h,
    fun s cause => ⟨rfl, resetNow_safe s cause, rfl, rfl, rfl, rfl, rfl, rfl, rfl, rfl, rfl, rfl, rfl⟩⟩

end Sys2Proof.Proofs
end

section
/-! PROOFS. The 64 bytes of a response slot (R307, R334). -/

namespace Sys2Proof.Laws

open Sys2Proof Sys2Proof.Machine

/-- The number of `n` bytes and of the zeros that fill them up. -/
theorem ofBytes_padTo_lt {n m : Nat} (hm : m = 8 * n) (l : List Byte) : ofBytes (padTo n l) < 2 ^ m := by
  subst hm
  have hlen : (padTo n l).length = n := by simp [padTo, zeros]
  have h := ofBytes_lt_pow (padTo n l)
  rwa [hlen, show (256 : Nat) = 2 ^ 8 from rfl, ← pow_mul] at h

/-- The bytes of a padded list's number are the padded list. -/
theorem bytesOf_padTo (n : Nat) (l : List Byte) : bytesOf n (ofBytes (padTo n l)) = padTo n l :=
  bytesOf_of_ofBytes (by simp [padTo, zeros])

/-- A bit is 0 or 1. -/
theorem b2n_lt (b : Bool) : b2n b < 2 := by
  cases b <;> decide

section
variable (r : Rsp)

/-- The slot below its result: the 20 bytes of R334 before A0. -/
theorem rspWord_split : ∃ head < 2 ^ 160, r.word = head + 2 ^ 160 * ofBytes (padTo 44 r.result) := by
  have hop := r.opcode.isLt
  have htag := r.tag.isLt
  have hstatus := r.status.isLt
  have hlcs := r.lcs.isLt
  have hfwd := b2n_lt r.fwd
  have hsrc := r.src.isLt
  have hcounter := r.counter.isLt
  refine ⟨_, ?_, rfl⟩
  omega

/-- A response fits its 64 bytes (R334). -/
theorem rspWord_lt : r.word < 2 ^ 512 := by
  obtain ⟨head, hhead, hword⟩ := rspWord_split r
  have hresult := ofBytes_padTo_lt (n := 44) (m := 352) rfl r.result
  calc r.word < 2 ^ 160 * (ofBytes (padTo 44 r.result) + 1) := by rw [hword]; omega
    _ ≤ 2 ^ 160 * 2 ^ 352 := Nat.mul_le_mul_left _ hresult
    _ = 2 ^ 512 := by rw [← pow_add]

/-- The result field of the slot (R334). -/
theorem rspWord_result : fld r.word 160 352 = ofBytes (padTo 44 r.result) := by
  obtain ⟨head, hhead, hword⟩ := rspWord_split r
  rw [fld, hword, Nat.add_mul_div_left _ _ (Nat.two_pow_pos _), Nat.div_eq_of_lt hhead, Nat.zero_add]
  exact Nat.mod_eq_of_lt (ofBytes_padTo_lt (n := 44) (m := 352) rfl r.result)

/-- The fields of the slot before its result; FWD is not among them, the entry device sets it (R307, R334). -/
theorem rspWord_fields (hrlen : r.rlen < 2 ^ 32) (hdetail : r.detail < 2 ^ 32) :
    fld r.word 0 16 = r.opcode.toNat ∧ fld r.word 16 16 = r.tag.toNat ∧ fld r.word 32 8 = r.status.toNat ∧
    fld r.word 40 4 = r.lcs.toNat ∧ fld r.word 48 16 = r.src.toNat ∧ fld r.word 64 32 = r.counter.toNat ∧
    fld r.word 96 32 = r.rlen ∧ fld r.word 128 32 = r.detail := by
  have hop := r.opcode.isLt
  have htag := r.tag.isLt
  have hstatus := r.status.isLt
  have hlcs := r.lcs.isLt
  have hfwd := b2n_lt r.fwd
  have hsrc := r.src.isLt
  have hcounter := r.counter.isLt
  unfold fld Rsp.word
  refine ⟨?_, ?_, ?_, ?_, ?_, ?_, ?_, ?_⟩ <;> omega

/-- The response read back from its slot (R307, R334). -/
theorem rspFrom_word (hrlen : r.rlen < 2 ^ 32) (hdetail : r.detail < 2 ^ 32) (hdout : r.dout.length ≤ r.rlen) :
    rspFrom r.word r.dout = { r with fwd := true, result := padTo 44 r.result, addr := 0 } := by
  obtain ⟨hop, htag, hstatus, hlcs, hsrc, hcounter, hlen, hdet⟩ := rspWord_fields r hrlen hdetail
  simp only [rspFrom, hop, htag, hstatus, hlcs, hsrc, hcounter, hlen, hdet, rspWord_result, bytesOf_padTo, BitVec.ofNat_toNat,
    BitVec.setWidth_eq, List.take_of_length_le hdout]
end

end Sys2Proof.Laws

namespace Sys2Proof.Proofs

open Sys2Proof Sys2Proof.Machine Sys2Proof.Laws

/-- Settles O49: the fields of the slot lie side by side, and each is read back where it was written. -/
theorem responseSlotRoundTrip : Obligations.ResponseSlotRoundTrip :=
  fun r hrlen hdetail _ hdout => ⟨rspWord_lt r, rspFrom_word r hrlen hdetail hdout⟩

end Sys2Proof.Proofs
end

section
/-! PROOFS. The monitor output (R458, R460 to R465, R469, R471, R480). -/

namespace Sys2Proof.Laws

open Sys2Proof Sys2Proof.Machine

/-! ### What it shows -/

/-- A whole number is its own rounding (R5). -/
theorem rhe_intCast (z : Int) : rhe (z : Rat) = z := by
  have hrest : (z : Rat) - (z : Rat) < 1 / 2 := by rw [sub_self]; norm_num
  simp only [rhe, Rat.floor_intCast, if_pos hrest]

/-- 255 parts of 255 are the whole. -/
theorem rhe_255_parts (z : Int) : rhe (((255 * z : Int) : Rat) / 255) = z := by
  rw [Int.cast_mul, Int.cast_ofNat, mul_div_cancel_left₀ _ (by norm_num), rhe_intCast]

/-- A layer of alpha 255 hides what lies below it (R465). -/
theorem blend_255 (top below : Rgb) : blend 255 top below = top := by
  have h (t u : Int) : ((255 : Nat) : Int) * t + (255 - ((255 : Nat) : Int)) * u = 255 * t := by push_cast; ring
  simp only [blend, Rgb.zip, h, rhe_255_parts]

/-- A layer of alpha 0 shows what lies below it (R465). -/
theorem blend_0 (top below : Rgb) : blend 0 top below = below := by
  have h (t u : Int) : ((0 : Nat) : Int) * t + (255 - ((0 : Nat) : Int)) * u = 255 * u := by push_cast; ring
  simp only [blend, Rgb.zip, h, rhe_255_parts]

/-- A rectangle without width covers no pixel. -/
theorem inRect_empty (px py h x y : Nat) : inRect px py 0 h x y = none := by
  refine if_neg fun hin => ?_
  simp only [Bool.and_eq_true, decide_eq_true_eq] at hin
  omega

/-- A layer that is not composed, or has no width, leaves the colour below it. -/
theorem layer_absent {on : Bool} {px py w h x y : Nat} {colour : Nat → Nat → Rgb} {below : Rgb} (habsent : on = false ∨ w = 0) :
    (match inRect px py w h x y with
      | some (u, v) => if on then colour u v else below
      | none => below) = below := by
  obtain rfl | rfl := habsent
  · split
    · rfl
    · rfl
  · rw [inRect_empty]

/-- A pixel that no composed layer covers shows the background (R465). -/
theorem pixel_background (s : State) (host : Nat → Nat → Byte) (x y : Nat) (h0 : s.layerOn 0 0x100 = false ∨ s.monFld 0x108 0 12 = 0)
    (h1 : s.layerOn 1 0x140 = false ∨ s.monFld 0x148 0 12 = 0) (h2 : s.layerOn 2 0x180 = false ∨ s.monFld 0x188 0 12 = 0) :
    s.pixel host x y = rgbOf (s.monFld 0x00C 0 24) := by
  have h1' : s.layerOn 1 0x140 = false ∨ s.monFld 0x148 0 12 * (s.monFld 0x140 3 2 + 1) = 0 :=
    h1.imp_right fun h => by rw [h, Nat.zero_mul]
  exact (layer_absent h2).trans ((layer_absent h1').trans (layer_absent h0))

/-! ### Commits, blankings and underruns -/

variable (u : State)

/-- A commit that fails its checks changes no live register (R462, R463). -/
theorem takeCommit_bad (h : u.commitErr ≠ 0) : u.takeCommit = { u with mon.pend := false, mon.err := u.commitErr } :=
  if_pos (by simpa using h)

/-- A commit that passes its checks copies the shadows (R462, R464). -/
theorem takeCommit_good (h : u.commitErr = 0) : u.takeCommit = u.applyCommit.newLeases :=
  if_neg (by simpa using h)

/-- An output that is off takes its commit (R462). -/
theorem idleCommit_takes (hdom : u.domOn 30 = true) (hoff : u.monOn = false) (hpend : u.mon.pend = true)
    (hdue : u.mon.pendAt + us 1 ≤ u.clk) :
    (if u.domOn 30 && !u.monOn && u.mon.pend && u.mon.pendAt + us 1 ≤ u.clk then u.takeCommit else u) = u.takeCommit :=
  if_pos (by simp [hdom, hoff, hpend, hdue])

/-- The guard of LAYER_UNDERRUN lets a composed host layer through (R471). -/
theorem underrun_passes {l ctrl : Nat} (hon : u.monOn = true) (hlayer : l ≠ 1) (henabled : u.monFld ctrl 0 1 = 1)
    (hrestart : u.mon.restart = 0) (hskip : bitN u.mon.skip.toNat l = false) :
    ¬ (!u.monOn || l = 1 || u.monFld ctrl 0 1 = 0 || 0 < u.mon.restart || bitN u.mon.skip.toNat l) = true := by
  simp [hon, hlayer, henabled, hrestart, hskip]

end Sys2Proof.Laws

namespace Sys2Proof.Proofs

open Sys2Proof Sys2Proof.Machine Sys2Proof.Laws

/-- Settles O60: a layer that is absent, opaque or clear, DE in a restart, the pairs of an output that is off. -/
theorem monitorComposesItsLayers : Obligations.MonitorComposesItsLayers := by
  refine ⟨pixel_background, fun top below => ⟨blend_255 top below, blend_0 top below⟩, ?restart, ?off⟩
  case restart =>
    intro s x y h
    simp [State.deAt, h]
  case off =>
    intro s host pair slot x y h
    exact if_pos (by rw [h]; rfl)

/-- Settles O40: each row's guard passes, and what follows is the effect. -/
theorem monitorEventsComplete : Obligations.MonitorEventsComplete := by
  refine ⟨?write, ?blank, ?idleBad, ?idleGood, ?l0, ?l2, ?timedOut, ?ecc⟩
  case write =>
    exact fun p w => happens_meaning (fun dt => execMonCommit dt p w) (fun _ _ => ⟨rfl, rfl⟩) fun u ⟨hpcie, hdom, hsem⟩ =>
      if_pos (by simp [hpcie, hdom, hsem])
  case blank =>
    exact happens_meaning execVerticalBlanking (fun _ _ => ⟨rfl, rfl⟩) fun u ⟨hon, hdue⟩ =>
      if_neg (by simp [hon, Nat.not_lt.mpr hdue])
  case idleBad =>
    exact happens_meaning execIdleCommit (fun _ _ => ⟨rfl, rfl⟩) fun u ⟨hdom, hoff, hpend, hdue, hbad⟩ =>
      (idleCommit_takes u hdom hoff hpend hdue).trans (takeCommit_bad u hbad)
  case idleGood =>
    exact happens_meaning execIdleCommit (fun _ _ => ⟨rfl, rfl⟩) fun u ⟨hdom, hoff, hpend, hdue, hgood⟩ =>
      (idleCommit_takes u hdom hoff hpend hdue).trans (takeCommit_good u hgood)
  case l0 =>
    exact happens_meaning (fun dt => execLayerUnderrun dt 0 false) (fun _ _ => ⟨rfl, rfl⟩) fun u ⟨hon, henabled, hrestart, hskip⟩ =>
      if_neg (underrun_passes u hon (by decide) henabled hrestart hskip)
  case l2 =>
    exact happens_meaning (fun dt => execLayerUnderrun dt 2 false) (fun _ _ => ⟨rfl, rfl⟩) fun u ⟨hon, henabled, hrestart, hskip⟩ =>
      if_neg (underrun_passes u hon (by decide) henabled hrestart hskip)
  case timedOut =>
    exact happens_meaning (fun dt => execLayerUnderrun dt 0 true) (fun _ _ => ⟨rfl, rfl⟩) fun u ⟨hon, henabled, hrestart, hskip⟩ =>
      if_neg (underrun_passes u hon (by decide) henabled hrestart hskip)
  case ecc => exact happens_meaning execMonGridEcc (fun _ _ => ⟨rfl, rfl⟩) fun u hdom => if_pos hdom

end Sys2Proof.Proofs
end

section
/-! PROOFS. Rails and domains (R433, R436 to R439, R449). -/

namespace Sys2Proof.Laws

open Sys2Proof Sys2Proof.Machine

variable (u : State)

/-- The rails that follow a rail whose power-good has come (R433). -/
theorem railNext_eq (rail : Fin 6) (t : State) :
    (match rail.val with
      | 0 => t.enableRail 1
      | 1 => ((t.enableRail 2).enableRail 3).enableRail 4
      | 4 => t.enableRail 5
      | _ => t) =
      if rail.val = 0 then t.enableRail 1
      else if rail.val = 1 then ((t.enableRail 2).enableRail 3).enableRail 4
      else if rail.val = 4 then t.enableRail 5 else t := by
  match rail with
  | 0 | 1 | 2 | 3 | 4 | 5 => rfl

/-- The guard of RAIL_PG_TIMEOUT lets an overdue rail through (R433). -/
theorem railTimeout_passes {i : Nat} (hen : bitN u.power.railEn.toNat i = true) (hopen : u.railSettled i = false)
    (hdue : tget 0 u.power.railAt i + ms 8 ≤ u.clk) :
    ¬ (!bitN u.power.railEn.toNat i || u.railSettled i || u.clk < tget 0 u.power.railAt i + ms 8) = true := by
  simp [hen, hopen, hdue]

/-- Bits joined with none are as they were. -/
theorem ofNat_or_zero {n : Nat} (b : BitVec n) : BitVec.ofNat n (b.toNat ||| 0) = b := by
  rw [Nat.or_zero, BitVec.ofNat_toNat, BitVec.setWidth_eq]

/-- A rail that feeds the main domains and is not up leaves them dead (R433, R449). -/
theorem railTimeout_fed {i : Nat} (hfeeds : i = 2 ∨ i = 3) (t : State) :
    (let t' : State := { t with
        power.railDead := t.power.railDead ||| BitVec.ofNat 6 (2 ^ i)
        power.domDead := BitVec.ofNat 34 (t.power.domDead.toNat ||| (if i = 2 || i = 3 then 2 ^ 24 - 1 else 0)) }
      if i = 2 || i = 3 then t'.railsDone else t'.modBoot (fun b => { b with fault := 1 })) =
    State.railsDone { t with
        power.railDead := t.power.railDead ||| BitVec.ofNat 6 (2 ^ i)
        power.domDead := BitVec.ofNat 34 (t.power.domDead.toNat ||| (2 ^ 24 - 1)) } := by
  have h : (decide (i = 2) || decide (i = 3)) = true := by simpa using hfeeds
  simp only [h, if_true]

/-- Any other rail that is not up ends the boot (R433). -/
theorem railTimeout_boot {i : Nat} (h2 : i ≠ 2) (h3 : i ≠ 3) (t : State) :
    (let t' : State := { t with
        power.railDead := t.power.railDead ||| BitVec.ofNat 6 (2 ^ i)
        power.domDead := BitVec.ofNat 34 (t.power.domDead.toNat ||| (if i = 2 || i = 3 then 2 ^ 24 - 1 else 0)) }
      if i = 2 || i = 3 then t'.railsDone else t'.modBoot (fun b => { b with fault := 1 })) =
    State.modBoot { t with power.railDead := t.power.railDead ||| BitVec.ofNat 6 (2 ^ i) } (fun b => { b with fault := 1 }) := by
  have h : (decide (i = 2) || decide (i = 3)) = false := by simp [h2, h3]
  simp only [h, Bool.false_eq_true, if_false, ofNat_or_zero]

/-- What the trip leaves outside BOOT (R439). -/
def tripped (t : State) : State :=
  { t with hk.trip := true, power.tripRec := true, hk.dark := true }

/-- What the trip leaves in BOOT: no rail, and no image begun (R439, R449). -/
def trippedBoot (t : State) : State :=
  let t' : State := { t with hk.trip := true, power.tripRec := true }
  { t'.modBoot (fun b => { b with phase := 0, started := none, image := [], total := 0 }) with
    power.railEn := 0, power.railPg := 0, power.appDown := false }

/-- The two outcomes of a trip (R439, R449). -/
theorem trip_eq (t : State) :
    (let t' : State := { t with hk.trip := true, power.tripRec := true }
      if u.life.lcs = .boot then
        { t'.modBoot (fun b => { b with phase := 0, started := none, image := [], total := 0 }) with
          power.railEn := 0, power.railPg := 0, power.appDown := false }
      else { t' with hk.dark := true }) = if u.life.lcs = .boot then trippedBoot t else tripped t := rfl

/-- The trip's release starts the boot where no cause is held (R439, R449). -/
theorem tripRelease_boots (htrip : u.hk.trip = true) (hboot : u.life.lcs = .boot) (hcauses : u.power.boot.causes = []) :
    (u.hk.trip && u.life.lcs = .boot && u.power.boot.causes.isEmpty) = true := by
  simp [htrip, hboot, hcauses]

end Sys2Proof.Laws

namespace Sys2Proof.Proofs

open Sys2Proof Sys2Proof.Machine Sys2Proof.Laws

/-- Settles O21: each row's guard passes; a rail's timeout depends on what it feeds, and the trip on whether the device boots. -/
theorem railAndDomainEventsComplete : Obligations.RailAndDomainEventsComplete := by
  refine ⟨?good, ?timeoutBoot, ?timeoutFed, ?lostReset, ?lost, ?stays, ?starts, ?fails, ?trip, ?tripBoot, ?release, ?releaseBoot⟩
  case good =>
    refine fun rail => happens_meaning (fun dt => execRailPgGood dt rail) (fun _ _ => ⟨rfl, rfl⟩) fun u ⟨hen, hopen⟩ => ?_
    exact (if_neg (by simp [hen, hopen])).trans (congrArg State.railsDone (railNext_eq rail _))
  case timeoutBoot =>
    exact fun rail => happens_meaning (fun dt => execRailPgTimeout dt rail) (fun _ _ => ⟨rfl, rfl⟩) fun u ⟨hen, hopen, hdue, h2, h3⟩ =>
      (if_neg (railTimeout_passes u hen hopen hdue)).trans (railTimeout_boot h2 h3 _)
  case timeoutFed =>
    exact fun rail => happens_meaning (fun dt => execRailPgTimeout dt rail) (fun _ _ => ⟨rfl, rfl⟩) fun u ⟨hen, hopen, hdue, hfeeds⟩ =>
      (if_neg (railTimeout_passes u hen hopen hdue)).trans (railTimeout_fed hfeeds _)
  case lostReset =>
    exact fun rail => happens_meaning (fun dt => execRailPgLost dt rail) (fun _ _ => ⟨rfl, rfl⟩) fun u ⟨hgood, hfirst⟩ =>
      (if_neg (by simp [hgood])).trans (if_pos hfirst)
  case lost =>
    exact fun rail => happens_meaning (fun dt => execRailPgLost dt rail) (fun _ _ => ⟨rfl, rfl⟩) fun u ⟨hgood, hlater⟩ =>
      (if_neg (by simp [hgood])).trans (if_neg (by omega))
  case stays =>
    exact fun d => happens_meaning (fun dt => execDomainPowerGood dt d) (fun _ _ => ⟨rfl, rfl⟩) fun u ⟨hramps, hmay⟩ =>
      (if_pos hramps).trans (if_neg (by simp [hmay]))
  case starts =>
    exact fun d => happens_meaning (fun dt => execDomainPowerGood dt d) (fun _ _ => ⟨rfl, rfl⟩) fun u ⟨hramps, hmay⟩ =>
      (if_pos hramps).trans (if_pos hmay)
  case fails =>
    exact fun d => happens_meaning (fun dt => execDomainSwitch dt d) (fun _ _ => ⟨rfl, rfl⟩) fun u hramps => if_pos hramps
  case trip =>
    exact happens_meaning execHardTrip (fun _ _ => ⟨rfl, rfl⟩) fun u ⟨htrip, hlcs⟩ =>
      (if_neg (by simp [htrip])).trans ((trip_eq u _).trans (if_neg hlcs))
  case tripBoot =>
    exact happens_meaning execHardTrip (fun _ _ => ⟨rfl, rfl⟩) fun u ⟨htrip, hlcs⟩ =>
      (if_neg (by simp [htrip])).trans ((trip_eq u _).trans (if_pos hlcs))
  case release =>
    exact happens_meaning execHardTripRelease (fun _ _ => ⟨rfl, rfl⟩) fun u ⟨htrip, hlcs⟩ => if_neg (by simp [hlcs])
  case releaseBoot =>
    exact happens_meaning execHardTripRelease (fun _ _ => ⟨rfl, rfl⟩) fun u ⟨htrip, hlcs, hcauses⟩ =>
      if_pos (tripRelease_boots u htrip hlcs hcauses)

end Sys2Proof.Proofs
end

section
/-! PROOFS. Housekeeping: the slow round, the die, the regulators, the flash and the health windows (R404 to R414, R418, R420, R423, R426,
R435, R491). -/

namespace Sys2Proof.Laws

open Sys2Proof Sys2Proof.Machine

variable (u : State)

/-- The state with which a round starts (R406, R415, R496). -/
def roundState : State :=
  ({ u.sample 0x08 48 u.hk.dropped with hk.dropped := 0 } : State).newGlobal

/-- A round starts outside BOOT (R406): a period that the global word allows ends the report of the pin, one that it does not raises it. -/
theorem roundStart_eq (hpos : u.hk.pos = 12) (hlcs : u.life.lcs ≠ .boot) :
    (if u.hk.pos != 12 || u.life.lcs = .boot then u
      else
        let v := ({ u.sample 0x08 48 u.hk.dropped with hk.dropped := 0 } : State).newGlobal
        let (t, ok) := v.tIntNow
        let v2 := { v with hk.tInt := t }
        let v3 := if ok then { v2 with hk.pinTold := false }
          else if v2.hk.pinTold then v2
          else ({ v2 with hk.pinTold := true } : State).fault 0x9006 0 0
        v3.beginPos 0) =
      (if (roundState u).tIntNow.2 then
          ({ roundState u with hk.tInt := (roundState u).tIntNow.1, hk.pinTold := false } : State)
        else if (roundState u).hk.pinTold then { roundState u with hk.tInt := (roundState u).tIntNow.1 }
        else ({ roundState u with hk.tInt := (roundState u).tIntNow.1, hk.pinTold := true } : State).fault 0x9006 0 0).beginPos 0 :=
  if_neg (by simp [hpos, hlcs])

/-- The sensors are read when a millisecond has passed since they were, or when they never were (R420). -/
theorem dieDue (h : ∀ t, u.hk.dieAt = some t → t + ms 1 ≤ u.clk) :
    (match u.hk.dieAt with
      | some t => decide (t + ms 1 ≤ u.clk)
      | none => true) = true := by
  split
  case h_1 t ht => exact decide_eq_true (h t ht)
  case h_2 => rfl

/-- A guard that holds is not passed by. -/
theorem not_not_true {b : Bool} (h : b = true) : ¬ (!b) = true := by
  rw [h]; decide

/-- The flash write at the front of the queue ends (R426). -/
theorem flashDone_eq {j : FlashJob} {rest : List FlashJob} (h : u.jobs = j :: rest) :
    (match u.jobs with
      | j :: rest =>
        ({ u with jobs := rest, flash := if j.stopped then u.flash.spoil j.obj else u.flash.put j.obj } : State).flashWritten
          j.opcode.toNat (!j.stopped) j.tag.toNat j.entry
      | [] => u) =
      ({ u with jobs := rest, flash := if j.stopped then u.flash.spoil j.obj else u.flash.put j.obj } : State).flashWritten
        j.opcode.toNat (!j.stopped) j.tag.toNat j.entry := by
  rw [h]

end Sys2Proof.Laws

namespace Sys2Proof.Proofs

open Sys2Proof Sys2Proof.Machine Sys2Proof.Laws

/-- Settles O38: the state with which a round starts is split by its period and by what was told of the pin. -/
theorem housekeepingRoundEventsComplete : Obligations.HousekeepingRoundEventsComplete := by
  refine ⟨?allowed, ?refused, ?swap, ?convert, ?openDetect⟩
  case allowed =>
    exact happens_meaning execRoundStart (fun _ _ => ⟨rfl, rfl⟩) fun u ⟨hpos, hlcs, hok⟩ =>
      (roundStart_eq u hpos hlcs).trans (congrArg (fun t : State => t.beginPos 0) (if_pos hok))
  case refused =>
    exact happens_meaning execRoundStart (fun _ _ => ⟨rfl, rfl⟩) fun u ⟨hpos, hlcs, hbad, htold⟩ =>
      (roundStart_eq u hpos hlcs).trans (congrArg (fun t : State => t.beginPos 0)
        ((if_neg (Bool.eq_false_iff.mp hbad)).trans (if_neg (Bool.eq_false_iff.mp htold))))
  case swap =>
    exact happens_meaning execExcitationSwap (fun _ _ => ⟨rfl, rfl⟩) fun u ⟨hpos, hfirst, hdue⟩ =>
      if_pos (by simp [hpos, hfirst, hdue])
  case convert =>
    exact fun raw => happens_meaning (fun dt => execConversionEnd dt raw) (fun _ _ => ⟨rfl, rfl⟩) fun u ⟨hpos, hdue⟩ =>
      if_pos (by simp [hpos, hdue])
  case openDetect =>
    exact fun ch => happens_meaning (fun dt => execOpenDetect dt ch) (fun _ _ => ⟨rfl, rfl⟩) fun u ⟨hpos, hrtd, hconv⟩ =>
      if_pos (by simp [hpos, hrtd, hconv])

/-- Settles O39: each row's guard passes; a write of the flash ends with or without its object as it was stopped or not. -/
theorem housekeepingServiceEventsComplete : Obligations.HousekeepingServiceEventsComplete := by
  refine ⟨?die, ?poll, ?probe, ?off, ?alert, ?written, ?stopped, ?window⟩
  case die =>
    exact fun ts => happens_meaning (fun dt => execDieMonitorRead dt ts) (fun _ _ => ⟨rfl, rfl⟩) fun u hdue =>
      if_neg (not_not_true (dieDue u hdue))
  case poll =>
    exact fun rs => happens_meaning (fun dt => execPmbusPoll dt rs) (fun _ _ => ⟨rfl, rfl⟩) fun u hprobed => if_neg (by simp [hprobed])
  case probe =>
    exact fun rs => happens_meaning (fun dt => execPmbusPoll dt rs) (fun _ _ => ⟨rfl, rfl⟩) fun u ⟨hfirst, hdom⟩ =>
      (if_pos (by simp [hfirst])).trans (if_pos hdom)
  case off =>
    exact fun rs => happens_meaning (fun dt => execPmbusPoll dt rs) (fun _ _ => ⟨rfl, rfl⟩) fun u ⟨hfirst, hdom⟩ =>
      (if_pos (by simp [hfirst])).trans (if_neg (by simp [hdom]))
  case alert => exact fun rs => happens_meaning (fun dt => execPmbAlert dt rs) (fun _ _ => ⟨rfl, rfl⟩) fun _ _ => rfl
  case written =>
    refine fun j rest => happens_meaning execFlashWriteDone (fun _ _ => ⟨rfl, rfl⟩) fun u ⟨hjobs, hruns⟩ => ?_
    exact (flashDone_eq u hjobs).trans (by rw [hruns]; rfl)
  case stopped =>
    refine fun j rest => happens_meaning execFlashWriteDone (fun _ _ => ⟨rfl, rfl⟩) fun u ⟨hjobs, hstopped⟩ => ?_
    exact (flashDone_eq u hjobs).trans (by rw [hstopped]; rfl)
  case window =>
    refine fun m x => happens_meaning (fun dt => execHealthWindow dt m) (fun _ _ => ⟨rfl, rfl⟩) fun u ⟨hmon, hused, hwin, hlen, hdue⟩ => ?_
    subst hmon
    exact if_pos (by simp only [Bool.and_eq_true, decide_eq_true_eq]; exact ⟨⟨⟨hused, hwin⟩, hlen⟩, hdue⟩)

end Sys2Proof.Proofs
end

section
/-! PROOFS. The safety island: gates, axes, the pair and its inputs, zones and safe outputs (R377, R379, R381, R383, R385 to R391, R395,
R481). -/

namespace Sys2Proof.Laws

open Sys2Proof Sys2Proof.Machine

variable (u : State)

/-! ### Gates and axes (R379, R381, R383) -/

/-- An index restarts the island's count, and the loop engines' while their domain is on (R379). -/
def indexTaken (v : State) : State :=
  let w := v.modSafe (fun x => { x with count := 0, indexed := true })
  if w.domOn 31 then w.loopIndex else w

/-- An armed SLS gate that is open closes with 0x8001 (R379, R383). -/
theorem closeSls_armed (h : u.safe.sls = ⟨true, true⟩) :
    u.closeSls = ({ u with safe.sls := {}, safe.goodFacets := 0 } : State).fault 0x8001 0 0 := by
  simp only [State.closeSls, h]
  rfl

/-- An armed SLP gate that is open closes with 0x8003 (R381, R383). -/
theorem closeSlp_armed (h : u.safe.slp = ⟨true, true⟩) : u.closeSlp = ({ u with safe.slp := {} } : State).fault 0x8003 0 0 := by
  simp only [State.closeSlp, h]
  rfl

/-! ### Zone codes (R385) -/

/-- A code is taken where its parity is odd and it names a set (R385). -/
theorem codeOk_iff (code : BitVec 4) :
    u.codeOk code = true ↔ popN 4 code.toNat % 2 = 1 ∧ (u.safe.cfg = [] ∨ fld code.toNat 0 3 < u.safeFld 6 1) := by
  simp [State.codeOk, List.isEmpty_iff]

/-! ### Safe outputs (R389 to R391, R395) -/

/-- As much has passed since a test, if there was one. -/
theorem since_test {t : Option Nat} {d clk : Nat} (h : ∀ a, t = some a → a + d ≤ clk) :
    (match (generalizing := false) t with
      | some a => decide (a + d ≤ clk)
      | none => true) = true := by
  cases t with
  | some a => exact decide_eq_true (h a rfl)
  | none => rfl

end Sys2Proof.Laws

namespace Sys2Proof.Proofs

open Sys2Proof Sys2Proof.Machine Sys2Proof.Laws

/-- Settles O34: the index by the difference of the two counts, the watchdogs by the gates that they close. -/
theorem islandAxisEventsComplete : Obligations.IslandAxisEventsComplete := by
  refine ⟨?edge, ?near, ?far, ?watchdog, ?frame⟩
  case edge => exact fun up => happens_meaning (fun dt => execEncoderEdge dt up) (fun _ _ => ⟨rfl, rfl⟩) fun _ _ => rfl
  case near =>
    exact happens_meaning (fun dt => execEncoderIndex dt true) (fun _ _ => ⟨rfl, rfl⟩) fun u ⟨_, _, hdom, hnear⟩ =>
      (congrArg indexTaken (if_neg (by simp [Nat.not_lt.mpr hnear]))).trans (if_pos hdom)
  case far =>
    exact happens_meaning (fun dt => execEncoderIndex dt true) (fun _ _ => ⟨rfl, rfl⟩) fun u ⟨hisl, hloop, hdom, hfar⟩ =>
      congrArg indexTaken (if_pos (by simp [hisl, hloop, hdom, hfar]))
  case watchdog =>
    refine fun t => happens_meaning execSlsEdgeWatchdog (fun _ _ => ⟨rfl, rfl⟩) fun u ⟨hat, hgate, hdue⟩ => ?_
    conv_lhs => rw [hat]
    exact (if_pos (by simp [hgate, hdue])).trans (closeSls_armed u hgate)
  case frame =>
    refine fun t => happens_meaning execSlpFrameTimeout (fun _ _ => ⟨rfl, rfl⟩) fun u ⟨hat, hdue, hgate⟩ => ?_
    conv_lhs => rw [hat]
    exact (if_pos hdue).trans (closeSlp_armed u hgate)

/-- Settles O36: the rows of the pair are its own functions; a zone code is split by codeOk and by whether a configuration runs. -/
theorem safetyPairEventsComplete : Obligations.SafetyPairEventsComplete := by
  refine ⟨?mismatch, ?testEnds, ?testLatched, ?testFails, ?mem, ?clock, ?faultN, ?estop, ?estopHeld, ?release, ?codeRun,
    ?codeIdle, ?codeBad, ?unstable⟩
  case mismatch => exact fun ok => happens_meaning (fun dt => execLockstepMismatch dt ok) (fun _ _ => ⟨rfl, rfl⟩) fun _ _ => rfl
  case testEnds =>
    exact happens_meaning (fun dt => execLockstepSelfTest dt true) (fun _ _ => ⟨rfl, rfl⟩) fun u h =>
      (if_pos rfl).trans (if_neg (Bool.eq_false_iff.mp h))
  case testLatched => exact happens_meaning (fun dt => execLockstepSelfTest dt true) (fun _ _ => ⟨rfl, rfl⟩) fun u h => if_pos h
  case testFails => exact happens_meaning (fun dt => execLockstepSelfTest dt false) (fun _ _ => ⟨rfl, rfl⟩) fun _ _ => rfl
  case mem => exact happens_meaning execSafetyMemEcc (fun _ _ => ⟨rfl, rfl⟩) fun _ _ => rfl
  case clock => exact happens_meaning execIslandClock (fun _ _ => ⟨rfl, rfl⟩) fun _ _ => rfl
  case faultN => exact happens_meaning execFaultNReadback (fun _ _ => ⟨rfl, rfl⟩) fun _ _ => rfl
  case estop => exact happens_meaning execEstopDemand (fun _ _ => ⟨rfl, rfl⟩) fun u h => if_pos h
  case estopHeld => exact happens_meaning execEstopDemand (fun _ _ => ⟨rfl, rfl⟩) fun u h => if_neg (by simp [h])
  case release => exact happens_meaning execEstopRelease (fun _ _ => ⟨rfl, rfl⟩) fun _ _ => rfl
  case codeRun =>
    refine fun code => happens_meaning (fun dt => execZoneCodeTaken dt code) (fun _ _ => ⟨rfl, rfl⟩) fun u ⟨hodd, hset, hruns⟩ => ?_
    refine (if_pos ((codeOk_iff u code).mpr ⟨hodd, hset⟩)).trans ((if_pos hruns).trans ?_)
    simp only [hruns, if_true]
    rfl
  case codeIdle =>
    refine fun code => happens_meaning (fun dt => execZoneCodeTaken dt code) (fun _ _ => ⟨rfl, rfl⟩) fun u ⟨hodd, hset, hidle⟩ => ?_
    refine (if_pos ((codeOk_iff u code).mpr ⟨hodd, hset⟩)).trans ((if_neg (by simp [hidle])).trans ?_)
    simp only [hidle, Bool.false_eq_true, if_false]
    rfl
  case codeBad =>
    exact fun code => happens_meaning (fun dt => execZoneCodeTaken dt code) (fun _ _ => ⟨rfl, rfl⟩) fun u hbad =>
      if_neg (mt (codeOk_iff u code).mp hbad)
  case unstable => exact happens_meaning execZoneCodeUnstable (fun _ _ => ⟨rfl, rfl⟩) fun _ _ => rfl

/-- Settles O35: the evaluation by the column it finds, a test by its end, a readback by the level that is driven. -/
theorem safeOutputEventsComplete : Obligations.SafeOutputEventsComplete := by
  refine ⟨?judged, ?comparator, ?test, ?returns, ?discarded, ?same, ?high, ?low⟩
  case judged =>
    refine fun arrived r => happens_meaning (fun dt => execZoneEvaluation dt true arrived) (fun _ _ => ⟨rfl, rfl⟩) fun u hfind => ?_
    rw [hfind]
    rfl
  case comparator =>
    refine fun arrived r => happens_meaning (fun dt => execZoneEvaluation dt false arrived) (fun _ _ => ⟨rfl, rfl⟩) fun u hfind => ?_
    rw [hfind]
    rfl
  case test =>
    refine fun k => happens_meaning (fun dt => execOffTest dt k) (fun _ _ => ⟨rfl, rfl⟩) fun u ⟨hon, htest, hused, hlast, hothers⟩ => ?_
    refine if_pos ?_
    have hidle : (u.outp k.val).test.isNone = true := by rw [htest]; rfl
    simp only [Bool.and_eq_true, List.all_eq_true, Bool.or_eq_true, decide_eq_true_eq]
    refine ⟨⟨⟨⟨hon, hidle⟩, since_test hlast⟩, fun j hj => ?_⟩, hused⟩
    by_cases hjk : j = k.val
    · exact .inl hjk
    · exact .inr (since_test (hothers ⟨j, List.mem_range.mp hj⟩ fun h => hjk (congrArg Fin.val h)))
  case returns =>
    refine fun k t => happens_meaning (fun dt => execOffTestEnd dt k) (fun _ _ => ⟨rfl, rfl⟩) fun u ⟨htest, hdue, hquiet, hon⟩ => ?_
    conv_lhs => rw [htest]
    exact (if_pos hdue).trans (modOut_congr u _ _ _ (by simp only [hon, hquiet, Bool.false_eq_true, if_true, if_false]))
  case discarded =>
    refine fun k t => happens_meaning (fun dt => execOffTestEnd dt k) (fun _ _ => ⟨rfl, rfl⟩) fun u ⟨htest, hdue, hmet, hoff⟩ => ?_
    conv_lhs => rw [htest]
    exact (if_pos hdue).trans (modOut_congr u _ _ _ (by simp only [hoff, hmet, Bool.false_eq_true, if_true, if_false]))
  case same =>
    exact fun k level => happens_meaning (fun dt => execSafeFbReadback dt k level) (fun _ _ => ⟨rfl, rfl⟩) fun u hlevel =>
      if_pos (by simp [hlevel])
  case high =>
    refine fun k => happens_meaning (fun dt => execSafeFbReadback dt k true) (fun _ _ => ⟨rfl, rfl⟩) fun u ⟨hon, htest, hpast, hnew⟩ => ?_
    exact if_neg (by simp [SafeOut.driven, hon, htest, hpast, hnew])
  case low =>
    refine fun k => happens_meaning (fun dt => execSafeFbReadback dt k false) (fun _ _ => ⟨rfl, rfl⟩) fun u ⟨hon, htest, hpast, hnew⟩ => ?_
    exact if_neg (by simp [SafeOut.driven, hon, htest, hpast, hnew])

end Sys2Proof.Proofs
end

section
/-! PROOFS. Mailboxes, semaphores and the lockout (R27, R196, R324, R336 to R339, R344, R345, R350, R370). -/

namespace Sys2Proof.Laws

open Sys2Proof Sys2Proof.Machine

/-- An event row through which a KEY command can reach the one-time memory, by its meaning. -/
theorem happensOtp_meaning {mk : Nat → Instr} {cond : State → Prop} {eff f : State → State} (meaning : Nat → State → Res)
    (hrow : ∀ dt s, exec (mk dt) s = meaning dt s ∧ meaning dt s = runOtp dt s f) (h : ∀ s, cond s → f s = eff s) :
    HappensOtp mk cond eff := by
  intro dt s hs hcond
  rw [(hrow dt s).1, (hrow dt s).2, runOtp_awake dt s f hs, h _ hcond]

/-! ### Semaphores (R324, R344, R345) -/

section
variable (u : State) (p : HostPort) (n : Nat)

/-- A read of a free semaphore claims it and returns its word (R344). -/
theorem readSem_free (h : (u.sem n).owner = none) :
    u.readSem p n =
      (let t := u.modSem n (fun x => { x with owner := some (localEntry p), exp := u.clk + leaseTicks x.lease })
       t.say (.semRead p n (BitVec.ofNat 32 (t.semWord (some (localEntry p)) n)))) := by
  have hclaim : u.claim (localEntry p) n =
      u.modSem n (fun x => { x with owner := some (localEntry p), exp := u.clk + leaseTicks x.lease }) :=
    if_pos (by rw [h]; rfl)
  unfold State.readSem
  rw [hclaim]

/-- A read of a semaphore that is owned returns its word (R344). -/
theorem readSem_owned {e : Entry} (h : (u.sem n).owner = some e) :
    u.readSem p n = u.say (.semRead p n (BitVec.ofNat 32 (u.semWord (some (localEntry p)) n))) := by
  have hclaim : u.claim (localEntry p) n = u := if_neg (by rw [h]; exact Bool.false_ne_true)
  unfold State.readSem
  rw [hclaim]

/-- A write of another port than the owner changes nothing (R344). -/
theorem writeSem_other (w : Nat) (h : (u.sem n).owner ≠ some (localEntry p)) : u.writeSem p n w = u :=
  if_pos (by simpa using h)

/-- A write of the owner (R344, R345). -/
theorem writeSem_owner (w : Nat) (h : (u.sem n).owner = some (localEntry p)) :
    u.writeSem p n w =
      if bitN w 7 then u.release (localEntry p) n else u.modSem n (fun x => { x with lease := BitVec.ofNat 8 (fld w 8 8) }) :=
  if_neg (by simp [h])

/-! ### Doorbells (R336) -/

/-- A tail that is at most 32 slots ahead hands over (R336). -/
theorem ring_near (h : ringCount (u.mb p n).cmdHead (u.mb p n).cmdTail ≤ 32) : u.ring p n = u.modMb p n (fun b => b.handOver u.clk) :=
  if_neg (Nat.not_lt.mpr h)

/-- A tail that is further ahead is an error (R336). -/
theorem ring_far (h : 32 < ringCount (u.mb p n).cmdHead (u.mb p n).cmdTail) :
    u.ring p n = (u.modMb p n (fun b => { b with tailErr := true })).fault 0x7005 17 (portIdx p) :=
  if_pos h
end

/-! ### The taking of commands (R324, R336 to R339) -/

section
variable (u : State) (p : HostPort) (m : Fin 4) (din : Option (List Byte))

/-- A ring mailbox takes the slot at CMD_HEAD (R336, R337). -/
theorem take_ring (hserve : u.canServe (localEntry p) m.val = true) (hpcie : u.isPcie p = true)
    (hwaits : (u.mb p m.val).cmdHead ≠ (u.mb p m.val).handed) :
    u.take p m din =
      (let i := fld (u.mb p m.val).cmdHead.toNat 0 5
       let slot := (u.mb p m.val).slot i
       let t := u.modMb p m.val (fun b => { b with cmdHead := b.cmdHead + 1, rangAt := tget 0 b.rings i })
       let t' := if carriesData slot = true then t.say (.dmaRead p (slotAddr slot) (slotDlen slot)) else t
       t'.serve (commandOf (slotOp slot))
        { entry := localEntry p, mb := m, slot := BitVec.ofNat 512 slot, din := din } (cmdByte p m.val i) i none) :=
  (if_neg (by simp [hserve])).trans ((if_pos hpcie).trans (if_neg hwaits))

/-- An Ethernet mailbox takes its oldest datagram (R338). -/
theorem take_datagram {c : EthCmd} {rest : List EthCmd} (hserve : u.canServe (localEntry p) m.val = true) (heth : u.isPcie p = false)
    (hqueue : (u.mb p m.val).queue = c :: rest) :
    u.take p m din =
      (u.modMb p m.val (fun b => { b with queue := rest, rangAt := c.came })).serve (commandOf (slotOp c.slot.toNat))
        { entry := localEntry p, mb := m, slot := c.slot, din := some c.data } (cmdByte p m.val 0)
        (u.mb p m.val).fwdSlot.toNat (some c.src) := by
  refine (if_neg (by simp [hserve])).trans ((if_neg (by simp [heth])).trans ?_)
  rw [hqueue]

/-- A command whose row went first is found taken (R324). -/
theorem takeInTurn_early (h : u.early = some (p, m.val)) : u.takeInTurn p m din = { u with early := none } :=
  if_pos h

/-- A critical command that meets one of the other port takes its turn (R324). -/
theorem takeInTurn_meets {q : HostPort} {k : Fin 4} {d : Option (List Byte)} (hearly : u.early ≠ some (p, m.val))
    (hmeets : u.meetsTake p m.val = some (q, k, d)) :
    u.takeInTurn p m din =
      { State.take (if u.prio = (q == .B) then { u.take q k d with early := some (q, k.val) } else u) p m din with prio := !u.prio } := by
  refine (if_neg hearly).trans ?_
  rw [hmeets]

/-- A command that meets none takes its turn among the claims of semaphores, if it claims one (R324, R344). -/
theorem takeInTurn_claims {n : Nat} (hearly : u.early ≠ some (p, m.val)) (hmeets : u.meetsTake p m.val = none)
    (hclaims : u.claimWaits p m.val = some n) : u.takeInTurn p m din = u.claimTurn p n (fun s => s.take p m din) := by
  refine (if_neg hearly).trans ?_
  rw [hmeets]
  dsimp only
  rw [hclaims]

/-- A command that meets no other is taken as it stands (R336). -/
theorem takeInTurn_alone (hearly : u.early ≠ some (p, m.val)) (hmeets : u.meetsTake p m.val = none)
    (hclaims : u.claimWaits p m.val = none ∨ rivalClaim u p = none) : u.takeInTurn p m din = u.take p m din := by
  obtain hnone | hrival := hclaims
  · refine (if_neg hearly).trans ?_
    rw [hmeets]
    dsimp only
    rw [hnone]
  · cases hclaim : u.claimWaits p m.val with
    | none =>
      refine (if_neg hearly).trans ?_
      rw [hmeets]
      dsimp only
      rw [hclaim]
    | some n => rw [takeInTurn_claims u p m din hearly hmeets hclaim, claimTurn_alone _ hrival]
end

/-! ### Command datagrams (R338) -/

/-- A number has as many bytes as are taken of it. -/
theorem length_bytesOf (n x : Nat) : (bytesOf n x).length = n := by
  induction n generalizing x with
  | zero => rfl
  | succ n ih => rw [bytesOf, List.length_cons, ih]

/-- The number of the bytes of a number. -/
theorem ofBytes_bytesOf (n x : Nat) : ofBytes (bytesOf n x) = x % 256 ^ n := by
  induction n generalizing x with
  | zero => rw [pow_zero, Nat.mod_one]; rfl
  | succ n ih => rw [bytesOf, ofBytes, ih, BitVec.toNat_ofNat, pow_succ' 256 n, @Nat.mod_mul 256 (256 ^ n) x]

/-- A command datagram: the sign, the mailbox, the slot, and the data (R338). -/
def datagram (m : Fin 4) (slot : BitVec 512) (data : List Byte) : List Byte :=
  [0x5A#8, 0x4D#8, 0x01#8, BitVec.ofNat 8 m.val] ++ bytesOf 64 slot.toNat ++ data

section
variable (m : Fin 4) (slot : BitVec 512) (data : List Byte)

/-- Its length. -/
theorem datagram_length : (datagram m slot data).length = 68 + data.length := by
  simp only [datagram, List.length_append, length_bytesOf]
  rfl

/-- Its sign. -/
theorem datagram_sign : leAt (datagram m slot data) 0 3 = 0x014D5A := by
  have h : leAt (datagram m slot data) 0 3 = ofBytes [0x5A#8, 0x4D#8, 0x01#8] := rfl
  rw [h]
  decide

/-- Its mailbox. -/
theorem datagram_mailbox : leAt (datagram m slot data) 3 1 = m.val := by
  have h : leAt (datagram m slot data) 3 1 = ofBytes [BitVec.ofNat 8 m.val] := rfl
  rw [h, ofBytes, ofBytes, BitVec.toNat_ofNat]
  omega

/-- Its slot. -/
theorem datagram_slot : leAt (datagram m slot data) 4 64 = slot.toNat := by
  have h : leAt (datagram m slot data) 4 64 = ofBytes ((bytesOf 64 slot.toNat ++ data).take 64) := rfl
  have hwidth : (256 : Nat) ^ 64 = 2 ^ 512 := by rw [show (256 : Nat) = 2 ^ 8 from rfl, ← pow_mul]
  rw [h, List.take_left' (length_bytesOf 64 _), ofBytes_bytesOf, hwidth, Nat.mod_eq_of_lt slot.isLt]

/-- Its data. -/
theorem datagram_data : (datagram m slot data).drop 68 = data :=
  List.drop_left' (by simp [length_bytesOf])

/-- The response that the keep holds to a datagram (R338). -/
def keptFor (u : State) (p : HostPort) (m slot : Nat) : Option (Endpoint × Rsp) :=
  (u.mb p m).keep.find? (fun k => k.2.tag.toNat = slotTag slot && k.2.counter.toNat = slotCounter slot)

/-- A datagram whose response is kept is answered again (R338). -/
theorem ethCommand_kept (u : State) (p : HostPort) (src : Endpoint) (m slot : Nat) (data : List Byte) {k : Endpoint × Rsp}
    (h : keptFor u p m slot = some k) : u.ethCommand p src m slot data = u.sayRsp p m (some src) k.2 := by
  unfold State.ethCommand
  dsimp only
  rw [show List.find? _ _ = some k from h]

/-- A new datagram is queued while there is room, and answered BUSY otherwise (R338). -/
theorem ethCommand_new (u : State) (p : HostPort) (src : Endpoint) (m slot : Nat) (data : List Byte) (h : keptFor u p m slot = none) :
    u.ethCommand p src m slot data =
      if 32 ≤ (u.mb p m).queue.length then u.say (.rsp (localEntry p) m (some src) (u.rspOf slot (u.fail stBusy)))
      else u.modMb p m (fun b => { b with
        queue := b.queue ++ [{ src := src, slot := BitVec.ofNat 512 slot, data := data, came := u.clk }] }) := by
  unfold State.ethCommand
  dsimp only
  rw [show List.find? _ _ = none from h]

/-- A datagram whose length is that of its slot's data reaches its mailbox (R338). -/
theorem ethCommandDatagram_arrives (u : State) (p : HostPort) (src : Endpoint) (heth : u.ethOn p = true)
    (hlen : data.length = if slotDir slot.toNat then 0 else slotDlen slot.toNat) (hmax : data.length ≤ 1400) :
    (if !u.ethOn p then u
      else
        let slot' := leAt (datagram m slot data) 4 64
        let n := (datagram m slot data).length
        if leAt (datagram m slot data) 0 3 = 0x014D5A && leAt (datagram m slot data) 3 1 < 4 && 68 ≤ n
          && n = 68 + (if slotDir slot' then 0 else slotDlen slot') && n ≤ 1468 then
          u.ethCommand p src (leAt (datagram m slot data) 3 1) slot' ((datagram m slot data).drop 68)
        else u.dropFrame p) = u.ethCommand p src m.val slot.toNat data := by
  have hm := m.isLt
  rw [if_neg (by simp [heth])]
  simp only [datagram_sign, datagram_mailbox, datagram_slot, datagram_length, datagram_data, ← hlen]
  exact if_pos (by simp; omega)
end

end Sys2Proof.Laws
end

section
/-! PROOFS. What the events of the mailboxes, semaphores and the lockout do (R27, R196, R324, R336 to R339, R344, R345, R350, R370). -/

namespace Sys2Proof.Proofs

open Sys2Proof Sys2Proof.Machine Sys2Proof.Laws

/-- Settles O15: reads by claimTurn and by whether the semaphore is free, writes by its owner. -/
theorem semaphoreAndLockoutEventsComplete : Obligations.SemaphoreAndLockoutEventsComplete := by
  refine ⟨?free, ?owned, ?first, ?second, ?lease, ?other, ?release, ?expiry, ?lockout⟩
  case free =>
    exact fun p n => happens_meaning (fun dt => execSemReadClaim dt p n) (fun _ _ => ⟨rfl, rfl⟩) fun u ⟨hwin, hrival, hfree⟩ =>
      (if_pos hwin).trans ((claimTurn_alone _ hrival).trans (readSem_free u p n.val hfree))
  case owned =>
    exact fun p n e => happens_meaning (fun dt => execSemReadClaim dt p n) (fun _ _ => ⟨rfl, rfl⟩) fun u ⟨hwin, hrival, howned⟩ =>
      (if_pos hwin).trans ((claimTurn_alone _ hrival).trans (readSem_owned u p n.val howned))
  case first =>
    refine fun p q n k => happens_meaning (fun dt => execSemReadClaim dt p n) (fun _ _ => ⟨rfl, rfl⟩)
        fun u ⟨hwin, hrival, hsame, hprio⟩ => ?_
    refine (if_pos hwin).trans ((claimTurn_rival _ hrival).trans ?_)
    rw [if_pos ⟨hsame, hprio⟩, hsame]
  case second =>
    refine fun p q n k => happens_meaning (fun dt => execSemReadClaim dt p n) (fun _ _ => ⟨rfl, rfl⟩) fun u ⟨hwin, hrival, hlater⟩ => ?_
    refine (if_pos hwin).trans ((claimTurn_rival _ hrival).trans ?_)
    rw [if_neg (not_and_or.mpr hlater)]
  case lease =>
    exact fun p n w => happens_meaning (fun dt => execSemWriteRelease dt p n w) (fun _ _ => ⟨rfl, rfl⟩) fun u ⟨hwin, howner, hkeep⟩ =>
      (if_pos hwin).trans ((writeSem_owner u p n.val w.toNat howner).trans (if_neg (Bool.eq_false_iff.mp hkeep)))
  case other =>
    exact fun p n w => happens_meaning (fun dt => execSemWriteRelease dt p n w) (fun _ _ => ⟨rfl, rfl⟩) fun u ⟨hwin, hother⟩ =>
      (if_pos hwin).trans (writeSem_other u p n.val w.toNat hother)
  case release =>
    exact fun p n w => happens_meaning (fun dt => execSemWriteRelease dt p n w) (fun _ _ => ⟨rfl, rfl⟩) fun u ⟨hwin, howner, hfree⟩ =>
      (if_pos hwin).trans ((writeSem_owner u p n.val w.toNat howner).trans (if_pos hfree))
  case expiry =>
    refine fun n e => happens_meaning (fun dt => execSemLeaseExpiry dt n) (fun _ _ => ⟨rfl, rfl⟩) fun u ⟨howner, hpast⟩ => ?_
    conv_lhs => rw [howner]
    exact if_pos hpast
  case lockout =>
    refine fun who t => happens_meaning (fun dt => execLockoutEnd dt who) (fun _ _ => ⟨rfl, rfl⟩) fun u ⟨huntil, hpast⟩ => ?_
    conv_lhs => rw [huntil]
    exact if_pos hpast

/-- Settles O14: doorbells by the tail, takings by takeInTurn and what they meet, datagrams by the keep and the queue. -/
theorem mailboxEventsComplete : Obligations.MailboxEventsComplete := by
  refine ⟨?near, ?far, ?bells, fun _ _ => ⟨rfl, rfl, rfl⟩, ⟨?ring, ?datagram⟩, ?second, ?first, ?claim, ?early, ?race, ?queued,
    ?kept, ?busy, ?timeout, ?dump⟩
  case near =>
    exact fun p m => happens_meaning (fun dt => execDoorbell dt p m) (fun _ _ => ⟨rfl, rfl⟩) fun u ⟨hwin, hbell, hnear⟩ =>
      (if_neg (not_not_true hwin)).trans ((if_neg (Bool.eq_false_iff.mp hbell)).trans (ring_near u p m.val hnear))
  case far =>
    exact fun p m => happens_meaning (fun dt => execDoorbell dt p m) (fun _ _ => ⟨rfl, rfl⟩) fun u ⟨hwin, hbell, hfar⟩ =>
      (if_neg (not_not_true hwin)).trans ((if_neg (Bool.eq_false_iff.mp hbell)).trans (ring_far u p m.val hfar))
  case bells =>
    exact fun p m => happens_meaning (fun dt => execDoorbell dt p m) (fun _ _ => ⟨rfl, rfl⟩) fun u ⟨hwin, hbell⟩ =>
      (if_neg (not_not_true hwin)).trans (if_pos hbell)
  case ring =>
    exact fun p m din => happensOtp_meaning (fun dt => execMailboxTake dt p m din) (fun _ _ => ⟨rfl, rfl⟩)
      fun u ⟨⟨halone, hearly, hmeets, hclaims⟩, hserve, hpcie, hwaits⟩ => (met_alone u _ halone).trans
        ((takeInTurn_alone u p m din hearly hmeets hclaims).trans (take_ring u p m din hserve hpcie hwaits))
  case datagram =>
    exact fun p m din c rest => happensOtp_meaning (fun dt => execMailboxTake dt p m din) (fun _ _ => ⟨rfl, rfl⟩)
      fun u ⟨⟨halone, hearly, hmeets, hclaims⟩, hserve, heth, hqueue⟩ => (met_alone u _ halone).trans
        ((takeInTurn_alone u p m din hearly hmeets hclaims).trans (take_datagram u p m din hserve heth hqueue))
  case second =>
    refine fun p q m k din d => happensOtp_meaning (fun dt => execMailboxTake dt p m din) (fun _ _ => ⟨rfl, rfl⟩)
      fun u ⟨halone, hearly, hmeets, hprio⟩ => (met_alone u _ halone).trans ((takeInTurn_meets u p m din hearly hmeets).trans ?_)
    rw [if_pos hprio]
  case first =>
    refine fun p q m k din d => happensOtp_meaning (fun dt => execMailboxTake dt p m din) (fun _ _ => ⟨rfl, rfl⟩)
      fun u ⟨halone, hearly, hmeets, hprio⟩ => (met_alone u _ halone).trans ((takeInTurn_meets u p m din hearly hmeets).trans ?_)
    rw [if_neg hprio]
  case claim =>
    refine fun p q m din n k => happensOtp_meaning (fun dt => execMailboxTake dt p m din) (fun _ _ => ⟨rfl, rfl⟩)
      fun u ⟨halone, hearly, hmeets, hclaims, hrival⟩ => (met_alone u _ halone).trans
        ((takeInTurn_claims u p m din hearly hmeets hclaims).trans ((claimTurn_rival _ hrival).trans ?_))
    by_cases hk : k = n
    · rw [hk]
    · simp only [hk, false_and, if_false]
  case early =>
    exact fun p m din => happensOtp_meaning (fun dt => execMailboxTake dt p m din) (fun _ _ => ⟨rfl, rfl⟩)
      fun u ⟨halone, hearly⟩ => (met_alone u _ halone).trans (takeInTurn_early u p m din hearly)
  case race =>
    exact fun p m din => happensOtp_meaning (fun dt => execMailboxTake dt p m din) (fun _ _ => ⟨rfl, rfl⟩)
      fun u hrace => met_race u _ hrace
  case queued =>
    refine fun p src m slot data => happens_meaning (fun dt => execEthCommandDatagram dt p src (datagram m slot data))
        (fun _ _ => ⟨rfl, rfl⟩)
      fun u ⟨heth, hlen, hmax, hnew, hroom⟩ => (ethCommandDatagram_arrives m slot data u p src heth hlen hmax).trans ?_
    rw [ethCommand_new u p src m.val slot.toNat data hnew, if_neg (Nat.not_le.mpr hroom), BitVec.ofNat_toNat, BitVec.setWidth_eq]
  case kept =>
    exact fun p src m slot data k => happens_meaning (fun dt => execEthCommandDatagram dt p src (datagram m slot data))
        (fun _ _ => ⟨rfl, rfl⟩)
      fun u ⟨heth, hlen, hmax, hkept⟩ => (ethCommandDatagram_arrives m slot data u p src heth hlen hmax).trans
        (ethCommand_kept u p src m.val slot.toNat data hkept)
  case busy =>
    exact fun p src m slot data => happens_meaning (fun dt => execEthCommandDatagram dt p src (datagram m slot data))
        (fun _ _ => ⟨rfl, rfl⟩)
      fun u ⟨heth, hlen, hmax, hnew, hfull⟩ => (ethCommandDatagram_arrives m slot data u p src heth hlen hmax).trans
        ((ethCommand_new u p src m.val slot.toNat data hnew).trans (if_pos hfull))
  case timeout =>
    refine fun p m x => happens_meaning (fun dt => execCommandTimeout dt p m) (fun _ _ => ⟨rfl, rfl⟩) fun u ⟨hexec, hpast⟩ => ?_
    rw [hexec]
    dsimp only
    rw [if_pos hpast]
  case dump =>
    refine fun p m x d => happens_meaning (fun dt => execHistDumpComplete dt p m) (fun _ _ => ⟨rfl, rfl⟩) fun u ⟨hexec, hdump, hdone⟩ => ?_
    have hready : dumpDone x = some d := by rw [dumpDone, hdump]; exact if_pos hdone
    rw [hexec]
    dsimp only
    rw [hready]

end Sys2Proof.Proofs
end

section
/-! PROOFS. The point stream, event datagrams, the service record, and the protocols of an Ethernet port (R308, R327 to R330, R340 to R343,
R488). -/

namespace Sys2Proof.Laws

open Sys2Proof Sys2Proof.Machine

variable (u : State) (p : HostPort)

/-! ### Columns (R132, R308, R342, R469) -/

/-- A result that is complete leaves the list and goes where it is wanted; an end header of cause 0 starts the drain. -/
theorem deliver_complete {x : Result} (hnext : nextResult u.front.results = some x) (hcomplete : x.complete = true) :
    u.deliver =
      (let recs := u.streamOf x
       let s1 : State := { u with front.results := markDelivered u.front.results }
       let s2 := if x.endCause.isSome then s1 else s1.gridColumn x.col.frame x.col.col recs
       let s3 := ((s2.deliverTo x recs .A).deliverTo x recs .B).deliverChain x recs
       if x.endCause = some 0 then s3.headerWritten ([HostPort.A, HostPort.B].all (fun p => !s1.streams p || (s3.port p).delivered))
       else s3) := by
  unfold State.deliver
  rw [hnext]
  exact if_neg (not_not_true hcomplete)

/-! ### Next hops (R327) -/

/-- A next hop that is not resolved is asked for. -/
theorem resolve_asks {d : Endpoint} {ip : Word} (hnew : u.resolved p d = false) (hhop : (u.port p).net.nextHop d.ip = some ip) :
    u.resolve p d = u.say (.arp p false ip) := by
  unfold State.resolve
  rw [hhop]
  exact if_neg (Bool.eq_false_iff.mp hnew)

/-- Nothing waits for a next hop. -/
theorem flushStream_nil (h : (u.port p).streamWait = []) : u.flushStream p = u := by
  unfold State.flushStream
  dsimp only
  rw [h]

/-- The stream datagrams that wait go out once their next hop is resolved. -/
theorem flushStream_cons {x : Endpoint × List Byte} {l : List (Endpoint × List Byte)} (h : (u.port p).streamWait = x :: l) :
    u.flushStream p = if u.resolved p x.1 then (x :: l).foldl (fun (t : State) y => t.say (.points p y.1 y.2))
      (u.setPort p { u.port p with streamWait := [], streamAt := u.clk }) else u := by
  unfold State.flushStream
  dsimp only
  rw [h]

/-! ### The event path (R343) -/

/-- Records wait for an event destination. -/
theorem eventDatagram_waits {d : Endpoint} (heth : u.ethOn p = true) (hdst : (u.port p).net.evDst = some d) (hq : (u.port p).evQ ≠ []) :
    (match (u.port p).net.evDst with
      | some d =>
        if u.ethOn p && !(u.port p).evQ.isEmpty then
          (if u.resolved p d then (u.setPort p { u.port p with evQ := (u.port p).evQ.drop 40, evAt := u.clk }).say
              (.evDatagram p d ((u.port p).evQ.take 40))
           else u.resolve p d)
        else u
      | none => u) =
      if u.resolved p d then (u.setPort p { u.port p with evQ := (u.port p).evQ.drop 40, evAt := u.clk }).say
        (.evDatagram p d ((u.port p).evQ.take 40))
      else u.resolve p d := by
  rw [hdst]
  exact if_pos (by simp [heth, hq])

end Sys2Proof.Laws

namespace Sys2Proof.Proofs

open Sys2Proof Sys2Proof.Machine Sys2Proof.Laws

/-- Settles O17: a delivery by the end header of its column, a datagram by its next hop, the service record by what the flash holds. -/
theorem streamEventsComplete : Obligations.StreamEventsComplete := by
  refine ⟨?column, ?ended, ?interrupt, ?events, ?asks, ?first, ?more⟩
  case column =>
    refine fun x => happens_meaning execColumnDelivery (fun _ _ => ⟨rfl, rfl⟩) fun u ⟨hnext, hcomplete, hcolumn⟩ => ?_
    rw [deliver_complete u hnext hcomplete, hcolumn]
    rfl
  case ended =>
    refine fun x => happens_meaning execColumnDelivery (fun _ _ => ⟨rfl, rfl⟩) fun u ⟨hnext, hcomplete, hended⟩ => ?_
    rw [deliver_complete u hnext hcomplete, hended]
    rfl
  case interrupt =>
    exact fun p => happens_meaning (fun dt => execPointInterrupt dt p) (fun _ _ => ⟨rfl, rfl⟩) fun u ⟨hunits, hdue⟩ =>
      if_pos (by simpa only [Bool.and_eq_true, Bool.or_eq_true, decide_eq_true_eq, or_assoc] using ⟨hunits, hdue⟩)
  case events =>
    exact fun p d => happens_meaning (fun dt => execEventDatagram dt p) (fun _ _ => ⟨rfl, rfl⟩) fun u ⟨heth, hdst, hq, hres⟩ =>
      (eventDatagram_waits u p heth hdst hq).trans (if_pos hres)
  case asks =>
    exact fun p d ip => happens_meaning (fun dt => execEventDatagram dt p) (fun _ _ => ⟨rfl, rfl⟩) fun u ⟨heth, hdst, hq, hres, hhop⟩ =>
      (eventDatagram_waits u p heth hdst hq).trans ((if_neg (Bool.eq_false_iff.mp hres)).trans (resolve_asks u p hres hhop))
  case first =>
    refine happens_meaning execServiceRecordAppend (fun _ _ => ⟨rfl, rfl⟩) fun u ⟨hreasons, htemp, hok, hnone⟩ => ?_
    exact (if_neg (by simp [hreasons, htemp, hok])).trans (by rw [hnone]; rfl)
  case more =>
    refine fun l => happens_meaning execServiceRecordAppend (fun _ _ => ⟨rfl, rfl⟩) fun u ⟨hreasons, htemp, hok, hsome⟩ => ?_
    exact (if_neg (by simp [hreasons, htemp, hok])).trans (by rw [hsome]; dsimp only; rw [if_pos rfl])

/-- Settles O18: a frame is answered, taken or dropped by its address; the datagrams that wait by whether the first is resolved. -/
theorem ethernetEventsComplete : Obligations.EthernetEventsComplete := by
  refine ⟨?own, ?foreign, ?reply, fun s p h => flushStream_nil s p h, ?waits, ?expiry, ?echo, ?discard, ?apply⟩
  case own =>
    exact fun p ip tip mac => happens_meaning (fun dt => execArpRequest dt p ip mac tip) (fun _ _ => ⟨rfl, rfl⟩) fun u ⟨heth, hown⟩ =>
      (if_neg (not_not_true heth)).trans (if_pos hown)
  case foreign =>
    exact fun p ip tip mac => happens_meaning (fun dt => execArpRequest dt p ip mac tip) (fun _ _ => ⟨rfl, rfl⟩) fun u ⟨heth, hforeign⟩ =>
      (if_neg (not_not_true heth)).trans (if_neg hforeign)
  case reply =>
    exact fun p ip mac => happens_meaning (fun dt => execArpReply dt p ip mac) (fun _ _ => ⟨rfl, rfl⟩) fun u ⟨heth, hasked⟩ =>
      (if_neg (not_not_true heth)).trans (if_pos hasked)
  case waits =>
    exact fun s p x l hwait => ⟨fun hres => (flushStream_cons s p hwait).trans (if_neg (Bool.eq_false_iff.mp hres)),
      fun hres => (flushStream_cons s p hwait).trans (if_pos hres)⟩
  case expiry => exact fun p ip => happens_meaning (fun dt => execArpCacheExpiry dt p ip) (fun _ _ => ⟨rfl, rfl⟩) fun _ _ => rfl
  case echo =>
    exact fun p src dst idSeq data => happens_meaning (fun dt => execIcmpEcho dt p src dst idSeq data) (fun _ _ => ⟨rfl, rfl⟩)
      fun u ⟨heth, hown, hlen⟩ => (if_neg (not_not_true heth)).trans (if_pos (by simp [hown, hlen]))
  case discard => exact fun p => happens_meaning (fun dt => execFrameDiscard dt p) (fun _ _ => ⟨rfl, rfl⟩) fun u heth => if_pos heth
  case apply =>
    refine fun p n t => happens_meaning (fun dt => execNetConfigApply dt p) (fun _ _ => ⟨rfl, rfl⟩) fun u ⟨hnew, hdue⟩ => ?_
    conv_lhs => dsimp only; rw [hnew]
    exact if_pos hdue

/-- Settles O19: each message by its domain, its master and the exchange it belongs to. -/
theorem ptpEventsComplete : Obligations.PtpEventsComplete := by
  refine ⟨?announce, ?sync, ?followUp, ?request, ?response, ?timeout, ?report⟩
  case announce =>
    refine fun p m => happens_meaning (fun dt => execPtpAnnounce dt p m) (fun _ _ => ⟨rfl, rfl⟩) fun u ⟨hon, hdomain⟩ => ?_
    refine (if_neg (not_not_true hon)).trans ((if_neg (by simp [hdomain])).trans ?_)
    dsimp only
    split
    case isTrue hbest => rfl
    case isFalse hbest => rfl
  case sync =>
    refine fun p m => happens_meaning (fun dt => execPtpSync dt p m) (fun _ _ => ⟨rfl, rfl⟩) fun u ⟨hon, hbest, htwo⟩ => ?_
    refine (if_pos (by simp [hon, hbest])).trans ((if_pos htwo).trans ?_)
    rw [htwo]
    rfl
  case followUp =>
    refine fun p m q t1 t2 => happens_meaning (fun dt => execPtpFollowUp dt p m q t1) (fun _ _ => ⟨rfl, rfl⟩)
        fun u ⟨hon, hbest, hsync⟩ => ?_
    refine (if_pos (by simp [hon, hbest])).trans ?_
    rw [hsync]
    exact if_pos rfl
  case request =>
    exact fun p => happens_meaning (fun dt => execPtpDelayReq dt p) (fun _ _ => ⟨rfl, rfl⟩) fun u ⟨hon, hbest, hdue⟩ =>
      if_pos (by simp [hon, hbest, hdue])
  case response =>
    refine fun p m q t1 t2 t3 t4 n => happens_meaning (fun dt => execPtpDelayResp dt p m q t4 n) (fun _ _ => ⟨rfl, rfl⟩)
      fun u ⟨hon, hbest, hreq, hlast⟩ => ?_
    conv_lhs => dsimp only; rw [hreq, hlast]
    exact if_pos (by simp [hon, hbest])
  case timeout =>
    refine fun p => happens_meaning (fun dt => execTimeMapTimeout dt p) (fun _ _ => ⟨rfl, rfl⟩) fun u ⟨hvalid, hdue⟩ => ?_
    exact (if_pos (by simp [hvalid, hdue])).trans (if_pos hvalid)
  case report =>
    exact fun p => happens_meaning (fun dt => execTimeMapReport dt p) (fun _ _ => ⟨rfl, rfl⟩) fun u ⟨hvalid, hdue⟩ =>
      if_pos (by simp [hvalid, hdue])

end Sys2Proof.Proofs
end

section
/-! PROOFS. The control class of the Chain (R290 to R300, R309, R310, R316, R359). -/

namespace Sys2Proof.Laws

open Sys2Proof Sys2Proof.Machine

section
variable (r : RidgePort) (clk n : Nat)

/-- Blocks that go out move the striping alone (R311). -/
@[simp] theorem send_safety : (r.send clk n).safety = r.safety := by
  unfold RidgePort.send; split <;> rfl

/-- As `send_safety`, for the fragments that wait. -/
@[simp] theorem send_msgs : (r.send clk n).msgs = r.msgs := by
  unfold RidgePort.send; split <;> rfl

/-- As `send_safety`, for a conflict of roots. -/
@[simp] theorem send_conflict : (r.send clk n).conflict = r.conflict := by
  unfold RidgePort.send; split <;> rfl
end

variable (u : State) (q : Nat)

/-- What a control slot reads of its port: the broadcasts and fragments that wait, and a conflict of roots (R290, R300). -/
def slotInput (s : State) : List (BitVec 104) × List Frag × Bool :=
  ((s.rport q).safety, (s.rport q).msgs, (s.rport q).conflict)

/-- A control block that goes out leaves it, and takes no time (R311). -/
theorem sendBlock_slotInput (b : BitVec 64) : slotInput q (u.sendBlock q b) = slotInput q u ∧ (u.sendBlock q b).now = u.now := by
  have hport : (u.sendBlock q b).rport q = (u.rport q).send u.clk 1 := modRport_rport_same u q _
  exact ⟨by simp only [slotInput, hport, send_safety, send_msgs, send_conflict], rfl⟩

/-- The INIT block that is due leaves it, and takes no time (R316). -/
theorem repeatInit_slotInput : slotInput q (u.repeatInit q) = slotInput q u ∧ (u.repeatInit q).now = u.now := by
  have hport (f : RidgePort → RidgePort) : (u.modRport q f).rport q = f (u.rport q) := modRport_rport_same u q f
  unfold State.repeatInit
  dsimp only
  split
  · unfold State.sendInit
    rw [(sendBlock_slotInput _ q _).1, (sendBlock_slotInput _ q _).2]
    exact ⟨by simp only [slotInput, hport], rfl⟩
  · exact ⟨rfl, rfl⟩

/-- The broadcasts that wait are as they were. -/
@[simp] theorem repeatInit_safety : ((u.repeatInit q).rport q).safety = (u.rport q).safety :=
  congrArg (fun x => x.1) (repeatInit_slotInput u q).1

/-- The fragments that wait are as they were. -/
@[simp] theorem repeatInit_msgs : ((u.repeatInit q).rport q).msgs = (u.rport q).msgs :=
  congrArg (fun x => x.2.1) (repeatInit_slotInput u q).1

/-- A conflict of roots is as it was. -/
@[simp] theorem repeatInit_conflict : ((u.repeatInit q).rport q).conflict = (u.rport q).conflict :=
  congrArg (fun x => x.2.2) (repeatInit_slotInput u q).1

/-- Chain time is as it was. -/
@[simp] theorem repeatInit_now : (u.repeatInit q).now = u.now :=
  (repeatInit_slotInput u q).2

/-! ### The slot in progress (R290, R291) -/

/-- Slot 0 is SYNC. -/
theorem sendSlot_sync (h : u.now % refillTicks / 1600 = 0) : u.sendSlot q = u.sendSync q :=
  if_pos h

/-- A broadcast that waits goes before all but SYNC. -/
theorem sendSlot_safety {x : BitVec 104} {rest : List (BitVec 104)} (hslot : u.now % refillTicks / 1600 ≠ 0)
    (hsafety : (u.rport q).safety = x :: rest) :
    u.sendSlot q = (u.modRport q (fun r => { r with safety := rest })).say (.slot q 0x3C (slotOf x.toNat)) := by
  refine (if_neg hslot).trans ?_
  rw [hsafety]

/-- Slot 1 of every 250 is LINK where no broadcast waits. -/
theorem sendSlot_link (hslot : u.now % refillTicks / 1600 % 250 = 1) (hsafety : (u.rport q).safety = []) :
    u.sendSlot q = u.say (.slot q 0x1C (slotOf (u.linkBody q))) := by
  refine (if_neg (by omega)).trans ?_
  rw [hsafety]
  exact if_pos hslot

/-- Any other slot carries a fragment that waits, unless two roots conflict. -/
theorem sendSlot_msg {f : Frag} {rest : List Frag} (hsync : u.now % refillTicks / 1600 ≠ 0)
    (hlink : u.now % refillTicks / 1600 % 250 ≠ 1) (hsafety : (u.rport q).safety = []) (hmsgs : (u.rport q).msgs = f :: rest)
    (hconflict : (u.rport q).conflict = false) :
    u.sendSlot q = (u.modRport q (fun r => { r with msgs := rest })).say (.slot q 0x5C (slotOf f.body.toNat)) := by
  refine (if_neg hsync).trans ?_
  rw [hsafety]
  refine (if_neg hlink).trans ?_
  rw [hmsgs]
  exact if_neg (Bool.eq_false_iff.mp hconflict)

/-- A slot for which nothing waits is IDLE. -/
theorem sendSlot_idle (hsync : u.now % refillTicks / 1600 ≠ 0) (hlink : u.now % refillTicks / 1600 % 250 ≠ 1)
    (hsafety : (u.rport q).safety = []) (hmsgs : (u.rport q).msgs = []) : u.sendSlot q = u.say (.slot q 0x9C 0) := by
  refine (if_neg hsync).trans ?_
  rw [hsafety]
  refine (if_neg hlink).trans ?_
  rw [hmsgs]

/-! ### A reset that waits for its response (R359) -/

/-- No reset waits. -/
theorem resetDue_none (h : u.power.resetAt = none) : u.resetDue = u := by
  unfold State.resetDue
  rw [h]

/-- A reset runs once the last fragment has left, or after 10 ms. -/
theorem resetDue_runs {t : Nat} (h : u.power.resetAt = some t) (hdue : (∀ q < 4, (u.rport q).msgs = []) ∨ t + ms 10 ≤ u.clk) :
    u.resetDue = u.resetNow 3 := by
  unfold State.resetDue
  rw [h]
  exact if_pos (by simpa only [Bool.or_eq_true, List.all_eq_true, List.mem_range, List.isEmpty_iff, decide_eq_true_eq] using hdue)

/-- Until then it waits. -/
theorem resetDue_waits {t : Nat} (h : u.power.resetAt = some t) (hwaits : ∃ q < 4, (u.rport q).msgs ≠ []) (hearly : u.clk < t + ms 10) :
    u.resetDue = u := by
  unfold State.resetDue
  rw [h]
  refine if_neg ?_
  simp only [Bool.or_eq_true, List.all_eq_true, List.mem_range, List.isEmpty_iff, decide_eq_true_eq, not_or, not_forall]
  obtain ⟨q, hq, hmsgs⟩ := hwaits
  exact ⟨⟨q, hq, hmsgs⟩, Nat.not_le.mpr hearly⟩

end Sys2Proof.Laws

namespace Sys2Proof.Proofs

open Sys2Proof Sys2Proof.Machine Sys2Proof.Laws

/-- Settles O25: a slot that is sent by what waits for it, one that is received by its CRC-16, a broadcast by whether it was seen. -/
theorem controlClassEventsComplete : Obligations.ControlClassEventsComplete := by
  refine ⟨?sync, ?safety, ?link, ?msg, ?idle, ?reset, ?cycle, ?cycleSet, ?syncGood, ?syncBad, ?linkGood, ?linkBad, ?lost, ?again, ?first⟩
  case sync =>
    exact fun q => happens_meaning (fun dt => execControlSlotSend dt q) (fun _ _ => ⟨rfl, rfl⟩) fun u ⟨hon, hslot⟩ =>
      (if_pos hon).trans (congrArg State.resetDue (sendSlot_sync _ q.val (by simpa using hslot)))
  case safety =>
    exact fun q x rest => happens_meaning (fun dt => execControlSlotSend dt q) (fun _ _ => ⟨rfl, rfl⟩) fun u ⟨hon, hslot, hsafety⟩ =>
      (if_pos hon).trans (congrArg State.resetDue (sendSlot_safety _ q.val (by simpa using hslot) (by simpa using hsafety)))
  case link =>
    exact fun q => happens_meaning (fun dt => execControlSlotSend dt q) (fun _ _ => ⟨rfl, rfl⟩) fun u ⟨hon, hslot, hsafety⟩ =>
      (if_pos hon).trans (congrArg State.resetDue (sendSlot_link _ q.val (by simpa using hslot) (by simpa using hsafety)))
  case msg =>
    exact fun q f rest => happens_meaning (fun dt => execControlSlotSend dt q) (fun _ _ => ⟨rfl, rfl⟩)
      fun u ⟨hon, hsync, hlink, hsafety, hmsgs, hconflict⟩ => (if_pos hon).trans (congrArg State.resetDue
        (sendSlot_msg _ q.val (by simpa using hsync) (by simpa using hlink) (by simpa using hsafety) (by simpa using hmsgs)
          (by simpa using hconflict)))
  case idle =>
    exact fun q => happens_meaning (fun dt => execControlSlotSend dt q) (fun _ _ => ⟨rfl, rfl⟩)
      fun u ⟨hon, hsync, hlink, hsafety, hmsgs⟩ => (if_pos hon).trans (congrArg State.resetDue
        (sendSlot_idle _ q.val (by simpa using hsync) (by simpa using hlink) (by simpa using hsafety) (by simpa using hmsgs)))
  case reset => exact fun u => ⟨resetDue_none u, fun _ => resetDue_runs u, fun _ => resetDue_waits u⟩
  case cycle =>
    refine happens_meaning execControlCycleStart (fun _ _ => ⟨rfl, rfl⟩) fun u ⟨hstart, hset⟩ => ?_
    exact (if_neg (Nat.not_le.mpr hstart)).trans (by rw [hset])
  case cycleSet =>
    refine fun v => happens_meaning execControlCycleStart (fun _ _ => ⟨rfl, rfl⟩) fun u ⟨hstart, hset⟩ => ?_
    exact (if_neg (Nat.not_le.mpr hstart)).trans (by rw [hset])
  case syncGood =>
    exact fun q body frac => happens_meaning (fun dt => execSyncSlot dt q body frac) (fun _ _ => ⟨rfl, rfl⟩) fun u ⟨hon, hgood⟩ =>
      (if_neg (not_not_true hon)).trans (if_pos hgood)
  case syncBad =>
    exact fun q body frac => happens_meaning (fun dt => execSyncSlot dt q body frac) (fun _ _ => ⟨rfl, rfl⟩) fun u ⟨hon, hbad⟩ =>
      (if_neg (not_not_true hon)).trans (if_neg (Bool.eq_false_iff.mp hbad))
  case linkGood =>
    exact fun q body => happens_meaning (fun dt => execLinkSlot dt q body) (fun _ _ => ⟨rfl, rfl⟩) fun u ⟨hon, hgood⟩ =>
      (if_neg (not_not_true hon)).trans (if_pos hgood)
  case linkBad =>
    exact fun q body => happens_meaning (fun dt => execLinkSlot dt q body) (fun _ _ => ⟨rfl, rfl⟩) fun u ⟨hon, hbad⟩ =>
      (if_neg (not_not_true hon)).trans (if_neg (Bool.eq_false_iff.mp hbad))
  case lost =>
    exact fun q => happens_meaning (fun dt => execKeepaliveLost dt q) (fun _ _ => ⟨rfl, rfl⟩) fun u ⟨hon, hsilent⟩ =>
      if_pos (by simp [hon, hsilent])
  case again =>
    exact fun q body => happens_meaning (fun dt => execStopHoldReceived dt q body) (fun _ _ => ⟨rfl, rfl⟩)
      fun u ⟨hon, hgood, htype, hseen⟩ => (if_neg (not_not_true hon)).trans ((if_neg (not_not_true hgood)).trans
        ((if_neg (by simp [htype])).trans (if_pos hseen)))
  case first =>
    exact fun q body => happens_meaning (fun dt => execStopHoldReceived dt q body) (fun _ _ => ⟨rfl, rfl⟩)
      fun u ⟨hon, hgood, htype, hnew⟩ => (if_neg (not_not_true hon)).trans ((if_neg (not_not_true hgood)).trans
        ((if_neg (by simp [htype])).trans (if_neg (Bool.eq_false_iff.mp hnew))))

end Sys2Proof.Proofs
end

section
/-! PROOFS. Discovery and messages (R301 to R308). -/

namespace Sys2Proof.Laws

open Sys2Proof Sys2Proof.Machine

variable (u : State) (q : Nat)

/-- A port that carries discovery stands in a chain (R300). -/
theorem discOn_topo (h : u.discOn q = true) : u.topo ≠ 0 := by
  simp only [State.discOn, Bool.and_eq_true, bne_iff_ne] at h
  exact h.2

/-- An ASSIGN of an older generation, or to the root, is refused (R303). -/
theorem onAssign_refused {gen : Byte} (a : BitVec 16) (down : Bool) (hops : Byte) (h : u.isRoot = true ∨ newer gen u.chain.gen = false) :
    u.onAssign q gen a down hops = u.sendDisc q ([2#8, gen] ++ bytesOf 2 0 ++ [BitVec.ofNat 8 (b2n down + 2), 0]) :=
  if_pos (by simpa using h)

/-- A DONE that is waited for leads on to the next port (R303). -/
theorem onDone_waited {gen : Byte} (next : Nat) (refused : Bool) {d : Disc} (hdisc : u.chain.disc = some d) (hwait : d.wait = some q)
    (hgen : gen = u.chain.gen) :
    u.onDone q gen next refused =
      (let t := if refused then u else u.modRport q (fun r => { r with range := rangeOf d.nxt next d.down })
       State.discNext { t with chain.disc := some { d with wait := none, nxt := if refused then d.nxt else next } } 6) := by
  unfold State.onDone
  rw [hdisc]
  exact if_pos (by simp [hwait, hgen])

/-- The root answers CHANGE with a discovery (R305). -/
theorem onChange_root (data : List Byte) (htopo : u.topo ≠ 0) (hroot : u.isRoot = true) : u.onChange data = u.topoChange 0 :=
  (if_neg htopo).trans (if_pos hroot)

/-- Any other device relays it upstream (R305). -/
theorem onChange_relay (data : List Byte) {o : Nat} (htopo : u.topo ≠ 0) (hleaf : u.isRoot = false) (hup : u.upPort = some o)
    (hon : (u.rport o).up = true) : u.onChange data = u.sendDisc o data := by
  refine (if_neg htopo).trans ((if_neg (Bool.eq_false_iff.mp hleaf)).trans ?_)
  rw [hup]
  exact if_pos hon

end Sys2Proof.Laws

namespace Sys2Proof.Proofs

open Sys2Proof Sys2Proof.Machine Sys2Proof.Laws

/-- Settles O26: a DISC message by the device and the generation it meets, a fragment by its CRC-16, a timer by its instant. -/
theorem discoveryAndMessageEventsComplete : Obligations.DiscoveryAndMessageEventsComplete := by
  refine ⟨?refused, ?assigned, ?done, ?doneRefused, ?root, ?relay, ?start, ?retry, ?failsFirst, ?failsAgain, ?loss, ?frag, ?bad, ?late⟩
  case refused =>
    exact fun q gen a down hops => happens_meaning (fun dt => execDiscAssign dt q gen a down hops) (fun _ _ => ⟨rfl, rfl⟩)
      fun u ⟨hon, hold⟩ => (if_pos hon).trans (onAssign_refused u q.val a down hops hold)
  case assigned =>
    exact fun q gen a down hops => happens_meaning (fun dt => execDiscAssign dt q gen a down hops) (fun _ _ => ⟨rfl, rfl⟩)
      fun u ⟨hon, _, _⟩ => if_pos hon
  case done =>
    exact fun q gen next down d => happens_meaning (fun dt => execDiscDone dt q gen next down false) (fun _ _ => ⟨rfl, rfl⟩)
      fun u ⟨hon, hdisc, hwait, hgen⟩ => (if_pos hon).trans (onDone_waited u q.val next.toNat false hdisc hwait hgen)
  case doneRefused =>
    exact fun q gen next down d => happens_meaning (fun dt => execDiscDone dt q gen next down true) (fun _ _ => ⟨rfl, rfl⟩)
      fun u ⟨hon, hdisc, hwait, hgen⟩ => (if_pos hon).trans (onDone_waited u q.val next.toNat true hdisc hwait hgen)
  case root =>
    exact fun q gen a cause => happens_meaning (fun dt => execDiscChange dt q gen a cause) (fun _ _ => ⟨rfl, rfl⟩)
      fun u ⟨hon, hroot⟩ => (if_pos hon).trans (onChange_root u _ (discOn_topo u q.val hon) hroot)
  case relay =>
    exact fun q o gen a cause => happens_meaning (fun dt => execDiscChange dt q gen a cause) (fun _ _ => ⟨rfl, rfl⟩)
      fun u ⟨hon, hleaf, hup, hlive⟩ => (if_pos hon).trans (onChange_relay u _ (discOn_topo u q.val hon) hleaf hup hlive)
  case start =>
    exact happens_meaning execDiscoveryStart (fun _ _ => ⟨rfl, rfl⟩) fun u ⟨hdue, hfirst⟩ => if_pos (by simp [hdue, hfirst])
  case retry =>
    exact happens_meaning execDiscoveryRetry (fun _ _ => ⟨rfl, rfl⟩) fun u ⟨hdue, hretry⟩ => if_pos (by simp [hdue, hretry])
  case failsFirst =>
    refine fun d => happens_meaning execDiscoveryFailed (fun _ _ => ⟨rfl, rfl⟩) fun u ⟨hdisc, hroot, hlate, hfirst⟩ => ?_
    conv_lhs => rw [hdisc]
    refine (if_pos (by simp [hroot, hlate])).trans ?_
    rw [hfirst]
    rfl
  case failsAgain =>
    refine fun d => happens_meaning execDiscoveryFailed (fun _ _ => ⟨rfl, rfl⟩) fun u ⟨hdisc, hroot, hlate, hretry⟩ => ?_
    conv_lhs => rw [hdisc]
    refine (if_pos (by simp [hroot, hlate])).trans ?_
    rw [hretry]
    rfl
  case loss =>
    refine fun t => happens_meaning execAddressLoss (fun _ _ => ⟨rfl, rfl⟩) fun u ⟨hlost, hleaf, hlate⟩ => ?_
    conv_lhs => rw [hlost]
    exact if_neg (by simp [hleaf, Nat.not_lt.mpr hlate])
  case frag =>
    exact fun q body => happensOtp_meaning (fun dt => execMsgFragment dt q body) (fun _ _ => ⟨rfl, rfl⟩)
      fun u ⟨hon, hconflict, hgood⟩ => (if_neg (not_not_true hon)).trans ((if_neg (not_not_true hgood)).trans
        (if_neg (Bool.eq_false_iff.mp hconflict)))
  case bad =>
    exact fun q body => happensOtp_meaning (fun dt => execMsgFragment dt q body) (fun _ _ => ⟨rfl, rfl⟩)
      fun u ⟨hon, hbad⟩ => (if_neg (not_not_true hon)).trans (if_pos (by rw [hbad]; rfl))
  case late =>
    exact fun src id => happens_meaning (fun dt => execReassemblyTimeout dt src id) (fun _ _ => ⟨rfl, rfl⟩)
      fun u hlate => if_pos (Bool.or_eq_true_iff.mpr hlate)

end Sys2Proof.Proofs
end

section
/-! PROOFS. The data class of the Chain (R306, R311 to R317). -/

namespace Sys2Proof.Laws

open Sys2Proof Sys2Proof.Machine

/-! ### Control blocks (R311) -/

/-- A block of a known type is no unknown one. -/
theorem unknownBlock_of_type {type : Nat} {b : BitVec 64} (hknown : type ∈ [0x1E, 0x2D, 0x33, 0x4B, 0x66, 0xD5])
    (h : isBlock type b = true) : unknownBlock b = false := by
  rw [unknownBlock, List.all_eq_false]
  exact ⟨type, hknown, by rw [h]; decide⟩

/-- The seven bytes of a CREDIT block before its check code. -/
def creditBytes (n : BitVec 16) : List Byte :=
  [0x33] ++ bytesOf 2 n.toNat ++ [0, 0, 0, 0]

/-- A CREDIT block is a checked block. -/
theorem creditBlock_eq (n : BitVec 16) : controlBlock 0x33 (bytesOf 2 n.toNat) = checkedBlock (creditBytes n) :=
  congrArg checkedBlock (show 0x33 :: padTo 6 (bytesOf 2 n.toNat) = creditBytes n from rfl)

/-- A CREDIT block is one of its type whose check code holds. -/
theorem creditBlock_good (n : BitVec 16) : isBlock 0x33 (controlBlock 0x33 (bytesOf 2 n.toNat)) = true := by
  have htype : leAt (bytesOf 8 (controlBlock 0x33 (bytesOf 2 n.toNat)).toNat) 0 1 = 0x33 := by
    rw [creditBlock_eq, checkedBlock_bytes rfl]
    rfl
  rw [isBlock, htype, creditBlock_eq, checkedBlock_good rfl]
  rfl

/-- A CREDIT block carries its count. -/
theorem creditBlock_count (n : BitVec 16) : fld (controlBlock 0x33 (bytesOf 2 n.toNat)).toNat 8 16 = n.toNat := by
  have hn := n.isLt
  rw [creditBlock_eq, checkedBlock_toNat rfl, fld]
  simp only [creditBytes, bytesOf, List.cons_append, List.nil_append, ofBytes, BitVec.toNat_ofNat]
  omega

/-! ### Packets that arrive (R306, R312, R313, R316) -/

section
variable (u : State) (q : Nat) (p : Packet) (crc : Word) (x : Option (BitVec 64))

/-- A block inside a packet that does not stomp it is known, and is not counted. -/
theorem countInside_of_kept (h : stomps x = false) : x.elim u (u.countBlock q) = u := by
  cases x with
  | none => rfl
  | some b =>
    have hb : isBlock 0x33 b = true ∨ isBlock 0xD5 b = true := by
      simpa only [stomps, Option.any_some, Bool.and_eq_false_iff, Bool.not_eq_false'] using h
    refine if_neg (Bool.eq_false_iff.mp ?_)
    obtain hcredit | hdsk := hb
    · exact unknownBlock_of_type (by decide) hcredit
    · exact unknownBlock_of_type (by decide) hdsk

/-- A packet is whole where its CRC-32 holds and nothing inside stomps it (R312). -/
def packetGood : Bool :=
  crc.toNat == crc32 p.data && !stomps x

/-- The port holds a packet that has come in. -/
def holdPacket : State :=
  u.modRport q (fun r => { r with held := r.held + packetCost p })

/-- A packet that is not whole is held, and has raised 0x600A. -/
def brokenPacket : State :=
  (holdPacket (x.elim u (u.countBlock q)) q p).fault 0x600A 8 q

/-- The state in which the way of a packet is looked up. -/
def packetHeld (good : Bool) : State :=
  if good then holdPacket (x.elim u (u.countBlock q)) q p else brokenPacket u q p x

/-- The way of a packet: it acts here, goes on, or is discarded. -/
def packetWay (t : State) (good : Bool) : State :=
  if p.dest.toNat = t.chain.addr.toNat && p.dest.toNat != 0xFFFF then
    (if good && !p.stomp then (t.takePacket p).freeCredits q (packetCost p) else (t.dropPkt).freeCredits q (packetCost p))
  else match t.route p.dest.toNat with
    | some o =>
      if (t.rport o).allRetired then (t.dropPkt).freeCredits q (packetCost p)
      else t.modRport o (fun r => { r with txQ := r.txQ ++ [({ p with stomp := p.stomp || !good }, some q)] })
    | none => (t.dropPkt).freeCredits q (packetCost p)

/-- The row: where the data class runs, a packet without room is lost, any other goes its way. -/
def packetComes : State :=
  if !u.dataOn q || (u.rport q).width = 0 then u
  else if !(u.rport q).hasRoom p then ((u.fault 0x600B 8 q).portRetrain q).dropPkt
  else packetWay q p (packetHeld u q p x (packetGood p crc x)) (packetGood p crc x)

variable {u q p crc x}

/-- What a packet that arrives does, by its row. -/
theorem happens_packetComes {port : Fin 4} {cond : State → Prop} {eff : State → State}
    (h : ∀ s, cond s → packetComes s port.val p crc x = eff s) : Happens (fun dt => .dataPacket dt port p crc x) cond eff :=
  happens_meaning (fun dt => execDataPacket dt port p crc x) (fun _ _ => ⟨rfl, rfl⟩) h

/-- A packet without room raises 0x600B, and its port retrains. -/
theorem packetComes_full (hon : u.dataOn q = true) (hwidth : (u.rport q).width ≠ 0) (hfull : 256 < (u.rport q).held + packetCost p) :
    packetComes u q p crc x = ((u.fault 0x600B 8 q).portRetrain q).dropPkt :=
  (if_neg (by simp [hon, hwidth])).trans (if_pos (by simp [RidgePort.hasRoom, hfull]))

/-- A packet that its port has room for goes its way. -/
theorem packetComes_room (hon : u.dataOn q = true) (hwidth : (u.rport q).width ≠ 0) (hroom : (u.rport q).held + packetCost p ≤ 256) :
    packetComes u q p crc x = packetWay q p (packetHeld u q p x (packetGood p crc x)) (packetGood p crc x) :=
  (if_neg (by simp [hon, hwidth])).trans (if_neg (by simp [RidgePort.hasRoom, hroom]))

/-- A whole packet is held before it goes its way, and nothing else has happened. -/
theorem packetComes_whole (hon : u.dataOn q = true) (hwidth : (u.rport q).width ≠ 0) (hroom : (u.rport q).held + packetCost p ≤ 256)
    (hcrc : crc.toNat = crc32 p.data) (hkept : stomps x = false) :
    packetComes u q p crc x = packetWay q p (holdPacket u q p) true := by
  have hgood : packetGood p crc x = true := by simp [packetGood, hcrc, hkept]
  have hheld : packetHeld u q p x true = holdPacket u q p := by
    unfold packetHeld
    rw [countInside_of_kept u q x hkept]
    exact if_pos rfl
  rw [packetComes_room hon hwidth hroom, hgood, hheld]

/-- One that is not has raised 0x600A before it goes its way. -/
theorem packetComes_broken (hon : u.dataOn q = true) (hwidth : (u.rport q).width ≠ 0) (hroom : (u.rport q).held + packetCost p ≤ 256)
    (hbad : crc.toNat ≠ crc32 p.data ∨ stomps x = true) :
    packetComes u q p crc x = packetWay q p (brokenPacket u q p x) false := by
  have hbroken : packetGood p crc x = false := by simpa [packetGood, ← not_and_or, imp_iff_not_or] using hbad
  rw [packetComes_room hon hwidth hroom, hbroken]
  rfl

variable {t : State} {good : Bool} {o : Nat}

/-- A packet names a device in the words of its destination. -/
theorem forThis_iff : (p.dest.toNat = t.chain.addr.toNat && p.dest.toNat != 0xFFFF) = true ↔ p.dest = t.chain.addr ∧ p.dest ≠ 0xFFFF := by
  rw [Bool.and_eq_true, decide_eq_true_eq, bne_iff_ne, BitVec.toNat_inj]
  exact and_congr Iff.rfl (not_congr ⟨fun h => BitVec.eq_of_toNat_eq h, fun h => congrArg BitVec.toNat h⟩)

/-- A whole packet for this device acts and frees its credits. -/
theorem packetWay_acts (hdest : p.dest = t.chain.addr) (haddr : p.dest ≠ 0xFFFF) (hstomp : p.stomp = false) :
    packetWay q p t true = (t.takePacket p).freeCredits q (packetCost p) :=
  (if_pos (forThis_iff.mpr ⟨hdest, haddr⟩)).trans (if_pos (by simp [hstomp]))

/-- One that is not whole, or was stomped on its way, is discarded. -/
theorem packetWay_dropped (hdest : p.dest = t.chain.addr) (haddr : p.dest ≠ 0xFFFF) (hbad : good = false ∨ p.stomp = true) :
    packetWay q p t good = (t.dropPkt).freeCredits q (packetCost p) :=
  (if_pos (forThis_iff.mpr ⟨hdest, haddr⟩)).trans (if_neg (by simpa [imp_iff_not_or] using hbad))

/-- A packet for another device goes on where it has a route. -/
theorem packetWay_queued (hdest : p.dest ≠ t.chain.addr) (hroute : t.route p.dest.toNat = some o)
    (hlanes : (t.rport o).allRetired = false) :
    packetWay q p t good = t.modRport o (fun r => { r with txQ := r.txQ ++ [({ p with stomp := p.stomp || !good }, some q)] }) := by
  refine (if_neg (mt forThis_iff.mp fun h => hdest h.1)).trans ?_
  rw [hroute]
  exact if_neg (Bool.eq_false_iff.mp hlanes)

/-- A device without an address has no route (R306). -/
theorem packetWay_noAddress (haddr : t.chain.addr = 0xFFFF) : packetWay q p t good = (t.dropPkt).freeCredits q (packetCost p) := by
  refine (if_neg (mt forThis_iff.mp fun ⟨hdest, hnone⟩ => hnone (hdest.trans haddr))).trans ?_
  rw [show t.route p.dest.toNat = none from if_pos haddr]

end

/-! ### Packets that go out (R276, R313, R315 to R317) -/

section
variable (u : State) (q : Nat)

/-- A packet that may go: the port wakes for it, or it starts and frees its place in a buffer (R276, R313, R316). -/
theorem packetSend_next {x : Packet × Option Nat} (hnext : nextPacket (u.inWindow q) (u.rport q).txQ = some x) (hon : u.dataOn q = true)
    (hwidth : (u.rport q).width ≠ 0) :
    (match nextPacket (u.inWindow q) (u.rport q).txQ with
      | some x =>
        if !u.dataOn q || (u.rport q).width = 0 then u
        else if (u.rport q).txSleep then u.wakePort q
        else if u.mayStart q x.1 then
          let t := (u.modRport q (fun r => { r with txQ := r.txQ.erase x })).startPacket q x.1
          match x.2 with
          | some i => t.freeCredits i (packetCost x.1)
          | none => t
        else u
      | none => u) =
      if (u.rport q).txSleep then u.wakePort q
      else if u.mayStart q x.1 then
        let t := (u.modRport q (fun r => { r with txQ := r.txQ.erase x })).startPacket q x.1
        match x.2 with
        | some i => t.freeCredits i (packetCost x.1)
        | none => t
      else u := by
  rw [hnext]
  exact if_neg (by simp [hon, hwidth])

/-- Credits that are due go out, or wake the port (R276, R316). -/
theorem creditsDue (hon : u.dataOn q = true) (hsome : 0 < (u.rport q).pendCr)
    (hdue : 16 ≤ (u.rport q).pendCr ∨ (u.rport q).pendAt + 32000 ≤ u.clk) :
    (u.dataOn q && 0 < (u.rport q).pendCr && (16 ≤ (u.rport q).pendCr || (u.rport q).pendAt + 32000 ≤ u.clk)) = true := by
  simpa only [hon, hsome, decide_true, Bool.true_and, Bool.or_eq_true, decide_eq_true_eq] using hdue
end

end Sys2Proof.Laws

namespace Sys2Proof.Proofs

open Sys2Proof Sys2Proof.Machine Sys2Proof.Laws

/-- Settles O27: a packet by whether it is whole and where it goes, credits and reports by what is due at their port. -/
theorem dataClassEventsComplete : Obligations.DataClassEventsComplete := by
  refine ⟨?full, ?acts, ?stomped, ?noAddress, ?queued, ?stomps, ?dropped, ?wakes, ?own, ?forwarded, ?credit, ?unknown, ?ignored, ?returned,
    ?returnWakes, ?report, ?reportLost⟩
  case full =>
    exact fun q p crc x => happens_packetComes fun u ⟨hon, hwidth, hfull⟩ => packetComes_full hon hwidth hfull
  case acts =>
    exact fun q p crc x => happens_packetComes fun u ⟨hon, hwidth, hroom, hcrc, hkept, hdest, haddr, hstomp⟩ =>
        (packetComes_whole hon hwidth hroom hcrc hkept).trans (packetWay_acts (t := holdPacket u q.val p) hdest (hdest ▸ haddr) hstomp)
  case stomped =>
    exact fun q p crc x => happens_packetComes fun u ⟨hon, hwidth, hroom, hcrc, hkept, hdest, haddr, hstomp⟩ =>
        (packetComes_whole hon hwidth hroom hcrc hkept).trans
          (packetWay_dropped (t := holdPacket u q.val p) hdest (hdest ▸ haddr) (.inr hstomp))
  case noAddress =>
    exact fun q p crc x => happens_packetComes fun u ⟨hon, hwidth, hroom, hcrc, hkept, haddr⟩ =>
        (packetComes_whole hon hwidth hroom hcrc hkept).trans (packetWay_noAddress (t := holdPacket u q.val p) haddr)
  case queued =>
    refine fun q p crc x o => happens_packetComes fun u ⟨hon, hwidth, hroom, hdest, hroute, hlanes, hcrc, hkept⟩ =>
        (packetComes_whole hon hwidth hroom hcrc hkept).trans ((packetWay_queued (t := holdPacket u q.val p) hdest hroute hlanes).trans ?_)
    rw [Bool.not_true, Bool.or_false]
    rfl
  case stomps =>
    refine fun q p crc x o => happens_packetComes fun u ⟨hon, hwidth, hroom, hbad, hdest, hroute, hlanes⟩ =>
        (packetComes_broken hon hwidth hroom hbad).trans ((packetWay_queued (t := brokenPacket u q.val p x) hdest hroute hlanes).trans ?_)
    rw [Bool.not_false, Bool.or_true]
    rfl
  case dropped =>
    exact fun q p crc x => happens_packetComes fun u ⟨hon, hwidth, hroom, hbad, hdest, haddr⟩ =>
        (packetComes_broken hon hwidth hroom hbad).trans (packetWay_dropped (t := brokenPacket u q.val p x) hdest haddr (.inl rfl))
  case wakes =>
    exact fun q x => happens_meaning (fun dt => execPacketSend dt q) (fun _ _ => ⟨rfl, rfl⟩) fun u ⟨hnext, hon, hwidth, hsleep⟩ =>
      (packetSend_next u q.val hnext hon hwidth).trans (if_pos hsleep)
  case own =>
    exact fun q p => happens_meaning (fun dt => execPacketSend dt q) (fun _ _ => ⟨rfl, rfl⟩) fun u ⟨hnext, hon, hwidth, hawake, hmay⟩ =>
      (packetSend_next u q.val hnext hon hwidth).trans ((if_neg (Bool.eq_false_iff.mp hawake)).trans (if_pos hmay))
  case forwarded =>
    exact fun q p i => happens_meaning (fun dt => execPacketSend dt q) (fun _ _ => ⟨rfl, rfl⟩) fun u ⟨hnext, hon, hwidth, hawake, hmay⟩ =>
      (packetSend_next u q.val hnext hon hwidth).trans ((if_neg (Bool.eq_false_iff.mp hawake)).trans (if_pos hmay))
  case credit =>
    refine fun q n => happens_meaning (fun dt => execCreditBlock dt q (controlBlock 0x33 (bytesOf 2 n.toNat))) (fun _ _ => ⟨rfl, rfl⟩)
      fun u hon => (if_neg (not_not_true hon)).trans ((if_pos (creditBlock_good n)).trans ?_)
    rw [creditBlock_count]
  case unknown =>
    exact fun q x => happens_meaning (fun dt => execCreditBlock dt q x) (fun _ _ => ⟨rfl, rfl⟩) fun u ⟨hon, hunknown⟩ =>
      (if_neg (not_not_true hon)).trans ((if_neg fun hcredit =>
        Bool.false_ne_true ((unknownBlock_of_type (by decide) hcredit).symm.trans hunknown)).trans (if_pos hunknown))
  case ignored =>
    exact fun q x => happens_meaning (fun dt => execCreditBlock dt q x) (fun _ _ => ⟨rfl, rfl⟩) fun u ⟨hon, htype, hknown⟩ =>
      (if_neg (not_not_true hon)).trans ((if_neg (Bool.eq_false_iff.mp htype)).trans (if_neg (Bool.eq_false_iff.mp hknown)))
  case returned =>
    exact fun q => happens_meaning (fun dt => execCreditReturn dt q) (fun _ _ => ⟨rfl, rfl⟩) fun u ⟨hon, hsome, hdue, hawake⟩ =>
      (if_pos (creditsDue u q.val hon hsome hdue)).trans (if_neg (Bool.eq_false_iff.mp hawake))
  case returnWakes =>
    exact fun q => happens_meaning (fun dt => execCreditReturn dt q) (fun _ _ => ⟨rfl, rfl⟩) fun u ⟨hon, hsome, hdue, hsleep⟩ =>
      (if_pos (creditsDue u q.val hon hsome hdue)).trans (if_pos hsleep)
  case report =>
    refine fun q p t => happens_meaning (fun dt => execSlotReportSend dt q) (fun _ _ => ⟨rfl, rfl⟩)
      fun u ⟨hfirst, hon, hlanes, hawake, hmay⟩ => ?_
    conv_lhs => dsimp only; rw [hfirst]
    exact (if_neg (not_not_true hon)).trans ((if_neg (Bool.eq_false_iff.mp hlanes)).trans
      ((if_neg (Bool.eq_false_iff.mp hawake)).trans (if_pos hmay)))
  case reportLost =>
    refine fun q p t => happens_meaning (fun dt => execSlotReportSend dt q) (fun _ _ => ⟨rfl, rfl⟩) fun u ⟨hfirst, hon, hlanes⟩ => ?_
    conv_lhs => dsimp only; rw [hfirst]
    exact (if_neg (not_not_true hon)).trans (if_pos hlanes)

end Sys2Proof.Proofs
end
